-- ==== Sys2Proof/Word.lean ====
section
/-! DEFINITION. The machine word and the byte (R6: every peripheral register is 32 bits wide; the Volac is a 32-bit
machine, R303). -/

namespace Sys2Proof

/-- A 32-bit word: a register, a stack entry, an address as it is computed. -/
abbrev Word := BitVec 32

/-- One octet. -/
abbrev Byte := BitVec 8

end Sys2Proof
end

