-- ==== Sys2Proof/Names.lean ====
section
/-! DEFINITION. What commands and the state share: paths, cores, requesters, the operations of the Volac instruction set,
node contexts and feed items. -/

namespace Sys2Proof

/-- The two RF paths (chapter 01). -/
inductive PathId where
  | s | g
  deriving DecidableEq, Repr

/-- The four Volac cores (R303). -/
inductive CoreId where
  | lc0 | lc1 | sc | kc
  deriving DecidableEq, Repr

/-- Who makes a bus access: a core, a DMA channel or a debug session (R538). -/
inductive Requester where
  | core (c : CoreId)
  | dma (ch : Nat)
  | debug
  deriving DecidableEq, Repr

/-- The flag a ray sample carries (R72). -/
inductive SampleFlag where
  | valid | erased | retune | frozenCal | frozenTx
  deriving DecidableEq, Repr

/-- The hardware partitions of the NAND die (R421). -/
inductive HwPart where
  | ctx | page
  deriving DecidableEq, Repr

/-- How a program or an erase in a hardware partition ends on the die (R437): well, beyond the times of stage 3, or failed. -/
inductive DieEnd where
  | good | slow | failed
  deriving DecidableEq, Repr

/-- What an energy measurement or a calibration ends with is measured outside the model; this is a measured power
in 0.25 dB units of dBm (R82). -/
abbrev QdB := Int

/-! ### The Volac instruction set (chapter 09) -/

/-- What stands in front of an instruction: nothing, an immediate prefix with its immediate bytes (R309), or a prefix
that is itself followed by a prefix (R311), `first` being the bytes of the first one. -/
inductive Prefix where
  | none
  | imm8 (b : BitVec 8)
  | imm8u (b : BitVec 8)
  | imm16 (h : BitVec 16)
  | imm16u (h : BitVec 16)
  | imm32 (w : BitVec 32)
  | immhi (h : BitVec 16)
  | double (first : Nat)
  deriving DecidableEq, Repr

/-- The operations of the primary and extended pages (R309, R312, R315), with the constants that push instructions
carry; `slit k` is opcode 0x20 + k, and `undef ext b` is the undefined opcode b. -/
inductive VOp where
  | push8 (b : BitVec 8) | push8u (b : BitVec 8) | push16 (h : BitVec 16) | push16u (h : BitVec 16)
  | push32 (w : BitVec 32) | pushhi (h : BitVec 16) | slit (k : BitVec 5)
  | nop | dup | drop | swap | over | rot | nip | tuck | pick | dup2 | drop2 | tor | fromr | rfetch | depth | rdrop
  | add | sub | addx | subx | neg | not | inc | dec | abs | mul | mulh | mulhu | div | divu | mod | modu
  | and | or | xor | andn | shl | shr | sar | rol | ror | sext8 | sext16 | zext8 | zext16 | bswap
  | min | max | minu | maxu | eq | ne | lt | ltu | le | leu | gt | gtu | ge | geu | zeq | zlt | sel
  | clz | ctz | popcnt | par | brev8 | brev16 | brev32 | crcstep | crc32step | bext | bins | bset | bclr | btst
  | ldw | ldh | ldhu | ldb | ldbu | stw | sth | stb | ldwa | ldba | stwb | stbb | movw | movb | fillw | xchg
  | seta | setb | geta | getb | adda | addb | setrc | getrc | rep | rdsr | wrsr | getc
  | br | bz | bnz | call | ret | loop | syscall | brk
  | eret | wait | di | ei | fence | dsflush | rsflush | tpop | tpush | yield | crca | crc32a | casw | muls64
  | undef (ext : Bool) (b : BitVec 8)
  deriving DecidableEq, Repr

/-- How a narrow or wide access moves bytes. -/
inductive Width where
  | byte | half | word
  deriving DecidableEq, Repr

end Sys2Proof

namespace Sys2Proof.Machine
open Sys2Proof

/-! ### Node contexts as messages carry them (chapters 07, 18) -/

/-- A node context (R225); CHK guards its copy in the store and is not a field here. -/
structure Ctx where
  key : Nat := 0
  eui : List Byte := []
  cls : Nat := 0
  k0 : Bool := false
  k1 : Bool := false
  keyuse : Nat := 0
  lost : Bool := false
  block : Bool := false
  miss : Nat := 0
  grp : Nat := 0
  periodc : Nat := 0
  pos : Nat := 0
  phasec : Nat := 0
  ctxid : Nat := 0
  rxfc0 : Nat := 0
  rxfc1 : Nat := 0
  txfc : Nat := 0
  txrsv : Nat := 0
  lastrx : Nat := 0
  key0 : List Byte := []
  key1 : List Byte := []
  okcnt : Nat := 0
  txepoch : Nat := 0
  app : List Byte := []
  deriving DecidableEq, Repr

/-- A journal record (R240) with the store sequence of its page; `resv` marks KIND 1. -/
structure JournalRec where
  ctx : Nat
  miss : Nat
  flags : Nat
  resv : Bool
  rxfc0 : Nat
  rxfc1 : Nat
  txv : Nat
  deriving DecidableEq, Repr

/-- An item of the journal feed (R254), its sequence number aside. -/
inductive FeedItem where
  | state (r : JournalRec)
  | reserve (r : JournalRec)
  | context (idx : Nat) (c : Ctx) (dead : Bool)
  | commit (seq : Nat)
  deriving DecidableEq, Repr

/-- What a packet of the MIRROR link carries (R548), sealed ones as opened: the octets of an UPDATE, DIV or firmware packet;
feed items by sequence number, `gone` where those asked for are no longer kept (R255); the first feed sequence wanted; a
header page with the feed sequence at the start of the copy, and a cluster page with its contexts (R554). -/
inductive MirBody where
  | raw (b : List Byte)
  | feed (gone : Bool) (items : List (Nat × FeedItem))
  | feedReq (first : Nat)
  | header (seed epoch start : Nat)
  | cluster (ctxs : List (Nat × Ctx)) (last : Bool)
  deriving DecidableEq, Repr

end Sys2Proof.Machine
end

