-- ==== Sys2Proof/Syntax.lean ====
section
/-! DEFINITION. The commands: one constructor per row of spec/opcode_table.json, in its order, with the operands that a
command brings from outside. A docstring gives the row's rule and summary. -/

namespace Sys2Proof

/-- A command of the block. -/
inductive Instr where
  /-- R5: A write to a peripheral register that has no row of its own sets or triggers its fields, or is discarded
  whole under R8 for a reserved encoding. -/
  | registerWrite (r : Requester) (a : Nat) (w : Width) (v : Word)
  /-- R10: A write to an offset that holds no register sets UNMAP_WR, increments CFG_ERR and has no other effect. -/
  | unmappedWrite (a : Nat)
  /-- R9: A W1C write to BLOCK_CFGSTAT clears RSVD_WR, which also clears CFG_ERR, or clears UNMAP_WR, with a
  coincident discard ordered under R12. -/
  | cfgstatClear (a : Nat) (v : Word) (rsvd unmap : Bool)
  /-- R11: An access to an address outside every region ends in a bus error to the requester: an exception for a core,
  a channel fault for DMA. -/
  | busError (r : Requester) (a : Nat) (fetch : Bool)
  /-- R35: A write of RFx_CTRL.EN = 1 starts an OFF path in STARTUP, cancels a pending move to OFF, or is refused
  under R165 while no plan is active. -/
  | pathEnable (p : PathId)
  /-- R586: A write of RFx_CTRL.EN = 0 schedules the move to OFF, and R40 then refuses every new command with
  PATH_UNUSABLE. -/
  | pathDisable (p : PathId)
  /-- R586: At the next 1 µs boundary, or at the end of TXRX, the path enters OFF, discards work in progress and ends
  held commands with PATH_UNUSABLE. -/
  | pathOffTaken (p : PathId)
  /-- R35: 25 µs after STARTUP begins, the path enters SYNCAL and restores its calibration record on a wake. -/
  | startupDone (p : PathId)
  /-- R35: When SYNCAL ends after 150 µs, the path enters RX or IRCAL if locked, and otherwise retries or enters FAULT
  under R29. -/
  | syncalDone (p : PathId) (locked : Bool) (temp : Int)
  /-- R30: When IRCAL ends after 120 µs, the path loads its coefficients, or keeps the better set below 55 dB under
  R33, and returns to RX. -/
  | ircalDone (p : PathId) (irr : Nat) (gcorr pcorr : Int)
  /-- R25: 40 µs after a window move, the path returns to RX and its facets unfreeze. -/
  | settleDone (p : PathId)
  /-- R43: A write to RFx_WINREQ, or a request from the sequencer, is taken at once in RX, waits in other states, or
  is recorded in WIN in OFF or FAULT. -/
  | windowMoveRequest (p : PathId) (w : Nat)
  /-- R25: A window move is taken in RX: the path enters SETTLE, or SYNCAL when SYNDUE is set, and rays park or flush
  under R74. -/
  | windowMove (p : PathId)
  /-- R27: A write of RFx_CTRL.SYNCREQ sets SYNDUE and requests a synthesiser calibration. -/
  | syncreq (p : PathId)
  /-- R32: A write of RFx_CTRL.IRCREQ sets IRCDUE and requests an image-rejection calibration. -/
  | ircreq (p : PathId)
  /-- R55: A write of RFx_CTRL.TUNEREQ sets TUNEDUE and clears SRCHFAIL. -/
  | tunereq (p : PathId)
  /-- R55: A write of RFx_CTRL.BOFFCLR clears BACKOFF, MISMATCH and SRCHFAIL. -/
  | boffclr (p : PathId)
  /-- R62: A write of RFx_CTRL.CNTCLR clears the RFx_TXSTAT counts and RFx_BLINDUS. -/
  | rfCntclr (p : PathId)
  /-- R27: At the first 1 µs boundary in RX after SYNCREQ or IRCREQ, the path enters SYNCAL or IRCAL. -/
  | requestedCalStart (p : PathId)
  /-- R27: When a calibration has been due for 1 s, the path forces it at the first microsecond in RX with no
  transmission due within 162 µs, or 132 µs for IRCAL. -/
  | forcedCal (p : PathId)
  /-- R27: Every 1 ms the path samples its die temperature and sets SYNDUE or IRCDUE on a change of more than 10 °C.
  -/
  | dieTempSample (p : PathId) (temp : Int)
  /-- R28: On loss of synthesiser lock, the path ramps down any transmission, freezes its facets and enters SYNCAL,
  with an effect that depends on its state. -/
  | lossOfLock (p : PathId)
  /-- R23: When the clipped-sample count of a 2 µs interval reaches CLIPTHR in automatic mode, the receiver steps down
  one gain state and flags the samples ERASED. -/
  | gainStepDown (p : PathId) (clips : Nat)
  /-- R23: When the window peak has stayed below −18 dBFS for UPHOLD ms in automatic mode, the receiver steps up one
  gain state. -/
  | gainStepUp (p : PathId) (lowMs : Nat)
  /-- R40: A write to RFx_TXCMD issues a test transmit command, which is checked on arrival and refused with
  PATH_UNUSABLE, TX_WINDOW, TX_BUSY or NO_CHANNEL, or held. -/
  | txCommand (p : PathId) (v : Word)
  /-- R39: At ready time A, the path computes S and either drops the command with TX_LATE or starts RXTX at S − 12 µs,
  aborting IRCAL or TUNE if needed. -/
  | txReady (p : PathId)
  /-- R35: 12 µs after RXTX starts, the first chip leaves at the clamped power, and the charge of a test transmission
  is recorded. -/
  | firstChip (p : PathId)
  /-- R42: At the last chip, the path continues back-to-back with a held command or enters TXRX. -/
  | lastChip (p : PathId)
  /-- R36: 8 µs after the last chip, samples are valid again and the path returns to RX. -/
  | txrxDone (p : PathId)
  /-- R36: 12 µs after the last chip, the path's facets unfreeze. -/
  | facetsUnfreeze (p : PathId)
  /-- R51: Every 64 µs of a transmission at NOMPWR ≥ 0, the path measures return loss and below 6 dB halves DGAIN and
  sets MISMATCH, BACKOFF and TUNEDUE. -/
  | returnLossMeasure (p : PathId) (rl : Nat)
  /-- R53: In a granted tuner-search window with TUNEDUE = 1, the path enters TUNE and radiates the probe. -/
  | tunerSearchStart (p : PathId)
  /-- R54: 372 µs after entry, the search ends: it adopts codes or counts a failure, applies any held TUNTX write, and
  returns to RX. -/
  | tunerSearchDone (p : PathId) (rl ser shn : Nat)
  /-- R75: A write to PRISM_RAYTUNE requests a new centre for the selected ray, checked against R67 in every window of
  its mask. -/
  | rayRetuneWrite (v : Word)
  /-- R75: At its 1 µs trunk boundary, a ray centre changes phase-continuously and flags the samples RETUNE, or only
  stores the centre for a PARKED ray. -/
  | rayCentreChange (p : PathId) (ray : Nat)
  /-- R81: A write to PRISM_EMCMD starts a firmware energy measurement, or is ignored and counted in COLL while the
  meter is busy. -/
  | energyMeasureCmd (v : Word)
  /-- R82: 2 µs after the last sample of the interval leaves the filter, the meter reports MEAN, PEAK and VALIDPCT and
  sets EMDONES or EMDONEG. -/
  | energyMeasureDone (p : PathId) (mean peak : QdB)
  /-- R297: At T0, the sequencer meter starts a listen-before-talk measurement on the transmission's ray. -/
  | lbtMeasureStart (p : PathId)
  /-- R83: The sequencer meter ends with CLEAR, BUSY or INVALID, and the transmission is permitted or refused with
  LBT_BUSY or LBT_INVALID. -/
  | lbtMeasureDone (p : PathId) (mean : QdB)
  /-- R87: A write to PRISM_PRBCMD starts a firmware noise probe, or is ignored while the unit is busy, or sets
  BADRAY. -/
  | probeCmd (v : Word)
  /-- R290: After a QUIET frame, the sequencer starts a probe, pre-empting a firmware probe, or skips it. -/
  | seqProbeStart (recn : Nat)
  /-- R86: Every 20 µs the probe completes an FFT, keeping it only if all its samples are VALID. -/
  | probeFft
  /-- R86: The probe ends after AVG kept FFTs, or after 4 × AVG starts with PARTIAL = 1, writes its bins and sets
  PRBDONE. -/
  | probeDone (bins : List Int)
  /-- R88: At the end of each Loupe block, or at the last chip, Loupe averages the FFTs and checks every mask segment.
  -/
  | loupeBlockCheck (p : PathId) (levels : List Int)
  /-- R79: HOLD ms after a swap boundary, a HELD ray is released, and frames still on it are lost with HOLD_EXP. -/
  | holdExpire (p : PathId) (ray : Nat)
  /-- R78: When no facet remains mid-frame on a HELD ray, the ray takes its new parameters or is removed. -/
  | heldRayRelease (p : PathId) (ray : Nat)
  /-- R80: A waiting new or rebuilt ray starts, in ascending ray number, once its weight fits the budget. -/
  | rayStartDeferred (p : PathId)
  /-- R92: A write of PRISM_CTRL.CNTCLR clears PRISM_CNT and the Loupe counts. -/
  | prismCntclr
  /-- R587: After D consecutive VALID preamble symbols correlate above LOCKTHR, a facet enters SYNC and starts its SFD
  timeout. -/
  | preambleDetect (f : Nat) (rssi : QdB) (corr : Nat)
  /-- R100: On finding the SFD, a facet takes a landing slot and records TSTAMP, or loses the frame with LAND_FULL. -/
  | sfdFound (f tstamp : Nat) (fofs : Int)
  /-- R124: When no SFD is found within the timeout, the facet returns to SEARCH and counts SFD_TO. -/
  | sfdTimeout (f : Nat)
  /-- R100: The PHY header is checked, and the frame either enters PAYLOAD or is lost with HDR_FAIL, PHR_BAD or
  UNSUPP. -/
  | headerDecoded (f phr chk rate : Nat) (mdsss : Bool)
  /-- R112: At the end of each interleaver block, the facet releases decided PSDU octets to the leaf MAC. -/
  | octetRelease (f : Nat) (octets : List Byte)
  /-- R588: At the last symbol the header implies, the facet checks the frame, lands its slot with OK or CRC_FAIL and
  writes the descriptor. -/
  | frameEnd (f crc : Nat) (octets : List Byte) (snr : QdB)
  /-- R101: A FROZEN_TX, FROZEN_CAL or RETUNE sample ends a frame in progress with BLINDED, CAL_FROZEN or RETUNED, or
  restarts a search. -/
  | frameLostFlag (f : Nat)
  /-- R104: At the 16th consecutive weak pilot or symbol, or when the frequency estimate leaves ±FCAP, the frame ends
  with SYNC_LOST. -/
  | syncLost (f : Nat) (corrs : List Nat) (fofs : Int)
  /-- R102: When the frame of an OLD facet ends, the facet takes its new allocation, and facets waiting on its context
  or load start. -/
  | oldFacetFinish (f : Nat)
  /-- R119: A read of FACET_DONEQ returns and removes the oldest posted slot, or returns VALID = 0 with no side
  effect. -/
  | doneqRead
  /-- R119: A write to FACET_LBFREE returns a slot that firmware owns to the tail of the free list. -/
  | lbfree (v : Word)
  /-- R125: A write of FACET_CTRL.CNTCLR clears FACET_CNT0 to FACET_CNT13. -/
  | facetCntclr
  /-- R139: SEQ_RLCMD.OP = COMPUTE builds a loading table for the selected neighbour from its signal and noise
  estimates. -/
  | compute
  /-- R140: SEQ_RLCMD.OP = OFFER turns the computed table into an offer with the next LTID and queues a LOAD frame, or
  is refused when NOLINK is set. -/
  | offer
  /-- R144: SEQ_RLCMD.OP = RESET returns the neighbour's tables to the base loading and queues a LOAD with LTID 0. -/
  | neighbourReset
  /-- R148: The modem detects the S part of a ridge frame on the rendezvous ray and starts looking for L. -/
  | rlSDetect (recn tstamp : Nat) (cfo : Int)
  /-- R148: When L is not located within 400 µs of S detection, the frame is lost with RL_NOLOCK. -/
  | rlNolock (p : PathId)
  /-- R143: The ridge header is decoded and checked, and its LTID selects the table or loses the frame with RL_LTID,
  adopting an offer as CUR. -/
  | rlHeader (p : PathId) (hdr : Word) (chk : Nat) (rho : Int)
  /-- R149: A ridge frame ends: its CRC-32 is checked, a LOAD or QUIET is applied, and a descriptor is written to the
  receive ring. -/
  | rlFrameEnd (p : PathId) (corrs : List Nat) (psdu : List Byte) (crc : Nat) (rssi snr fofs rho : Int) (sig : List Int)
  /-- R145: QDUR µs after a QUIET frame, the device may transmit to its sender again. -/
  | quietEnd (nb : Nat)
  /-- R149: A write of SEQ_RLRXQx.TAIL consumes ridge receive ring entries. -/
  | rlRingTail (p : PathId) (tail : Nat)
  /-- R154: A write of SEQ_RLCFG.CNTCLR clears SEQ_RLCNT0 to SEQ_RLCNT11. -/
  | rlCntclr
  /-- R169: SEQ_PLANCMD.OP = LOAD copies the image into staging, runs checks 1 and 2, and invalidates the standby
  slot, or is refused. -/
  | planLoad
  /-- R157: When the lattice engine serves the loader, it verifies the key hash and the ML-DSA-65 signature of the
  image. -/
  | planSigCheck
  /-- R172: The loader runs checks 4 to 20, then makes the standby slot valid or rejects the image with a code, check
  and offset. -/
  | planLoadEnd
  /-- R176: SEQ_PLANCMD.OP = ARM arms a swap to the standby slot, or is refused with PLAN_STATE. -/
  | planArm
  /-- R171: SEQ_PLANCMD.OP = DISCARD invalidates the standby slot and cancels an armed swap. -/
  | planDiscard
  /-- R181: A write of SEQ_PLANCMD.CNTCLR clears SEQ_PLANCNT. -/
  | planCntclr
  /-- R177: At the first slot boundary at or after SEQ_PLANAT, the new plan takes effect in every block in a fixed
  order. -/
  | planSwap
  /-- R180: When no ray is HELD and no facet is OLD, FINISH clears and FINISHED sets. -/
  | swapFinished
  /-- R198: The lookup started by the release of the key octet reads the set and fixes the verdict and PEND within 250
  ns. -/
  | macVerdict (slot lat : Nat) (ecc : Bool)
  /-- R200: A landed frame is submitted for authentication, parked, handled as a join, or freed or posted by its
  verdict. -/
  | macFrameLand (slot : Nat)
  /-- R201: When the MIC check ends, the MAC applies the counter rule, then acknowledges, delivers or rejects the
  frame. -/
  | authEnd (slot : Nat)
  /-- R200: A frame still parked 2 ms after landing ends CTX_LATE and is not acknowledged. -/
  | ctxLate (slot : Nat)
  /-- R208: The MAC issues an 802.15.4 Imm-Ack at aTurnaroundTime if the frame is decided by the cutoff, and otherwise
  counts ACK_MISS. -/
  | immAck (slot : Nat)
  /-- R206: BUILD µs before the GACK, the group record freezes, and the pager updates MISS and LOST. -/
  | gackFreeze (recn : Nat)
  /-- R207: The MAC sends the GACK at its planned first chip, or discards the record and requeues its join responses.
  -/
  | gackTx (recn : Nat)
  /-- R280: A BEACON occurrence asks the MAC for a beacon with BTIME and a TAG, sent with LATE = 0. -/
  | beaconTx (recn : Nat)
  /-- R211: DLGAP µs after the Imm-Ack to a source's Data Request, the MAC sends the held Association Response. -/
  | assocResponse (slot : Nat)
  /-- R224: MAC_DIRCMD.OP = LOOKUP looks up a key and reports the entry in MAC_DIRRES and MAC_DIRCTX. -/
  | dirLookup (cls : Nat)
  /-- R224: MAC_DIRCMD.OP = BLOCK sets BLOCK in the entry and marks the context dirty. -/
  | dirBlock (cls : Nat)
  /-- R224: MAC_DIRCMD.OP = UNBLOCK clears BLOCK in the entry and marks the context dirty. -/
  | dirUnblock (cls : Nat)
  /-- R217: A write to MAC_DLPOST queues a downlink entry by its kind, or returns it at once with FMT_BAD or
  DL_NOADDR. -/
  | dlPost (v : Word)
  /-- R224: A read of MAC_DLDONEQ returns and removes a completed downlink entry. -/
  | dlDoneqRead
  /-- R218: In a group's downlink window, the MAC sends the RAW queue and then pending node entries by POS. -/
  | dlWindowOpen (recn : Nat)
  /-- R218: After the Imm-Ack to a node's frame, the MAC sends its kind 3 or matching kind 4 downlink. -/
  | dl154Send (slot : Nat)
  /-- R219: A downlink entry completes OK after its last chip, or with an abort status, and returns to MAC_DLDONEQ. -/
  | dlComplete (ent : Nat)
  /-- R219: When EXPIRY passes before transmission, the entry completes DL_EXPIRED. -/
  | dlExpire (ent : Nat)
  /-- R213: A write of MAC_JRESPCMD appends a join response for a group, or is discarded when the list is full. -/
  | jrespPost (v : Word)
  /-- R199: The pager rebuilds an invalidated directory set from the CTX store. -/
  | dirSetRebuild (set : Nat)
  /-- R224: A write of MAC_CTRL.CNTCLR clears MAC_CNTn and MAC_LAT. -/
  | macCntclr
  /-- R250: PAGER_CMD JOIN creates a context and a directory entry, or ends JOIN_EXISTS, CAPACITY or SET_FULL. -/
  | join (cls : Nat)
  /-- R251: PAGER_CMD EVICT ends the node's parked frames and downlinks, invalidates its entry and marks the context
  dead. -/
  | evict (cls : Nat)
  /-- R252: PAGER_CMD REKEY writes a new key into the index that KEYUSE does not name, with its RX_FC at 0. -/
  | rekey (cls : Nat)
  /-- R249: PAGER_CMD MOVE replaces GRP, POS, PERIODC and PHASEC and clears MISS. -/
  | move (cls : Nat)
  /-- R249: PAGER_CMD READ copies a context to PAGER_CTXn, with its keys and CHK reading 0. -/
  | read (cls : Nat)
  /-- R249: PAGER_CMD WRITE replaces the APP field of a context. -/
  | write (cls : Nat)
  /-- R249: PAGER_CMD FLUSH makes an immediate commit of every dirty context. -/
  | flush
  /-- R249: A pager command completes durably, writes PAGER_RES and sets CMDDONE. -/
  | pagerCmdDone (bad : Bool) (die : DieEnd)
  /-- R260: A write of PAGER_CTRL.CNTCLR clears PAGER_CNTn. -/
  | pagerCntclr
  /-- R234: LOOKAHEAD ms before a group cycle, the pager starts fetching and pins the due contexts of the group. -/
  | prefetchAnnounce (recn : Nat)
  /-- R236: A cluster page fetch ends: contexts pass CHK and set RES, which resumes parked frames, or are damaged
  under R238. -/
  | ctxFetchDone (bad : List Nat) (corr retry : Nat)
  /-- R232: A newer victim context is written back with its whole cluster page before its hot slot is reused. -/
  | victimWriteback (die : DieEnd)
  /-- R240: Every JCOMMIT interval, the pager snapshots the dirty contexts and writes journal records ending in END.
  -/
  | journalCommit
  /-- R245: When TX_FC reaches TX_RSV − RSVLEAD, the pager writes a RESERVE record in an immediate commit. -/
  | reserveCommit
  /-- R241: The last page pair of a commit is programmed: dirty pins release, and TX_RSV advances for RESERVE records.
  -/
  | commitDone (die : DieEnd)
  /-- R243: The VIN-fail warning stops pager work and starts a flush of every dirty context. -/
  | powerFailFlush
  /-- R243: The flush writes its last page with END and CLEAN, sets FLUSHED and stops the pager. -/
  | flushDone (die : DieEnd)
  /-- R247: After a power-on reset, the pager rebuilds the directory and the journal state, then sets READY. -/
  | pagerRebuild (bad : List Nat)
  /-- R239: An uncorrectable hot slot read discards the slot, clears RES and refetches the context. -/
  | hotSlotEcc (ctx : Nat)
  /-- R254: On the active member, the pager sends each STATE, RESERVE, CONTEXT or COMMIT item to the standby. -/
  | feedSend
  /-- R263: A write of SEQ_CTRL.RUN starts or stops execution of the timing wheel. -/
  | seqRunWrite (run : Bool)
  /-- R302: A write of SEQ_CTRL.CNTCLR clears SEQ_CNTn. -/
  | seqCntclr
  /-- R263: A write of SEQ_NTLO with RUN = 0 sets NETTIME from SEQ_NTHI and SEQ_NTLO and clears the pending slew. -/
  | nettimeSet (v : Word)
  /-- R262: A write to SEQ_SLEW adds to the pending phase correction, which saturates. -/
  | slewWrite (v : Word)
  /-- R262: In each 10,000 cycles, the sequencer adds or withholds one FT until the pending slew is zero. -/
  | slewStep
  /-- R264: At every SQT multiple of 1,000, the trunk count and NETTIME are latched as a pair. -/
  | trefLatch
  /-- R265: After each awake span of at least 1,024 ST, the sequencer updates R by (3R + new) / 4. -/
  | slowRatioMeasure (new : Nat)
  /-- R265: At the first ST edge after SYSPLL locks on a wake, NETTIME resumes from its saved value, and due wheel
  events execute. -/
  | nettimeResume
  /-- R270: A write of SEQ_TSRC.MODE moves the discipline to ACQUIRE or FREE. -/
  | tsrcModeWrite (v : Word)
  /-- R269: A GNSS or PARENT reference sample is accepted and applied to slew and rate, or rejected with PPS_REJECT.
  -/
  | timeSample
  /-- R270: After 3 s with no accepted GNSS sample, or on PARENT_LOST, LOCKED becomes HOLDOVER with RATE frozen. -/
  | holdoverEnter
  /-- R276: SEQ_RECCMD.OP = WRITE installs a schedule record from SEQ_RECWn, or the write is discarded. -/
  | recordWrite
  /-- R302: SEQ_RECCMD.OP = READ copies the selected record into SEQ_RECWn. -/
  | recordRead
  /-- R302: SEQ_RECCMD.OP = CLEAR removes the selected schedule record. -/
  | recordClear
  /-- R294: A frame request is approved or refused by overlap, hop boundary, dwell, duty and listen-before-talk, and
  its airtime is charged. -/
  | txRequest
  /-- R279: A CALWIN occurrence grants SYNCAL and then IRCAL if due and free of conflicts, or is skipped. -/
  | calWindow (recn : Nat)
  /-- R279: A TUNEWIN occurrence grants a tuner search if TUNEDUE is set and the probe passes its checks. -/
  | tuneWindow (recn : Nat)
  /-- R279: A BISTWIN occurrence grants a slice to BIST, or is skipped on conflict. -/
  | bistWindow (recn : Nat)
  /-- R281: A GROUP occurrence opens its uplink window at S. -/
  | uplinkOpen (recn : Nat)
  /-- R281: The group's uplink window closes at S + UPLEN. -/
  | uplinkClose (recn : Nat)
  /-- R281: The group's downlink window closes and the occurrence ends. -/
  | dlWindowClose (recn : Nat)
  /-- R284: At an own rendezvous turn, the modem sends LOAD or QUIET frames, then queued entries or a keepalive, back-
  to-back. -/
  | turnStart (recn : Nat)
  /-- R283: 1,000 µs before a rendezvous, the ray is centred on fl plus SEQ_RLFOFS. -/
  | rvzRetune (recn : Nat)
  /-- R288: At the end of a rendezvous occurrence, it counts as met or missed and the link state moves. -/
  | rvzOccEnd (recn : Nat)
  /-- R285: A write to SEQ_TXPOST queues a ridge transmit entry, or completes it at once with FMT_BAD. -/
  | ridgeTxPost (v : Word)
  /-- R302: A read of SEQ_TXDONEQ returns and removes a completed ridge entry. -/
  | ridgeTxdoneqRead
  /-- R285: A ridge entry whose EXPIRY passes before it starts completes RL_EXPIRED. -/
  | rlEntryExpire (ent : Nat)
  /-- R292: At each hop boundary, every ray of the sequence retunes to its next channel. -/
  | hopRetune (hopid : Nat)
  /-- R309: Pushes a sign-extended byte. -/
  | push8 (c : CoreId) (p : Prefix) (b : BitVec 8)
  /-- R309: Pushes a zero-extended byte. -/
  | push8u (c : CoreId) (p : Prefix) (b : BitVec 8)
  /-- R309: Pushes a sign-extended half-word. -/
  | push16 (c : CoreId) (p : Prefix) (h : BitVec 16)
  /-- R309: Pushes a zero-extended half-word. -/
  | push16u (c : CoreId) (p : Prefix) (h : BitVec 16)
  /-- R309: Pushes a 32-bit constant. -/
  | push32 (c : CoreId) (p : Prefix) (w : BitVec 32)
  /-- R309: Pushes a half-word placed in bits 31:16. -/
  | pushhi (c : CoreId) (p : Prefix) (h : BitVec 16)
  /-- R309: Pushes the small literal v = opcode − 0x28. -/
  | slit (c : CoreId) (p : Prefix) (k : BitVec 5)
  /-- R313: Does nothing for one cycle. -/
  | nop (c : CoreId) (p : Prefix)
  /-- R313: Duplicates the top of the data stack. -/
  | dup (c : CoreId) (p : Prefix)
  /-- R313: Discards the top of the data stack. -/
  | drop (c : CoreId) (p : Prefix)
  /-- R313: Exchanges the top two entries. -/
  | swap (c : CoreId) (p : Prefix)
  /-- R313: Copies the second entry to the top. -/
  | over (c : CoreId) (p : Prefix)
  /-- R313: Rotates the third entry to the top. -/
  | rot (c : CoreId) (p : Prefix)
  /-- R313: Removes the second entry. -/
  | nip (c : CoreId) (p : Prefix)
  /-- R313: Copies the top entry below the second. -/
  | tuck (c : CoreId) (p : Prefix)
  /-- R313: Copies entry n to the top, raising DSTACK beyond the depth. -/
  | pick (c : CoreId) (p : Prefix)
  /-- R313: Duplicates the top pair. -/
  | dup2 (c : CoreId) (p : Prefix)
  /-- R313: Discards the top pair. -/
  | drop2 (c : CoreId) (p : Prefix)
  /-- R313: Moves the top of the data stack to the return stack. -/
  | tor (c : CoreId) (p : Prefix)
  /-- R313: Moves the top of the return stack to the data stack. -/
  | fromr (c : CoreId) (p : Prefix)
  /-- R313: Copies the top of the return stack to the data stack. -/
  | rfetch (c : CoreId) (p : Prefix)
  /-- R313: Pushes the data stack depth. -/
  | depth (c : CoreId) (p : Prefix)
  /-- R313: Discards the top of the return stack. -/
  | rdrop (c : CoreId) (p : Prefix)
  /-- R313: Adds and sets C to the carry. -/
  | add (c : CoreId) (p : Prefix)
  /-- R313: Subtracts and sets C to no-borrow. -/
  | sub (c : CoreId) (p : Prefix)
  /-- R313: Adds with carry in and sets C. -/
  | addx (c : CoreId) (p : Prefix)
  /-- R313: Subtracts with carry in and sets C. -/
  | subx (c : CoreId) (p : Prefix)
  /-- R313: Negates the top entry. -/
  | neg (c : CoreId) (p : Prefix)
  /-- R313: Inverts every bit of the top entry. -/
  | not (c : CoreId) (p : Prefix)
  /-- R313: Adds 1 to the top entry. -/
  | inc (c : CoreId) (p : Prefix)
  /-- R313: Subtracts 1 from the top entry. -/
  | dec (c : CoreId) (p : Prefix)
  /-- R313: Gives the absolute value of the top entry. -/
  | abs (c : CoreId) (p : Prefix)
  /-- R313: Gives the low 32 bits of the product. -/
  | mul (c : CoreId) (p : Prefix)
  /-- R313: Gives the high 32 bits of the signed product. -/
  | mulh (c : CoreId) (p : Prefix)
  /-- R313: Gives the high 32 bits of the unsigned product. -/
  | mulhu (c : CoreId) (p : Prefix)
  /-- R313: Gives the signed truncating quotient, raising DIVZ for b = 0. -/
  | div (c : CoreId) (p : Prefix)
  /-- R313: Gives the unsigned quotient, raising DIVZ for b = 0. -/
  | divu (c : CoreId) (p : Prefix)
  /-- R313: Gives the signed remainder, raising DIVZ for b = 0. -/
  | mod (c : CoreId) (p : Prefix)
  /-- R313: Gives the unsigned remainder, raising DIVZ for b = 0. -/
  | modu (c : CoreId) (p : Prefix)
  /-- R313: Gives the bitwise AND. -/
  | and (c : CoreId) (p : Prefix)
  /-- R313: Gives the bitwise OR. -/
  | or (c : CoreId) (p : Prefix)
  /-- R313: Gives the bitwise XOR. -/
  | xor (c : CoreId) (p : Prefix)
  /-- R313: Gives a AND NOT b. -/
  | andn (c : CoreId) (p : Prefix)
  /-- R313: Shifts left by n[4:0]. -/
  | shl (c : CoreId) (p : Prefix)
  /-- R313: Shifts right logically by n[4:0]. -/
  | shr (c : CoreId) (p : Prefix)
  /-- R313: Shifts right arithmetically by n[4:0]. -/
  | sar (c : CoreId) (p : Prefix)
  /-- R313: Rotates left by n[4:0]. -/
  | rol (c : CoreId) (p : Prefix)
  /-- R313: Rotates right by n[4:0]. -/
  | ror (c : CoreId) (p : Prefix)
  /-- R313: Sign-extends the low byte. -/
  | sext8 (c : CoreId) (p : Prefix)
  /-- R313: Sign-extends the low half-word. -/
  | sext16 (c : CoreId) (p : Prefix)
  /-- R313: Zero-extends the low byte. -/
  | zext8 (c : CoreId) (p : Prefix)
  /-- R313: Zero-extends the low half-word. -/
  | zext16 (c : CoreId) (p : Prefix)
  /-- R313: Reverses the byte order. -/
  | bswap (c : CoreId) (p : Prefix)
  /-- R313: Gives the signed minimum. -/
  | min (c : CoreId) (p : Prefix)
  /-- R313: Gives the signed maximum. -/
  | max (c : CoreId) (p : Prefix)
  /-- R313: Gives the unsigned minimum. -/
  | minu (c : CoreId) (p : Prefix)
  /-- R313: Gives the unsigned maximum. -/
  | maxu (c : CoreId) (p : Prefix)
  /-- R313: Tests a = b. -/
  | eq (c : CoreId) (p : Prefix)
  /-- R313: Tests a ≠ b. -/
  | ne (c : CoreId) (p : Prefix)
  /-- R313: Tests a < b, signed. -/
  | lt (c : CoreId) (p : Prefix)
  /-- R313: Tests a < b, unsigned. -/
  | ltu (c : CoreId) (p : Prefix)
  /-- R313: Tests a ≤ b, signed. -/
  | le (c : CoreId) (p : Prefix)
  /-- R313: Tests a ≤ b, unsigned. -/
  | leu (c : CoreId) (p : Prefix)
  /-- R313: Tests a > b, signed. -/
  | gt (c : CoreId) (p : Prefix)
  /-- R313: Tests a > b, unsigned. -/
  | gtu (c : CoreId) (p : Prefix)
  /-- R313: Tests a ≥ b, signed. -/
  | ge (c : CoreId) (p : Prefix)
  /-- R313: Tests a ≥ b, unsigned. -/
  | geu (c : CoreId) (p : Prefix)
  /-- R313: Tests a = 0. -/
  | zeq (c : CoreId) (p : Prefix)
  /-- R313: Tests a < 0. -/
  | zlt (c : CoreId) (p : Prefix)
  /-- R313: Selects a when f is true, and otherwise b. -/
  | sel (c : CoreId) (p : Prefix)
  /-- R317: Counts leading zero bits. -/
  | clz (c : CoreId) (p : Prefix)
  /-- R317: Counts trailing zero bits. -/
  | ctz (c : CoreId) (p : Prefix)
  /-- R317: Counts set bits. -/
  | popcnt (c : CoreId) (p : Prefix)
  /-- R317: Gives the XOR of all 32 bits. -/
  | par (c : CoreId) (p : Prefix)
  /-- R317: Reverses the bits within each byte. -/
  | brev8 (c : CoreId) (p : Prefix)
  /-- R317: Reverses the bits within each half-word. -/
  | brev16 (c : CoreId) (p : Prefix)
  /-- R317: Reverses all 32 bits. -/
  | brev32 (c : CoreId) (p : Prefix)
  /-- R318: Runs the configured CRC over one byte. -/
  | crcstep (c : CoreId) (p : Prefix)
  /-- R318: Runs the CRC-32 over one byte. -/
  | crc32step (c : CoreId) (p : Prefix)
  /-- R319: Extracts a bit field. -/
  | bext (c : CoreId) (p : Prefix)
  /-- R319: Inserts a bit field. -/
  | bins (c : CoreId) (p : Prefix)
  /-- R313: Sets bit n. -/
  | bset (c : CoreId) (p : Prefix)
  /-- R313: Clears bit n. -/
  | bclr (c : CoreId) (p : Prefix)
  /-- R313: Tests bit n. -/
  | btst (c : CoreId) (p : Prefix)
  /-- R313: Loads a word, checking alignment under R314. -/
  | ldw (c : CoreId) (p : Prefix)
  /-- R313: Loads a half-word, sign-extended. -/
  | ldh (c : CoreId) (p : Prefix)
  /-- R313: Loads a half-word, zero-extended. -/
  | ldhu (c : CoreId) (p : Prefix)
  /-- R313: Loads a byte, sign-extended. -/
  | ldb (c : CoreId) (p : Prefix)
  /-- R313: Loads a byte, zero-extended. -/
  | ldbu (c : CoreId) (p : Prefix)
  /-- R313: Stores a word into the store buffer. -/
  | stw (c : CoreId) (p : Prefix)
  /-- R313: Stores a half-word. -/
  | sth (c : CoreId) (p : Prefix)
  /-- R313: Stores a byte. -/
  | stb (c : CoreId) (p : Prefix)
  /-- R313: Loads the word at [A] and advances A by 4. -/
  | ldwa (c : CoreId) (p : Prefix)
  /-- R313: Loads the byte at [A] and advances A by 1. -/
  | ldba (c : CoreId) (p : Prefix)
  /-- R313: Stores a word at [B] and advances B by 4. -/
  | stwb (c : CoreId) (p : Prefix)
  /-- R313: Stores a byte at [B] and advances B by 1. -/
  | stbb (c : CoreId) (p : Prefix)
  /-- R313: Copies a word from [A] to [B] and advances both. -/
  | movw (c : CoreId) (p : Prefix)
  /-- R313: Copies a byte from [A] to [B] and advances both. -/
  | movb (c : CoreId) (p : Prefix)
  /-- R313: Stores x at [B] and advances B. -/
  | fillw (c : CoreId) (p : Prefix)
  /-- R313: Atomically exchanges a word with memory. -/
  | xchg (c : CoreId) (p : Prefix)
  /-- R313: Sets A. -/
  | seta (c : CoreId) (p : Prefix)
  /-- R313: Sets B. -/
  | setb (c : CoreId) (p : Prefix)
  /-- R313: Pushes A. -/
  | geta (c : CoreId) (p : Prefix)
  /-- R313: Pushes B. -/
  | getb (c : CoreId) (p : Prefix)
  /-- R313: Adds n to A. -/
  | adda (c : CoreId) (p : Prefix)
  /-- R313: Adds n to B. -/
  | addb (c : CoreId) (p : Prefix)
  /-- R313: Sets RC. -/
  | setrc (c : CoreId) (p : Prefix)
  /-- R313: Pushes RC. -/
  | getrc (c : CoreId) (p : Prefix)
  /-- R320: Sets RC and starts repeating the target instruction, or raises ILLEGAL_PREFIX for a forbidden target. -/
  | rep (c : CoreId) (p : Prefix) (target : Option VOp)
  /-- R322: One iteration of a repeated target executes and decrements RC, ending the repetition at 0. -/
  | repIteration (c : CoreId) (target : VOp)
  /-- R323: Reads a special register. -/
  | rdsr (c : CoreId) (p : Prefix)
  /-- R323: Writes a special register, discarding stack caches for a pointer register. -/
  | wrsr (c : CoreId) (p : Prefix)
  /-- R313: Pushes PSW.C. -/
  | getc (c : CoreId) (p : Prefix)
  /-- R313: Branches unconditionally. -/
  | br (c : CoreId) (p : Prefix)
  /-- R313: Branches when f = 0. -/
  | bz (c : CoreId) (p : Prefix)
  /-- R313: Branches when f ≠ 0. -/
  | bnz (c : CoreId) (p : Prefix)
  /-- R313: Pushes the return address and branches. -/
  | call (c : CoreId) (p : Prefix)
  /-- R313: Returns to the address on the return stack. -/
  | ret (c : CoreId) (p : Prefix)
  /-- R313: Decrements RC and branches while RC ≠ 0. -/
  | loop (c : CoreId) (p : Prefix)
  /-- R313: Raises the SYSCALL exception with INFO = n[15:0]. -/
  | syscall (c : CoreId) (p : Prefix)
  /-- R313: Raises the BRK exception. -/
  | brk (c : CoreId) (p : Prefix)
  /-- R316: An undefined primary or extended opcode raises UNDEF with no change of state. -/
  | undefinedOpcode (c : CoreId) (p : Prefix) (ext : Bool) (b : BitVec 8)
  /-- R325: Pops the PSW and PC and continues in the bank the PSW names. -/
  | eret (c : CoreId) (p : Prefix)
  /-- R315: Stops fetch until an interrupt is pending for the core. -/
  | wait (c : CoreId) (p : Prefix)
  /-- R315: Sets PSW.GD. -/
  | di (c : CoreId) (p : Prefix)
  /-- R315: Clears PSW.GD. -/
  | ei (c : CoreId) (p : Prefix)
  /-- R315: Completes every buffered store of the core. -/
  | fence (c : CoreId) (p : Prefix)
  /-- R308: Spills every cached data-stack entry. -/
  | dsflush (c : CoreId) (p : Prefix)
  /-- R308: Spills every cached return-stack entry. -/
  | rsflush (c : CoreId) (p : Prefix)
  /-- R315: Pops the task bank's data stack. -/
  | tpop (c : CoreId) (p : Prefix)
  /-- R315: Pushes onto the task bank's data stack. -/
  | tpush (c : CoreId) (p : Prefix)
  /-- R343: In the task bank, returns the core to the scheduler behind the other READY slots of its priority. -/
  | yield (c : CoreId) (p : Prefix)
  /-- R315: Runs CRCSTEP on the byte at [A] and advances A. -/
  | crca (c : CoreId) (p : Prefix)
  /-- R315: Runs CRC32STEP on the byte at [A] and advances A. -/
  | crc32a (c : CoreId) (p : Prefix)
  /-- R315: Atomically compares a word and swaps in a new value. -/
  | casw (c : CoreId) (p : Prefix)
  /-- R315: Gives the full 64-bit product, signed or unsigned by C. -/
  | muls64 (c : CoreId) (p : Prefix)
  /-- R362: At a boundary, the core takes the most important eligible source and enters the fast or kernel bank. -/
  | interruptEntry (c : CoreId) (write : Option (Requester × Nat × Word))
  /-- R366: A write to ICU_EOI ends an active source routed to the requesting core, or is counted in BADEOI. -/
  | eoi (r : Requester) (v : Word)
  /-- R372: A write to ICU_SWISET raises software lines. -/
  | swiSet (v : Word)
  /-- R372: A write to ICU_SWICLR lowers software lines. -/
  | swiClear (v : Word)
  /-- R372: A write of ICU_CTRL.CNTCLR clears ICU_BADEOI and the delivery counts. -/
  | icuCntclr
  /-- R370: An enabled edge on an asynchronous latch input sets the latch, or sets ALOVR when the latch is already
  set. -/
  | alatchEdge (n : Nat) (level : Bool)
  /-- R370: A W1C write to ICU_ALSTAT or ICU_ALOVR clears latches. -/
  | alatchClear (ovr : Bool) (v : Word)
  /-- R378: A write to TMR_RUN starts or stops counters and resets the divider phase of those it starts. -/
  | tmrRunWrite (v : Word)
  /-- R395: A write of TMR_CTRL.CNTCLR clears the OVR, GLITCH and DROP counts. -/
  | tmrCntclr
  /-- R376: A counter wraps from 0xFFFF_FFFF to 0 and sets OVFn. -/
  | counterWrap (n : Nat)
  /-- R374: A write to TMR_UuVAL in compare mode arms V, firing in the next cycle with LATE when already reached. -/
  | compareArm (u : Nat) (v : Word)
  /-- R380: A compare fires: it sets FIRED and its IRQ, applies OUT, and reloads under R382. -/
  | compareFire (u : Nat)
  /-- R379: A write to TMR_UuCFG configures a unit, or with MODE = 0 disarms it and discards a capture in progress. -/
  | unitCfgWrite (u : Nat) (v : Word)
  /-- R385: Every 2^PRE-th filtered edge captures the count into VAL, sets CAPNEW, or counts an overrun. -/
  | capture (u : Nat)
  /-- R385: A read of TMR_UuVAL in capture mode returns VAL and clears CAPNEW. -/
  | captureRead (u : Nat)
  /-- R389: An accepted PPS edge latches NETTIME and is forwarded to the sequencer, or counted as a glitch or a drop.
  -/
  | ppsEdge
  /-- R388: A read of TMR_PPSNTLO latches PPSNTHI and clears CAPNEW. -/
  | ppsRead
  /-- R391: A read of TMR_SLOWLO returns SLOWCNT and latches bits 47:32 into TMR_SLOWHI. -/
  | slowcntRead
  /-- R392: A write of TMR_SCMPnLO arms a SLOWCNT compare with the staged high part. -/
  | slowCompareArm (n : Nat) (v : Word)
  /-- R393: At its ST edge a SLOWCNT compare fires, setting FIRED and SCMPn and asserting ICU latch 27. -/
  | slowCompareFire (n : Nat)
  /-- R397: VIN rising through the UVLO threshold starts the cold-start sequence of soft-start, rails and AON release.
  -/
  | vinRise
  /-- R397: At the later of FRC ready and NRST high, the power-on reset ends, the straps are sampled, and KC starts
  fetching. -/
  | porEnd (rails frc : Nat) (compat : Bool) (boot : Nat) (vio33 : Bool)
  /-- R410: XSTAB × 10 µs after XREF_EN rises, XREF is taken as stable and SYSPLL starts. -/
  | xrefStable
  /-- R410: SYSPLL locks and the fabric switches from FRC, starting the paths, NETTIME and the clocked ports. -/
  | syspllLock (d : Nat)
  /-- R410: When SYSPLL has not locked 100 µs after XREF stable, the device stays on FRC and retries every 1 ms. -/
  | xrefFail
  /-- R397: XSLOW becomes stable, SLOWOK sets and SLOWCNT starts counting. -/
  | xslowStable
  /-- R398: NRST low for at least 1 µs starts a system reset. -/
  | nrstAssert
  /-- R398: The release of NRST ends the reset and samples the straps. -/
  | nrstRelease (compat : Bool) (boot : Nat) (vio33 : Bool)
  /-- R571: VIO below 1.5 V for 1 µs acts as NRST held low. -/
  | vioLow
  /-- R400: VIN below 7.5 V or a rail brownout takes a power-on reset that clears the non-AON state. -/
  | powerOnReset (brownout : Bool)
  /-- R400: A system reset resets every block and core while keeping SLOWCNT, the plan slots and retained banks. -/
  | systemReset (cause : Nat)
  /-- R418: A write of PWR_CMD.SYSRST by KC gives a system reset with cause SOFT. -/
  | sysrst (r : Requester)
  /-- R404: A write of PWR_CMD.ENTER makes the idle timer expire at its next advancing ST edge, or is ignored during
  entry or wake. -/
  | enter
  /-- R418: A write of PWR_CMD.CNTCLR clears the refusal and Saddle counts. -/
  | pwrCntclr
  /-- R401: A write of a PWR_CORECTL bit as 1 releases that core at its reset PC. -/
  | coreRelease (r : Requester) (c : CoreId)
  /-- R401: A write of a PWR_CORECTL bit as 0 holds that core in reset. -/
  | coreHold (r : Requester) (c : CoreId)
  /-- R402: VIN falling below WARN asserts the warning, sets latch 26 and VINWARN, and starts the flush. -/
  | vinWarn (vin : Nat)
  /-- R402: After VIN has stayed above WARN + 0.5 V for 10 ms, the warning is released. -/
  | vinOk (vin : Nat)
  /-- R405: When the idle timer reaches SADDLE_IDLE, the expiry ends in WAKE_RACE, is refused by votes, or starts
  Saddle entry. -/
  | idleExpiry
  /-- R406: Entry stops clocks, saves calibration and time, switches banks to retention, and turns the core rail off
  at the point of no return. -/
  | saddleEntry
  /-- R407: A wake event before the point of no return aborts the entry within 1 µs, and the cores resume. -/
  | entryAbort (d : Nat)
  /-- R408: At the wake edge W, the rail returns, the FRC starts, and the first fetch comes 1 ST later. -/
  | saddleWake (rail frc : Nat)
  /-- R409: When the rail or FRC is late, the AON retries the wake once, and a second failure takes a power-on reset.
  -/
  | wakeFail (frcLate : Bool) (rail : Nat)
  /-- R413: Every 32 ST, the AON temperature sample sets the eDRAM refresh interval. -/
  | refreshTempSample (temp : Int)
  /-- R427: A write to NAND_FKEY advances the unlock sequence, or relocks it on a wrong key. -/
  | nandFkeyWrite (r : Requester) (v : Word)
  /-- R428: A launched READ fetches a page with correction and read-retry into the buffer. -/
  | nandRead (corr : Nat) (retry : Nat)
  /-- R428: A launched PROGRAM writes a page from the buffer. -/
  | nandProgram (fail : Bool) (us : Nat)
  /-- R431: A launched ERASE sets the plane's flag cell, erases and verifies the block, and clears the flag. -/
  | nandErase (fail : Bool) (us : Nat)
  /-- R427: When 50 µs pass between two writes of the command sequence, it relocks and SEQERR sets. -/
  | nandSeqTimeout
  /-- R430: A software command ends: NAND_FRES is written and DONE sets. -/
  | nandCmdDone
  /-- R432: A queued read suspends an erase on its plane once RUNMIN has elapsed. -/
  | eraseSuspend (p : Nat)
  /-- R432: When the plane has no queued read or program, a suspended erase resumes. -/
  | eraseResume (p : Nat)
  /-- R434: A write of NAND_BOOTSTAT.REDO erases each flagged block again and clears its flag. -/
  | nandRedo (r : Requester) (fail0 : Bool) (fail1 : Bool)
  /-- R434: A write of NAND_BOOTSTAT.RELEASE lets the pager and the page engine use the die. -/
  | nandRelease (r : Requester)
  /-- R444: A write of NAND_BBQ.BLOCK reports whether that block is bad or a factory defect. -/
  | bbqQuery (v : Word)
  /-- R444: A write of NAND_CTRL.CNTCLR clears NAND_CNTn. -/
  | nandCntclr
  /-- R438: When a hardware partition's free blocks fall below 32, the controller garbage-collects. -/
  | garbageCollect (p : HwPart) (b : Nat) (die : DieEnd)
  /-- R438: When PECMAX − PECMIN exceeds 2,000, the least-erased full block is moved onto a high-count free block. -/
  | wearLevel (p : HwPart) (die : DieEnd)
  /-- R337: A translation to a TYPE 1 PTE parks a task slot, stalls the kernel, or sets a channel to WAIT_PAGE while
  the page engine fetches. -/
  | pageMiss (r : Requester) (va : Nat)
  /-- R337: The page engine writes the PTE resident, and every waiting requester resumes. -/
  | pageFetchDone (pte corr retry : Nat)
  /-- R338: With free frames below FREEMIN, the page engine sweeps for a victim and writes it back if dirty. -/
  | clockSweep
  /-- R357: MMU_PCMD.OP = EVICT evicts the page to TYPE 1. -/
  | pageEvict (c : CoreId) (asid : Nat)
  /-- R338: MMU_PCMD.OP = PIN pins the page's frame. -/
  | pagePin (c : CoreId) (asid : Nat)
  /-- R338: MMU_PCMD.OP = UNPIN releases the pin. -/
  | pageUnpin (c : CoreId) (asid : Nat)
  /-- R336: MMU_PCMD.OP = TLBINV invalidates all entries of every TLB. -/
  | tlbinv
  /-- R357: A write of MMU_CTRL.CNTCLR clears MMU_ECCSTAT and the switch counts. -/
  | mmuCntclr
  /-- R343: MMU_TCMD START makes an EMPTY or STOPPED slot READY with a priority. -/
  | taskStart (r : Requester) (c : CoreId) (n prio : Nat)
  /-- R343: MMU_TCMD STOP stops a slot. -/
  | taskStop (r : Requester) (c : CoreId) (n : Nat)
  /-- R343: MMU_TCMD SLEEP puts a slot to sleep. -/
  | taskSleep (r : Requester) (c : CoreId) (n : Nat)
  /-- R343: MMU_TCMD WAKE makes a sleeping slot READY. -/
  | taskWake (r : Requester) (c : CoreId) (n : Nat)
  /-- R343: MMU_TCMD PRIO changes a slot's priority. -/
  | taskPrio (r : Requester) (c : CoreId) (n prio : Nat)
  /-- R343: MMU_TCMD FREE empties a STOPPED slot. -/
  | taskFree (r : Requester) (c : CoreId) (n : Nat)
  /-- R344: At a task-bank boundary, the scheduler switches to a more important READY slot. -/
  | taskSwitch (c : CoreId)
  /-- R344: After QUANT cycles, the running slot yields to another READY slot of its priority. -/
  | quantumExpire (c : CoreId)
  /-- R350: DMA_CHnCMD START runs a channel from IDLE or DONE. -/
  | dmaStart (ch : Nat)
  /-- R350: DMA_CHnCMD RESUME continues a faulted channel from DONE. -/
  | dmaResume (ch : Nat)
  /-- R350: DMA_CHnCMD ABORT ends a channel with DMA_ABORTED after its current burst. -/
  | dmaAbort (ch : Nat)
  /-- R349: The arbiter grants a channel one burst, which checks both translations and moves up to 16 bytes or faults.
  -/
  | dmaBurst
  /-- R348: A request from UART, HIF or NET moves one element of a REQ channel. -/
  | dmaRequest (ch : Nat)
  /-- R352: A corrected read is written back and reread: transient, or lasting and retired. -/
  | eccCorrected (a : Nat) (lasting : Bool)
  /-- R354: The scrubber reads the next line of SRAM or eDRAM under the symbol code. -/
  | scrubRead (outcome : Nat)
  /-- R451: A write to CIPHER_JOBPOST posts a firmware job descriptor. -/
  | jobPost (c : CoreId) (v : Word)
  /-- R449: A posted job starts in order after checks, or ends BAD_DESC, KEY_EMPTY or KEY_USAGE. -/
  | jobStart
  /-- R450: A job ends, writes STATUS, zeroes AEAD output on a tag failure, and is appended to CIPHER_DONEQ. -/
  | jobComplete (k : Nat)
  /-- R451: A read of CIPHER_DONEQ returns and removes a completed job. -/
  | cipherDoneqRead
  /-- R453: CIPHER_KEYCMD LOAD fills an empty slot from CIPHER_KEYWn with its attributes. -/
  | keyLoad (typ slot : Nat)
  /-- R453: CIPHER_KEYCMD DERIVE fills a slot with SHAKE256 of the HUK and a label, or ends KEY_EMPTY or REVOKED. -/
  | keyDerive (typ slot : Nat)
  /-- R453: CIPHER_KEYCMD CLEAR empties a slot. -/
  | keyClear (slot : Nat)
  /-- R474: A write of CIPHER_CTRL.CNTCLR clears CIPHER_CNT. -/
  | cipherCntclr
  /-- R455: A read of CIPHER_RNG returns the oldest buffered word, or stalls until one arrives. -/
  | rngRead
  /-- R455: Every 128 µs the conditioner emits 256 bits that reseed the mask expanders or fill the word buffer. -/
  | trngOutput
  /-- R457: A failed health test halts the engine: expanders stop, and jobs and lattice operations end TRNG_FAIL. -/
  | trngHealthFail
  /-- R457: A write of CIPHER_CTRL.RESTART starts a TRNG start-up test. -/
  | restart
  /-- R456: 256 µs after it starts, the start-up test passes, setting OK and RESTARTED, or leaves the engine halted.
  -/
  | startupTestDone (pass : Bool)
  /-- R459: A VOLT, CLK, TEMP or SHIELD alarm zeroises every key slot and the identity store within 2 µs. -/
  | alarm (k : Nat)
  /-- R460: A W1C write to CIPHER_ALARM clears alarm bits, which set again while their condition holds. -/
  | alarmClear (v : Word) (holding : Nat)
  /-- R463: LATTICE VERIFY checks an optional key hash and an ML-DSA-65 signature. -/
  | verify (pkh : Nat)
  /-- R465: LATTICE SIGN signs a message under the identity key, ending SIGN_LIMIT after 64 iterations. -/
  | sign
  /-- R464: LATTICE KEYGEN derives the identity key pair from the OTP seed. -/
  | keygen
  /-- R463: LATTICE SHAKE computes SHAKE256 of an input. -/
  | shake
  /-- R466: LATTICE EXTEND sets MEASn to SHAKE256 of MEASn and 32 bytes of data. -/
  | extend (meas : Nat)
  /-- R467: LATTICE REPORT writes a signed attestation report. -/
  | report
  /-- R462: A queued lattice operation starts when the current one ends, in arrival order. -/
  | latticeStart
  /-- R463: A lattice operation ends, writing STATUS and TIME and setting DONE. -/
  | latticeDone (d : Nat)
  /-- R469: OTP PROGRAM sets bits of a key-hash word and verifies the word. -/
  | otpProgram
  /-- R470: OTP ARBINC blows the next pair of an anti-rollback counter. -/
  | arbinc (n : Nat)
  /-- R476: OTP SETFLAG blows DESTRUCT, ROOT_REVOKE or KEYLOCK. -/
  | setflag (n : Nat)
  /-- R471: An OTP command ends with OK, OTP_FAIL or ARB_FULL. -/
  | otpDone (bad : Word)
  /-- R484: The boot ROM reads the BCR, selects and verifies a set, reverting or falling back as needed. -/
  | bootSelect
  /-- R487: With no bootable set, or BOOTSEL RECOVERY, the ROM accepts a stream from the host. -/
  | recovery
  /-- R491: A node announces its held set at the next own turn after HAVE changes, or every 60 s. -/
  | ridgelineAnnounceSend (nb : Nat)
  /-- R490: A received ANNOUNCE records a neighbour's SETID, SETVER and HAVE. -/
  | announce (nb : Nat) (m : List Byte)
  /-- R492: A received REQUEST grants credit for blocks from FROM, to be served in ascending order. -/
  | request (nb : Nat) (m : List Byte)
  /-- R492: A received BLOCK fragment is assembled, and its block is verified and counted in HAVE, or refetched. -/
  | block (nb : Nat) (m : List Byte)
  /-- R493: A received REFUSE stops requests to that neighbour. -/
  | refuse (nb : Nat) (m : List Byte)
  /-- R494: A host block with an OFFSET appends stream bytes to staging and verifies the units it completes. -/
  | updBlock (j die : Nat)
  /-- R495: ACTIVATE checks refusal states, copies and reverifies the staged stream, writes a TRIAL BCR and resets. -/
  | activate (die : Nat)
  /-- R497: A healthy trial set commits its settings generation, confirms the BCR, advances counters and stops the
  timer. -/
  | confirm (plansOk migrated : Bool)
  /-- R498: DECLINE restores the confirmed set in the BCR and resets. -/
  | decline
  /-- R496: A write of UPD_TRIAL.SECS arms and starts the trial timer. -/
  | trialArm (r : Requester) (secs : Nat)
  /-- R496: A write of UPD_TRIAL.STOP stops the trial timer. -/
  | trialStop (r : Requester)
  /-- R496: At 0, the trial timer issues a system reset and sets TEXP. -/
  | trialExpire
  /-- R501: A pair PREPARE message makes a member check and prepare activation for reset time T. -/
  | prepare (own : Bool) (setid : List Byte) (t die : Nat)
  /-- R555: A READY message reports that a member is prepared. -/
  | ready (setid : List Byte)
  /-- R555: A lockstep REFUSE message reports that a member refuses, with its code. -/
  | pairRefuse (setid : List Byte) (code : Nat)
  /-- R501: An ABORT message ends the lockstep sequence with staging kept. -/
  | abort (setid : List Byte)
  /-- R501: A HEALTHY message reports a member's trial health. -/
  | healthy (own : Bool) (setid : List Byte) (plansOk migrated : Bool)
  /-- R501: A COMMIT message makes the standby confirm. -/
  | commit (setid : List Byte)
  /-- R501: A CONFIRMED message makes the active confirm. -/
  | confirmed (setid : List Byte)
  /-- R501: A DECLINE message makes the other member decline at once. -/
  | pairDecline (setid : List Byte)
  /-- R501: At T, both READY members write the BCR and reset, or the sequence ends in ABORT. -/
  | pairResetTime
  /-- R508: A write of BIST_CTRL.EN = 1 starts the self-test cycles. -/
  | bistCtrlWrite (r : Requester) (v : Word)
  /-- R522: A write of BIST_CTRL.CNTCLR clears BIST_CNT and the TRANSIENTS counts. -/
  | bistCntclr (r : Requester)
  /-- R508: At each cycle start, every usable item without a pending rerun becomes DUE. -/
  | bistCycleStart
  /-- R508: At cycle end, DUE items become NOT_RUN, CYCLEDONE sets and CYCLE_DONE is logged. -/
  | bistCycleEnd
  /-- R506: In a granted slice, BIST runs reruns, requests and DUE items back to back. -/
  | bistSlice
  /-- R509: A check ends: it passes, or it fails with a rerun pending, and a rerun decides PASS or UNUSABLE. -/
  | bistCheckEnd (re : Bool) (pass : Bool) (detail : Nat)
  /-- R509: A rerun not run within RRDL s logs NOT_RUN_BUSY and sets RERUNLATE. -/
  | rerunLate (n : Nat)
  /-- R513: A write to BIST_REQ without REINT requests an item's check within a deadline. -/
  | bistRequest (r : Requester) (item : Nat) (deadline : Nat)
  /-- R511: A write to BIST_REQ with REINT runs an UNUSABLE item's check twice and reintegrates it on two passes. -/
  | bistReint (r : Requester) (item : Nat)
  /-- R513: A request whose deadline passes unrun ends NOT_RUN_BUSY. -/
  | requestDeadline
  /-- R516: A queued entry is appended to the ring, or lost and counted, with LOG_LOST entries inserted. -/
  | logAppend
  /-- R518: A write to LOG_WCMD queues a firmware entry with the requester's staged DATA. -/
  | logWcmd (r : Requester) (v : Word)
  /-- R520: A write of LOG_CTRL.CLEAR by KC sets FIRST and ACK to HEAD and appends LOG_CLEARED. -/
  | logClear (r : Requester)
  /-- R518: A read of LOG_RDWn returns the entry that RDSEQ names, served before an append. -/
  | logRead (n : Nat)
  /-- R525: Gen-2 opcode STAT returns the port's 8 status octets. -/
  | stat
  /-- R527: Gen-2 CMD accepts a command frame into a free slot, or discards it. -/
  | cmd (frame : List Byte)
  /-- R528: Gen-2 RES returns a result, the NOT_READY token or HIF_NOTAG for a TAG. -/
  | res (tag : Nat)
  /-- R529: Gen-2 ACK retires a completed result and frees its slot. -/
  | ack (tag : Nat)
  /-- R530: Gen-2 EVT returns the oldest held event. -/
  | evt
  /-- R530: Gen-2 EVACK retires held events up to SEQ. -/
  | evack (seq : Nat)
  /-- R525: A reserved Gen-2 opcode is ignored for the transaction and counted in FRMERR. -/
  | hifReservedOpcode (op : Nat)
  /-- R532: A read of HIF_CMDQ returns and removes the next accepted slot. -/
  | hifCmdqRead
  /-- R532: A write of HIF_POST with EV = 0 completes the result of a slot. -/
  | hifPostResult (j : Nat)
  /-- R530: A write of HIF_POST with EV = 1 posts an event, or loses it when 64 are held. -/
  | hifPostEvent
  /-- R561: A write of HIF_CTRL.CNTCLR clears HIF_CNT. -/
  | hifCntclr
  /-- R533: HIF OP SET_WRITE writes the update agent's settings. -/
  | setWrite (j : Nat)
  /-- R533: HIF OP SET_READ returns the update agent's settings. -/
  | setRead (j : Nat)
  /-- R533: HIF OP UPD_ACTIVATE requests ACTIVATE of the staged stream. -/
  | updActivate (j die : Nat)
  /-- R533: HIF OP UPD_STATUS returns staging state and UPD_BOOT. -/
  | updStatus (j : Nat)
  /-- R533: A command with OP 0x80–0xFF is served by firmware. -/
  | firmwareOp (j status : Nat) (payload : List Byte)
  /-- R534: A Gen-1 read transaction returns window words from an address, popping RXFIFO at 0x10. -/
  | g1Read (cmd n : Nat)
  /-- R534: A Gen-1 write transaction writes window words: mailbox, TXFIFO, IRQ clear or MODE. -/
  | g1Write (cmd : Nat) (words : List Nat) (die : Nat)
  /-- R535: A Gen-1 write of 1 to address 0x23 submits a host block from TXFIFO. -/
  | g1UpdateBlock (die : Nat)
  /-- R535: A Gen-1 write of 2 to address 0x23 requests ACTIVATE. -/
  | g1UpdateActivate (die : Nat)
  /-- R536: A write of SYS_COMPAT.REQ, or of MODE = 0x0002, requests or cancels a change of host generation. -/
  | compatRequest (g : Nat)
  /-- R536: Once the port has drained, HIF switches generation, discards events and logs the switch. -/
  | compatSwitch
  /-- R538: A debug READ request reads memory with kernel rights as the level allows. -/
  | dbgRead (good : Bool) (a : Nat)
  /-- R538: A debug WRITE request writes memory as the level allows. -/
  | dbgWrite (good : Bool) (a : Nat) (v : Word)
  /-- R538: A debug CREAD reads a control register. -/
  | dbgCread (good : Bool) (a : Nat)
  /-- R538: A CWRITE of HALT halts cores. -/
  | dbgHalt (good : Bool) (m : Nat)
  /-- R538: A CWRITE of RESUME resumes halted cores. -/
  | dbgResume (good : Bool) (m : Nat)
  /-- R538: A CWRITE of STEP runs one instruction on a halted core. -/
  | dbgStep (good : Bool) (c : CoreId) (p : Prefix) (op : VOp) (target : Option VOp)
  /-- R538: A CWRITE of 1 to RESET gives a system reset with cause DEBUG. -/
  | dbgReset (good : Bool) (v : Nat)
  /-- R539: A received Ethernet frame is filtered, checked and queued, or dropped with NET_OVF. -/
  | netRxFrame (frame : List Byte) (fcsOk : Bool)
  /-- R562: A read of NET_RXQ returns and removes the next received frame. -/
  | netRxqRead
  /-- R539: A write of NET_TXLEN prepares a frame, which is sent once the whole frame is in the TX FIFO. -/
  | netTxlenWrite (v : Word)
  /-- R539: A complete frame in the TX FIFO is padded, given its FCS and sent. -/
  | netTxFrame
  /-- R562: A write of NET_CTRL.CNTCLR clears NET_CNT. -/
  | netCntclr
  /-- R539: A write of NET_MDIO.OP starts a clause 22 access that ends after 25.6 µs. -/
  | mdioAccess (v : Word)
  /-- R541: A UART receives an octet into its RX FIFO, or counts an overrun. -/
  | uartRxOctet (u octet : Nat) (perr ferr : Bool)
  /-- R562: A read of UART_DATAn removes an octet from the RX FIFO. -/
  | uartDataRead (u : Nat)
  /-- R562: A write of UART_DATAn pushes an octet for transmission. -/
  | uartDataWrite (u : Nat) (v : Word)
  /-- R544: A write to GPIO_SET sets bits of GPIO_OUT. -/
  | gpioSet (v : Word)
  /-- R544: A write to GPIO_CLR clears bits of GPIO_OUT. -/
  | gpioClr (v : Word)
  /-- R381: A write to GPIO_TOUTSET sets timer unit outputs. -/
  | gpioToutset (v : Word)
  /-- R381: A write to GPIO_TOUTCLR clears timer unit outputs. -/
  | gpioToutclr (v : Word)
  /-- R551: A write of MIRROR_CTRL.EN = 1 moves the role from OFF to WAIT and starts training. -/
  | mirrorEnable
  /-- R551: A write of MIRROR_CTRL.EN = 0 returns the role to OFF. -/
  | mirrorDisable
  /-- R563: A write of MIRROR_CTRL.CNTCLR clears MIRROR_CNT. -/
  | mirrorCntclr
  /-- R547: After 16 aligned K28.5 pairs, the MIRROR link is UP and sequence numbers restart. -/
  | linkUp
  /-- R547: After 4 invalid symbols, the link falls to DOWN, discards unacknowledged packets and retrains. -/
  | linkDown
  /-- R550: Every 1,000 µs, a member sends a HEARTBEAT while allowed by KICK. -/
  | heartbeatSend
  /-- R550: A received partner HEARTBEAT updates MIRROR_TOFS and may move the role. -/
  | heartbeat (ok : Bool) (role flags serial : Nat) (setid : List Byte) (setver nettime feed : Nat)
  /-- R551: A heartbeat not received by due + 50 µs is missed, and a third miss may take over. -/
  | heartbeatMiss
  /-- R550: A write of MIRROR_CTRL.KICK keeps the active member's heartbeats going. -/
  | kick
  /-- R550: When KICK lapses for KICKTO ms, heartbeats stop, PAIR_ACT is released and the role becomes WAIT. -/
  | kickLapse
  /-- R551: A write of MIRROR_CTRL.RELEASE hands the active role to a healthy standby. -/
  | release
  /-- R551: PAIR_ACT low for 1,000 µs in WAIT gives STANDBY, and high for 1,000 µs in STANDBY gives takeover. -/
  | pairActTimer
  /-- R551: SOLO ms plus a random delay with no partner heartbeat and PAIR_ACT high lets a member claim ACTIVE. -/
  | soloTimeout
  /-- R553: On takeover, the member drives PAIR_ACT and PAIR_SW, becomes ACTIVE and advances EPOCH. -/
  | takeover
  /-- R554: A received FEED packet applies the active's journal items. -/
  | feed (seq : Nat) (ok gone : Bool) (items : List (Nat × Machine.FeedItem))
  /-- R554: A received FEEDREQ makes the active resend items since the standby's last COMMIT. -/
  | feedreq (seq : Nat) (ok : Bool) (first : Nat)
  /-- R554: A received STORECOPY packet carries store pages that the standby programs. -/
  | storecopy (seq : Nat) (ok : Bool) (head : Option (Nat × Nat)) (ctxs : List (Nat × Machine.Ctx)) (last : Bool)
  /-- R555: A received UPDATE packet carries Ridgeline and lockstep messages between members. -/
  | update (seq : Nat) (ok : Bool) (m : List Byte) (die : Nat)
  /-- R548: A received ACK releases acknowledged packets and firmware buffers. -/
  | mirrorAck (seq : Nat) (ok : Bool)
  /-- R548: When no ACK covers the oldest packet within 100 µs, the sender retransmits from it. -/
  | retransmitTimeout
  /-- R548: A received firmware packet of TYPE 0x80–0xFF is placed in a receive buffer. -/
  | firmwarePacket (seq : Nat) (ok : Bool) (typ : Nat) (body : List Byte)
  /-- R563: A write of MIRROR_FWPOST sends a firmware buffer. -/
  | fwpost (v : Word)
  /-- R563: A read of MIRROR_FWRXQ returns a received buffer. -/
  | fwrxqRead
  /-- R563: A write of MIRROR_FWRXQ returns a buffer to the receiver. -/
  | fwrxqReturn (v : Word)
  /-- R571: VIO returning above 1.5 V ends the reset that VIO_LOW began, and at that release the pad ring takes its
  1.8 V or 3.3 V range from VIO. -/
  | vioRestore (compat : Bool) (boot : Nat) (vio33 : Bool)
  /-- R539: 25.6 µs after it starts, a clause 22 MDIO access ends: NET_MDIO.BUSY clears, and for a read DATA holds the
  value read. -/
  | mdioDone (data : Nat)
  /-- R541: A UART finishes shifting out an octet from its TX FIFO, under CTS flow control, and updates TXLVL, TXBUSY
  and the TX-empty interrupt. -/
  | uartTxOctet (u : Nat) (cts : Bool)
  /-- R556: The active member receives a DIV packet, takes a landing slot, maps the NETTIME to its own trunk count and
  presents the copy to its MAC, or drops it and counts DIVDROP. -/
  | divPacket (seq : Nat) (ok : Bool) (nt : Nat) (desc psdu : List Byte)
  /-- R338: The program of a dirty victim page to PAGE completes: its PTE returns to TYPE 1 and the frame becomes
  free, releasing a miss that waits for a free frame. -/
  | pageWritebackDone (n : Nat) (die : DieEnd)
  /-- R501: When a READY has not been received by T − 100 ms in a lockstep activation, the sequence ends in ABORT with
  staging kept. -/
  | readyDeadline
  /-- R538: A debug CWRITE to 0x40 + 0x10 × c + k writes the PC, PSW, DSP or RSP of halted core c, as the debug level
  allows, and otherwise ends FAULT. -/
  | dbgCwriteReg (good : Bool) (a : Nat) (v : Word)
  /-- R538: A probe takes a debug session: SYS_DBGCTL.CONN becomes 1, and DEBUG holds its refusal vote. -/
  | debugSessionOpen
  /-- R538: The probe ends its session: CONN returns to 0, and DEBUG releases its refusal vote. -/
  | debugSessionClose
  deriving DecidableEq, Repr

end Sys2Proof
end

