-- ==== Sys2Proof/Machine/Bits.lean ====
section
/-! DEFINITION. Bit fields, signed readings and byte order. -/

namespace Sys2Proof.Machine
open Sys2Proof

/-- `w` ones. -/
def ones (w : Nat) : Nat := 2 ^ w - 1

/-- Bits `hi` down to `lo` of a natural number. -/
def bitsOf (x hi lo : Nat) : Nat := (x >>> lo) % 2 ^ (hi + 1 - lo)

/-- The word with bits `hi` down to `lo` replaced by `v`. -/
def putBits (x : Word) (hi lo v : Nat) : Word :=
  BitVec.ofNat 32 (x.toNat - (bitsOf x.toNat hi lo) * 2 ^ lo + (v % 2 ^ (hi + 1 - lo)) * 2 ^ lo)

/-- Is bit `n` of `x` set? -/
def bitAt (x n : Nat) : Bool := x.testBit n

/-- The low `w` bits of `x` read as two's complement. -/
def signedOf (w x : Nat) : Int :=
  if x % 2 ^ w < 2 ^ (w - 1) then ((x % 2 ^ w : Nat) : Int) else ((x % 2 ^ w : Nat) : Int) - (2 ^ w : Nat)

/-- The low `w` bits of the two's complement of `i`. -/
def unsignedOf (w : Nat) (i : Int) : Nat := (i % (2 ^ w : Nat)).toNat

/-- Little-endian value of a list of bytes. -/
def leNat : List Byte → Nat
  | [] => 0
  | b :: t => b.toNat + 256 * leNat t

/-- The `n` bytes of `x`, least significant first. -/
def leBytes : Nat → Nat → List Byte
  | 0, _ => []
  | n + 1, x => BitVec.ofNat 8 (x % 256) :: leBytes n (x / 256)

/-- Indexes of the set bits of `x` below `n`, in rising order. -/
def setBits (n x : Nat) : List Nat := (List.range n).filter (fun i => x.testBit i)

/-- Number of bits set below bit `n`. -/
def popBits (n x : Nat) : Nat := (setBits n x).length

/-- `a / b` rounded up. -/
def ceilDiv (a b : Nat) : Nat := (a + b - 1) / b

/-- The compare rule of R373 for an `n`-bit count: has the count reached `v`? -/
def reached (n count v : Nat) : Bool := decide ((count + 2 ^ n - v % 2 ^ n) % 2 ^ n < 2 ^ (n - 1))

/-- The number whose low 32 bits are `v` nearest to `now` under R373: the time a 32-bit field names. -/
def timeOf32 (now v : Nat) : Int := (now : Int) + signedOf 32 ((v + 2 ^ 32 - now % 2 ^ 32) % 2 ^ 32)

end Sys2Proof.Machine
end

