-- ==== Sys2Proof/Machine/Codes.lean ====
section
/-! DEFINITION. The status, result and log codes (R15, R16 and the code table of each chapter). -/

namespace Sys2Proof.Machine.Code

/-- Success (R15). -/
abbrev OK : Nat := 0x00
/-- Frame check failed at the PHY. -/
abbrev CRC_FAIL : Nat := 0x01
/-- Frame lost to a transmit on the same path. -/
abbrev BLINDED : Nat := 0x02
/-- Transmit could not start before its late limit. -/
abbrev TX_LATE : Nat := 0x03
/-- Frame lost to a settle, calibration or tuner search on the same path. -/
abbrev CAL_FROZEN : Nat := 0x04
/-- Transmission aborted by loss of synthesiser lock. -/
abbrev SYN_UNLOCK : Nat := 0x05
/-- Command refused; path in OFF or FAULT. -/
abbrev PATH_UNUSABLE : Nat := 0x06
/-- Carrier outside the current window. -/
abbrev TX_WINDOW : Nat := 0x07
/-- Two commands already held, under R40. -/
abbrev TX_BUSY : Nat := 0x08
/-- Transmission aborted by Loupe under an ABORT mask. -/
abbrev MASK_FAIL : Nat := 0x09
/-- Frame lost to a ray centre change. -/
abbrev RETUNED : Nat := 0x0a
/-- Frame lost to loss of tracking under R104. -/
abbrev SYNC_LOST : Nat := 0x0b
/-- Header check failed. -/
abbrev HDR_FAIL : Nat := 0x0c
/-- PHR holds a reserved value or a length outside the profile's limit. -/
abbrev PHR_BAD : Nat := 0x0d
/-- Frame uses a mode outside the supported subset. -/
abbrev UNSUPP : Nat := 0x0e
/-- Ray left LIVE during the frame. -/
abbrev RAY_LOST : Nat := 0x0f
/-- Frame lost when a swap's HOLD expired. -/
abbrev HOLD_EXP : Nat := 0x10
/-- Frame lost to the loss or shedding of its facet engine context. -/
abbrev FACET_SHED : Nat := 0x11
/-- No free landing slot at the SFD. -/
abbrev LAND_FULL : Nat := 0x12
/-- Preamble detected but no SFD within the timeout. -/
abbrev SFD_TO : Nat := 0x13
/-- RL2 frame longer than 8,000 µs refused under R138. -/
abbrev RL_TOOLONG : Nat := 0x14
/-- Header names a loading table the receiver does not hold. -/
abbrev RL_LTID : Nat := 0x15
/-- S detected; L not located within 400 µs. -/
abbrev RL_NOLOCK : Nat := 0x16
/-- Measured ρ beyond the tolerance of R129. -/
abbrev RL_RATE : Nat := 0x17
/-- Transmission refused during the partner's quiet interval. -/
abbrev RL_QUIET : Nat := 0x18
/-- LOAD frame refused under R141. -/
abbrev RL_BADLOAD : Nat := 0x19
/-- Receive ring full. -/
abbrev RL_RXFULL : Nat := 0x1a
/-- Image structure or length wrong. -/
abbrev PLAN_FORMAT : Nat := 0x1b
/-- Reserved encoding or non-zero reserved byte in the image. -/
abbrev PLAN_RSVD : Nat := 0x1c
/-- Image breaks a hardware rule. -/
abbrev PLAN_RULE : Nat := 0x1d
/-- Plan command refused in the present loader state. -/
abbrev PLAN_STATE : Nat := 0x1e
/-- Transmission refused; occupied band lies in no channel of the active plan. -/
abbrev NO_CHANNEL : Nat := 0x1f
/-- Authentication failed. -/
abbrev MIC_FAIL : Nat := 0x20
/-- Counter equal to the last accepted; acknowledged, not delivered. -/
abbrev DUP : Nat := 0x21
/-- Counter below the last accepted; not acknowledged. -/
abbrev REPLAY : Nat := 0x22
/-- Context limit of 262,144 reached. -/
abbrev CAPACITY : Nat := 0x23
/-- Directory set full. -/
abbrev SET_FULL : Nat := 0x24
/-- Context not resident within the park time. -/
abbrev CTX_LATE : Nat := 0x25
/-- Transmit refused by the dwell limit. -/
abbrev DWELL : Nat := 0x26
/-- Transmit refused by the duty-cycle limit. -/
abbrev DUTY : Nat := 0x27
/-- No directory entry for the source. -/
abbrev UNKNOWN_SRC : Nat := 0x28
/-- Frame for another network or destination. -/
abbrev FOREIGN : Nat := 0x29
/-- Source blocked through MAC_DIRCMD. -/
abbrev BLOCKED : Nat := 0x2a
/-- Frame counter 0xFFFF_FFFF. -/
abbrev FC_EXHAUSTED : Nat := 0x2b
/-- Uncorrectable directory read. -/
abbrev DIR_ECC : Nat := 0x2c
/-- MAC header, length or 802.15.4 feature outside R183 or R214, or a reserved downlink entry. -/
abbrev FMT_BAD : Nat := 0x2d
/-- Acknowledgement not sent for an acknowledgeable frame. -/
abbrev ACK_MISS : Nat := 0x2e
/-- Frame delivered outside its node's group; not acknowledged. -/
abbrev SLOT_MISMATCH : Nat := 0x2f
/-- Cipher engine halted. -/
abbrev CIPHER_DOWN : Nat := 0x30
/-- Join request while JOINOPEN = 0. -/
abbrev JOIN_CLOSED : Nat := 0x31
/-- Downlink not sent by EXPIRY. -/
abbrev DL_EXPIRED : Nat := 0x32
/-- Downlink discarded at eviction. -/
abbrev DL_EVICTED : Nat := 0x33
/-- Downlink for a key with no directory entry. -/
abbrev DL_NOADDR : Nat := 0x34
/-- Listen-before-talk found the channel busy, or came too late. -/
abbrev LBT_BUSY : Nat := 0x35
/-- Listen-before-talk result invalid. -/
abbrev LBT_INVALID : Nat := 0x36
/-- Request overlaps an approved request or window, or RUN = 0. -/
abbrev SEQ_CONFLICT : Nat := 0x37
/-- Event pool exhausted. -/
abbrev WHEEL_FULL : Nat := 0x38
/-- Three consecutive rendezvous missed. -/
abbrev PARTNER_LOST : Nat := 0x39
/-- As PARTNER_LOST, for the time parent. -/
abbrev PARENT_LOST : Nat := 0x3a
/-- Neighbour absent from the active plan. -/
abbrev NB_GONE : Nat := 0x3b
/-- Ridge frame longer than a turn allows. -/
abbrev NOFIT : Nat := 0x3c
/-- Ridge entry not sent by EXPIRY. -/
abbrev RL_EXPIRED : Nat := 0x3d
/-- NETTIME entered holdover. -/
abbrev HOLDOVER : Nat := 0x3e
/-- Time sample rejected. -/
abbrev PPS_REJECT : Nat := 0x3f
/-- Read of a block whose erase is suspended. -/
abbrev BLK_SUSPENDED : Nat := 0x40
/-- Software command aimed at a hardware-managed partition. -/
abbrev PART_LOCKED : Nat := 0x41
/-- JOIN for a key already in the directory. -/
abbrev JOIN_EXISTS : Nat := 0x42
/-- Command for a key with no directory entry. -/
abbrev NO_CTX : Nat := 0x43
/-- Context failed its check or stayed uncorrectable. -/
abbrev CTX_DAMAGED : Nat := 0x44
/-- Outgoing counter reached 0xFFFF_FFFE. -/
abbrev TXFC_EXHAUSTED : Nat := 0x45
/-- Store key absent. -/
abbrev STORE_DOWN : Nat := 0x46
/-- Command ended by the power-fail flush; also logged at an unclean start. -/
abbrev CMD_ABORTED : Nat := 0x47
/-- DMA translation found an absent page. -/
abbrev DMA_ABSENT : Nat := 0x48
/-- DMA access refused by page attributes or the region rules. -/
abbrev DMA_PROT : Nat := 0x49
/-- Uncorrectable memory read. -/
abbrev MEM_UNCORR : Nat := 0x4a
/-- DMA access to an address with no region, or refused as a bus error. -/
abbrev DMA_BUSERR : Nat := 0x4b
/-- Page tag failed at fetch. -/
abbrev PAGE_BADTAG : Nat := 0x4c
/-- Channel ended by ABORT. -/
abbrev DMA_ABORTED : Nat := 0x4d
/-- Region retired to a spare. -/
abbrev MEM_RETIRED : Nat := 0x4e
/-- Lasting error with no spare left. -/
abbrev MEM_NOSPARE : Nat := 0x4f
/-- Read failed at every read-retry set. -/
abbrev NAND_UNCORR : Nat := 0x50
/-- Program failed or timed out; block retired. -/
abbrev PROG_FAIL : Nat := 0x51
/-- Erase failed or timed out; block retired. -/
abbrev ERASE_FAIL : Nat := 0x52
/-- Program or erase of a bad block refused. -/
abbrev BAD_BLOCK : Nat := 0x53
/-- Program or erase of a block whose erase is in progress or suspended. -/
abbrev BLK_BUSY : Nat := 0x54
/-- Page read as erased. -/
abbrev PAGE_ERASED : Nat := 0x55
/-- Corrected-bit count reached EWARN (log only). -/
abbrev CORR_HIGH : Nat := 0x56
/-- Read needed read-retry (log only). -/
abbrev NAND_RETRY : Nat := 0x57
/-- Program or erase time beyond the stage-3 limits (log only). -/
abbrev NAND_SLOW : Nat := 0x58
/-- Block retired (log only). -/
abbrev BLK_RETIRED : Nat := 0x59
/-- Flagged erase completed at start-up (log only). -/
abbrev ERASE_REDONE : Nat := 0x5a
/-- Hardware partition reserve below 64 blocks (log only). -/
abbrev LOW_SPARE : Nat := 0x5b
/-- Hardware partition out of reserve (log only). -/
abbrev STORE_READONLY : Nat := 0x5c
/-- Saddle wake failed twice. -/
abbrev WAKE_FAIL : Nat := 0x60
/-- Wake failed once and succeeded on the retry. -/
abbrev WAKE_RETRY : Nat := 0x61
/-- VIN-fail warning asserted. -/
abbrev VIN_WARN : Nat := 0x62
/-- VIN-fail warning released. -/
abbrev VIN_OK : Nat := 0x63
/-- SYSPLL did not lock after XREF was taken as stable. -/
abbrev XREF_FAIL : Nat := 0x64
/-- Reset taken; data holds the cause under R399. -/
abbrev RESET : Nat := 0x65
/-- Signature verification failed. -/
abbrev SIG_FAIL : Nat := 0x80
/-- Version below the anti-rollback floor. -/
abbrev ROLLBACK : Nat := 0x81
/-- TRNG health or start-up test failed. -/
abbrev TRNG_FAIL : Nat := 0x82
/-- Slot, key hash, identity key, plan public key, identity seed or HUK absent. -/
abbrev KEY_EMPTY : Nat := 0x83
/-- Slot attributes refuse the mode or requester. -/
abbrev KEY_USAGE : Nat := 0x84
/-- Ended or refused by an alarm under R459 or R460. -/
abbrev ZEROISED : Nat := 0x85
/-- AEAD tag or KW integrity check failed. -/
abbrev TAG_FAIL : Nat := 0x86
/-- Public key does not match its OTP hash. -/
abbrev PK_MISMATCH : Nat := 0x87
/-- SIGN reached 64 iterations. -/
abbrev SIGN_LIMIT : Nat := 0x88
/-- Fuse word or pair failed verification. -/
abbrev OTP_FAIL : Nat := 0x89
/-- ROOT_REVOKE set. -/
abbrev REVOKED : Nat := 0x8a
/-- Alarm raised (log only). -/
abbrev ALARM : Nat := 0x8b
/-- Counter already at 64. -/
abbrev ARB_FULL : Nat := 0x8c
/-- Job descriptor refused under R448. -/
abbrev BAD_DESC : Nat := 0x8d
/-- Refused in a refusal state. -/
abbrev UPD_REFUSED : Nat := 0x8e
/-- Staging held by another transfer. -/
abbrev UPD_BUSY : Nat := 0x8f
/-- Head, entry or message outside its format. -/
abbrev UPD_FORMAT : Nat := 0x90
/-- Head for another device. -/
abbrev UPD_TARGET : Nat := 0x91
/-- Block hash mismatch. -/
abbrev UPD_HASH : Nat := 0x92
/-- Host block offset not contiguous. -/
abbrev UPD_OFFSET : Nat := 0x93
/-- Neighbour ignored after three bad blocks. -/
abbrev UPD_BADPEER : Nat := 0x94
/-- Set not newer than staging or the set it would replace. -/
abbrev UPD_OLD : Nat := 0x95
/-- Trial set confirmed (log only). -/
abbrev UPD_CONFIRMED : Nat := 0x96
/-- Trial declined (log only). -/
abbrev UPD_DECLINED : Nat := 0x97
/-- ROM reverted a trial (log only). -/
abbrev UPD_REVERTED : Nat := 0x98
/-- No set boots; recovery entered. -/
abbrev NO_IMAGE : Nat := 0x99
/-- Pair members on different sets. -/
abbrev PAIR_MISMATCH : Nat := 0x9a
/-- Requested test not run by its deadline. -/
abbrev NOT_RUN_BUSY : Nat := 0xa0
/-- Check failed; rerun pending. -/
abbrev BIST_FAIL : Nat := 0xa1
/-- Rerun passed (log only). -/
abbrev BIST_TRANSIENT : Nat := 0xa2
/-- Resource marked unusable (log only). -/
abbrev BIST_UNUSABLE : Nat := 0xa3
/-- Resource reintegrated (log only). -/
abbrev BIST_REINT : Nat := 0xa4
/-- Check aborted under R507. -/
abbrev BIST_ABORTED : Nat := 0xa5
/-- REF check failed twice (log only). -/
abbrev BIST_REFBAD : Nat := 0xa6
/-- A core took FATAL (log only). -/
abbrev CORE_FATAL : Nat := 0xa7
/-- Self-test cycle ended (log only). -/
abbrev CYCLE_DONE : Nat := 0xa8
/-- Entries lost (log only). -/
abbrev LOG_LOST : Nat := 0xa9
/-- Log cleared (log only). -/
abbrev LOG_CLEARED : Nat := 0xaa
/-- Result not yet available. -/
abbrev NOT_READY : Nat := 0xc0
/-- Reserved OP. -/
abbrev HIF_BADOP : Nat := 0xc1
/-- Reserved or out-of-range payload value. -/
abbrev HIF_BADARG : Nat := 0xc2
/-- TAG already held. -/
abbrev HIF_TAGDUP : Nat := 0xc3
/-- RES for a TAG with no command. -/
abbrev HIF_NOTAG : Nat := 0xc4
/-- Host generation changed (log only). -/
abbrev COMPAT_SWITCH : Nat := 0xc5
/-- BOOTSEL 3 read (log only). -/
abbrev BOOTSEL_RSVD : Nat := 0xc6
/-- Transmission refused or ended; member not ACTIVE. -/
abbrev PAIR_STANDBY : Nat := 0xc7
/-- Member took the active role (log only). -/
abbrev PAIR_TAKEOVER : Nat := 0xc8
/-- Heartbeats lost with PAIR_ACT low (log only). -/
abbrev PAIR_LINKLOST : Nat := 0xc9
/-- Both members found ACTIVE (log only). -/
abbrev PAIR_DUAL : Nat := 0xca
/-- Active role released on request (log only). -/
abbrev PAIR_HANDOVER : Nat := 0xcb
/-- Received frame failed its FCS. -/
abbrev NET_FCS : Nat := 0xcc
/-- Received frame dropped; FIFO full. -/
abbrev NET_OVF : Nat := 0xcd

end Sys2Proof.Machine.Code
end

