-- ==== Sys2Proof/Config.lean ====
section
/-! DEFINITION. What the spec leaves open: free values and the constants each device fixes. None has a body, so no
proof can rest on a value; each is named in the assumption log. -/

namespace Sys2Proof

/-- A fresh free value: applied to the counter `State.free`, which every use advances. -/
opaque Config.freeValue : Nat → Nat

/-- The phase of the ST edges against the cycle count, in 1/64 cycle (R391: it bears no fixed relation to any event). -/
opaque Config.stPhase : Nat

/-- ML-DSA-65 verification of FIPS 204: public key, context, message, signature. -/
opaque Config.mldsaVerify : List Byte → List Byte → List Byte → List Byte → Bool

/-- ML-DSA-65 signing of FIPS 204: seed, context, message, random 32 bytes, byte index. -/
opaque Config.mldsaSigByte : List Byte → List Byte → List Byte → List Byte → Nat → Byte

/-- The iterations of the rejection loop that a signature takes. -/
opaque Config.mldsaIter : List Byte → List Byte → List Byte → List Byte → Nat

/-- The signature of 3,309 bytes and the iterations it took. -/
def Config.mldsaSign (seed ctx msg rnd : List Byte) : List Byte × Nat :=
  ((List.range 3309).map (Config.mldsaSigByte seed ctx msg rnd), Config.mldsaIter seed ctx msg rnd)

/-- ML-DSA-65 key generation of FIPS 204: byte of the public key of a 32-byte seed. -/
opaque Config.mldsaPubByte : List Byte → Nat → Byte

/-- The public key of 1,952 bytes. -/
def Config.mldsaPub (seed : List Byte) : List Byte := (List.range 1952).map (Config.mldsaPubByte seed)

/-- The payload modulation of an IL2 frame the device sends: the spec lets it be chosen per frame and states no choice
(R105). By kind of frame: 0 BEACON, 1 GACK, 2 DATA or COMMAND, 3 RAW. -/
opaque Config.sentQpsk : Nat → Bool

/-- RATE of the LOAD, QUIET and keepalive frames a device sends: the spec states none (R132, R284). Taken modulo 3. -/
opaque Config.ctlRate : Nat

/-- The SHR duration of the SUN O-QPSK standard, in cycles (R115, R124). -/
opaque Config.sunShrCycles : Nat

/-- The duration of one of its preamble symbols, in cycles. -/
opaque Config.sunSymCycles : Nat

/-- The duration of its PHR and PSDU in cycles, by RateMode and length (R115). -/
opaque Config.sunPsduCycles : Nat → Nat → Nat

/-- OTP words 0 to 31 (R468): device secrets, serial number and factory trim, programmed at manufacture. -/
opaque Config.otpFab : Nat → BitVec 32

/-- The boot ROM (R330): its contents are not in the spec. -/
opaque Config.romByte : Nat → BitVec 8

/-- The number of the format of the CTX store that its header page holds (R227): the spec gives none. -/
opaque Config.storeFormat : Nat

/-- A byte of the decryption of the identity seed under the derived key (R464): the spec names no mode. -/
opaque Config.seedByte : List Byte → List Byte → Nat → Byte

/-- The identity seed of 32 bytes. -/
def Config.seedDecrypt (key c : List Byte) : List Byte := (List.range 32).map (Config.seedByte key c)

end Sys2Proof
end

