-- ==== Sys2Proof/Machine/State.lean ====
section
/-! DEFINITION. The state of the block as plain data, and the state right after a power-on reset. What a register
shows lives in `State.regs`, keyed by address; what the spec gives the machine beside its registers lives in one
structure per block. -/

namespace Sys2Proof.Machine
open Sys2Proof

/-! ### RF paths (chapter 01) -/

/-- The path states of R34. -/
inductive PathSt where
  | off | startup | syncal | ircal | rx | settle | rxtx | tx | txrx | tune | fault
  deriving DecidableEq, Repr

/-- What a transmission is made of: it fixes the occupied band of R585. -/
inductive TxKind where
  | il1 | il2 (rcode : Nat) | oqpsk | sun | rl1 | rl2 (ncode : Nat)
  | cw | pn9a | pn9b
  deriving DecidableEq, Repr

/-- A transmit command held by a path (R39, R40). Times are in sequencer microseconds. `owner` is 0 for a test
command of RFx_TXCMD and otherwise the number of the sequencer request it carries. `word` is the power-table entry that a
started command goes out on, and `clamped` says that R49 chose it (R177, R179). -/
structure TxCmd where
  owner : Nat := 0
  tstart : Int := 0
  late : Nat := 0
  pidx : Nat := 0
  fofs : Int := 0
  lenUs : Nat := 0
  kind : TxKind := .cw
  mask : Option Nat := none
  started : Bool := false
  first : Int := 0
  word : Nat := 0
  clamped : Bool := false
  deriving DecidableEq, Repr

/-- An interval of the trunk whose samples are replaced with zero, and the cause that R72 reports (R63). -/
structure TrunkMark where
  flag : SampleFlag
  lo : Nat
  hi : Nat
  deriving DecidableEq, Repr

/-- The calibration record a path saves at Saddle entry (R37). -/
structure CalRec where
  iqcorr : Word := 0
  tuntx : Word := 0
  tunrx : Word := 0
  tunstat : Word := 0
  backoff : Bool := false
  calstat : Word := 0
  deriving DecidableEq, Repr

/-- A running energy measurement of a meter (R81): its ray, interval and the cycle its result is ready. -/
structure Meter where
  ray : Nat := 0
  t0 : Nat := 0
  durUs : Nat := 0
  readyAt : Nat := 0
  deriving DecidableEq, Repr

/-- A segment of a mask (R162). -/
structure MaskSeg where
  lo : Int
  hi : Int
  dbc : Int
  abs : Int
  deriving DecidableEq, Repr

/-- A Loupe mask record (R162, R88). -/
structure PlanMask where
  maskid : Nat
  ldec : Nat
  abort : Bool
  refseg : Nat
  segs : List MaskSeg
  deriving DecidableEq, Repr

/-- Loupe on one path (R88): the mask of the frame in the air as its plan gave it, its first chip, the blocks of the frame so
far, whether one failed, when the present block ends, and the consecutive failing frames per mask. -/
structure Loupe where
  mask : Option PlanMask := none
  startAt : Nat := 0
  blocks : Nat := 0
  failed : Bool := false
  streakMask : Nat := 0
  streak : Nat := 0
  nextDue : Nat := 0
  deriving DecidableEq, Repr

/-- One path: what R34–R58 give it beside its registers. Times are in cycles unless the name says otherwise. `openMark` and
`marks` are the present and the past intervals of R63; `airWord` and `airMask` are the power-table entry and the mask of
the frame in the air (R179), `dgain` its
digital gain and `trim` the factory offset added to it, in 0.125 dB (R48); `gapSel` is FEMSEL of the frame before a
back-to-back gap; `tuneUntil` is the sequencer microsecond at which a granted tuner-search window ends. -/
structure RfPath where
  since : Nat := 0
  due : Nat := 0
  held : List TxCmd := []
  pendOff : Bool := false
  winPend : Option Nat := none
  syncReq : Bool := false
  ircReq : Bool := false
  synDueAt : Option Nat := none
  ircDueAt : Option Nat := none
  lockFails : Nat := 0
  centreKHz : Nat := 0
  ifside : Bool := false
  waking : Bool := false
  unfreezeAt : Option Nat := none
  frozenAt : Option Nat := none
  openMark : Option (SampleFlag × Nat) := none
  marks : List TrunkMark := []
  stepDownAt : Option Nat := none
  blindCyc : Nat := 0
  lastEndUs : Int := 0
  gap : Bool := false
  entry : Nat := 0
  airWord : Nat := 0
  airMask : Option PlanMask := none
  gapSel : Bool := false
  dgain : Nat := 0
  trim : Int := 0
  halved : Bool := false
  nextRlAt : Nat := 0
  tunHeld : Option Word := none
  femWritten : Bool := false
  tempAt : Nat := 0
  coefIrr : Nat := 0
  tuneUntil : Option Nat := none
  calRec : Option CalRec := none
  em : Option Meter := none
  seqMeter : Option Meter := none
  loupe : Loupe := {}
  deriving DecidableEq, Repr

/-! ### The band plan (chapter 05) -/

/-- A window record (R160): the window of a path, its side of the intermediate frequency, whether it is the default, its centre. -/
structure PlanWindow where
  path : PathId
  index : Nat
  ifside : Bool
  dflt : Bool
  centreKHz : Nat
  deriving DecidableEq, Repr

/-- A branch record (R160, R64). -/
structure PlanBranch where
  path : PathId
  branch : Nat
  dexp : Nat
  ofsKHz : Int
  deriving DecidableEq, Repr

/-- A ray record (R160): `hop` is its hop sequence. -/
structure PlanRay where
  path : PathId
  ray : Nat
  branch : Nat
  k : Nat
  freq : Nat
  wmask : Nat
  prio : Nat
  hop : Option Nat
  deriving DecidableEq, Repr

/-- A PHY profile; `phy` is 0 IL1, 1 IL2, 2 O-QPSK-2450, 3 SUN-O-QPSK-915, 4 RL1, 5 RL2 (R160). -/
structure PlanProfile where
  profid : Nat := 0
  phy : Nat := 0
  rcode : Nat := 0
  sfexp : Nat := 0
  code : Nat := 0
  pre : Nat := 0
  lockthr : Nat := 0
  lbtthr : Int := 0
  lbtus : Nat := 0
  mask : Nat := 0
  filter : Nat := 0
  ncode : Nat := 0
  deriving DecidableEq, Repr

/-- A facet record (R160). -/
structure PlanFacet where
  facet : Nat
  path : PathId
  ray : Nat
  profid : Nat
  prio : Nat
  deriving DecidableEq, Repr

/-- A power record (R162): the entry word of an index. -/
structure PlanPower where
  path : PathId
  index : Nat
  entry : Nat
  deriving DecidableEq, Repr

/-- A channel record (R162). -/
structure PlanChannel where
  path : PathId
  chan : Nat
  subband : Option Nat
  capidx : Nat
  lo : Nat
  hi : Nat
  dwellMs : Nat
  dwellWin : Nat
  lbt : Bool
  deriving DecidableEq, Repr

/-- A sub-band record (R162, R295). -/
structure PlanSubband where
  path : PathId
  subband : Nat
  duty : Nat
  periodMs : Nat
  lo : Nat
  hi : Nat
  deriving DecidableEq, Repr

/-- A hop sequence record (R162, R291). -/
structure PlanHop where
  hopid : Nat
  path : PathId
  nch : Nat
  base : Nat
  spacing : Nat
  seed : Nat
  hopMs : Nat
  deriving DecidableEq, Repr

/-- A filter record (R162). -/
structure PlanFilter where
  filtid : Nat
  taps : List Int
  deriving DecidableEq, Repr

/-- A neighbour record (R162). -/
structure PlanNeighbour where
  nb : Nat
  path : PathId
  profid : Nat
  ray : Nat
  linkpidx : Nat
  fl : Nat
  deriving DecidableEq, Repr

/-- A tuner record (R162, R54). -/
structure PlanTuner where
  path : PathId
  txser : Nat
  txshn : Nat
  rxser : Nat
  rxshn : Nat
  probeKHz : Int
  deriving DecidableEq, Repr

/-- A parsed plan: the records of the sections of R159. -/
structure Plan where
  planid : Nat := 0
  keyidx : Nat := 0
  arb : Nat := 0
  windows : List PlanWindow := []
  branches : List PlanBranch := []
  rays : List PlanRay := []
  profiles : List PlanProfile := []
  facets : List PlanFacet := []
  power : List PlanPower := []
  channels : List PlanChannel := []
  subbands : List PlanSubband := []
  hops : List PlanHop := []
  masks : List PlanMask := []
  filters : List PlanFilter := []
  neighbours : List PlanNeighbour := []
  tuners : List PlanTuner := []
  deriving DecidableEq, Repr

/-- How far a load has come (R169). -/
inductive LoadPhase where
  | idle
  | waitLattice   -- image and key copied, checks 1 and 2 passed; the lattice engine is to serve check 3
  | checking      -- check 3 passed; checks 4 to 20 run
  deriving DecidableEq, Repr

/-- The plan loader and its two slots (R164, R169). `staging` holds the image as copied, `stagingKey` the public key
of R157, `swapRan` the sequencer microsecond of the last swap. -/
structure PlanState where
  slot0 : Option Plan := none
  slot1 : Option Plan := none
  phase : LoadPhase := .idle
  staging : List Byte := []
  stagingKey : List Byte := []
  loadDue : Nat := 0
  swapAt : Nat := 0
  swapRan : Option Nat := none
  moveS : Bool := false
  moveG : Bool := false
  deriving DecidableEq, Repr

/-! ### Prism (chapter 02) -/

/-- The ray states of R77. -/
inductive RaySt where
  | unused | parked | live | held | shed
  deriving DecidableEq, Repr

/-- What a plan fixes for a ray, with its branch's place (R64–R69). -/
structure RayPar where
  branch : Nat := 0
  dexp : Nat := 0
  ofsKHz : Int := 0
  k : Nat := 0
  fr : Nat := 0
  wmask : Nat := 0
  prio : Nat := 0
  planFr : Nat := 0
  deriving DecidableEq, Repr

/-- A ray. `next` waits for its place: new parameters of a HELD ray, or of a ray that has yet to start (R79, R80);
`removed` says that a HELD ray ends in UNUSED; `tune` is a requested centre and the cycle at which it changes (R75).
`startAt` is the cycle of its last start or flush (R74), `tunes` those of its centre changes, `gone` the past intervals in which
it was not LIVE and `goneAt` the start of the present one (R82). -/
structure Ray where
  st : RaySt := .unused
  par : RayPar := {}
  next : Option RayPar := none
  removed : Bool := false
  holdAt : Nat := 0
  tune : Option (Nat × Nat) := none
  startAt : Option Nat := none
  tunes : List Nat := []
  gone : List (Nat × Nat) := []
  goneAt : Option Nat := none
  deriving DecidableEq, Repr

/-- The noise-probe unit (R86, R87). -/
structure Probe where
  seqOwned : Bool := false
  path : PathId := .s
  ray : Nat := 0
  nb : Nat := 0
  avg : Nat := 0
  starts : Nat := 0
  kept : Nat := 0
  nbins : Nat := 0
  nextAt : Nat := 0
  deriving DecidableEq, Repr

/-- The Prism: the rays of both paths by number, the branches whose last ray was shed, and the order of shedding. -/
structure PrismState where
  raysS : List (Nat × Ray) := []
  raysG : List (Nat × Ray) := []
  branchesS : List PlanBranch := []
  branchesG : List PlanBranch := []
  shedS : List Nat := []
  shedG : List Nat := []
  probe : Option Probe := none
  deriving DecidableEq, Repr

/-! ### Facets (chapter 03) -/

/-- The facet states of R99. -/
inductive FacetSt where
  | unused | idle | search | sync | header | payload | shed
  deriving DecidableEq, Repr

/-- What a plan fixes for a facet (R93, R160). -/
structure FacetAlloc where
  path : PathId := .s
  ray : Nat := 0
  prof : PlanProfile := {}
  prio : Nat := 0
  deriving DecidableEq, Repr

/-- The frame a facet is receiving. Times in cycles; `tstamp` in trunk samples (R66); `det` is its detection (R587), `first` the
time at the land of its first chip after the SFD. -/
structure RxFrame where
  det : Nat := 0
  slot : Option Nat := none
  first : Nat := 0
  tstamp : Nat := 0
  rssi : Int := 0
  fofs : Int := 0
  len : Nat := 0
  qpsk : Bool := false
  rate : Nat := 0
  decided : Nat := 0
  hdrOk : Bool := false
  sfdDue : Nat := 0
  endDue : Nat := 0
  deriving DecidableEq, Repr

/-- A facet. `place` is its engine and context (R96); `pending` is the allocation it takes when an OLD frame ends
(R102; none where the new plan leaves it out); `wait` says that it waits for its context or load (R103). -/
structure Facet where
  st : FacetSt := .unused
  alloc : FacetAlloc := {}
  place : Option (Nat × Nat) := none
  old : Bool := false
  pending : Option FacetAlloc := none
  wait : Bool := false
  frame : Option RxFrame := none
  deriving DecidableEq, Repr

/-- The facet pool and the landing buffer (R118): the free list in order, the done queue in order, and the slots
firmware owns. -/
structure FacetState where
  facets : List (Nat × Facet) := []
  free : List Nat := []
  doneq : List Nat := []
  fw : List Nat := []
  deriving DecidableEq, Repr

/-! ### Time, timers, power, interrupts (chapters 08, 11, 12, 13) -/

/-- The clocks. `now` counts 5 ns since the AON release; `nt` is NETTIME with its 32-bit fraction (R261), so one FT is
2^32; `slewAt` is the cycle of the next slew step (R262); `pll` says that the fabric runs on SYSPLL (R410). -/
structure Clk where
  now : Nat := 0
  pll : Bool := false
  nt : Nat := 0
  slewAt : Nat := 0
  slowOn : Bool := false
  slowcnt : Nat := 0
  deriving DecidableEq, Repr

/-- A SLOWCNT compare (R392). -/
structure SlowCmp where
  armed : Bool := false
  v : Nat := 0
  deriving DecidableEq, Repr

/-- Timers: divider phases of the counters; units whose value was already reached, with the cycle they fire in and
whether LATE (R375); units whose reloaded value is already reached (R382); the cycle each counter last started in and
each output last took an OUT action in; SLOWCNT compares, the last accepted PPS edge, and
the SLOWCNT values recorded at Saddle entry (R377). -/
structure TmrState where
  phase : List (Nat × Nat) := []
  lateNext : List (Nat × (Nat × Bool)) := []
  lateTick : List Nat := []
  started : List (Nat × Nat) := []
  outAt : List (Nat × Nat) := []
  scmp : List (Nat × SlowCmp) := []
  ppsLast : Option Nat := none
  ppsHi : Nat := 0
  saved : List (Nat × Nat) := []
  deriving DecidableEq, Repr

/-- Where the device stands between power off and running (R397, R404–R409). -/
inductive PwrPhase where
  | off          -- VIN below the UVLO threshold
  | softStart    -- rails rising
  | inReset      -- rails good, AON released; a reset is held
  | awake
  | entry        -- from the expiry edge X to the point of no return
  | saddle       -- core rail off
  | wake         -- from W to the first fetch
  deriving DecidableEq, Repr

/-- The power controller beside its registers. `idle` and `holdUntil` are ST edges: the last at which the idle timer was 0,
and the one until which it is held there (R403). `xAt` and `wAt` are the cycles of X and W (R406, R408), a wake
on its retry with `failDetail` 1 for the rail and 2 for the FRC (R409), `alarmAt` the cycle of
an alarm raised in Saddle, `waking` a wake whose sequences still wait for SYSPLL (R410). `xrefAt`
and `pllAt` are the cycles at which XREF counts as stable and at which SYSPLL was last started, `vinAt` when VIN rose. The
pins NRST and VIO and the straps as last sampled stand beside them. -/
structure PwrState where
  phase : PwrPhase := .awake
  idle : Nat := 0
  enterReq : Bool := false
  holdUntil : Nat := 0
  xAt : Nat := 0
  wAt : Nat := 0
  nrstLow : Bool := false
  vioLow : Bool := false
  vioRange33 : Bool := true
  strapCompat : Bool := true
  strapBoot : Nat := 0
  xrefAt : Nat := 20000
  pllAt : Nat := 0
  failDetail : Nat := 0
  alarmAt : Option Nat := none
  waking : Bool := false
  vinAt : Nat := 0
  xrefFailed : Bool := false
  deriving DecidableEq, Repr

/-- An active interrupt source (R363). -/
structure ActiveSrc where
  src : Nat
  prio : Nat
  fast : Bool
  core : CoreId
  deriving DecidableEq, Repr

/-- The interrupt controller beside its registers. `pins` are the input levels of latches 0–25, `stillRose` the cycle at
which STILL last went high (R489), `pairExt` whether the world outside leaves PAIR_ACT high. -/
structure IcuState where
  active : List ActiveSrc := []
  pins : Nat := 0
  stillRose : Option Nat := none
  pairExt : Bool := true
  deriving DecidableEq, Repr

/-! ### The event log (chapter 17) -/

/-- An entry in the layout of R515: `src` holds the block ID in bits 4:0 and the writer in bits 7:5. -/
structure LogEnt where
  slow : Nat := 0
  sub : Nat := 0
  src : Nat := 0
  code : Nat := 0
  aux : Nat := 0
  data : Nat := 0
  deriving DecidableEq, Repr

/-- A queued entry with the cycle it was raised in and its rank among the entries of that cycle (R516). -/
structure LogQ where
  at_ : Nat
  rank : Nat
  ent : LogEnt
  deriving DecidableEq, Repr

/-- The log: the ring by slot, the 16-entry queue, the AON queue of 8, entries lost since the last LOG_LOST entry, and
DATA staged per core (R514–R518). -/
structure LogState where
  ring : List (Nat × LogEnt) := []
  queue : List LogQ := []
  aon : List LogEnt := []
  lostSince : Nat := 0
  wdata : List (Nat × Nat) := []
  deriving DecidableEq, Repr

/-! ### Self-test (chapter 17) -/

/-- Item states (BIST_ITEM.STATE). -/
inductive BistSt where
  | due | pass | rerun | unusable | notRun
  deriving DecidableEq, Repr

/-- One of the 77 items (R505): its state, the code of its last outcome, reruns passed, and for a pending rerun the
cycle it became pending and whether its lateness was logged. -/
structure BistItem where
  st : BistSt := .due
  last : Nat := 0
  transients : Nat := 0
  since : Nat := 0
  lateLogged : Bool := false
  deriving DecidableEq, Repr

/-- Why a check runs (R506, R509, R511, R513). -/
inductive BistWhy where
  | rerun | request | cycle | reint1 | reint2
  deriving DecidableEq, Repr

/-- A check in progress; `ctx` is the engine context a FACENG check borrows. -/
structure BistCheck where
  item : Nat
  why : BistWhy
  endAt : Nat
  ctx : Nat := 0
  deriving DecidableEq, Repr

/-- A granted slice (R506). -/
structure BistSlice where
  path : PathId
  endAt : Nat
  used : Bool := false
  deriving DecidableEq, Repr

/-- Self-test beside its registers. `cycleAt` is the SLOWCNT value at the start of the present cycle, `cycleLen` its
length in ST; `reint` is the check of a reintegration (R511); `req` is the pending request with its deadline in
cycles. -/
structure BistState where
  items : List (Nat × BistItem) := []
  running : Bool := false
  cycleAt : Nat := 0
  cycleLen : Nat := 0
  slice : Option BistSlice := none
  check : Option BistCheck := none
  reint : Option BistCheck := none
  req : Option (Nat × Nat) := none
  deriving DecidableEq, Repr
/-! ### Ridge modem (chapter 04) -/

/-- A LOAD or QUIET frame queued for a neighbour (R140, R142, R145). -/
inductive RidgeCtl where
  | load (ltid : Nat) (codes : List Nat)
  | quiet (dur : Nat) (probe : Bool)
  deriving DecidableEq, Repr

/-- The modem's tables of one neighbour (R139–R145): the transmit table, CUR, the outstanding offer, the last LTID
offered, queued frames, the latest signal estimate, the latest probe of its ray with the cycle it ended, the stored
carrier offset, and the cycle until which the neighbour's quiet interval bars transmission. A table is its LTID and its
loading codes. `tab` is the table COMPUTE built last and `lstat` its SEQ_RLLSTAT (R154). -/
structure RidgeNb where
  tx : Nat × List Nat := (0, [])
  cur : Nat × List Nat := (0, [])
  off : Option (Nat × List Nat) := none
  ltid : Nat := 0
  queued : List RidgeCtl := []
  sig : List Int := []
  probe : Option (List Int × Nat) := none
  fofs : Int := 0
  quietUntil : Nat := 0
  tab : List Nat := []
  lstat : Word := 0
  deriving DecidableEq, Repr

/-- A ridge frame being received (R148): its neighbour and record, TSTAMP of the first S sample or preamble chip, and
its header once decoded. `at_` is the cycle of detection, `endDue` that at which the frame its header describes has left the ray
filter. `lost` is the code it is already lost with. -/
structure RidgeRx where
  recn : Nat
  nb : Nat
  tstamp : Nat
  at_ : Nat
  hdr : Bool := false
  len : Nat := 0
  rate : Nat := 0
  ltid : Nat := 0
  typ : Nat := 0
  endDue : Nat := 0
  lost : Option Nat := none
  deriving DecidableEq, Repr

/-- The ridge modem beside its registers. -/
structure RidgeState where
  nbs : List (Nat × RidgeNb) := []
  rxS : Option RidgeRx := none
  rxG : Option RidgeRx := none
  deriving DecidableEq, Repr


/-! ### Regulatory accounting (chapter 08) -/

/-- The bins of one CHANNEL record with a dwell limit, or of one SUBBAND record (R295): bin length in microseconds and
the microseconds charged to each bin that holds any. -/
structure AcctRec where
  path : PathId
  sub : Bool
  num : Nat
  binUs : Nat
  bins : List (Nat × Nat) := []
  deriving DecidableEq, Repr
/-! ### Leaf MAC (chapter 06) -/

/-- A directory entry (R193). -/
structure DirEnt where
  valid : Bool := false
  key : Nat := 0
  ctx : Nat := 0
  cls : Nat := 0
  pend : Bool := false
  res : Bool := false
  lost : Bool := false
  block : Bool := false
  deriving DecidableEq, Repr

/-- The verdict of R198. -/
inductive MacVerdict where
  | reject (code : Nat)
  | join
  | proceed
  deriving DecidableEq, Repr

/-- Where a frame stands: still arriving, handed over by its facet, parked, or in its MIC check. -/
inductive MacPhase where
  | air | landed | parked | auth
  deriving DecidableEq, Repr

/-- A frame the MAC follows, by landing slot: what its verdict latched (R198) and what its landing gave it. `copy` marks a DIV copy (R556); `evicted`
says that EVICT invalidated the entry it latched (R200); `keyGone` that a REKEY overwrote its key index (R252). -/
structure MacFrame where
  facet : Nat := 0
  phy : Nat := 0
  path : PathId := .s
  verdict : Option MacVerdict := none
  phase : MacPhase := .air
  status : Nat := 0
  len : Nat := 0
  key : Nat := 0
  cls : Nat := 0
  keyIdx : Nat := 0
  ftype : Nat := 0
  ctx : Nat := 0
  pend : Bool := false
  decidedAt : Nat := 0
  evicted : Bool := false
  keyGone : Bool := false
  landAt : Nat := 0
  tstamp : Nat := 0
  copy : Bool := false
  deriving DecidableEq, Repr

/-- An Imm-Ack that waits for its cutoff (R208): `decided` is none until the frame's outcome is known. `short` is the
PAN ID and short source of a PROCEED frame, `ext` the extended source of a JOIN-path frame. -/
structure AckWait where
  slot : Nat
  facet : Nat
  path : PathId
  ray : Nat
  profid : Nat
  tstart : Int
  seq : Nat
  decided : Option Bool := none
  pend : Bool := false
  short : Option Nat := none
  ext : List Byte := []
  dataReq : Bool := false
  deriving DecidableEq, Repr

/-- A join response (R213); `grp` is none where no group's window held the request (R211). -/
structure JoinResp where
  grp : Option Nat
  eui : List Byte
  status : Nat
  deriving DecidableEq, Repr

/-- The GACK record of a group (R205): its schedule record and occurrence, the ACK and PEND bits by position, the join
responses it took, whether it is frozen (R206), whether its GACK was asked for, has ended, and was radiated whole. `at_` is
the cycle of the verdict that gave each position its PEND bit. -/
structure GackRec where
  recn : Nat
  grp : Nat
  gseq : Nat
  npos : Nat
  s0 : Nat
  acks : List Nat := []
  pends : List Nat := []
  at_ : List (Nat × Nat) := []
  frozen : Bool := false
  asked : Bool := false
  ended : Bool := false
  okSent : Bool := false
  jrs : List JoinResp := []
  deriving DecidableEq, Repr

/-- A held Association Response (R211): the extended source. -/
structure AssocHeld where
  path : PathId
  profid : Nat
  ray : Nat
  ext : List Byte
  pan : Nat
  deriving DecidableEq, Repr

/-- A posted downlink entry (R217). `dst` is the destination address of a kind 4 entry as its MHR holds it. -/
structure DlEnt where
  ent : Nat
  kind : Nat
  key : Nat
  grp : Nat
  len : Nat
  expiry : Nat
  dst : List Byte := []
  sending : Bool := false
  deriving DecidableEq, Repr

/-- An open downlink window of a group (R218, R282): its close in SQT, the path, ray, profile and power index of the
group's record, and the directory keys whose PEND bit the GACK carried, in ascending POS. -/
structure DlWin where
  grp : Nat
  path : PathId
  ray : Nat
  profid : Nat
  pidx : Nat
  closeUs : Nat
  keys : List Nat
  deriving DecidableEq, Repr

/-- What an 802.15.4 frame that was acknowledged lets the MAC send after its Imm-Ack (R211, R218). -/
structure AfterAck where
  slot : Nat
  path : PathId
  ray : Nat
  profid : Nat
  ackEndUs : Int
  lbt : Bool
  short : Option Nat
  ext : List Byte
  dataReq : Bool
  deriving DecidableEq, Repr

/-- The leaf MAC beside its registers. `dir` is the directory by 8 × set + way; `badSets` are sets invalidated by an
uncorrectable read and not yet rebuilt (R199). -/
structure MacState where
  dir : List (Nat × DirEnt) := []
  badSets : List Nat := []
  frames : List (Nat × MacFrame) := []
  acks : List AckWait := []
  after : List AfterAck := []
  gacks : List GackRec := []
  jresp : List JoinResp := []
  assoc : List AssocHeld := []
  dlq : List DlEnt := []
  dldone : List (Nat × Nat) := []
  dlwins : List DlWin := []
  bsn : Nat := 0
  deriving DecidableEq, Repr

/-! ### Node contexts and the pager (chapter 07) -/

/-- A resident context: its hot slot, whether it differs from what is durable, the reference bit of the clock sweep
(R232), and the group cycles (GRP, GSEQ) whose prefetch pins it (R231). -/
structure HotCtx where
  slot : Nat := 0
  ctx : Ctx := {}
  dirty : Bool := false
  newer : Bool := false
  ref : Bool := false
  prefetch : List (Nat × Nat) := []
  deriving DecidableEq, Repr

/-- A cluster page (R227, R228): its cluster key and members, and the store sequence number in its spare area. An unscheduled
key is (none, CTX index div 16). -/
structure ClusterPage where
  grp : Option Nat
  sub : Nat
  members : List Nat
  seq : Nat := 0
  deriving DecidableEq, Repr

/-- A context as its cluster page holds it (R229): what it says, and the store key its octets are sealed under. -/
structure StoredCtx where
  ctx : Ctx
  key : List Byte
  deriving DecidableEq, Repr

/-- A copy of the header page (R227); of the two the one with the newer number governs. -/
structure HeaderCopy where
  hseed : Nat
  epoch : Nat
  format : Nat
  seq : Nat
  deriving DecidableEq, Repr

/-- A journal page (R227, R240): the store sequence number in its spare area, its records, and its marks END and CLEAN. -/
structure JournalPage where
  seq : Nat
  recs : List JournalRec
  last : Bool := false
  clean : Bool := false
  deriving DecidableEq, Repr

/-- A commit being programmed (R240, R241, R243): its records, whether it is a flush, and the store sequence number before its
first page. -/
structure JCommit where
  recs : List JournalRec
  flush : Bool := false
  immediate : Bool := false
  startAt : Nat := 0
  pages : Nat := 0
  seq0 : Nat := 0
  deriving DecidableEq, Repr

/-- A command in progress (R249). `names` is the context that its KEY and CLASS had when it was issued. -/
structure PagerCmd where
  op : Nat
  cls : Nat
  key : Nat
  status : Nat
  ctx : Nat
  keyIdx : Nat := 0
  img : Ctx := {}
  names : Option Nat := none
  deriving DecidableEq, Repr

/-- The placement a node had before a MOVE, and the announced group cycles for which it still holds (R249). -/
structure MovedCtx where
  ctx : Nat
  grp : Nat
  pos : Nat
  periodc : Nat
  phasec : Nat
  cycles : List (Nat × Nat)
  deriving DecidableEq, Repr

/-- The pager. `hot` is by context index; `store` holds the durable cluster copies by context index, `pages` the cluster
pages, which are the map from context to page; `jpages` the journal pages not yet released, in the order of their numbers;
`headers` the copies of the header page, the newer last; `storeSeq` the number of the page programmed last. `cold` are contexts that are not
resident and differ from what is durable, as they now stand. `wants` are contexts to fetch, true for a demand fetch.
`resv` are the contexts whose reservation waits; `resvNew` those among them whose first block under a new key is not yet
durable, and `newKeys` those whose new key has not yet been used (R252); `cycles` are the group cycles announced and not yet
frozen. `zeroed` are resident contexts whose slot an alarm zeroised and whose counters are yet to be committed (R258).
`feedHist` are the sent items of the last two commits with their sequence numbers. -/
structure PagerState where
  hot : List (Nat × HotCtx) := []
  store : List (Nat × StoredCtx) := []
  pages : List (Nat × ClusterPage) := []
  jpages : List JournalPage := []
  headers : List HeaderCopy := []
  storeSeq : Nat := 0
  cold : List (Nat × Ctx) := []
  damaged : List Nat := []
  wants : List (Nat × Bool) := []
  cycles : List (Nat × Nat) := []
  hand : Nat := 0
  commit : Option JCommit := none
  nextCommit : Nat := 0
  commitEnd : Nat := 0
  resv : List Nat := []
  resvNew : List Nat := []
  newKeys : List Nat := []
  moved : List MovedCtx := []
  cmd : Option PagerCmd := none
  flushing : Bool := false
  zeroed : List Nat := []
  feedSeq : Nat := 0
  feedOut : List FeedItem := []
  feedHist : List (Nat × FeedItem) := []
  feedExp : Nat := 0
  deriving DecidableEq, Repr

/-! ### Network time and the slot sequencer (chapter 08) -/

/-- What a request sends (R278), and for whom. -/
inductive ReqKind where
  | immAck (slot : Nat)
  | gack (recn : Nat)
  | beacon (recn : Nat)
  | ridge (nb : Nat) (ent : Option Nat) (frame : Nat)
  | downlink (ent : Nat)
  | assoc
  | probe (path : PathId)
  deriving DecidableEq, Repr

/-- A frame request (R278, R294). Times in sequencer microseconds. `lbtDue` is the T0 of its listen interval while it
waits for that measurement (R297); `lbtCyc` the cycle at which a running measurement is ready. `charged` says that its
airtime is in the bins, `askedAt` the cycle it arrived in, `fc` the frame counter it carries,
`carrier` its carrier where that is not the ray's centre. -/
structure TxReq where
  id : Nat := 0
  kind : ReqKind := .assoc
  path : PathId := .s
  ray : Nat := 0
  profid : Nat := 0
  pidx : Nat := 0
  tstart : Int := 0
  late : Nat := 0
  lenUs : Nat := 0
  psdu : List Byte := []
  tx : TxKind := .cw
  mask : Option Nat := none
  chained : Bool := false
  chan : Option Nat := none
  lbtDue : Option Int := none
  lbtReady : Option Nat := none
  charged : Bool := false
  askedAt : Nat := 0
  fc : Nat := 0
  carrier : Option Nat := none
  deriving DecidableEq, Repr

/-- A granted window on a path (R279). -/
structure Grant where
  path : PathId
  fromUs : Nat
  toUs : Nat
  deriving DecidableEq, Repr

/-- An occurrence in progress: its start and whether the uplink window of a GROUP is open (R281); for an RVZ whether
a frame of the partner was met (R287) and how many own turns have been served. -/
structure RecOcc where
  s0 : Nat
  upOpen : Bool := false
  met : Bool := false
  turn : Nat := 0
  quietAt : Option Nat := none
  heard : Option Nat := none
  deriving DecidableEq, Repr

/-- An enabled schedule record (R274): W0–W6, the next occurrence (none after a single one), GSEQ of the next, whether
it was announced, the occurrence in progress, and when the last one ended or, where the record keeps none in progress, ends. -/
structure SchedRec where
  words : List Nat := []
  next : Option Nat := none
  gseq : Nat := 0
  announced : Bool := false
  occ : Option RecOcc := none
  endUs : Option Nat := none
  deriving DecidableEq, Repr

/-- Link states of R288. -/
inductive LinkSt where
  | idle | up | miss1 | miss2 | search | down
  deriving DecidableEq, Repr

/-- The link of a neighbour (R286, R288): its state, tsync, the last half-width, and how many occurrences running were missed. -/
structure Link where
  st : LinkSt := .idle
  tsync : Nat := 0
  h : Nat := 0
  misses : Nat := 0
  srchn : Nat := 0
  deriving DecidableEq, Repr

/-- A posted ridge transmit entry (R285). -/
structure RidgeEnt where
  ent : Nat
  nb : Nat
  rate : Nat
  len : Nat
  expiry : Nat
  sending : Bool := false
  deriving DecidableEq, Repr

/-- The own turn being filled (R284): its record, neighbour and path, the time by which its frames must end, the first
chip of the next frame, and whether a frame was asked for in it. -/
structure TurnState where
  recn : Nat
  nb : Nat
  path : PathId
  endUs : Int
  nextUs : Int
  any : Bool := false
  deriving DecidableEq, Repr

/-- The sequencer beside its registers. `asks` are requests that wait for approval in arrival order, `approved` those
that hold their interval. `ntHi` is the half latched by a read of SEQ_NTLO, `trefHold` says that SEQ_TREFTR was read and
SEQ_TREFNT not yet. `good` counts consecutive samples within PPSWIN, `lastOk` is the cycle of the last accepted sample.
`sample` is a time sample
that waits (R268), `turns` the own turns being filled, `hopAt` the last boundary served of each hop sequence in sequencer
microseconds (R292). `ratio` is R of R265 times 2^32, `spanAt` the cycle and NETTIME at the start of the measured span. -/
structure SeqState where
  recs : List (Nat × SchedRec) := []
  asks : List TxReq := []
  approved : List TxReq := []
  grants : List Grant := []
  nextId : Nat := 1
  links : List (Nat × Link) := []
  ridgeq : List RidgeEnt := []
  ridgeDone : List (Nat × Nat) := []
  ntHi : Nat := 0
  ntHiW : Nat := 0
  trefHold : Bool := false
  good : Nat := 0
  lastOk : Option Nat := none
  ratio : Nat := 26214400000000
  spanAt : Option (Nat × Nat) := none
  savedNt : Option (Nat × Nat) := none
  sample : Option Int := none
  turns : List TurnState := []
  hopAt : List (Nat × Nat) := []
  deriving DecidableEq, Repr


/-! ### NAND store (chapter 14) -/

/-- What a programmed page of a software partition holds: 4,096 data and 64 user spare bytes, or content that the spec
calls undefined (R428, R434). -/
inductive NandPage where
  | data (b : List Byte)
  | undef
  deriving DecidableEq, Repr

/-- An erase in progress or suspended on a plane (R431, R432): its block, since when it runs, and how it will end. `sw`
says that a software command waits for it. -/
structure NandErase where
  block : Nat
  sw : Bool
  runAt : Nat
  suspended : Bool := false
  fail : Bool := false
  us : Nat := 0
  deriving DecidableEq, Repr

/-- A launched software command (R426, R430), and its result once the die has run it. -/
structure NandCmd where
  op : Nat
  block : Nat
  page : Nat
  buf : Nat
  core : CoreId
  started : Bool := false
  status : Nat := 0
  corr : Nat := 0
  retry : Nat := 0
  us : Nat := 0
  deriving DecidableEq, Repr

/-- A copy of the bad-block table (R439): its sequence number, the pages of its block that are programmed, the blocks marked
bad, and those marked at shipment. -/
structure BbtCopy where
  seq : Nat := 0
  used : Nat := 0
  bad : List Nat := []
  factory : List Nat := []
  deriving DecidableEq, Repr

/-- The die and its controller beside the registers. `pages` are the programmed pages of software partitions by row,
`nextPage` the page after the highest programmed one of a block; `bbt0` and `bbt1` are the copies of the bad-block table; `flags` the flag cell
of each plane; `seqOwner`, `seqAt`, `seqOp`, `seqAddr` the launch sequence (R427). Of the hardware partitions (0 CTX,
1 PAGE): `pec` erase counts, `rows` where each live logical page lies, `full` the blocks that are not free, `open_` the
block being filled and its next page. `hotLogged` are blocks whose correction was logged since their last erase (R435),
`slow` blocks ranked most worn (R437), `lowLogged` partitions whose LOW_SPARE was logged, and 2 more those whose STORE_READONLY was (R441). -/
structure NandState where
  pages : List (Nat × NandPage) := []
  nextPage : List (Nat × Nat) := []
  bbt0 : BbtCopy := {}
  bbt1 : BbtCopy := {}
  flags : List (Nat × Nat) := []
  erases : List (Nat × NandErase) := []
  seqOwner : Option CoreId := none
  seqAt : Nat := 0
  seqOp : Nat := 0
  seqAddr : Nat := 0
  cmd : Option NandCmd := none
  pec : List (Nat × Nat) := []
  rowsCtx : List (Nat × Nat) := []
  rowsPage : List (Nat × Nat) := []
  full : List Nat := []
  openCtx : Option (Nat × Nat) := none
  openPage : Option (Nat × Nat) := none
  hotLogged : List Nat := []
  slow : List Nat := []
  lowLogged : List Nat := []
  deriving DecidableEq, Repr

/-! ### Cipher engine, lattice engine and OTP (chapter 15) -/

/-- A key slot (R452): key bytes, none where empty, with its type and attribute word. -/
structure KeySlot where
  key : Option (List Byte) := none
  typ : Nat := 0
  attr : Nat := 0
  deriving DecidableEq, Repr

/-- A job descriptor as the engine read it (R447). -/
structure JobDesc where
  mode : Nat := 0
  slot : Nat := 0
  taglen : Nat := 0
  src : Nat := 0
  dst : Nat := 0
  len : Nat := 0
  aad : Nat := 0
  aadlen : Nat := 0
  ivlen : Nat := 0
  kslot : Nat := 0
  iv : Nat := 0
  tag : Nat := 0
  deriving DecidableEq, Repr

/-- An outstanding job (R451): descriptor address, posting core and, once started, the descriptor and the cycle it started
in. -/
structure CipherJob where
  addr : Nat
  core : CoreId
  run : Option JobDesc := none
  startAt : Nat := 0
  deriving DecidableEq, Repr

/-- The cipher engine. `rng` is the word buffer, `outs` counts conditioner outputs modulo 4, `nextOut` is the cycle of
the next, `testEnd` the end of a start-up test that runs, `restarted` says that KC has written RESTART since the halt,
`seeded` that the mask expanders hold a seed (R455–R457);
`alarmSeen` and `haltSeen` are the flags of R467. -/
structure CipherState where
  keys : List (Nat × KeySlot) := []
  jobs : List CipherJob := []
  doneq : List Nat := []
  rng : List Word := []
  outs : Nat := 0
  nextOut : Nat := 0
  testEnd : Option Nat := none
  restarted : Bool := false
  seeded : Bool := false
  alarmSeen : Bool := false
  haltSeen : Bool := false
  deriving DecidableEq, Repr

/-- A lattice operation (R463): its code, arguments, key hash and measurement register, whether it is the plan
loader's, and the cycle it started in. -/
structure LatOp where
  op : Nat
  args : List Nat
  pkh : Nat := 0
  meas : Nat := 0
  loader : Bool := false
  startAt : Nat := 0
  deriving DecidableEq, Repr

/-- The lattice engine: the running operation, those that wait in arrival order, and the identity seed where the
identity key is held (R464). -/
structure LatState where
  cur : Option LatOp := none
  wait : List LatOp := []
  idKey : Option (List Byte) := none
  deriving DecidableEq, Repr

/-- An OTP command in progress: operation, argument, word index and data. -/
structure OtpCmd where
  op : Nat
  arg : Nat
  word : Nat
  data : Word
  deriving DecidableEq, Repr

/-- The fuses from word 32 up (R468), by word index; the words below are the device's own from manufacture. -/
structure OtpState where
  words : List (Nat × Word) := []
  cmd : Option OtpCmd := none
  deriving DecidableEq, Repr


/-! ### Volac cores (chapter 09) -/

/-- A data or return stack of a bank (R305): the cached entries, top first, and the pointer, base and limit registers. -/
structure Stk where
  cache : List Word := []
  ptr : Word := 0
  base : Word := 0
  lim : Word := 0
  deriving DecidableEq, Repr

/-- A bank (R303). -/
structure Bank where
  d : Stk := {}
  r : Stk := {}
  a : Word := 0
  b : Word := 0
  rc : Word := 0
  la : Word := 0
  lv : Bool := false
  deriving DecidableEq, Repr

/-- What a core does: held in reset, running, in WAIT, idle with no slot in the task bank (R345), or stopped by FATAL
(R326). -/
inductive CoreSt where
  | held | run | wait | idle | fatal
  deriving DecidableEq, Repr

/-- A store on its way out of a core's store buffer (R314): its physical address, width and value. -/
structure BufStore where
  pa : Nat
  w : Width
  v : Word
  deriving DecidableEq, Repr

/-- A core (R303, R323). `repNew` marks a repetition before its first iteration (R322), `sbuf` holds the stores of the
instruction in progress, and `drain` is the cycle by which every buffered store has completed (R331). `ready` is the cycle from which its next instruction can start, `cyc0` the cycle from which
CYCLO counts, `dbgHalt` whether a debug session holds it (R538). -/
structure Core where
  st : CoreSt := .held
  pc : Word := 0
  psw : Word := 0x102
  task : Bank := {}
  kernel : Bank := {}
  fast : Bank := {}
  ecause : Word := 0
  eaddr : Word := 0
  vbase : Word := 0
  crccfg : Word := 0xf
  crcpoly : Word := 0x1021
  fpc : Word := 0
  cychi : Word := 0
  ready : Nat := 0
  cyc0 : Nat := 0
  dbgHalt : Bool := false
  repNew : Bool := false
  sbuf : List BufStore := []
  drain : Nat := 0
  deriving DecidableEq, Repr

/-! ### Task scheduler, page engine, DMA (chapter 10) -/

/-- A task slot (R342): its state by number, its priority, the order in which it became READY, the cycle it was selected
in, the PTE whose page it waits for, and whether a STOP or SLEEP takes it out at the next entry into the task bank
(R343). -/
structure TaskSlot where
  st : Nat := 0
  prio : Nat := 0
  order : Nat := 0
  since : Nat := 0
  waitPte : Nat := 0
  leaving : Bool := false
  deriving DecidableEq, Repr

/-- The scheduler of a core: slots, the slot in the task bank, and the next order number. -/
structure Sched where
  slots : List (Nat × TaskSlot) := []
  cur : Option Nat := none
  stamp : Nat := 0
  deriving DecidableEq, Repr

/-- A resident page of the pool: the PTE that names it and its backing index (R338). -/
structure PoolFrame where
  pte : Nat
  bidx : Nat
  deriving DecidableEq, Repr

/-- A page being fetched (R337): its PTE and backing index, whether it is filled with zeros, whether a kernel bank waits
for it, and its frame once it has one. -/
structure PageFetch where
  pte : Nat
  bidx : Nat
  zero : Bool
  kern : Bool := false
  frame : Option Nat := none
  deriving DecidableEq, Repr

/-- A logical page of the PAGE partition: its 4,096 bytes and the tag programmed with them (R340). -/
structure StorePage where
  bytes : List Byte
  tag : List Byte
  deriving DecidableEq, Repr

/-- The memories that R353 gives spare regions. -/
inductive SpareMem where
  | lc0 | lc1 | kc | landing | fixed | edir | ehot
  deriving DecidableEq, Repr

/-- A translation held in a TLB (R336): of core 0–3 or of DMA (4), its ASID or channel, virtual page, and the level-2
entry with its address. -/
structure TlbEnt where
  owner : Nat
  asid : Nat
  vpn : Nat
  pteAt : Nat
  pte : Nat
  deriving DecidableEq, Repr

/-- The page engine and the memory code beside their registers. `tlb` holds the translations, oldest first; `failed` are
PTEs whose last fetch failed with the CAUSE to report, once per core that waits for it; `evict` is the page an EVICT waits
for; `pins` are the PTEs that PIN holds. `frames` are resident pages by frame, `fetches` and
`writebacks` (frame and page) what is in progress, `hand` the clock hand, `removed` the frames taken from the pool for
good, `store` the PAGE partition by BIDX, `retired` the regions in spares, `poison` lines left poisoned (R352), `scrub`
the scrubber's next line. -/
structure MmuState where
  tlb : List TlbEnt := []
  failed : List (Nat × Nat) := []
  evict : Option Nat := none
  pins : List Nat := []
  frames : List (Nat × PoolFrame) := []
  fetches : List PageFetch := []
  writebacks : List (Nat × PoolFrame) := []
  hand : Nat := 0
  removed : List Nat := []
  store : List (Nat × StorePage) := []
  retired : List (SpareMem × Nat) := []
  poison : List Nat := []
  scrub : Nat := 0
  deriving DecidableEq, Repr

/-- DMA beside its registers: HELD bytes per channel (R350), the PTE a channel waits for, and the channel last granted
per priority (R349). -/
structure DmaState where
  held : List (Nat × List Byte) := []
  wait : List (Nat × Nat) := []
  last : List (Nat × Nat) := []
  deriving DecidableEq, Repr

/-! ### Firmware update (chapter 16) -/

/-- The update agent's settings (R489). -/
structure UpdSettings where
  vmin : Nat := 110
  lock : Bool := false
  hold : Nat := 60
  trials : Nat := 600
  deriving DecidableEq, Repr

/-- The stream in staging (R482, R488, R494): SETID, SETVER and block counts of its verified head, the bytes received, and
the verified blocks held from index 0. -/
structure Stage where
  setid : List Byte := []
  setver : Nat := 0
  nh : Nat := 0
  nlist : Nat := 0
  ndata : Nat := 0
  bytes : List Byte := []
  have_ : Nat := 0
  deriving DecidableEq, Repr

/-- What a neighbour announced (R490), and how requests to it went (R493): the SETID of each block that failed its hash, own
turns without a fragment, the SETIDs it is ignored for, and the FRAG asked of it (0: none yet). -/
structure RlPeer where
  setid : List Byte := []
  setver : Nat := 0
  ntotal : Nat := 0
  have_ : Nat := 0
  fails : List (List Byte) := []
  idle : Nat := 0
  ignored : List (List Byte) := []
  frag : Nat := 0
  deriving DecidableEq, Repr

/-- A REQUEST held from a neighbour (R490, R492). -/
structure RlReq where
  setid : List Byte
  from_ : Nat
  credit : Nat
  frag : Nat
  deriving DecidableEq, Repr

/-- The lockstep sequence of a pair (R501): SETID, reset time in sequencer µs, whether this member started it, who is
READY, and who is HEALTHY. -/
structure Lockstep where
  setid : List Byte
  t : Nat
  own : Bool
  ready : Bool := false
  peerReady : Bool := false
  trial : Bool := false
  healthy : Bool := false
  peerHealthy : Bool := false
  deriving DecidableEq, Repr

/-- The update agent and the boot ROM beside the UPD registers. `stage` is the staging area; `inHead` the bytes of a new
head from the host and `last` the last accepted host block (R494); `gens` the settings by generation (R499); `peers`, `reqs`
and `src` the Ridgeline transfers (neighbour 32 is the Mirror partner); `rlHead` the blocks of an unverified head from `src`
and `frag` the block being assembled; `out` the messages handed to the ridge queue, oldest first; `annAt` per neighbour the
cycle of the last announcement and the HAVE it told; `lock` the lockstep sequence; `expireAt` the SLOWCNT value at which the
trial timer ends; `dropped` counts messages outside their format. -/
structure UpdState where
  stage : Option Stage := none
  inHead : List Byte := []
  last : Option (Nat × List Byte) := none
  gens : List (Nat × UpdSettings) := []
  peers : List (Nat × RlPeer) := []
  reqs : List (Nat × RlReq) := []
  src : Option Nat := none
  rlHead : List Byte := []
  frag : Option (Nat × List Byte) := none
  out : List (Nat × List Byte) := []
  annAt : List (Nat × (Nat × Nat)) := []
  lock : Option Lockstep := none
  expireAt : Option Nat := none
  dropped : Nat := 0
  deriving DecidableEq, Repr

/-! ### Host ports and the Mirror pair (chapter 18) -/

/-- A HIF slot (R527–R529): its TAG and OP, the status HIF itself completed it with, whether its result is posted and
whether it was read. -/
structure HifSlot where
  tag : Nat
  op : Nat
  len : Nat
  hw : Option Nat := none
  done : Bool := false
  read : Bool := false
  deriving DecidableEq, Repr

/-- A held event (R530): SEQ, ring entry, LOST flag, and whether it was read. -/
structure HifEvent where
  seq : Nat
  ent : Nat
  lost : Bool
  read : Bool := false
  deriving DecidableEq, Repr

/-- HIF beside its registers: slots by number, the accepted slots not yet taken, the events, the Gen-1 window's FIFOs
and update registers (R534, R535), and `resp`, what the last transaction returned to the host. -/
structure HifState where
  slots : List (Nat × HifSlot) := []
  cmdq : List Nat := []
  events : List HifEvent := []
  nextSeq : Nat := 0
  lost : Bool := false
  g1rx : List Nat := []
  g1tx : List Nat := []
  g1irq : Nat := 0
  g1ofs : Nat := 0
  g1len : Nat := 0
  g1done : Option Nat := none
  resp : List Byte := []
  deriving DecidableEq, Repr

/-- NET beside its registers (R539): received frames with their status, the octets of frames taken from NET_RXQ that
DMA has yet to read, transmit lengths and octets, the second in which drops are counted, and the MDIO access. -/
structure NetState where
  rx : List (Nat × List Byte) := []
  rxOut : List Byte := []
  txLens : List Nat := []
  tx : List Byte := []
  sent : List Byte := []
  ovfAt : Option Nat := none
  ovfN : Nat := 0
  mdio : Option (Bool × Nat) := none
  deriving DecidableEq, Repr

/-- A UART beside its registers (R541): received octets with PERR in bit 8 and FERR in bit 9, and octets to send. -/
structure UartState where
  rx : List Nat := []
  tx : List Nat := []
  deriving DecidableEq, Repr

/-- A MIRROR packet (R548); `seq` is 0 for an unsequenced one, `buf` the firmware buffer it was sent from. -/
structure MirPkt where
  typ : Nat
  seq : Nat
  body : MirBody
  buf : Option Nat := none
  deriving DecidableEq, Repr

/-- What the partner's last heartbeat showed (R550). -/
structure PeerBeat where
  role : Nat := 0
  feedLost : Bool := false
  ready : Bool := false
  serial : Nat := 0
  setid : List Byte := []
  setver : Nat := 0
  feed : Nat := 0
  deriving DecidableEq, Repr

/-- MIRROR beside its registers. `txSeq` and `rxSeq` number sequenced packets, `unacked` are those sent and not
acknowledged, with the cycle the oldest was sent in; past 64 of them the rest wait. `wire` is the packet last put on the link;
`session` the nonce value (R549). `beatAt`, `heardAt`, `kickAt`, `roleAt`, `actAt` are cycles: of the next heartbeat, the last
one heard, the last KICK, entry into the role, and the last change of the PAIR_ACT level. `missed` are consecutive misses.
`drives` and `sw` are PAIR_ACT driven low and PAIR_SW high; `solo` the delay of R551 in cycles; `rxFree`, `rxq`, `rxFw` the
receive buffers (free, waiting, firmware's). `copy` says that a store copy runs, `copyNew` the contexts that CONTEXT items
changed since it began; `feedBase` is the feed sequence after the last COMMIT applied (R255). -/
structure MirrorState where
  txSeq : Nat := 0
  rxSeq : Nat := 0
  unacked : List MirPkt := []
  oldestAt : Nat := 0
  wire : Option MirPkt := none
  session : List Byte := []
  beatAt : Nat := 0
  heardAt : Option Nat := none
  missed : Nat := 0
  kickAt : Option Nat := none
  roleAt : Nat := 0
  actAt : Nat := 0
  drives : Bool := false
  sw : Bool := false
  solo : Nat := 0
  peer : Option PeerBeat := none
  rxFree : List Nat := []
  rxq : List (Nat × Nat) := []
  rxFw : List Nat := []
  copy : Bool := false
  copyNew : List Nat := []
  feedBase : Nat := 0
  deriving DecidableEq, Repr


/-! ### The state -/

/-- The block. -/
structure State where
  free : Nat := 0
  regs : List (Nat × Word) := []
  mem : List Host.Cell := []
  clk : Clk := {}
  pwr : PwrState := {}
  tmr : TmrState := {}
  icu : IcuState := {}
  log : LogState := {}
  rfS : RfPath := {}
  rfG : RfPath := {}
  plan : PlanState := {}
  prism : PrismState := {}
  facet : FacetState := {}
  mac : MacState := {}
  bist : BistState := {}
  acct : List AcctRec := []
  pager : PagerState := {}
  seq : SeqState := {}
  ridge : RidgeState := {}
  cipher : CipherState := {}
  lat : LatState := {}
  otp : OtpState := {}
  nand : NandState := {}
  lc0 : Core := {}
  lc1 : Core := {}
  sc : Core := {}
  kc : Core := {}
  tasks : List (Nat × Sched) := []
  mmu : MmuState := {}
  dma : DmaState := {}
  upd : UpdState := {}
  hif : HifState := {}
  net : NetState := {}
  uart0 : UartState := {}
  uart1 : UartState := {}
  mirror : MirrorState := {}
  rdata : Word := 0
  dbgAck : Nat := 0
  dbgData : Word := 0
  txEnds : List (Nat × Nat × Bool) := []
  pending : List Instr := []
  deriving DecidableEq, Repr

/-- Right after power-on reset (R397–R400, R329): the rails are up and the device runs on FRC. KC, the only core released,
is about to fetch from 0 in its kernel bank; every register has its reset value, POR being the cause; the straps were open,
so COMPAT and BOOTSEL read Gen-2 and NORMAL; the TRNG runs its start-up test; the RESET entry waits for the log; no plan is
active, so the whole facet pool is free. Memory lists nothing and no command waits. Registers for which the spec gives no
reset value are 0, and the levels of the latch inputs that idle high are high (DESIGN CHOICE, notes/assumptions). -/
def State.reset : State :=
  { regs := [(0x40000010, 3)],
    icu := { pins := 0x3d00000 },
    log := { queue := [{ at_ := 0, rank := 1, ent := { src := 1, code := 0x65, data := 1 } }] },
    facet := { free := List.range 2048 },
    cipher := { testEnd := some 51200 },
    kc := { st := .run } }

/-- No fault arises in this block: a bus error is an exception or a channel fault (R11), and every command has an
effect. -/
inductive Fault where
  | none_
  deriving DecidableEq, Repr

/-- Refusals. -/
inductive Refusal where
  /-- Raised by an arm of `exec` whose command has no meaning yet. Safe: the model says nothing of it. -/
  | notModelled (mnemonic : String)
  deriving DecidableEq, Repr

end Sys2Proof.Machine
end

