-- ==== Sys2Proof/Machine/RegDefs.lean ====
section
/-! DEFINITION. The addresses of the peripheral registers and the places of their fields (R5, R14 and the
register tables that close each chapter): an address or a field per name of the spec, and nothing else. -/

namespace Sys2Proof.Machine
open Sys2Proof

/-- A field: the address of its register and its bits `hi` down to `lo`. -/
structure Fld where
  addr : Nat
  hi : Nat
  lo : Nat
  deriving DecidableEq, Repr

/-- Window of block SYS (R14). -/
abbrev baseSYS : Nat := 0x40000000
/-- Window of block ICU (R14). -/
abbrev baseICU : Nat := 0x40010000
/-- Window of block TMR (R14). -/
abbrev baseTMR : Nat := 0x40020000
/-- Window of block RFS (R14). -/
abbrev baseRFS : Nat := 0x40030000
/-- Window of block RFG (R14). -/
abbrev baseRFG : Nat := 0x40040000
/-- Window of block PRISM (R14). -/
abbrev basePRISM : Nat := 0x40050000
/-- Window of block FACET (R14). -/
abbrev baseFACET : Nat := 0x40060000
/-- Window of block MAC (R14). -/
abbrev baseMAC : Nat := 0x40070000
/-- Window of block PAGER (R14). -/
abbrev basePAGER : Nat := 0x40080000
/-- Window of block SEQ (R14). -/
abbrev baseSEQ : Nat := 0x40090000
/-- Window of block NAND (R14). -/
abbrev baseNAND : Nat := 0x400a0000
/-- Window of block CIPHER (R14). -/
abbrev baseCIPHER : Nat := 0x400b0000
/-- Window of block LATTICE (R14). -/
abbrev baseLATTICE : Nat := 0x400c0000
/-- Window of block BIST (R14). -/
abbrev baseBIST : Nat := 0x400d0000
/-- Window of block LOG (R14). -/
abbrev baseLOG : Nat := 0x400e0000
/-- Window of block HIF (R14). -/
abbrev baseHIF : Nat := 0x400f0000
/-- Window of block NET (R14). -/
abbrev baseNET : Nat := 0x40100000
/-- Window of block UART (R14). -/
abbrev baseUART : Nat := 0x40110000
/-- Window of block MIRROR (R14). -/
abbrev baseMIRROR : Nat := 0x40120000
/-- Window of block GPIO (R14). -/
abbrev baseGPIO : Nat := 0x40130000
/-- Window of block DMA (R14). -/
abbrev baseDMA : Nat := 0x40140000
/-- Window of block MMU (R14). -/
abbrev baseMMU : Nat := 0x40150000
/-- Window of block OTP (R14). -/
abbrev baseOTP : Nat := 0x40160000
/-- Window of the block of a path: RFS or RFG (R14). -/
def rfBase : PathId → Nat
  | .s => baseRFS
  | .g => baseRFG

/-- BLOCK_CFGSTAT of the block whose window starts at `b` (R9). -/
abbrev CFGSTAT (b : Nat) : Nat := b + 0xffc
abbrev CFGSTAT_CFG_ERR (b : Nat) : Fld := ⟨CFGSTAT b, 31, 16⟩
abbrev CFGSTAT_UNMAP_WR (b : Nat) : Fld := ⟨CFGSTAT b, 1, 1⟩
abbrev CFGSTAT_RSVD_WR (b : Nat) : Fld := ⟨CFGSTAT b, 0, 0⟩

/-! ### RFx registers -/

/-- RFx_CTRL (R62, 01). -/
abbrev RFx_CTRL (p : PathId) : Nat := rfBase p + 0x0
abbrev RFx_CTRL_TUNEREQ (p : PathId) : Fld := ⟨RFx_CTRL p, 7, 7⟩
abbrev RFx_CTRL_IRCREQ (p : PathId) : Fld := ⟨RFx_CTRL p, 6, 6⟩
abbrev RFx_CTRL_SYNCREQ (p : PathId) : Fld := ⟨RFx_CTRL p, 5, 5⟩
abbrev RFx_CTRL_BOFFCLR (p : PathId) : Fld := ⟨RFx_CTRL p, 4, 4⟩
abbrev RFx_CTRL_CNTCLR (p : PathId) : Fld := ⟨RFx_CTRL p, 3, 3⟩
abbrev RFx_CTRL_EN (p : PathId) : Fld := ⟨RFx_CTRL p, 0, 0⟩
/-- RFx_STATE (R62, 01). -/
abbrev RFx_STATE (p : PathId) : Nat := rfBase p + 0x4
abbrev RFx_STATE_WIN (p : PathId) : Fld := ⟨RFx_STATE p, 19, 16⟩
abbrev RFx_STATE_UNUSABLE (p : PathId) : Fld := ⟨RFx_STATE p, 13, 13⟩
abbrev RFx_STATE_BACKOFF (p : PathId) : Fld := ⟨RFx_STATE p, 12, 12⟩
abbrev RFx_STATE_TUNEDUE (p : PathId) : Fld := ⟨RFx_STATE p, 11, 11⟩
abbrev RFx_STATE_IRCDUE (p : PathId) : Fld := ⟨RFx_STATE p, 10, 10⟩
abbrev RFx_STATE_SYNDUE (p : PathId) : Fld := ⟨RFx_STATE p, 9, 9⟩
abbrev RFx_STATE_FROZEN (p : PathId) : Fld := ⟨RFx_STATE p, 8, 8⟩
abbrev RFx_STATE_GAIN (p : PathId) : Fld := ⟨RFx_STATE p, 5, 4⟩
abbrev RFx_STATE_STATE (p : PathId) : Fld := ⟨RFx_STATE p, 3, 0⟩
/-- RFx_WIN (R62, 01). -/
abbrev RFx_WIN (p : PathId) : Nat := rfBase p + 0x8
abbrev RFx_WIN_IFSIDE (p : PathId) : Fld := ⟨RFx_WIN p, 24, 24⟩
abbrev RFx_WIN_LOKHZ (p : PathId) : Fld := ⟨RFx_WIN p, 21, 0⟩
/-- RFx_WINREQ (R62, 01). -/
abbrev RFx_WINREQ (p : PathId) : Nat := rfBase p + 0xc
abbrev RFx_WINREQ_WIN (p : PathId) : Fld := ⟨RFx_WINREQ p, 3, 0⟩
/-- RFx_TXFREQ (R62, 01). -/
abbrev RFx_TXFREQ (p : PathId) : Nat := rfBase p + 0x10
abbrev RFx_TXFREQ_FOFS (p : PathId) : Fld := ⟨RFx_TXFREQ p, 24, 0⟩
/-- RFx_TXSTART (R62, 01). -/
abbrev RFx_TXSTART (p : PathId) : Nat := rfBase p + 0x14
abbrev RFx_TXSTART_TSTART (p : PathId) : Fld := ⟨RFx_TXSTART p, 31, 0⟩
/-- RFx_TXCMD (R62, 01). -/
abbrev RFx_TXCMD (p : PathId) : Nat := rfBase p + 0x18
abbrev RFx_TXCMD_LEN (p : PathId) : Fld := ⟨RFx_TXCMD p, 31, 16⟩
abbrev RFx_TXCMD_IMM (p : PathId) : Fld := ⟨RFx_TXCMD p, 9, 9⟩
abbrev RFx_TXCMD_PIDX (p : PathId) : Fld := ⟨RFx_TXCMD p, 8, 2⟩
abbrev RFx_TXCMD_MODE (p : PathId) : Fld := ⟨RFx_TXCMD p, 1, 0⟩
/-- RFx_TXLATE (R62, 01). -/
abbrev RFx_TXLATE (p : PathId) : Nat := rfBase p + 0x1c
abbrev RFx_TXLATE_LATE (p : PathId) : Fld := ⟨RFx_TXLATE p, 15, 0⟩
/-- RFx_TXSTAT (R62, 01). -/
abbrev RFx_TXSTAT (p : PathId) : Nat := rfBase p + 0x20
abbrev RFx_TXSTAT_UNLOCK_CNT (p : PathId) : Fld := ⟨RFx_TXSTAT p, 31, 24⟩
abbrev RFx_TXSTAT_CLAMP_CNT (p : PathId) : Fld := ⟨RFx_TXSTAT p, 23, 16⟩
abbrev RFx_TXSTAT_TXLATE_CNT (p : PathId) : Fld := ⟨RFx_TXSTAT p, 15, 8⟩
abbrev RFx_TXSTAT_LAST (p : PathId) : Fld := ⟨RFx_TXSTAT p, 7, 0⟩
/-- RFx_GAIN (R62, 01). -/
abbrev RFx_GAIN (p : PathId) : Nat := rfBase p + 0x24
abbrev RFx_GAIN_UPHOLD (p : PathId) : Fld := ⟨RFx_GAIN p, 23, 16⟩
abbrev RFx_GAIN_CLIPTHR (p : PathId) : Fld := ⟨RFx_GAIN p, 11, 4⟩
abbrev RFx_GAIN_MODE (p : PathId) : Fld := ⟨RFx_GAIN p, 2, 0⟩
/-- RFx_IQCORR (R62, 01). -/
abbrev RFx_IQCORR (p : PathId) : Nat := rfBase p + 0x28
abbrev RFx_IQCORR_VALID (p : PathId) : Fld := ⟨RFx_IQCORR p, 31, 31⟩
abbrev RFx_IQCORR_PCORR (p : PathId) : Fld := ⟨RFx_IQCORR p, 27, 16⟩
abbrev RFx_IQCORR_GCORR (p : PathId) : Fld := ⟨RFx_IQCORR p, 11, 0⟩
/-- RFx_CALSTAT (R62, 01). -/
abbrev RFx_CALSTAT (p : PathId) : Nat := rfBase p + 0x2c
abbrev RFx_CALSTAT_TEMP (p : PathId) : Fld := ⟨RFx_CALSTAT p, 31, 24⟩
abbrev RFx_CALSTAT_IRCTEMP (p : PathId) : Fld := ⟨RFx_CALSTAT p, 23, 16⟩
abbrev RFx_CALSTAT_SYNTEMP (p : PathId) : Fld := ⟨RFx_CALSTAT p, 15, 8⟩
abbrev RFx_CALSTAT_IRR (p : PathId) : Fld := ⟨RFx_CALSTAT p, 7, 0⟩
/-- RFx_TUNTX (R62, 01). -/
abbrev RFx_TUNTX (p : PathId) : Nat := rfBase p + 0x30
abbrev RFx_TUNTX_SHN (p : PathId) : Fld := ⟨RFx_TUNTX p, 13, 8⟩
abbrev RFx_TUNTX_SER (p : PathId) : Fld := ⟨RFx_TUNTX p, 5, 0⟩
/-- RFx_TUNRX (R62, 01). -/
abbrev RFx_TUNRX (p : PathId) : Nat := rfBase p + 0x34
abbrev RFx_TUNRX_SHN (p : PathId) : Fld := ⟨RFx_TUNRX p, 13, 8⟩
abbrev RFx_TUNRX_SER (p : PathId) : Fld := ⟨RFx_TUNRX p, 5, 0⟩
/-- RFx_TUNSTAT (R62, 01). -/
abbrev RFx_TUNSTAT (p : PathId) : Nat := rfBase p + 0x38
abbrev RFx_TUNSTAT_BEST_RL (p : PathId) : Fld := ⟨RFx_TUNSTAT p, 23, 16⟩
abbrev RFx_TUNSTAT_SRCHFAIL (p : PathId) : Fld := ⟨RFx_TUNSTAT p, 13, 12⟩
abbrev RFx_TUNSTAT_MARGINAL (p : PathId) : Fld := ⟨RFx_TUNSTAT p, 10, 10⟩
abbrev RFx_TUNSTAT_BACKOFF (p : PathId) : Fld := ⟨RFx_TUNSTAT p, 9, 9⟩
abbrev RFx_TUNSTAT_MISMATCH (p : PathId) : Fld := ⟨RFx_TUNSTAT p, 8, 8⟩
abbrev RFx_TUNSTAT_RL (p : PathId) : Fld := ⟨RFx_TUNSTAT p, 7, 0⟩
/-- RFx_FEMMAP (R62, 01). -/
abbrev RFx_FEMMAP (p : PathId) : Nat := rfBase p + 0x3c
abbrev RFx_FEMMAP_LEAD (p : PathId) : Fld := ⟨RFx_FEMMAP p, 19, 16⟩
abbrev RFx_FEMMAP_TXB (p : PathId) : Fld := ⟨RFx_FEMMAP p, 15, 12⟩
abbrev RFx_FEMMAP_TXA (p : PathId) : Fld := ⟨RFx_FEMMAP p, 11, 8⟩
abbrev RFx_FEMMAP_RX (p : PathId) : Fld := ⟨RFx_FEMMAP p, 7, 4⟩
abbrev RFx_FEMMAP_OFF (p : PathId) : Fld := ⟨RFx_FEMMAP p, 3, 0⟩
/-- RFx_IRQ (R62, 01). -/
abbrev RFx_IRQ (p : PathId) : Nat := rfBase p + 0x40
abbrev RFx_IRQ_FAULT (p : PathId) : Fld := ⟨RFx_IRQ p, 8, 8⟩
abbrev RFx_IRQ_CALDONE (p : PathId) : Fld := ⟨RFx_IRQ p, 7, 7⟩
abbrev RFx_IRQ_UNLOCK (p : PathId) : Fld := ⟨RFx_IRQ p, 6, 6⟩
abbrev RFx_IRQ_SRCHFAIL (p : PathId) : Fld := ⟨RFx_IRQ p, 5, 5⟩
abbrev RFx_IRQ_SRCHDONE (p : PathId) : Fld := ⟨RFx_IRQ p, 4, 4⟩
abbrev RFx_IRQ_MISMATCH (p : PathId) : Fld := ⟨RFx_IRQ p, 3, 3⟩
abbrev RFx_IRQ_TXFAIL (p : PathId) : Fld := ⟨RFx_IRQ p, 2, 2⟩
abbrev RFx_IRQ_TXLATE (p : PathId) : Fld := ⟨RFx_IRQ p, 1, 1⟩
abbrev RFx_IRQ_TXDONE (p : PathId) : Fld := ⟨RFx_IRQ p, 0, 0⟩
/-- RFx_IRQEN (R62, 01). -/
abbrev RFx_IRQEN (p : PathId) : Nat := rfBase p + 0x44
abbrev RFx_IRQEN_EN (p : PathId) : Fld := ⟨RFx_IRQEN p, 8, 0⟩
/-- RFx_BLINDUS (R62, 01). -/
abbrev RFx_BLINDUS (p : PathId) : Nat := rfBase p + 0x48
abbrev RFx_BLINDUS_US (p : PathId) : Fld := ⟨RFx_BLINDUS p, 31, 0⟩
/-- RFx_PTABn (R62, 01). -/
abbrev RFx_PTABn (p : PathId) (n : Nat) : Nat := rfBase p + 0x100 + 0x4 * n
abbrev RFx_PTABn_ENTRY (p : PathId) (n : Nat) : Fld := ⟨RFx_PTABn p n, 31, 0⟩

/-! ### PRISM registers -/

/-- PRISM_CTRL (R92, 02). -/
abbrev PRISM_CTRL : Nat := basePRISM + 0x0
abbrev PRISM_CTRL_CNTCLR : Fld := ⟨PRISM_CTRL, 0, 0⟩
/-- PRISM_BUDS (R92, 02). -/
abbrev PRISM_BUDS : Nat := basePRISM + 0x4
abbrev PRISM_BUDS_ENGOK : Fld := ⟨PRISM_BUDS, 31, 28⟩
abbrev PRISM_BUDS_USED : Fld := ⟨PRISM_BUDS, 27, 16⟩
abbrev PRISM_BUDS_BUDGET : Fld := ⟨PRISM_BUDS, 11, 0⟩
/-- PRISM_BUDG (R92, 02). -/
abbrev PRISM_BUDG : Nat := basePRISM + 0x8
abbrev PRISM_BUDG_ENGOK : Fld := ⟨PRISM_BUDG, 31, 28⟩
abbrev PRISM_BUDG_USED : Fld := ⟨PRISM_BUDG, 27, 16⟩
abbrev PRISM_BUDG_BUDGET : Fld := ⟨PRISM_BUDG, 11, 0⟩
/-- PRISM_SWAPCTL (R92, 02). -/
abbrev PRISM_SWAPCTL : Nat := basePRISM + 0xc
abbrev PRISM_SWAPCTL_HOLD : Fld := ⟨PRISM_SWAPCTL, 11, 0⟩
/-- PRISM_RAYSEL (R92, 02). -/
abbrev PRISM_RAYSEL : Nat := basePRISM + 0x10
abbrev PRISM_RAYSEL_PATH : Fld := ⟨PRISM_RAYSEL, 8, 8⟩
abbrev PRISM_RAYSEL_RAY : Fld := ⟨PRISM_RAYSEL, 7, 0⟩
/-- PRISM_RAYCFG (R92, 02). -/
abbrev PRISM_RAYCFG : Nat := basePRISM + 0x14
abbrev PRISM_RAYCFG_WMASK : Fld := ⟨PRISM_RAYCFG, 31, 16⟩
abbrev PRISM_RAYCFG_PRIO : Fld := ⟨PRISM_RAYCFG, 14, 12⟩
abbrev PRISM_RAYCFG_BRANCH : Fld := ⟨PRISM_RAYCFG, 11, 8⟩
abbrev PRISM_RAYCFG_K : Fld := ⟨PRISM_RAYCFG, 7, 4⟩
abbrev PRISM_RAYCFG_STATE : Fld := ⟨PRISM_RAYCFG, 2, 0⟩
/-- PRISM_RAYFREQ (R92, 02). -/
abbrev PRISM_RAYFREQ : Nat := basePRISM + 0x18
abbrev PRISM_RAYFREQ_FREQ : Fld := ⟨PRISM_RAYFREQ, 31, 0⟩
/-- PRISM_RAYTUNE (R92, 02). -/
abbrev PRISM_RAYTUNE : Nat := basePRISM + 0x1c
abbrev PRISM_RAYTUNE_FREQ : Fld := ⟨PRISM_RAYTUNE, 31, 0⟩
/-- PRISM_EMCMD (R92, 02). -/
abbrev PRISM_EMCMD : Nat := basePRISM + 0x20
abbrev PRISM_EMCMD_PATH : Fld := ⟨PRISM_EMCMD, 24, 24⟩
abbrev PRISM_EMCMD_RAY : Fld := ⟨PRISM_EMCMD, 23, 16⟩
abbrev PRISM_EMCMD_DUR : Fld := ⟨PRISM_EMCMD, 15, 0⟩
/-- PRISM_EMSTATS (R92, 02). -/
abbrev PRISM_EMSTATS : Nat := basePRISM + 0x24
abbrev PRISM_EMSTATS_BUSY : Fld := ⟨PRISM_EMSTATS, 31, 31⟩
abbrev PRISM_EMSTATS_VALIDPCT : Fld := ⟨PRISM_EMSTATS, 30, 24⟩
abbrev PRISM_EMSTATS_PEAK : Fld := ⟨PRISM_EMSTATS, 23, 12⟩
abbrev PRISM_EMSTATS_MEAN : Fld := ⟨PRISM_EMSTATS, 11, 0⟩
/-- PRISM_EMSTATG (R92, 02). -/
abbrev PRISM_EMSTATG : Nat := basePRISM + 0x28
abbrev PRISM_EMSTATG_BUSY : Fld := ⟨PRISM_EMSTATG, 31, 31⟩
abbrev PRISM_EMSTATG_VALIDPCT : Fld := ⟨PRISM_EMSTATG, 30, 24⟩
abbrev PRISM_EMSTATG_PEAK : Fld := ⟨PRISM_EMSTATG, 23, 12⟩
abbrev PRISM_EMSTATG_MEAN : Fld := ⟨PRISM_EMSTATG, 11, 0⟩
/-- PRISM_PRBCMD (R92, 02). -/
abbrev PRISM_PRBCMD : Nat := basePRISM + 0x2c
abbrev PRISM_PRBCMD_PATH : Fld := ⟨PRISM_PRBCMD, 24, 24⟩
abbrev PRISM_PRBCMD_RAY : Fld := ⟨PRISM_PRBCMD, 23, 16⟩
abbrev PRISM_PRBCMD_AVG : Fld := ⟨PRISM_PRBCMD, 11, 0⟩
/-- PRISM_PRBSTAT (R92, 02). -/
abbrev PRISM_PRBSTAT : Nat := basePRISM + 0x30
abbrev PRISM_PRBSTAT_BUSY : Fld := ⟨PRISM_PRBSTAT, 31, 31⟩
abbrev PRISM_PRBSTAT_PARTIAL : Fld := ⟨PRISM_PRBSTAT, 30, 30⟩
abbrev PRISM_PRBSTAT_PREEMPT : Fld := ⟨PRISM_PRBSTAT, 29, 29⟩
abbrev PRISM_PRBSTAT_BADRAY : Fld := ⟨PRISM_PRBSTAT, 28, 28⟩
abbrev PRISM_PRBSTAT_OWNER : Fld := ⟨PRISM_PRBSTAT, 27, 27⟩
abbrev PRISM_PRBSTAT_NBINS : Fld := ⟨PRISM_PRBSTAT, 22, 16⟩
abbrev PRISM_PRBSTAT_VALID : Fld := ⟨PRISM_PRBSTAT, 11, 0⟩
/-- PRISM_LOUPES (R92, 02). -/
abbrev PRISM_LOUPES : Nat := basePRISM + 0x34
abbrev PRISM_LOUPES_FAILCNT : Fld := ⟨PRISM_LOUPES, 31, 24⟩
abbrev PRISM_LOUPES_NOVERD : Fld := ⟨PRISM_LOUPES, 23, 16⟩
abbrev PRISM_LOUPES_LASTMASK : Fld := ⟨PRISM_LOUPES, 14, 12⟩
abbrev PRISM_LOUPES_LASTSEG : Fld := ⟨PRISM_LOUPES, 11, 8⟩
abbrev PRISM_LOUPES_EXCESS : Fld := ⟨PRISM_LOUPES, 7, 0⟩
/-- PRISM_LOUPEG (R92, 02). -/
abbrev PRISM_LOUPEG : Nat := basePRISM + 0x38
abbrev PRISM_LOUPEG_FAILCNT : Fld := ⟨PRISM_LOUPEG, 31, 24⟩
abbrev PRISM_LOUPEG_NOVERD : Fld := ⟨PRISM_LOUPEG, 23, 16⟩
abbrev PRISM_LOUPEG_LASTMASK : Fld := ⟨PRISM_LOUPEG, 14, 12⟩
abbrev PRISM_LOUPEG_LASTSEG : Fld := ⟨PRISM_LOUPEG, 11, 8⟩
abbrev PRISM_LOUPEG_EXCESS : Fld := ⟨PRISM_LOUPEG, 7, 0⟩
/-- PRISM_IRQ (R92, 02). -/
abbrev PRISM_IRQ : Nat := basePRISM + 0x3c
abbrev PRISM_IRQ_HOPREF : Fld := ⟨PRISM_IRQ, 7, 7⟩
abbrev PRISM_IRQ_HOLDEXP : Fld := ⟨PRISM_IRQ, 6, 6⟩
abbrev PRISM_IRQ_SHED : Fld := ⟨PRISM_IRQ, 5, 5⟩
abbrev PRISM_IRQ_LOUPEG : Fld := ⟨PRISM_IRQ, 4, 4⟩
abbrev PRISM_IRQ_LOUPES : Fld := ⟨PRISM_IRQ, 3, 3⟩
abbrev PRISM_IRQ_PRBDONE : Fld := ⟨PRISM_IRQ, 2, 2⟩
abbrev PRISM_IRQ_EMDONEG : Fld := ⟨PRISM_IRQ, 1, 1⟩
abbrev PRISM_IRQ_EMDONES : Fld := ⟨PRISM_IRQ, 0, 0⟩
/-- PRISM_IRQEN (R92, 02). -/
abbrev PRISM_IRQEN : Nat := basePRISM + 0x40
abbrev PRISM_IRQEN_EN : Fld := ⟨PRISM_IRQEN, 7, 0⟩
/-- PRISM_CNT (R92, 02). -/
abbrev PRISM_CNT : Nat := basePRISM + 0x44
abbrev PRISM_CNT_COLL : Fld := ⟨PRISM_CNT, 31, 24⟩
abbrev PRISM_CNT_HOPREF : Fld := ⟨PRISM_CNT, 23, 16⟩
abbrev PRISM_CNT_HOLDEXP : Fld := ⟨PRISM_CNT, 15, 8⟩
abbrev PRISM_CNT_SHED : Fld := ⟨PRISM_CNT, 7, 0⟩
/-- PRISM_PRBn (R92, 02). -/
abbrev PRISM_PRBn (n : Nat) : Nat := basePRISM + 0x100 + 0x4 * n
abbrev PRISM_PRBn_POWER (n : Nat) : Fld := ⟨PRISM_PRBn n, 11, 0⟩

/-! ### FACET registers -/

/-- FACET_CTRL (R125, 03). -/
abbrev FACET_CTRL : Nat := baseFACET + 0x0
abbrev FACET_CTRL_KEEPBAD : Fld := ⟨FACET_CTRL, 1, 1⟩
abbrev FACET_CTRL_CNTCLR : Fld := ⟨FACET_CTRL, 0, 0⟩
/-- FACET_POOL (R125, 03). -/
abbrev FACET_POOL : Nat := baseFACET + 0x4
abbrev FACET_POOL_BUDGET : Fld := ⟨FACET_POOL, 28, 16⟩
abbrev FACET_POOL_USED : Fld := ⟨FACET_POOL, 12, 0⟩
/-- FACET_ENGOK0 (R125, 03). -/
abbrev FACET_ENGOK0 : Nat := baseFACET + 0x8
abbrev FACET_ENGOK0_OK : Fld := ⟨FACET_ENGOK0, 31, 0⟩
/-- FACET_ENGOK1 (R125, 03). -/
abbrev FACET_ENGOK1 : Nat := baseFACET + 0xc
abbrev FACET_ENGOK1_OK : Fld := ⟨FACET_ENGOK1, 31, 0⟩
/-- FACET_SEL (R125, 03). -/
abbrev FACET_SEL : Nat := baseFACET + 0x10
abbrev FACET_SEL_FACET : Fld := ⟨FACET_SEL, 8, 0⟩
/-- FACET_INFO (R125, 03). -/
abbrev FACET_INFO : Nat := baseFACET + 0x14
abbrev FACET_INFO_PRIO : Fld := ⟨FACET_INFO, 18, 16⟩
abbrev FACET_INFO_RAY : Fld := ⟨FACET_INFO, 15, 8⟩
abbrev FACET_INFO_PATH : Fld := ⟨FACET_INFO, 7, 7⟩
abbrev FACET_INFO_PROFILE : Fld := ⟨FACET_INFO, 6, 4⟩
abbrev FACET_INFO_OLD : Fld := ⟨FACET_INFO, 3, 3⟩
abbrev FACET_INFO_STATE : Fld := ⟨FACET_INFO, 2, 0⟩
/-- FACET_PHY (R125, 03). -/
abbrev FACET_PHY : Nat := baseFACET + 0x18
abbrev FACET_PHY_CODE : Fld := ⟨FACET_PHY, 26, 16⟩
abbrev FACET_PHY_PRE : Fld := ⟨FACET_PHY, 9, 8⟩
abbrev FACET_PHY_SFEXP : Fld := ⟨FACET_PHY, 6, 4⟩
abbrev FACET_PHY_RCODE : Fld := ⟨FACET_PHY, 2, 0⟩
/-- FACET_PLACE (R125, 03). -/
abbrev FACET_PLACE : Nat := baseFACET + 0x1c
abbrev FACET_PLACE_LOAD : Fld := ⟨FACET_PLACE, 20, 16⟩
abbrev FACET_PLACE_PLACED : Fld := ⟨FACET_PLACE, 9, 9⟩
abbrev FACET_PLACE_CTX : Fld := ⟨FACET_PLACE, 8, 6⟩
abbrev FACET_PLACE_ENGINE : Fld := ⟨FACET_PLACE, 5, 0⟩
/-- FACET_DONEQ (R125, 03). -/
abbrev FACET_DONEQ : Nat := baseFACET + 0x20
abbrev FACET_DONEQ_VALID : Fld := ⟨FACET_DONEQ, 31, 31⟩
abbrev FACET_DONEQ_SLOT : Fld := ⟨FACET_DONEQ, 10, 0⟩
/-- FACET_LBFREE (R125, 03). -/
abbrev FACET_LBFREE : Nat := baseFACET + 0x24
abbrev FACET_LBFREE_SLOT : Fld := ⟨FACET_LBFREE, 10, 0⟩
/-- FACET_LBSTAT (R125, 03). -/
abbrev FACET_LBSTAT : Nat := baseFACET + 0x28
abbrev FACET_LBSTAT_QUEUED : Fld := ⟨FACET_LBSTAT, 27, 16⟩
abbrev FACET_LBSTAT_FREE : Fld := ⟨FACET_LBSTAT, 11, 0⟩
/-- FACET_LBWATER (R125, 03). -/
abbrev FACET_LBWATER : Nat := baseFACET + 0x2c
abbrev FACET_LBWATER_LOW : Fld := ⟨FACET_LBWATER, 11, 0⟩
/-- FACET_IRQ (R125, 03). -/
abbrev FACET_IRQ : Nat := baseFACET + 0x30
abbrev FACET_IRQ_ENGLOST : Fld := ⟨FACET_IRQ, 6, 6⟩
abbrev FACET_IRQ_HOLDEXP : Fld := ⟨FACET_IRQ, 5, 5⟩
abbrev FACET_IRQ_RESTORED : Fld := ⟨FACET_IRQ, 4, 4⟩
abbrev FACET_IRQ_SHED : Fld := ⟨FACET_IRQ, 3, 3⟩
abbrev FACET_IRQ_LBFULL : Fld := ⟨FACET_IRQ, 2, 2⟩
abbrev FACET_IRQ_LBLOW : Fld := ⟨FACET_IRQ, 1, 1⟩
abbrev FACET_IRQ_DONE : Fld := ⟨FACET_IRQ, 0, 0⟩
/-- FACET_IRQEN (R125, 03). -/
abbrev FACET_IRQEN : Nat := baseFACET + 0x34
abbrev FACET_IRQEN_EN : Fld := ⟨FACET_IRQEN, 6, 0⟩
/-- FACET_CNTn (R125, 03). -/
abbrev FACET_CNTn (n : Nat) : Nat := baseFACET + 0x40 + 0x4 * n
abbrev FACET_CNTn_COUNT (n : Nat) : Fld := ⟨FACET_CNTn n, 31, 0⟩

/-! ### SEQ registers -/

/-- SEQ_RLCFG (R154, 04). -/
abbrev SEQ_RLCFG : Nat := baseSEQ + 0x8000
abbrev SEQ_RLCFG_KEEPBAD : Fld := ⟨SEQ_RLCFG, 9, 9⟩
abbrev SEQ_RLCFG_CNTCLR : Fld := ⟨SEQ_RLCFG, 8, 8⟩
abbrev SEQ_RLCFG_MARGIN : Fld := ⟨SEQ_RLCFG, 3, 0⟩
/-- SEQ_RLTHR (R154, 04). -/
abbrev SEQ_RLTHR : Nat := baseSEQ + 0x8004
abbrev SEQ_RLTHR_T8PSK : Fld := ⟨SEQ_RLTHR, 29, 25⟩
abbrev SEQ_RLTHR_TQPSK : Fld := ⟨SEQ_RLTHR, 24, 20⟩
abbrev SEQ_RLTHR_TBPSK : Fld := ⟨SEQ_RLTHR, 19, 15⟩
abbrev SEQ_RLTHR_TTS2 : Fld := ⟨SEQ_RLTHR, 14, 10⟩
abbrev SEQ_RLTHR_TTS4 : Fld := ⟨SEQ_RLTHR, 9, 5⟩
abbrev SEQ_RLTHR_TTS8 : Fld := ⟨SEQ_RLTHR, 4, 0⟩
/-- SEQ_RLNBSEL (R154, 04). -/
abbrev SEQ_RLNBSEL : Nat := baseSEQ + 0x8008
abbrev SEQ_RLNBSEL_NB : Fld := ⟨SEQ_RLNBSEL, 4, 0⟩
/-- SEQ_RLNB (R154, 04). -/
abbrev SEQ_RLNB : Nat := baseSEQ + 0x800c
abbrev SEQ_RLNB_TXLTID : Fld := ⟨SEQ_RLNB, 19, 16⟩
abbrev SEQ_RLNB_OFFER : Fld := ⟨SEQ_RLNB, 15, 12⟩
abbrev SEQ_RLNB_CUR : Fld := ⟨SEQ_RLNB, 11, 8⟩
abbrev SEQ_RLNB_NCODE : Fld := ⟨SEQ_RLNB, 4, 3⟩
abbrev SEQ_RLNB_PATH : Fld := ⟨SEQ_RLNB, 2, 2⟩
abbrev SEQ_RLNB_PHY : Fld := ⟨SEQ_RLNB, 1, 1⟩
abbrev SEQ_RLNB_VALID : Fld := ⟨SEQ_RLNB, 0, 0⟩
/-- SEQ_RLFOFS (R154, 04). -/
abbrev SEQ_RLFOFS : Nat := baseSEQ + 0x8010
abbrev SEQ_RLFOFS_FOFS : Fld := ⟨SEQ_RLFOFS, 31, 0⟩
/-- SEQ_RLCMD (R154, 04). -/
abbrev SEQ_RLCMD : Nat := baseSEQ + 0x8014
abbrev SEQ_RLCMD_OP : Fld := ⟨SEQ_RLCMD, 1, 0⟩
/-- SEQ_RLLSTAT (R154, 04). -/
abbrev SEQ_RLLSTAT : Nat := baseSEQ + 0x8018
abbrev SEQ_RLLSTAT_AGE : Fld := ⟨SEQ_RLLSTAT, 31, 20⟩
abbrev SEQ_RLLSTAT_DONE : Fld := ⟨SEQ_RLLSTAT, 15, 15⟩
abbrev SEQ_RLLSTAT_REFUSED : Fld := ⟨SEQ_RLLSTAT, 14, 14⟩
abbrev SEQ_RLLSTAT_NOEST : Fld := ⟨SEQ_RLLSTAT, 13, 13⟩
abbrev SEQ_RLLSTAT_NOPROBE : Fld := ⟨SEQ_RLLSTAT, 12, 12⟩
abbrev SEQ_RLLSTAT_NOLINK : Fld := ⟨SEQ_RLLSTAT, 11, 11⟩
abbrev SEQ_RLLSTAT_G : Fld := ⟨SEQ_RLLSTAT, 10, 0⟩
/-- SEQ_RLTABn (R154, 04). -/
abbrev SEQ_RLTABn (n : Nat) : Nat := baseSEQ + 0x8020 + 0x4 * n
abbrev SEQ_RLTABn_CODES (n : Nat) : Fld := ⟨SEQ_RLTABn n, 31, 0⟩
/-- SEQ_RLRING0 (R154, 04). -/
abbrev SEQ_RLRING0 : Nat := baseSEQ + 0x8040
abbrev SEQ_RLRING0_BASE : Fld := ⟨SEQ_RLRING0, 31, 12⟩
abbrev SEQ_RLRING0_COUNT : Fld := ⟨SEQ_RLRING0, 5, 0⟩
/-- SEQ_RLRING1 (R154, 04). -/
abbrev SEQ_RLRING1 : Nat := baseSEQ + 0x8044
abbrev SEQ_RLRING1_BASE : Fld := ⟨SEQ_RLRING1, 31, 12⟩
abbrev SEQ_RLRING1_COUNT : Fld := ⟨SEQ_RLRING1, 5, 0⟩
/-- SEQ_RLRXQ0 (R154, 04). -/
abbrev SEQ_RLRXQ0 : Nat := baseSEQ + 0x8048
abbrev SEQ_RLRXQ0_TAIL : Fld := ⟨SEQ_RLRXQ0, 12, 8⟩
abbrev SEQ_RLRXQ0_HEAD : Fld := ⟨SEQ_RLRXQ0, 4, 0⟩
/-- SEQ_RLRXQ1 (R154, 04). -/
abbrev SEQ_RLRXQ1 : Nat := baseSEQ + 0x804c
abbrev SEQ_RLRXQ1_TAIL : Fld := ⟨SEQ_RLRXQ1, 12, 8⟩
abbrev SEQ_RLRXQ1_HEAD : Fld := ⟨SEQ_RLRXQ1, 4, 0⟩
/-- SEQ_RLIRQ (R154, 04). -/
abbrev SEQ_RLIRQ : Nat := baseSEQ + 0x8050
abbrev SEQ_RLIRQ_RXFULL : Fld := ⟨SEQ_RLIRQ, 6, 6⟩
abbrev SEQ_RLIRQ_COMPDONE : Fld := ⟨SEQ_RLIRQ, 5, 5⟩
abbrev SEQ_RLIRQ_LTIDERR : Fld := ⟨SEQ_RLIRQ, 4, 4⟩
abbrev SEQ_RLIRQ_CONFIRM : Fld := ⟨SEQ_RLIRQ, 3, 3⟩
abbrev SEQ_RLIRQ_LOADRX : Fld := ⟨SEQ_RLIRQ, 2, 2⟩
abbrev SEQ_RLIRQ_RXG : Fld := ⟨SEQ_RLIRQ, 1, 1⟩
abbrev SEQ_RLIRQ_RXS : Fld := ⟨SEQ_RLIRQ, 0, 0⟩
/-- SEQ_RLIRQEN (R154, 04). -/
abbrev SEQ_RLIRQEN : Nat := baseSEQ + 0x8054
abbrev SEQ_RLIRQEN_EN : Fld := ⟨SEQ_RLIRQEN, 6, 0⟩
/-- SEQ_RLCNTn (R154, 04). -/
abbrev SEQ_RLCNTn (n : Nat) : Nat := baseSEQ + 0x8080 + 0x4 * n
abbrev SEQ_RLCNTn_COUNT (n : Nat) : Fld := ⟨SEQ_RLCNTn n, 31, 0⟩
/-- SEQ_PLANCMD (R181, 05). -/
abbrev SEQ_PLANCMD : Nat := baseSEQ + 0x9000
abbrev SEQ_PLANCMD_CNTCLR : Fld := ⟨SEQ_PLANCMD, 2, 2⟩
abbrev SEQ_PLANCMD_OP : Fld := ⟨SEQ_PLANCMD, 1, 0⟩
/-- SEQ_PLANADDR (R181, 05). -/
abbrev SEQ_PLANADDR : Nat := baseSEQ + 0x9004
abbrev SEQ_PLANADDR_ADDR : Fld := ⟨SEQ_PLANADDR, 31, 2⟩
/-- SEQ_PLANLEN (R181, 05). -/
abbrev SEQ_PLANLEN : Nat := baseSEQ + 0x9008
abbrev SEQ_PLANLEN_LEN : Fld := ⟨SEQ_PLANLEN, 15, 0⟩
/-- SEQ_PLANAT (R181, 05). -/
abbrev SEQ_PLANAT : Nat := baseSEQ + 0x900c
abbrev SEQ_PLANAT_AT : Fld := ⟨SEQ_PLANAT, 31, 0⟩
/-- SEQ_PLANSTAT (R181, 05). -/
abbrev SEQ_PLANSTAT : Nat := baseSEQ + 0x9010
abbrev SEQ_PLANSTAT_BUSY : Fld := ⟨SEQ_PLANSTAT, 31, 31⟩
abbrev SEQ_PLANSTAT_ARMED : Fld := ⟨SEQ_PLANSTAT, 30, 30⟩
abbrev SEQ_PLANSTAT_FINISH : Fld := ⟨SEQ_PLANSTAT, 29, 29⟩
abbrev SEQ_PLANSTAT_ACTIVE : Fld := ⟨SEQ_PLANSTAT, 28, 28⟩
abbrev SEQ_PLANSTAT_VALID1 : Fld := ⟨SEQ_PLANSTAT, 27, 27⟩
abbrev SEQ_PLANSTAT_VALID0 : Fld := ⟨SEQ_PLANSTAT, 26, 26⟩
abbrev SEQ_PLANSTAT_CHECK : Fld := ⟨SEQ_PLANSTAT, 23, 16⟩
abbrev SEQ_PLANSTAT_STATUS : Fld := ⟨SEQ_PLANSTAT, 7, 0⟩
/-- SEQ_PLANERR (R181, 05). -/
abbrev SEQ_PLANERR : Nat := baseSEQ + 0x9014
abbrev SEQ_PLANERR_OFFSET : Fld := ⟨SEQ_PLANERR, 31, 0⟩
/-- SEQ_PLANID0 (R181, 05). -/
abbrev SEQ_PLANID0 : Nat := baseSEQ + 0x9018
abbrev SEQ_PLANID0_PLANID : Fld := ⟨SEQ_PLANID0, 31, 0⟩
/-- SEQ_PLANID1 (R181, 05). -/
abbrev SEQ_PLANID1 : Nat := baseSEQ + 0x901c
abbrev SEQ_PLANID1_PLANID : Fld := ⟨SEQ_PLANID1, 31, 0⟩
/-- SEQ_PLANIRQ (R181, 05). -/
abbrev SEQ_PLANIRQ : Nat := baseSEQ + 0x9020
abbrev SEQ_PLANIRQ_FINISHED : Fld := ⟨SEQ_PLANIRQ, 3, 3⟩
abbrev SEQ_PLANIRQ_SWAPPED : Fld := ⟨SEQ_PLANIRQ, 2, 2⟩
abbrev SEQ_PLANIRQ_REJECT : Fld := ⟨SEQ_PLANIRQ, 1, 1⟩
abbrev SEQ_PLANIRQ_LOADDONE : Fld := ⟨SEQ_PLANIRQ, 0, 0⟩
/-- SEQ_PLANIRQEN (R181, 05). -/
abbrev SEQ_PLANIRQEN : Nat := baseSEQ + 0x9024
abbrev SEQ_PLANIRQEN_EN : Fld := ⟨SEQ_PLANIRQEN, 3, 0⟩
/-- SEQ_PLANCNT (R181, 05). -/
abbrev SEQ_PLANCNT : Nat := baseSEQ + 0x9028
abbrev SEQ_PLANCNT_SWAPS : Fld := ⟨SEQ_PLANCNT, 23, 16⟩
abbrev SEQ_PLANCNT_REJECTS : Fld := ⟨SEQ_PLANCNT, 15, 8⟩
abbrev SEQ_PLANCNT_LOADS : Fld := ⟨SEQ_PLANCNT, 7, 0⟩
/-- SEQ_PLANPK0 (R181, 05). -/
abbrev SEQ_PLANPK0 : Nat := baseSEQ + 0x902c
abbrev SEQ_PLANPK0_ADDR : Fld := ⟨SEQ_PLANPK0, 31, 2⟩
/-- SEQ_PLANPK1 (R181, 05). -/
abbrev SEQ_PLANPK1 : Nat := baseSEQ + 0x9030
abbrev SEQ_PLANPK1_ADDR : Fld := ⟨SEQ_PLANPK1, 31, 2⟩

/-! ### MAC registers -/

/-- MAC_CTRL (R224, 06). -/
abbrev MAC_CTRL : Nat := baseMAC + 0x0
abbrev MAC_CTRL_CNTCLR : Fld := ⟨MAC_CTRL, 2, 2⟩
abbrev MAC_CTRL_KEEPREJ : Fld := ⟨MAC_CTRL, 1, 1⟩
abbrev MAC_CTRL_EN : Fld := ⟨MAC_CTRL, 0, 0⟩
/-- MAC_NETID (R224, 06). -/
abbrev MAC_NETID : Nat := baseMAC + 0x4
abbrev MAC_NETID_CID : Fld := ⟨MAC_NETID, 31, 16⟩
abbrev MAC_NETID_NETID : Fld := ⟨MAC_NETID, 15, 0⟩
/-- MAC_HSEED (R224, 06). -/
abbrev MAC_HSEED : Nat := baseMAC + 0x8
abbrev MAC_HSEED_HSEED : Fld := ⟨MAC_HSEED, 31, 0⟩
/-- MAC_154ADDR (R224, 06). -/
abbrev MAC_154ADDR : Nat := baseMAC + 0xc
abbrev MAC_154ADDR_SHORT : Fld := ⟨MAC_154ADDR, 31, 16⟩
abbrev MAC_154ADDR_PAN : Fld := ⟨MAC_154ADDR, 15, 0⟩
/-- MAC_154CFG (R224, 06). -/
abbrev MAC_154CFG : Nat := baseMAC + 0x10
abbrev MAC_154CFG_XPEND : Fld := ⟨MAC_154CFG, 24, 24⟩
abbrev MAC_154CFG_DLGAP : Fld := ⟨MAC_154CFG, 19, 8⟩
abbrev MAC_154CFG_ACKCUT : Fld := ⟨MAC_154CFG, 7, 0⟩
/-- MAC_GACKCFG (R224, 06). -/
abbrev MAC_GACKCFG : Nat := baseMAC + 0x14
abbrev MAC_GACKCFG_BUILD : Fld := ⟨MAC_GACKCFG, 11, 0⟩
/-- MAC_KEYSLOT (R224, 06). -/
abbrev MAC_KEYSLOT : Nat := baseMAC + 0x18
abbrev MAC_KEYSLOT_NK : Fld := ⟨MAC_KEYSLOT, 4, 0⟩
/-- MAC_BCNCTL (R224, 06). -/
abbrev MAC_BCNCTL : Nat := baseMAC + 0x1c
abbrev MAC_BCNCTL_BPLEN : Fld := ⟨MAC_BCNCTL, 14, 8⟩
abbrev MAC_BCNCTL_JOINOPEN : Fld := ⟨MAC_BCNCTL, 0, 0⟩
/-- MAC_DIRSTAT (R224, 06). -/
abbrev MAC_DIRSTAT : Nat := baseMAC + 0x20
abbrev MAC_DIRSTAT_LIVE : Fld := ⟨MAC_DIRSTAT, 18, 0⟩
/-- MAC_DIRFULL (R224, 06). -/
abbrev MAC_DIRFULL : Nat := baseMAC + 0x24
abbrev MAC_DIRFULL_FULL : Fld := ⟨MAC_DIRFULL, 16, 0⟩
/-- MAC_DIRKEY (R224, 06). -/
abbrev MAC_DIRKEY : Nat := baseMAC + 0x28
abbrev MAC_DIRKEY_KEY : Fld := ⟨MAC_DIRKEY, 31, 0⟩
/-- MAC_DIRCMD (R224, 06). -/
abbrev MAC_DIRCMD : Nat := baseMAC + 0x2c
abbrev MAC_DIRCMD_CLASS : Fld := ⟨MAC_DIRCMD, 8, 8⟩
abbrev MAC_DIRCMD_OP : Fld := ⟨MAC_DIRCMD, 1, 0⟩
/-- MAC_DIRRES (R224, 06). -/
abbrev MAC_DIRRES : Nat := baseMAC + 0x30
abbrev MAC_DIRRES_BUSY : Fld := ⟨MAC_DIRRES, 31, 31⟩
abbrev MAC_DIRRES_FOUND : Fld := ⟨MAC_DIRRES, 30, 30⟩
abbrev MAC_DIRRES_WAY : Fld := ⟨MAC_DIRRES, 29, 27⟩
abbrev MAC_DIRRES_PEND : Fld := ⟨MAC_DIRRES, 26, 26⟩
abbrev MAC_DIRRES_RES : Fld := ⟨MAC_DIRRES, 25, 25⟩
abbrev MAC_DIRRES_LOST : Fld := ⟨MAC_DIRRES, 24, 24⟩
abbrev MAC_DIRRES_BLOCK : Fld := ⟨MAC_DIRRES, 23, 23⟩
abbrev MAC_DIRRES_FREE : Fld := ⟨MAC_DIRRES, 22, 19⟩
abbrev MAC_DIRRES_SET : Fld := ⟨MAC_DIRRES, 15, 0⟩
/-- MAC_DIRCTX (R224, 06). -/
abbrev MAC_DIRCTX : Nat := baseMAC + 0x34
abbrev MAC_DIRCTX_CTX : Fld := ⟨MAC_DIRCTX, 17, 0⟩
/-- MAC_DLPOOL (R224, 06). -/
abbrev MAC_DLPOOL : Nat := baseMAC + 0x38
abbrev MAC_DLPOOL_BASE : Fld := ⟨MAC_DLPOOL, 31, 10⟩
abbrev MAC_DLPOOL_COUNT : Fld := ⟨MAC_DLPOOL, 9, 0⟩
/-- MAC_DLPOST (R224, 06). -/
abbrev MAC_DLPOST : Nat := baseMAC + 0x3c
abbrev MAC_DLPOST_ENTRY : Fld := ⟨MAC_DLPOST, 8, 0⟩
/-- MAC_DLDONEQ (R224, 06). -/
abbrev MAC_DLDONEQ : Nat := baseMAC + 0x40
abbrev MAC_DLDONEQ_VALID : Fld := ⟨MAC_DLDONEQ, 31, 31⟩
abbrev MAC_DLDONEQ_STATUS : Fld := ⟨MAC_DLDONEQ, 23, 16⟩
abbrev MAC_DLDONEQ_ENTRY : Fld := ⟨MAC_DLDONEQ, 8, 0⟩
/-- MAC_DLSTAT (R224, 06). -/
abbrev MAC_DLSTAT : Nat := baseMAC + 0x44
abbrev MAC_DLSTAT_DONE : Fld := ⟨MAC_DLSTAT, 25, 16⟩
abbrev MAC_DLSTAT_QUEUED : Fld := ⟨MAC_DLSTAT, 9, 0⟩
/-- MAC_JRESPLO (R224, 06). -/
abbrev MAC_JRESPLO : Nat := baseMAC + 0x48
abbrev MAC_JRESPLO_EUI : Fld := ⟨MAC_JRESPLO, 31, 0⟩
/-- MAC_JRESPHI (R224, 06). -/
abbrev MAC_JRESPHI : Nat := baseMAC + 0x4c
abbrev MAC_JRESPHI_EUI : Fld := ⟨MAC_JRESPHI, 31, 0⟩
/-- MAC_JRESPCMD (R224, 06). -/
abbrev MAC_JRESPCMD : Nat := baseMAC + 0x50
abbrev MAC_JRESPCMD_FULL : Fld := ⟨MAC_JRESPCMD, 31, 31⟩
abbrev MAC_JRESPCMD_GRP : Fld := ⟨MAC_JRESPCMD, 15, 8⟩
abbrev MAC_JRESPCMD_STATUS : Fld := ⟨MAC_JRESPCMD, 7, 0⟩
/-- MAC_IRQ (R224, 06). -/
abbrev MAC_IRQ : Nat := baseMAC + 0x54
abbrev MAC_IRQ_JRFULL : Fld := ⟨MAC_IRQ, 8, 8⟩
abbrev MAC_IRQ_CIPHDOWN : Fld := ⟨MAC_IRQ, 7, 7⟩
abbrev MAC_IRQ_DIRECC : Fld := ⟨MAC_IRQ, 6, 6⟩
abbrev MAC_IRQ_ACKMISS : Fld := ⟨MAC_IRQ, 5, 5⟩
abbrev MAC_IRQ_DLDONE : Fld := ⟨MAC_IRQ, 4, 4⟩
abbrev MAC_IRQ_REPLAY : Fld := ⟨MAC_IRQ, 3, 3⟩
abbrev MAC_IRQ_REFUSE : Fld := ⟨MAC_IRQ, 2, 2⟩
abbrev MAC_IRQ_JOIN : Fld := ⟨MAC_IRQ, 1, 1⟩
abbrev MAC_IRQ_DELIV : Fld := ⟨MAC_IRQ, 0, 0⟩
/-- MAC_IRQEN (R224, 06). -/
abbrev MAC_IRQEN : Nat := baseMAC + 0x58
abbrev MAC_IRQEN_EN : Fld := ⟨MAC_IRQEN, 8, 0⟩
/-- MAC_LAT (R224, 06). -/
abbrev MAC_LAT : Nat := baseMAC + 0x5c
abbrev MAC_LAT_MAX : Fld := ⟨MAC_LAT, 15, 8⟩
abbrev MAC_LAT_LAST : Fld := ⟨MAC_LAT, 7, 0⟩
/-- MAC_BCNPAYn (R224, 06). -/
abbrev MAC_BCNPAYn (n : Nat) : Nat := baseMAC + 0x80 + 0x4 * n
abbrev MAC_BCNPAYn_PAY (n : Nat) : Fld := ⟨MAC_BCNPAYn n, 31, 0⟩
/-- MAC_CNTn (R224, 06). -/
abbrev MAC_CNTn (n : Nat) : Nat := baseMAC + 0x100 + 0x4 * n
abbrev MAC_CNTn_COUNT (n : Nat) : Fld := ⟨MAC_CNTn n, 31, 0⟩

/-! ### PAGER registers -/

/-- PAGER_CTRL (R260, 07). -/
abbrev PAGER_CTRL : Nat := basePAGER + 0x0
abbrev PAGER_CTRL_CNTCLR : Fld := ⟨PAGER_CTRL, 0, 0⟩
/-- PAGER_CFG (R260, 07). -/
abbrev PAGER_CFG : Nat := basePAGER + 0x4
abbrev PAGER_CFG_RSVLEAD : Fld := ⟨PAGER_CFG, 31, 24⟩
abbrev PAGER_CFG_JCOMMIT : Fld := ⟨PAGER_CFG, 23, 16⟩
abbrev PAGER_CFG_LOOKAHEAD : Fld := ⟨PAGER_CFG, 11, 0⟩
/-- PAGER_STAT (R260, 07). -/
abbrev PAGER_STAT : Nat := basePAGER + 0x8
abbrev PAGER_STAT_READY : Fld := ⟨PAGER_STAT, 31, 31⟩
abbrev PAGER_STAT_UNCLEAN : Fld := ⟨PAGER_STAT, 30, 30⟩
abbrev PAGER_STAT_STOREDOWN : Fld := ⟨PAGER_STAT, 29, 29⟩
abbrev PAGER_STAT_FLUSHED : Fld := ⟨PAGER_STAT, 28, 28⟩
abbrev PAGER_STAT_FEEDGAP : Fld := ⟨PAGER_STAT, 27, 27⟩
abbrev PAGER_STAT_FEEDLOST : Fld := ⟨PAGER_STAT, 26, 26⟩
abbrev PAGER_STAT_STANDBY : Fld := ⟨PAGER_STAT, 25, 25⟩
abbrev PAGER_STAT_HOT : Fld := ⟨PAGER_STAT, 14, 0⟩
/-- PAGER_CMD (R260, 07). -/
abbrev PAGER_CMD : Nat := basePAGER + 0xc
abbrev PAGER_CMD_CLASS : Fld := ⟨PAGER_CMD, 8, 8⟩
abbrev PAGER_CMD_OP : Fld := ⟨PAGER_CMD, 3, 0⟩
/-- PAGER_RES (R260, 07). -/
abbrev PAGER_RES : Nat := basePAGER + 0x10
abbrev PAGER_RES_BUSY : Fld := ⟨PAGER_RES, 31, 31⟩
abbrev PAGER_RES_OP : Fld := ⟨PAGER_RES, 30, 27⟩
abbrev PAGER_RES_KEYIDX : Fld := ⟨PAGER_RES, 26, 26⟩
abbrev PAGER_RES_STATUS : Fld := ⟨PAGER_RES, 25, 18⟩
abbrev PAGER_RES_CTX : Fld := ⟨PAGER_RES, 17, 0⟩
/-- PAGER_KEY (R260, 07). -/
abbrev PAGER_KEY : Nat := basePAGER + 0x14
abbrev PAGER_KEY_KEY : Fld := ⟨PAGER_KEY, 31, 0⟩
/-- PAGER_EUILO (R260, 07). -/
abbrev PAGER_EUILO : Nat := basePAGER + 0x18
abbrev PAGER_EUILO_EUI : Fld := ⟨PAGER_EUILO, 31, 0⟩
/-- PAGER_EUIHI (R260, 07). -/
abbrev PAGER_EUIHI : Nat := basePAGER + 0x1c
abbrev PAGER_EUIHI_EUI : Fld := ⟨PAGER_EUIHI, 31, 0⟩
/-- PAGER_SCHED (R260, 07). -/
abbrev PAGER_SCHED : Nat := basePAGER + 0x20
abbrev PAGER_SCHED_PHASEC : Fld := ⟨PAGER_SCHED, 31, 25⟩
abbrev PAGER_SCHED_PERIODC : Fld := ⟨PAGER_SCHED, 24, 18⟩
abbrev PAGER_SCHED_GRP : Fld := ⟨PAGER_SCHED, 17, 10⟩
abbrev PAGER_SCHED_POS : Fld := ⟨PAGER_SCHED, 8, 0⟩
/-- PAGER_KEYWn (R260, 07). -/
abbrev PAGER_KEYWn (n : Nat) : Nat := basePAGER + 0x24 + 0x4 * n
abbrev PAGER_KEYWn_KEYW (n : Nat) : Fld := ⟨PAGER_KEYWn n, 31, 0⟩
/-- PAGER_KEYSLOT (R260, 07). -/
abbrev PAGER_KEYSLOT : Nat := basePAGER + 0x34
abbrev PAGER_KEYSLOT_VALID : Fld := ⟨PAGER_KEYSLOT, 5, 5⟩
abbrev PAGER_KEYSLOT_SLOT : Fld := ⟨PAGER_KEYSLOT, 4, 0⟩
/-- PAGER_JSTAT (R260, 07). -/
abbrev PAGER_JSTAT : Nat := basePAGER + 0x38
abbrev PAGER_JSTAT_AGE : Fld := ⟨PAGER_JSTAT, 31, 16⟩
abbrev PAGER_JSTAT_DIRTY : Fld := ⟨PAGER_JSTAT, 14, 0⟩
/-- PAGER_JSEQ (R260, 07). -/
abbrev PAGER_JSEQ : Nat := basePAGER + 0x3c
abbrev PAGER_JSEQ_SEQ : Fld := ⟨PAGER_JSEQ, 31, 0⟩
/-- PAGER_EPOCH (R260, 07). -/
abbrev PAGER_EPOCH : Nat := basePAGER + 0x40
abbrev PAGER_EPOCH_EPOCH : Fld := ⟨PAGER_EPOCH, 31, 0⟩
/-- PAGER_IRQ (R260, 07). -/
abbrev PAGER_IRQ : Nat := basePAGER + 0x44
abbrev PAGER_IRQ_READY : Fld := ⟨PAGER_IRQ, 7, 7⟩
abbrev PAGER_IRQ_STOREDOWN : Fld := ⟨PAGER_IRQ, 6, 6⟩
abbrev PAGER_IRQ_FEEDGAP : Fld := ⟨PAGER_IRQ, 5, 5⟩
abbrev PAGER_IRQ_FLUSHED : Fld := ⟨PAGER_IRQ, 4, 4⟩
abbrev PAGER_IRQ_DAMAGED : Fld := ⟨PAGER_IRQ, 3, 3⟩
abbrev PAGER_IRQ_CTXLATE : Fld := ⟨PAGER_IRQ, 2, 2⟩
abbrev PAGER_IRQ_LOST : Fld := ⟨PAGER_IRQ, 1, 1⟩
abbrev PAGER_IRQ_CMDDONE : Fld := ⟨PAGER_IRQ, 0, 0⟩
/-- PAGER_IRQEN (R260, 07). -/
abbrev PAGER_IRQEN : Nat := basePAGER + 0x48
abbrev PAGER_IRQEN_EN : Fld := ⟨PAGER_IRQEN, 7, 0⟩
/-- PAGER_CNTn (R260, 07). -/
abbrev PAGER_CNTn (n : Nat) : Nat := basePAGER + 0x80 + 0x4 * n
abbrev PAGER_CNTn_COUNT (n : Nat) : Fld := ⟨PAGER_CNTn n, 31, 0⟩
/-- PAGER_CTXn (R260, 07). -/
abbrev PAGER_CTXn (n : Nat) : Nat := basePAGER + 0x100 + 0x4 * n
abbrev PAGER_CTXn_WORD (n : Nat) : Fld := ⟨PAGER_CTXn n, 31, 0⟩

/-! ### SEQ registers -/

/-- SEQ_CTRL (R302, 08). -/
abbrev SEQ_CTRL : Nat := baseSEQ + 0x0
abbrev SEQ_CTRL_CNTCLR : Fld := ⟨SEQ_CTRL, 1, 1⟩
abbrev SEQ_CTRL_RUN : Fld := ⟨SEQ_CTRL, 0, 0⟩
/-- SEQ_STAT (R302, 08). -/
abbrev SEQ_STAT : Nat := baseSEQ + 0x4
abbrev SEQ_STAT_NTVALID : Fld := ⟨SEQ_STAT, 31, 31⟩
abbrev SEQ_STAT_TSTATE : Fld := ⟨SEQ_STAT, 30, 29⟩
abbrev SEQ_STAT_EVENTS : Fld := ⟨SEQ_STAT, 12, 0⟩
/-- SEQ_NTLO (R302, 08). -/
abbrev SEQ_NTLO : Nat := baseSEQ + 0x8
abbrev SEQ_NTLO_NT : Fld := ⟨SEQ_NTLO, 31, 0⟩
/-- SEQ_NTHI (R302, 08). -/
abbrev SEQ_NTHI : Nat := baseSEQ + 0xc
abbrev SEQ_NTHI_NT : Fld := ⟨SEQ_NTHI, 31, 0⟩
/-- SEQ_RATE (R302, 08). -/
abbrev SEQ_RATE : Nat := baseSEQ + 0x10
abbrev SEQ_RATE_RATE : Fld := ⟨SEQ_RATE, 31, 0⟩
/-- SEQ_SLEW (R302, 08). -/
abbrev SEQ_SLEW : Nat := baseSEQ + 0x14
abbrev SEQ_SLEW_SLEW : Fld := ⟨SEQ_SLEW, 31, 0⟩
/-- SEQ_TSRC (R302, 08). -/
abbrev SEQ_TSRC : Nat := baseSEQ + 0x18
abbrev SEQ_TSRC_OFS : Fld := ⟨SEQ_TSRC, 31, 16⟩
abbrev SEQ_TSRC_NB : Fld := ⟨SEQ_TSRC, 6, 2⟩
abbrev SEQ_TSRC_MODE : Fld := ⟨SEQ_TSRC, 1, 0⟩
/-- SEQ_TLOOP (R302, 08). -/
abbrev SEQ_TLOOP : Nat := baseSEQ + 0x1c
abbrev SEQ_TLOOP_LOCKN : Fld := ⟨SEQ_TLOOP, 19, 16⟩
abbrev SEQ_TLOOP_PPSWIN : Fld := ⟨SEQ_TLOOP, 15, 8⟩
abbrev SEQ_TLOOP_KI : Fld := ⟨SEQ_TLOOP, 7, 4⟩
abbrev SEQ_TLOOP_KP : Fld := ⟨SEQ_TLOOP, 3, 0⟩
/-- SEQ_GNSSSEC (R302, 08). -/
abbrev SEQ_GNSSSEC : Nat := baseSEQ + 0x20
abbrev SEQ_GNSSSEC_SEC : Fld := ⟨SEQ_GNSSSEC, 31, 0⟩
/-- SEQ_TERR (R302, 08). -/
abbrev SEQ_TERR : Nat := baseSEQ + 0x24
abbrev SEQ_TERR_E : Fld := ⟨SEQ_TERR, 31, 0⟩
/-- SEQ_SLOWRI (R302, 08). -/
abbrev SEQ_SLOWRI : Nat := baseSEQ + 0x28
abbrev SEQ_SLOWRI_R : Fld := ⟨SEQ_SLOWRI, 31, 0⟩
/-- SEQ_SLOWRF (R302, 08). -/
abbrev SEQ_SLOWRF : Nat := baseSEQ + 0x2c
abbrev SEQ_SLOWRF_R : Fld := ⟨SEQ_SLOWRF, 31, 0⟩
/-- SEQ_TREFTR (R302, 08). -/
abbrev SEQ_TREFTR : Nat := baseSEQ + 0x30
abbrev SEQ_TREFTR_REF : Fld := ⟨SEQ_TREFTR, 31, 0⟩
/-- SEQ_TREFNT (R302, 08). -/
abbrev SEQ_TREFNT : Nat := baseSEQ + 0x34
abbrev SEQ_TREFNT_REF : Fld := ⟨SEQ_TREFNT, 31, 0⟩
/-- SEQ_SLOT (R302, 08). -/
abbrev SEQ_SLOT : Nat := baseSEQ + 0x38
abbrev SEQ_SLOT_LEN : Fld := ⟨SEQ_SLOT, 15, 0⟩
/-- SEQ_WAKECFG (R302, 08). -/
abbrev SEQ_WAKECFG : Nat := baseSEQ + 0x3c
abbrev SEQ_WAKECFG_MINSLEEP : Fld := ⟨SEQ_WAKECFG, 15, 8⟩
abbrev SEQ_WAKECFG_LEAD : Fld := ⟨SEQ_WAKECFG, 7, 0⟩
/-- SEQ_WAKE (R302, 08). -/
abbrev SEQ_WAKE : Nat := baseSEQ + 0x40
abbrev SEQ_WAKE_SLOW : Fld := ⟨SEQ_WAKE, 31, 0⟩
/-- SEQ_RECSEL (R302, 08). -/
abbrev SEQ_RECSEL : Nat := baseSEQ + 0x44
abbrev SEQ_RECSEL_REC : Fld := ⟨SEQ_RECSEL, 8, 0⟩
/-- SEQ_RECCMD (R302, 08). -/
abbrev SEQ_RECCMD : Nat := baseSEQ + 0x48
abbrev SEQ_RECCMD_OP : Fld := ⟨SEQ_RECCMD, 1, 0⟩
/-- SEQ_LINK (R302, 08). -/
abbrev SEQ_LINK : Nat := baseSEQ + 0x4c
abbrev SEQ_LINK_HW : Fld := ⟨SEQ_LINK, 31, 16⟩
abbrev SEQ_LINK_SRCHN : Fld := ⟨SEQ_LINK, 15, 8⟩
abbrev SEQ_LINK_STATE : Fld := ⟨SEQ_LINK, 2, 0⟩
/-- SEQ_SRCHCFG (R302, 08). -/
abbrev SEQ_SRCHCFG : Nat := baseSEQ + 0x50
abbrev SEQ_SRCHCFG_SRCHMAX : Fld := ⟨SEQ_SRCHCFG, 23, 16⟩
abbrev SEQ_SRCHCFG_SRCHEXT : Fld := ⟨SEQ_SRCHCFG, 15, 0⟩
/-- SEQ_TXPOOL (R302, 08). -/
abbrev SEQ_TXPOOL : Nat := baseSEQ + 0x54
abbrev SEQ_TXPOOL_BASE : Fld := ⟨SEQ_TXPOOL, 31, 12⟩
abbrev SEQ_TXPOOL_COUNT : Fld := ⟨SEQ_TXPOOL, 6, 0⟩
/-- SEQ_TXPOST (R302, 08). -/
abbrev SEQ_TXPOST : Nat := baseSEQ + 0x58
abbrev SEQ_TXPOST_ENTRY : Fld := ⟨SEQ_TXPOST, 5, 0⟩
/-- SEQ_TXDONEQ (R302, 08). -/
abbrev SEQ_TXDONEQ : Nat := baseSEQ + 0x5c
abbrev SEQ_TXDONEQ_VALID : Fld := ⟨SEQ_TXDONEQ, 31, 31⟩
abbrev SEQ_TXDONEQ_STATUS : Fld := ⟨SEQ_TXDONEQ, 23, 16⟩
abbrev SEQ_TXDONEQ_ENTRY : Fld := ⟨SEQ_TXDONEQ, 5, 0⟩
/-- SEQ_ACCSEL (R302, 08). -/
abbrev SEQ_ACCSEL : Nat := baseSEQ + 0x60
abbrev SEQ_ACCSEL_KIND : Fld := ⟨SEQ_ACCSEL, 9, 9⟩
abbrev SEQ_ACCSEL_PATH : Fld := ⟨SEQ_ACCSEL, 8, 8⟩
abbrev SEQ_ACCSEL_INDEX : Fld := ⟨SEQ_ACCSEL, 5, 0⟩
/-- SEQ_ACCUSE (R302, 08). -/
abbrev SEQ_ACCUSE : Nat := baseSEQ + 0x64
abbrev SEQ_ACCUSE_US : Fld := ⟨SEQ_ACCUSE, 31, 0⟩
/-- SEQ_ACCLIM (R302, 08). -/
abbrev SEQ_ACCLIM : Nat := baseSEQ + 0x68
abbrev SEQ_ACCLIM_US : Fld := ⟨SEQ_ACCLIM, 31, 0⟩
/-- SEQ_IRQ (R302, 08). -/
abbrev SEQ_IRQ : Nat := baseSEQ + 0x6c
abbrev SEQ_IRQ_PPSREJ : Fld := ⟨SEQ_IRQ, 10, 10⟩
abbrev SEQ_IRQ_REFUSE : Fld := ⟨SEQ_IRQ, 9, 9⟩
abbrev SEQ_IRQ_RECOFF : Fld := ⟨SEQ_IRQ, 8, 8⟩
abbrev SEQ_IRQ_PROBEDONE : Fld := ⟨SEQ_IRQ, 7, 7⟩
abbrev SEQ_IRQ_TXDONE : Fld := ⟨SEQ_IRQ, 6, 6⟩
abbrev SEQ_IRQ_LINKDOWN : Fld := ⟨SEQ_IRQ, 5, 5⟩
abbrev SEQ_IRQ_FOUND : Fld := ⟨SEQ_IRQ, 4, 4⟩
abbrev SEQ_IRQ_PARENTLOST : Fld := ⟨SEQ_IRQ, 3, 3⟩
abbrev SEQ_IRQ_PARTLOST : Fld := ⟨SEQ_IRQ, 2, 2⟩
abbrev SEQ_IRQ_LOCKED : Fld := ⟨SEQ_IRQ, 1, 1⟩
abbrev SEQ_IRQ_HOLDOVER : Fld := ⟨SEQ_IRQ, 0, 0⟩
/-- SEQ_IRQEN (R302, 08). -/
abbrev SEQ_IRQEN : Nat := baseSEQ + 0x70
abbrev SEQ_IRQEN_EN : Fld := ⟨SEQ_IRQEN, 10, 0⟩
/-- SEQ_RECWn (R302, 08). -/
abbrev SEQ_RECWn (n : Nat) : Nat := baseSEQ + 0x80 + 0x4 * n
abbrev SEQ_RECWn_WORD (n : Nat) : Fld := ⟨SEQ_RECWn n, 31, 0⟩
/-- SEQ_CNTn (R302, 08). -/
abbrev SEQ_CNTn (n : Nat) : Nat := baseSEQ + 0x100 + 0x4 * n
abbrev SEQ_CNTn_COUNT (n : Nat) : Fld := ⟨SEQ_CNTn n, 31, 0⟩

/-! ### MMU registers -/

/-- MMU_CTRL (R357, 10). -/
abbrev MMU_CTRL : Nat := baseMMU + 0x0
abbrev MMU_CTRL_CNTCLR : Fld := ⟨MMU_CTRL, 0, 0⟩
/-- MMU_POOL (R357, 10). -/
abbrev MMU_POOL : Nat := baseMMU + 0x4
abbrev MMU_POOL_FREEMIN : Fld := ⟨MMU_POOL, 25, 16⟩
abbrev MMU_POOL_FIRST : Fld := ⟨MMU_POOL, 9, 0⟩
/-- MMU_PSTAT (R357, 10). -/
abbrev MMU_PSTAT : Nat := baseMMU + 0x8
abbrev MMU_PSTAT_DIRTY : Fld := ⟨MMU_PSTAT, 26, 16⟩
abbrev MMU_PSTAT_FREE : Fld := ⟨MMU_PSTAT, 10, 0⟩
/-- MMU_PCMD (R357, 10). -/
abbrev MMU_PCMD : Nat := baseMMU + 0xc
abbrev MMU_PCMD_BUSY : Fld := ⟨MMU_PCMD, 31, 31⟩
abbrev MMU_PCMD_STATUS : Fld := ⟨MMU_PCMD, 23, 16⟩
abbrev MMU_PCMD_CORE : Fld := ⟨MMU_PCMD, 9, 8⟩
abbrev MMU_PCMD_ASID : Fld := ⟨MMU_PCMD, 7, 4⟩
abbrev MMU_PCMD_OP : Fld := ⟨MMU_PCMD, 2, 0⟩
/-- MMU_PADDR (R357, 10). -/
abbrev MMU_PADDR : Nat := baseMMU + 0x10
abbrev MMU_PADDR_VPN : Fld := ⟨MMU_PADDR, 31, 12⟩
/-- MMU_SCRUB (R357, 10). -/
abbrev MMU_SCRUB : Nat := baseMMU + 0x14
abbrev MMU_SCRUB_EN : Fld := ⟨MMU_SCRUB, 8, 8⟩
abbrev MMU_SCRUB_PERIOD : Fld := ⟨MMU_SCRUB, 7, 0⟩
/-- MMU_ECCSTAT (R357, 10). -/
abbrev MMU_ECCSTAT : Nat := baseMMU + 0x18
abbrev MMU_ECCSTAT_RETIRED : Fld := ⟨MMU_ECCSTAT, 31, 24⟩
abbrev MMU_ECCSTAT_UNCORR : Fld := ⟨MMU_ECCSTAT, 23, 16⟩
abbrev MMU_ECCSTAT_CORR : Fld := ⟨MMU_ECCSTAT, 15, 0⟩
/-- MMU_ECCADDR (R357, 10). -/
abbrev MMU_ECCADDR : Nat := baseMMU + 0x1c
abbrev MMU_ECCADDR_LINE : Fld := ⟨MMU_ECCADDR, 31, 4⟩
/-- MMU_KEYSLOT (R357, 10). -/
abbrev MMU_KEYSLOT : Nat := baseMMU + 0x20
abbrev MMU_KEYSLOT_SLOT : Fld := ⟨MMU_KEYSLOT, 4, 0⟩
/-- MMU_IRQ (R357, 10). -/
abbrev MMU_IRQ : Nat := baseMMU + 0x24
abbrev MMU_IRQ_BADTAG : Fld := ⟨MMU_IRQ, 4, 4⟩
abbrev MMU_IRQ_STOREECC : Fld := ⟨MMU_IRQ, 3, 3⟩
abbrev MMU_IRQ_UNCORR : Fld := ⟨MMU_IRQ, 2, 2⟩
abbrev MMU_IRQ_NOSPARE : Fld := ⟨MMU_IRQ, 1, 1⟩
abbrev MMU_IRQ_RETIRED : Fld := ⟨MMU_IRQ, 0, 0⟩
/-- MMU_IRQEN (R357, 10). -/
abbrev MMU_IRQEN : Nat := baseMMU + 0x28
abbrev MMU_IRQEN_EN : Fld := ⟨MMU_IRQEN, 4, 0⟩
/-- MMU_KTTBc (R357, 10). -/
abbrev MMU_KTTBc (n : Nat) : Nat := baseMMU + 0x100 + 0x100 * n
abbrev MMU_KTTBc_L1 (n : Nat) : Fld := ⟨MMU_KTTBc n, 31, 10⟩
abbrev MMU_KTTBc_EN (n : Nat) : Fld := ⟨MMU_KTTBc n, 0, 0⟩
/-- MMU_TCBc (R357, 10). -/
abbrev MMU_TCBc (n : Nat) : Nat := baseMMU + 0x104 + 0x100 * n
abbrev MMU_TCBc_BASE (n : Nat) : Fld := ⟨MMU_TCBc n, 31, 11⟩
/-- MMU_TSTATc (R357, 10). -/
abbrev MMU_TSTATc (n : Nat) : Nat := baseMMU + 0x108 + 0x100 * n
abbrev MMU_TSTATc_IDLE (n : Nat) : Fld := ⟨MMU_TSTATc n, 27, 27⟩
abbrev MMU_TSTATc_CUR (n : Nat) : Fld := ⟨MMU_TSTATc n, 26, 24⟩
abbrev MMU_TSTATc_STATE (n : Nat) : Fld := ⟨MMU_TSTATc n, 23, 0⟩
/-- MMU_TCMDc (R357, 10). -/
abbrev MMU_TCMDc (n : Nat) : Nat := baseMMU + 0x10c + 0x100 * n
abbrev MMU_TCMDc_PRIO (n : Nat) : Fld := ⟨MMU_TCMDc n, 10, 8⟩
abbrev MMU_TCMDc_SLOT (n : Nat) : Fld := ⟨MMU_TCMDc n, 6, 4⟩
abbrev MMU_TCMDc_OP (n : Nat) : Fld := ⟨MMU_TCMDc n, 2, 0⟩
/-- MMU_TQUANTc (R357, 10). -/
abbrev MMU_TQUANTc (n : Nat) : Nat := baseMMU + 0x110 + 0x100 * n
abbrev MMU_TQUANTc_QUANT (n : Nat) : Fld := ⟨MMU_TQUANTc n, 31, 0⟩
/-- MMU_FSTATc (R357, 10). -/
abbrev MMU_FSTATc (n : Nat) : Nat := baseMMU + 0x114 + 0x100 * n
abbrev MMU_FSTATc_ASID (n : Nat) : Fld := ⟨MMU_FSTATc n, 11, 8⟩
abbrev MMU_FSTATc_CAUSE (n : Nat) : Fld := ⟨MMU_FSTATc n, 2, 0⟩
/-- MMU_TSWc (R357, 10). -/
abbrev MMU_TSWc (n : Nat) : Nat := baseMMU + 0x118 + 0x100 * n
abbrev MMU_TSWc_PARKS (n : Nat) : Fld := ⟨MMU_TSWc n, 31, 16⟩
abbrev MMU_TSWc_SWITCHES (n : Nat) : Fld := ⟨MMU_TSWc n, 15, 0⟩

/-! ### DMA registers -/

/-- DMA_IRQ (R358, 10). -/
abbrev DMA_IRQ : Nat := baseDMA + 0x0
abbrev DMA_IRQ_FAULT : Fld := ⟨DMA_IRQ, 31, 16⟩
abbrev DMA_IRQ_DONE : Fld := ⟨DMA_IRQ, 15, 0⟩
/-- DMA_IRQEN (R358, 10). -/
abbrev DMA_IRQEN : Nat := baseDMA + 0x4
abbrev DMA_IRQEN_EN : Fld := ⟨DMA_IRQEN, 31, 0⟩
/-- DMA_CHnSRC (R358, 10). -/
abbrev DMA_CHnSRC (n : Nat) : Nat := baseDMA + 0x100 + 0x20 * n
abbrev DMA_CHnSRC_ADDR (n : Nat) : Fld := ⟨DMA_CHnSRC n, 31, 0⟩
/-- DMA_CHnDST (R358, 10). -/
abbrev DMA_CHnDST (n : Nat) : Nat := baseDMA + 0x104 + 0x20 * n
abbrev DMA_CHnDST_ADDR (n : Nat) : Fld := ⟨DMA_CHnDST n, 31, 0⟩
/-- DMA_CHnLEN (R358, 10). -/
abbrev DMA_CHnLEN (n : Nat) : Nat := baseDMA + 0x108 + 0x20 * n
abbrev DMA_CHnLEN_LEN (n : Nat) : Fld := ⟨DMA_CHnLEN n, 23, 0⟩
/-- DMA_CHnCFG (R358, 10). -/
abbrev DMA_CHnCFG (n : Nat) : Nat := baseDMA + 0x10c + 0x20 * n
abbrev DMA_CHnCFG_OWNER (n : Nat) : Fld := ⟨DMA_CHnCFG n, 17, 16⟩
abbrev DMA_CHnCFG_IRQDONE (n : Nat) : Fld := ⟨DMA_CHnCFG n, 12, 12⟩
abbrev DMA_CHnCFG_REQ (n : Nat) : Fld := ⟨DMA_CHnCFG n, 11, 8⟩
abbrev DMA_CHnCFG_PRIO (n : Nat) : Fld := ⟨DMA_CHnCFG n, 7, 6⟩
abbrev DMA_CHnCFG_WIDTH (n : Nat) : Fld := ⟨DMA_CHnCFG n, 5, 4⟩
abbrev DMA_CHnCFG_DSTINC (n : Nat) : Fld := ⟨DMA_CHnCFG n, 3, 3⟩
abbrev DMA_CHnCFG_SRCINC (n : Nat) : Fld := ⟨DMA_CHnCFG n, 2, 2⟩
abbrev DMA_CHnCFG_DSTV (n : Nat) : Fld := ⟨DMA_CHnCFG n, 1, 1⟩
abbrev DMA_CHnCFG_SRCV (n : Nat) : Fld := ⟨DMA_CHnCFG n, 0, 0⟩
/-- DMA_CHnTTB (R358, 10). -/
abbrev DMA_CHnTTB (n : Nat) : Nat := baseDMA + 0x110 + 0x20 * n
abbrev DMA_CHnTTB_L1 (n : Nat) : Fld := ⟨DMA_CHnTTB n, 31, 10⟩
/-- DMA_CHnCMD (R358, 10). -/
abbrev DMA_CHnCMD (n : Nat) : Nat := baseDMA + 0x114 + 0x20 * n
abbrev DMA_CHnCMD_OP (n : Nat) : Fld := ⟨DMA_CHnCMD n, 1, 0⟩
/-- DMA_CHnSTAT (R358, 10). -/
abbrev DMA_CHnSTAT (n : Nat) : Nat := baseDMA + 0x118 + 0x20 * n
abbrev DMA_CHnSTAT_SIDE (n : Nat) : Fld := ⟨DMA_CHnSTAT n, 24, 24⟩
abbrev DMA_CHnSTAT_STATUS (n : Nat) : Fld := ⟨DMA_CHnSTAT n, 23, 16⟩
abbrev DMA_CHnSTAT_HELD (n : Nat) : Fld := ⟨DMA_CHnSTAT n, 14, 8⟩
abbrev DMA_CHnSTAT_STATE (n : Nat) : Fld := ⟨DMA_CHnSTAT n, 2, 0⟩
/-- DMA_CHnDONE (R358, 10). -/
abbrev DMA_CHnDONE (n : Nat) : Nat := baseDMA + 0x11c + 0x20 * n
abbrev DMA_CHnDONE_DONE (n : Nat) : Fld := ⟨DMA_CHnDONE n, 23, 0⟩

/-! ### ICU registers -/

/-- ICU_CTRL (R372, 11). -/
abbrev ICU_CTRL : Nat := baseICU + 0x0
abbrev ICU_CTRL_CNTCLR : Fld := ⟨ICU_CTRL, 0, 0⟩
/-- ICU_EOI (R372, 11). -/
abbrev ICU_EOI : Nat := baseICU + 0x4
abbrev ICU_EOI_SRC : Fld := ⟨ICU_EOI, 10, 0⟩
/-- ICU_BADEOI (R372, 11). -/
abbrev ICU_BADEOI : Nat := baseICU + 0x8
abbrev ICU_BADEOI_LAST : Fld := ⟨ICU_BADEOI, 26, 16⟩
abbrev ICU_BADEOI_COUNT : Fld := ⟨ICU_BADEOI, 15, 0⟩
/-- ICU_SWISET (R372, 11). -/
abbrev ICU_SWISET : Nat := baseICU + 0xc
abbrev ICU_SWISET_LINE : Fld := ⟨ICU_SWISET, 7, 0⟩
/-- ICU_SWICLR (R372, 11). -/
abbrev ICU_SWICLR : Nat := baseICU + 0x10
abbrev ICU_SWICLR_LINE : Fld := ⟨ICU_SWICLR, 7, 0⟩
/-- ICU_ALSTAT (R372, 11). -/
abbrev ICU_ALSTAT : Nat := baseICU + 0x14
abbrev ICU_ALSTAT_LATCH : Fld := ⟨ICU_ALSTAT, 27, 0⟩
/-- ICU_ALOVR (R372, 11). -/
abbrev ICU_ALOVR : Nat := baseICU + 0x18
abbrev ICU_ALOVR_LATCH : Fld := ⟨ICU_ALOVR, 27, 0⟩
/-- ICU_ALEN (R372, 11). -/
abbrev ICU_ALEN : Nat := baseICU + 0x1c
abbrev ICU_ALEN_SLOWCMP : Fld := ⟨ICU_ALEN, 27, 27⟩
abbrev ICU_ALEN_VINFAIL : Fld := ⟨ICU_ALEN, 26, 26⟩
abbrev ICU_ALEN_PIN : Fld := ⟨ICU_ALEN, 25, 0⟩
/-- ICU_ALEDGE0 (R372, 11). -/
abbrev ICU_ALEDGE0 : Nat := baseICU + 0x20
abbrev ICU_ALEDGE0_EDGE : Fld := ⟨ICU_ALEDGE0, 31, 0⟩
/-- ICU_ALEDGE1 (R372, 11). -/
abbrev ICU_ALEDGE1 : Nat := baseICU + 0x24
abbrev ICU_ALEDGE1_EDGE : Fld := ⟨ICU_ALEDGE1, 31, 0⟩
/-- ICU_ALPIN (R372, 11). -/
abbrev ICU_ALPIN : Nat := baseICU + 0x28
abbrev ICU_ALPIN_LEVEL : Fld := ⟨ICU_ALPIN, 25, 0⟩
/-- ICU_COREc (R372, 11). -/
abbrev ICU_COREc (n : Nat) : Nat := baseICU + 0x100 + 0x100 * n
abbrev ICU_COREc_FDIS (n : Nat) : Fld := ⟨ICU_COREc n, 8, 8⟩
abbrev ICU_COREc_THR (n : Nat) : Fld := ⟨ICU_COREc n, 3, 0⟩
/-- ICU_CURc (R372, 11). -/
abbrev ICU_CURc (n : Nat) : Nat := baseICU + 0x104 + 0x100 * n
abbrev ICU_CURc_VALID (n : Nat) : Fld := ⟨ICU_CURc n, 31, 31⟩
abbrev ICU_CURc_PRIO (n : Nat) : Fld := ⟨ICU_CURc n, 26, 24⟩
abbrev ICU_CURc_SRC (n : Nat) : Fld := ⟨ICU_CURc n, 10, 0⟩
/-- ICU_FCURc (R372, 11). -/
abbrev ICU_FCURc (n : Nat) : Nat := baseICU + 0x108 + 0x100 * n
abbrev ICU_FCURc_VALID (n : Nat) : Fld := ⟨ICU_FCURc n, 31, 31⟩
abbrev ICU_FCURc_PRIO (n : Nat) : Fld := ⟨ICU_FCURc n, 26, 24⟩
abbrev ICU_FCURc_SRC (n : Nat) : Fld := ⟨ICU_FCURc n, 10, 0⟩
/-- ICU_ACTc (R372, 11). -/
abbrev ICU_ACTc (n : Nat) : Nat := baseICU + 0x10c + 0x100 * n
abbrev ICU_ACTc_FACT (n : Nat) : Fld := ⟨ICU_ACTc n, 8, 8⟩
abbrev ICU_ACTc_PRIOS (n : Nat) : Fld := ⟨ICU_ACTc n, 7, 0⟩
/-- ICU_STATc (R372, 11). -/
abbrev ICU_STATc (n : Nat) : Nat := baseICU + 0x110 + 0x100 * n
abbrev ICU_STATc_WDRAWN (n : Nat) : Fld := ⟨ICU_STATc n, 31, 16⟩
abbrev ICU_STATc_DELIV (n : Nat) : Fld := ⟨ICU_STATc n, 15, 0⟩
/-- ICU_SRCn (R372, 11). -/
abbrev ICU_SRCn (n : Nat) : Nat := baseICU + 0x1000 + 0x4 * n
abbrev ICU_SRCn_PEND (n : Nat) : Fld := ⟨ICU_SRCn n, 31, 31⟩
abbrev ICU_SRCn_ACT (n : Nat) : Fld := ⟨ICU_SRCn n, 30, 30⟩
abbrev ICU_SRCn_LINE (n : Nat) : Fld := ⟨ICU_SRCn n, 29, 29⟩
abbrev ICU_SRCn_CORE (n : Nat) : Fld := ⟨ICU_SRCn n, 13, 12⟩
abbrev ICU_SRCn_CLASS (n : Nat) : Fld := ⟨ICU_SRCn n, 8, 8⟩
abbrev ICU_SRCn_PRIO (n : Nat) : Fld := ⟨ICU_SRCn n, 6, 4⟩
abbrev ICU_SRCn_EN (n : Nat) : Fld := ⟨ICU_SRCn n, 0, 0⟩

/-! ### TMR registers -/

/-- TMR_CTRL (R395, 12). -/
abbrev TMR_CTRL : Nat := baseTMR + 0x0
abbrev TMR_CTRL_CNTCLR : Fld := ⟨TMR_CTRL, 0, 0⟩
/-- TMR_RUN (R395, 12). -/
abbrev TMR_RUN : Nat := baseTMR + 0x4
abbrev TMR_RUN_RUN : Fld := ⟨TMR_RUN, 7, 0⟩
/-- TMR_SLOWLO (R395, 12). -/
abbrev TMR_SLOWLO : Nat := baseTMR + 0x8
abbrev TMR_SLOWLO_SLOW : Fld := ⟨TMR_SLOWLO, 31, 0⟩
/-- TMR_SLOWHI (R395, 12). -/
abbrev TMR_SLOWHI : Nat := baseTMR + 0xc
abbrev TMR_SLOWHI_SLOW : Fld := ⟨TMR_SLOWHI, 31, 0⟩
/-- TMR_SCMPCTL (R395, 12). -/
abbrev TMR_SCMPCTL : Nat := baseTMR + 0x10
abbrev TMR_SCMPCTL_ARMED : Fld := ⟨TMR_SCMPCTL, 19, 16⟩
abbrev TMR_SCMPCTL_FIRED : Fld := ⟨TMR_SCMPCTL, 11, 8⟩
abbrev TMR_SCMPCTL_EN : Fld := ⟨TMR_SCMPCTL, 3, 1⟩
abbrev TMR_SCMPCTL_EN0 : Fld := ⟨TMR_SCMPCTL, 0, 0⟩
/-- TMR_IRQ0 (R395, 12). -/
abbrev TMR_IRQ0 : Nat := baseTMR + 0x14
abbrev TMR_IRQ0_U : Fld := ⟨TMR_IRQ0, 31, 0⟩
/-- TMR_IRQEN0 (R395, 12). -/
abbrev TMR_IRQEN0 : Nat := baseTMR + 0x18
abbrev TMR_IRQEN0_EN : Fld := ⟨TMR_IRQEN0, 31, 0⟩
/-- TMR_IRQ1 (R395, 12). -/
abbrev TMR_IRQ1 : Nat := baseTMR + 0x1c
abbrev TMR_IRQ1_PPSDROP : Fld := ⟨TMR_IRQ1, 15, 15⟩
abbrev TMR_IRQ1_CAPOVR : Fld := ⟨TMR_IRQ1, 14, 14⟩
abbrev TMR_IRQ1_PPSGLITCH : Fld := ⟨TMR_IRQ1, 13, 13⟩
abbrev TMR_IRQ1_PPS : Fld := ⟨TMR_IRQ1, 12, 12⟩
abbrev TMR_IRQ1_SCMP : Fld := ⟨TMR_IRQ1, 11, 8⟩
abbrev TMR_IRQ1_OVF : Fld := ⟨TMR_IRQ1, 7, 0⟩
/-- TMR_IRQEN1 (R395, 12). -/
abbrev TMR_IRQEN1 : Nat := baseTMR + 0x20
abbrev TMR_IRQEN1_EN : Fld := ⟨TMR_IRQEN1, 15, 0⟩
/-- TMR_PPSCFG (R395, 12). -/
abbrev TMR_PPSCFG : Nat := baseTMR + 0x24
abbrev TMR_PPSCFG_GUARD : Fld := ⟨TMR_PPSCFG, 31, 16⟩
abbrev TMR_PPSCFG_FILT : Fld := ⟨TMR_PPSCFG, 11, 8⟩
abbrev TMR_PPSCFG_EDGE : Fld := ⟨TMR_PPSCFG, 2, 1⟩
abbrev TMR_PPSCFG_EN : Fld := ⟨TMR_PPSCFG, 0, 0⟩
/-- TMR_PPSNTLO (R395, 12). -/
abbrev TMR_PPSNTLO : Nat := baseTMR + 0x28
abbrev TMR_PPSNTLO_NT : Fld := ⟨TMR_PPSNTLO, 31, 0⟩
/-- TMR_PPSNTHI (R395, 12). -/
abbrev TMR_PPSNTHI : Nat := baseTMR + 0x2c
abbrev TMR_PPSNTHI_NT : Fld := ⟨TMR_PPSNTHI, 31, 0⟩
/-- TMR_PPSSTAT (R395, 12). -/
abbrev TMR_PPSSTAT : Nat := baseTMR + 0x30
abbrev TMR_PPSSTAT_DROP : Fld := ⟨TMR_PPSSTAT, 31, 24⟩
abbrev TMR_PPSSTAT_GLITCH : Fld := ⟨TMR_PPSSTAT, 23, 16⟩
abbrev TMR_PPSSTAT_OVR : Fld := ⟨TMR_PPSSTAT, 15, 8⟩
abbrev TMR_PPSSTAT_CAPNEW : Fld := ⟨TMR_PPSSTAT, 0, 0⟩
/-- TMR_SCMPnLO (R395, 12). -/
abbrev TMR_SCMPnLO (n : Nat) : Nat := baseTMR + 0x40 + 0x8 * n
abbrev TMR_SCMPnLO_V (n : Nat) : Fld := ⟨TMR_SCMPnLO n, 31, 0⟩
/-- TMR_SCMPnHI (R395, 12). -/
abbrev TMR_SCMPnHI (n : Nat) : Nat := baseTMR + 0x44 + 0x8 * n
abbrev TMR_SCMPnHI_V (n : Nat) : Fld := ⟨TMR_SCMPnHI n, 31, 0⟩
/-- TMR_CFGn (R395, 12). -/
abbrev TMR_CFGn (n : Nat) : Nat := baseTMR + 0x80 + 0x4 * n
abbrev TMR_CFGn_DIV (n : Nat) : Fld := ⟨TMR_CFGn n, 11, 8⟩
abbrev TMR_CFGn_CLK (n : Nat) : Fld := ⟨TMR_CFGn n, 2, 0⟩
/-- TMR_CNTn (R395, 12). -/
abbrev TMR_CNTn (n : Nat) : Nat := baseTMR + 0xa0 + 0x4 * n
abbrev TMR_CNTn_COUNT (n : Nat) : Fld := ⟨TMR_CNTn n, 31, 0⟩
/-- TMR_UuCFG (R395, 12). -/
abbrev TMR_UuCFG (n : Nat) : Nat := baseTMR + 0x100 + 0x10 * n
abbrev TMR_UuCFG_PRE (n : Nat) : Fld := ⟨TMR_UuCFG n, 30, 28⟩
abbrev TMR_UuCFG_FILT (n : Nat) : Fld := ⟨TMR_UuCFG n, 27, 24⟩
abbrev TMR_UuCFG_EDGE (n : Nat) : Fld := ⟨TMR_UuCFG n, 22, 21⟩
abbrev TMR_UuCFG_INSEL (n : Nat) : Fld := ⟨TMR_UuCFG n, 20, 16⟩
abbrev TMR_UuCFG_OUT (n : Nat) : Fld := ⟨TMR_UuCFG n, 10, 9⟩
abbrev TMR_UuCFG_RELOAD (n : Nat) : Fld := ⟨TMR_UuCFG n, 8, 8⟩
abbrev TMR_UuCFG_CNT (n : Nat) : Fld := ⟨TMR_UuCFG n, 6, 4⟩
abbrev TMR_UuCFG_MODE (n : Nat) : Fld := ⟨TMR_UuCFG n, 1, 0⟩
/-- TMR_UuVAL (R395, 12). -/
abbrev TMR_UuVAL (n : Nat) : Nat := baseTMR + 0x104 + 0x10 * n
abbrev TMR_UuVAL_VAL (n : Nat) : Fld := ⟨TMR_UuVAL n, 31, 0⟩
/-- TMR_UuPER (R395, 12). -/
abbrev TMR_UuPER (n : Nat) : Nat := baseTMR + 0x108 + 0x10 * n
abbrev TMR_UuPER_PER (n : Nat) : Fld := ⟨TMR_UuPER n, 31, 0⟩
/-- TMR_UuSTAT (R395, 12). -/
abbrev TMR_UuSTAT (n : Nat) : Nat := baseTMR + 0x10c + 0x10 * n
abbrev TMR_UuSTAT_PRECNT (n : Nat) : Fld := ⟨TMR_UuSTAT n, 22, 16⟩
abbrev TMR_UuSTAT_OVR (n : Nat) : Fld := ⟨TMR_UuSTAT n, 15, 8⟩
abbrev TMR_UuSTAT_LATE (n : Nat) : Fld := ⟨TMR_UuSTAT n, 3, 3⟩
abbrev TMR_UuSTAT_ARMED (n : Nat) : Fld := ⟨TMR_UuSTAT n, 2, 2⟩
abbrev TMR_UuSTAT_FIRED (n : Nat) : Fld := ⟨TMR_UuSTAT n, 1, 1⟩
abbrev TMR_UuSTAT_CAPNEW (n : Nat) : Fld := ⟨TMR_UuSTAT n, 0, 0⟩

/-! ### PWR registers -/

/-- PWR_CMD (R418, 13). -/
abbrev PWR_CMD : Nat := baseSYS + 0x8000
abbrev PWR_CMD_CNTCLR : Fld := ⟨PWR_CMD, 2, 2⟩
abbrev PWR_CMD_SYSRST : Fld := ⟨PWR_CMD, 1, 1⟩
abbrev PWR_CMD_ENTER : Fld := ⟨PWR_CMD, 0, 0⟩
/-- PWR_SADDLECFG (R418, 13). -/
abbrev PWR_SADDLECFG : Nat := baseSYS + 0x8004
abbrev PWR_SADDLECFG_SADDLE_EN : Fld := ⟨PWR_SADDLECFG, 31, 31⟩
abbrev PWR_SADDLECFG_SADDLE_MINAWAKE : Fld := ⟨PWR_SADDLECFG, 23, 16⟩
abbrev PWR_SADDLECFG_SADDLE_IDLE : Fld := ⟨PWR_SADDLECFG, 15, 0⟩
/-- PWR_WAKEEN (R418, 13). -/
abbrev PWR_WAKEEN : Nat := baseSYS + 0x8008
abbrev PWR_WAKEEN_SLOWCMP : Fld := ⟨PWR_WAKEEN, 27, 27⟩
abbrev PWR_WAKEEN_VINFAIL : Fld := ⟨PWR_WAKEEN, 26, 26⟩
abbrev PWR_WAKEEN_PIN : Fld := ⟨PWR_WAKEEN, 25, 0⟩
/-- PWR_RETAIN (R418, 13). -/
abbrev PWR_RETAIN : Nat := baseSYS + 0x800c
abbrev PWR_RETAIN_PAGER : Fld := ⟨PWR_RETAIN, 25, 25⟩
abbrev PWR_RETAIN_LOG : Fld := ⟨PWR_RETAIN, 24, 24⟩
abbrev PWR_RETAIN_KCBANK : Fld := ⟨PWR_RETAIN, 23, 23⟩
abbrev PWR_RETAIN_BANK : Fld := ⟨PWR_RETAIN, 22, 0⟩
/-- PWR_VOTE (R418, 13). -/
abbrev PWR_VOTE : Nat := baseSYS + 0x8010
abbrev PWR_VOTE_VOTE : Fld := ⟨PWR_VOTE, 14, 0⟩
/-- PWR_STAT (R418, 13). -/
abbrev PWR_STAT : Nat := baseSYS + 0x8014
abbrev PWR_STAT_TEMP : Fld := ⟨PWR_STAT, 31, 24⟩
abbrev PWR_STAT_IDLECNT : Fld := ⟨PWR_STAT, 23, 16⟩
abbrev PWR_STAT_VINWARN : Fld := ⟨PWR_STAT, 7, 7⟩
abbrev PWR_STAT_SLOWOK : Fld := ⟨PWR_STAT, 6, 6⟩
abbrev PWR_STAT_XREFOK : Fld := ⟨PWR_STAT, 5, 5⟩
abbrev PWR_STAT_CLK : Fld := ⟨PWR_STAT, 4, 4⟩
abbrev PWR_STAT_REFINT : Fld := ⟨PWR_STAT, 3, 2⟩
abbrev PWR_STAT_PHASE : Fld := ⟨PWR_STAT, 1, 0⟩
/-- PWR_RSTCAUSE (R418, 13). -/
abbrev PWR_RSTCAUSE : Nat := baseSYS + 0x8018
abbrev PWR_RSTCAUSE_CAUSE : Fld := ⟨PWR_RSTCAUSE, 3, 0⟩
/-- PWR_CORECTL (R418, 13). -/
abbrev PWR_CORECTL : Nat := baseSYS + 0x801c
abbrev PWR_CORECTL_SC : Fld := ⟨PWR_CORECTL, 2, 2⟩
abbrev PWR_CORECTL_LC1 : Fld := ⟨PWR_CORECTL, 1, 1⟩
abbrev PWR_CORECTL_LC0 : Fld := ⟨PWR_CORECTL, 0, 0⟩
/-- PWR_CORESTAT (R418, 13). -/
abbrev PWR_CORESTAT : Nat := baseSYS + 0x8020
abbrev PWR_CORESTAT_STATE : Fld := ⟨PWR_CORESTAT, 7, 0⟩
/-- PWR_SCPC (R418, 13). -/
abbrev PWR_SCPC : Nat := baseSYS + 0x8024
abbrev PWR_SCPC_ADDR : Fld := ⟨PWR_SCPC, 31, 8⟩
/-- PWR_CLKCFG (R418, 13). -/
abbrev PWR_CLKCFG : Nat := baseSYS + 0x8028
abbrev PWR_CLKCFG_XGATE : Fld := ⟨PWR_CLKCFG, 16, 16⟩
abbrev PWR_CLKCFG_XSTAB : Fld := ⟨PWR_CLKCFG, 9, 0⟩
/-- PWR_VINMON (R418, 13). -/
abbrev PWR_VINMON : Nat := baseSYS + 0x802c
abbrev PWR_VINMON_VIN : Fld := ⟨PWR_VINMON, 27, 16⟩
abbrev PWR_VINMON_WARN : Fld := ⟨PWR_VINMON, 9, 0⟩
/-- PWR_IRQ (R418, 13). -/
abbrev PWR_IRQ : Nat := baseSYS + 0x8030
abbrev PWR_IRQ_SLOWOK : Fld := ⟨PWR_IRQ, 4, 4⟩
abbrev PWR_IRQ_XREFFAIL : Fld := ⟨PWR_IRQ, 3, 3⟩
abbrev PWR_IRQ_WAKERETRY : Fld := ⟨PWR_IRQ, 2, 2⟩
abbrev PWR_IRQ_VINOK : Fld := ⟨PWR_IRQ, 1, 1⟩
abbrev PWR_IRQ_VINWARN : Fld := ⟨PWR_IRQ, 0, 0⟩
/-- PWR_IRQEN (R418, 13). -/
abbrev PWR_IRQEN : Nat := baseSYS + 0x8034
abbrev PWR_IRQEN_EN : Fld := ⟨PWR_IRQEN, 4, 0⟩
/-- PWR_SADCNT (R418, 13). -/
abbrev PWR_SADCNT : Nat := baseSYS + 0x8038
abbrev PWR_SADCNT_ABORTS : Fld := ⟨PWR_SADCNT, 31, 16⟩
abbrev PWR_SADCNT_ENTRIES : Fld := ⟨PWR_SADCNT, 15, 0⟩
/-- PWR_SADCNT2 (R418, 13). -/
abbrev PWR_SADCNT2 : Nat := baseSYS + 0x803c
abbrev PWR_SADCNT2_RETRIES : Fld := ⟨PWR_SADCNT2, 31, 24⟩
abbrev PWR_SADCNT2_SLOWWAKE : Fld := ⟨PWR_SADCNT2, 23, 16⟩
abbrev PWR_SADCNT2_IGNORED : Fld := ⟨PWR_SADCNT2, 15, 8⟩
abbrev PWR_SADCNT2_REFUSED : Fld := ⟨PWR_SADCNT2, 7, 0⟩
/-- PWR_REFUSEn (R418, 13). -/
abbrev PWR_REFUSEn (n : Nat) : Nat := baseSYS + 0x8040 + 0x4 * n
abbrev PWR_REFUSEn_CNTB (n : Nat) : Fld := ⟨PWR_REFUSEn n, 31, 16⟩
abbrev PWR_REFUSEn_CNTA (n : Nat) : Fld := ⟨PWR_REFUSEn n, 15, 0⟩

/-! ### NAND registers -/

/-- NAND_CTRL (R444, 14). -/
abbrev NAND_CTRL : Nat := baseNAND + 0x0
abbrev NAND_CTRL_CNTCLR : Fld := ⟨NAND_CTRL, 0, 0⟩
/-- NAND_CFG (R444, 14). -/
abbrev NAND_CFG : Nat := baseNAND + 0x4
abbrev NAND_CFG_RUNMIN : Fld := ⟨NAND_CFG, 15, 8⟩
abbrev NAND_CFG_EWARN : Fld := ⟨NAND_CFG, 4, 0⟩
/-- NAND_FKEY (R444, 14). -/
abbrev NAND_FKEY : Nat := baseNAND + 0x8
abbrev NAND_FKEY_KEY : Fld := ⟨NAND_FKEY, 15, 0⟩
/-- NAND_FCMD (R444, 14). -/
abbrev NAND_FCMD : Nat := baseNAND + 0xc
abbrev NAND_FCMD_OP : Fld := ⟨NAND_FCMD, 2, 0⟩
/-- NAND_FADDR (R444, 14). -/
abbrev NAND_FADDR : Nat := baseNAND + 0x10
abbrev NAND_FADDR_BLOCK : Fld := ⟨NAND_FADDR, 19, 6⟩
abbrev NAND_FADDR_PAGE : Fld := ⟨NAND_FADDR, 5, 0⟩
/-- NAND_FBUF (R444, 14). -/
abbrev NAND_FBUF : Nat := baseNAND + 0x14
abbrev NAND_FBUF_ADDR : Fld := ⟨NAND_FBUF, 31, 4⟩
/-- NAND_FSTAT (R444, 14). -/
abbrev NAND_FSTAT : Nat := baseNAND + 0x18
abbrev NAND_FSTAT_BUSY : Fld := ⟨NAND_FSTAT, 31, 31⟩
abbrev NAND_FSTAT_SEQ : Fld := ⟨NAND_FSTAT, 30, 28⟩
abbrev NAND_FSTAT_OWNER : Fld := ⟨NAND_FSTAT, 27, 26⟩
abbrev NAND_FSTAT_ERASING1 : Fld := ⟨NAND_FSTAT, 3, 3⟩
abbrev NAND_FSTAT_ERASING0 : Fld := ⟨NAND_FSTAT, 2, 2⟩
abbrev NAND_FSTAT_SUSP1 : Fld := ⟨NAND_FSTAT, 1, 1⟩
abbrev NAND_FSTAT_SUSP0 : Fld := ⟨NAND_FSTAT, 0, 0⟩
/-- NAND_FRES (R444, 14). -/
abbrev NAND_FRES : Nat := baseNAND + 0x1c
abbrev NAND_FRES_TIME : Fld := ⟨NAND_FRES, 31, 16⟩
abbrev NAND_FRES_RETRY : Fld := ⟨NAND_FRES, 15, 13⟩
abbrev NAND_FRES_CORR : Fld := ⟨NAND_FRES, 12, 8⟩
abbrev NAND_FRES_STATUS : Fld := ⟨NAND_FRES, 7, 0⟩
/-- NAND_BBQ (R444, 14). -/
abbrev NAND_BBQ : Nat := baseNAND + 0x20
abbrev NAND_BBQ_BAD : Fld := ⟨NAND_BBQ, 31, 31⟩
abbrev NAND_BBQ_FACTORY : Fld := ⟨NAND_BBQ, 30, 30⟩
abbrev NAND_BBQ_BLOCK : Fld := ⟨NAND_BBQ, 13, 0⟩
/-- NAND_HEALTH (R444, 14). -/
abbrev NAND_HEALTH : Nat := baseNAND + 0x24
abbrev NAND_HEALTH_CTXRO : Fld := ⟨NAND_HEALTH, 31, 31⟩
abbrev NAND_HEALTH_CTXRSV : Fld := ⟨NAND_HEALTH, 27, 16⟩
abbrev NAND_HEALTH_PAGERO : Fld := ⟨NAND_HEALTH, 15, 15⟩
abbrev NAND_HEALTH_PAGERSV : Fld := ⟨NAND_HEALTH, 11, 0⟩
/-- NAND_WEAR (R444, 14). -/
abbrev NAND_WEAR : Nat := baseNAND + 0x28
abbrev NAND_WEAR_PECMAX : Fld := ⟨NAND_WEAR, 31, 16⟩
abbrev NAND_WEAR_PECMIN : Fld := ⟨NAND_WEAR, 15, 0⟩
/-- NAND_BOOTSTAT (R444, 14). -/
abbrev NAND_BOOTSTAT : Nat := baseNAND + 0x2c
abbrev NAND_BOOTSTAT_RELEASE : Fld := ⟨NAND_BOOTSTAT, 31, 31⟩
abbrev NAND_BOOTSTAT_REDO : Fld := ⟨NAND_BOOTSTAT, 30, 30⟩
abbrev NAND_BOOTSTAT_FLAG1 : Fld := ⟨NAND_BOOTSTAT, 17, 17⟩
abbrev NAND_BOOTSTAT_FLAG0 : Fld := ⟨NAND_BOOTSTAT, 16, 16⟩
abbrev NAND_BOOTSTAT_LASTBLK : Fld := ⟨NAND_BOOTSTAT, 13, 0⟩
/-- NAND_IRQ (R444, 14). -/
abbrev NAND_IRQ : Nat := baseNAND + 0x30
abbrev NAND_IRQ_SEQERR : Fld := ⟨NAND_IRQ, 8, 8⟩
abbrev NAND_IRQ_READONLY : Fld := ⟨NAND_IRQ, 7, 7⟩
abbrev NAND_IRQ_LOWSPARE : Fld := ⟨NAND_IRQ, 6, 6⟩
abbrev NAND_IRQ_SLOW : Fld := ⟨NAND_IRQ, 5, 5⟩
abbrev NAND_IRQ_RETIRED : Fld := ⟨NAND_IRQ, 4, 4⟩
abbrev NAND_IRQ_UNCORR : Fld := ⟨NAND_IRQ, 3, 3⟩
abbrev NAND_IRQ_RETRY : Fld := ⟨NAND_IRQ, 2, 2⟩
abbrev NAND_IRQ_CORRHIGH : Fld := ⟨NAND_IRQ, 1, 1⟩
abbrev NAND_IRQ_DONE : Fld := ⟨NAND_IRQ, 0, 0⟩
/-- NAND_IRQEN (R444, 14). -/
abbrev NAND_IRQEN : Nat := baseNAND + 0x34
abbrev NAND_IRQEN_EN : Fld := ⟨NAND_IRQEN, 8, 0⟩
/-- NAND_CNTn (R444, 14). -/
abbrev NAND_CNTn (n : Nat) : Nat := baseNAND + 0x40 + 0x4 * n
abbrev NAND_CNTn_COUNT (n : Nat) : Fld := ⟨NAND_CNTn n, 31, 0⟩

/-! ### CIPHER registers -/

/-- CIPHER_CTRL (R474, 15). -/
abbrev CIPHER_CTRL : Nat := baseCIPHER + 0x0
abbrev CIPHER_CTRL_CNTCLR : Fld := ⟨CIPHER_CTRL, 1, 1⟩
abbrev CIPHER_CTRL_RESTART : Fld := ⟨CIPHER_CTRL, 0, 0⟩
/-- CIPHER_STAT (R474, 15). -/
abbrev CIPHER_STAT : Nat := baseCIPHER + 0x4
abbrev CIPHER_STAT_HALTED : Fld := ⟨CIPHER_STAT, 31, 31⟩
abbrev CIPHER_STAT_TRNG : Fld := ⟨CIPHER_STAT, 29, 28⟩
abbrev CIPHER_STAT_QUEUED : Fld := ⟨CIPHER_STAT, 20, 16⟩
abbrev CIPHER_STAT_RNGLVL : Fld := ⟨CIPHER_STAT, 12, 8⟩
abbrev CIPHER_STAT_DONE : Fld := ⟨CIPHER_STAT, 4, 0⟩
/-- CIPHER_JOBPOST (R474, 15). -/
abbrev CIPHER_JOBPOST : Nat := baseCIPHER + 0x8
abbrev CIPHER_JOBPOST_ADDR : Fld := ⟨CIPHER_JOBPOST, 31, 5⟩
/-- CIPHER_DONEQ (R474, 15). -/
abbrev CIPHER_DONEQ : Nat := baseCIPHER + 0xc
abbrev CIPHER_DONEQ_ADDR : Fld := ⟨CIPHER_DONEQ, 31, 5⟩
abbrev CIPHER_DONEQ_VALID : Fld := ⟨CIPHER_DONEQ, 0, 0⟩
/-- CIPHER_KEYCMD (R474, 15). -/
abbrev CIPHER_KEYCMD : Nat := baseCIPHER + 0x10
abbrev CIPHER_KEYCMD_TYPE : Fld := ⟨CIPHER_KEYCMD, 15, 14⟩
abbrev CIPHER_KEYCMD_SLOT : Fld := ⟨CIPHER_KEYCMD, 12, 8⟩
abbrev CIPHER_KEYCMD_OP : Fld := ⟨CIPHER_KEYCMD, 2, 0⟩
/-- CIPHER_KEYATTR (R474, 15). -/
abbrev CIPHER_KEYATTR : Nat := baseCIPHER + 0x14
abbrev CIPHER_KEYATTR_REQ : Fld := ⟨CIPHER_KEYATTR, 14, 8⟩
abbrev CIPHER_KEYATTR_EXPORT : Fld := ⟨CIPHER_KEYATTR, 4, 4⟩
abbrev CIPHER_KEYATTR_KEK : Fld := ⟨CIPHER_KEYATTR, 3, 3⟩
abbrev CIPHER_KEYATTR_XTS : Fld := ⟨CIPHER_KEYATTR, 2, 2⟩
abbrev CIPHER_KEYATTR_MAC : Fld := ⟨CIPHER_KEYATTR, 1, 1⟩
abbrev CIPHER_KEYATTR_CIPHER : Fld := ⟨CIPHER_KEYATTR, 0, 0⟩
/-- CIPHER_KEYSTAT (R474, 15). -/
abbrev CIPHER_KEYSTAT : Nat := baseCIPHER + 0x18
abbrev CIPHER_KEYSTAT_VALID : Fld := ⟨CIPHER_KEYSTAT, 31, 0⟩
/-- CIPHER_RNG (R474, 15). -/
abbrev CIPHER_RNG : Nat := baseCIPHER + 0x1c
abbrev CIPHER_RNG_RND : Fld := ⟨CIPHER_RNG, 31, 0⟩
/-- CIPHER_ALARM (R474, 15). -/
abbrev CIPHER_ALARM : Nat := baseCIPHER + 0x20
abbrev CIPHER_ALARM_SHIELD : Fld := ⟨CIPHER_ALARM, 3, 3⟩
abbrev CIPHER_ALARM_TEMP : Fld := ⟨CIPHER_ALARM, 2, 2⟩
abbrev CIPHER_ALARM_CLK : Fld := ⟨CIPHER_ALARM, 1, 1⟩
abbrev CIPHER_ALARM_VOLT : Fld := ⟨CIPHER_ALARM, 0, 0⟩
/-- CIPHER_IRQ (R474, 15). -/
abbrev CIPHER_IRQ : Nat := baseCIPHER + 0x24
abbrev CIPHER_IRQ_ALARM : Fld := ⟨CIPHER_IRQ, 4, 4⟩
abbrev CIPHER_IRQ_RESTARTED : Fld := ⟨CIPHER_IRQ, 3, 3⟩
abbrev CIPHER_IRQ_HALT : Fld := ⟨CIPHER_IRQ, 2, 2⟩
abbrev CIPHER_IRQ_TAGFAIL : Fld := ⟨CIPHER_IRQ, 1, 1⟩
abbrev CIPHER_IRQ_DONE : Fld := ⟨CIPHER_IRQ, 0, 0⟩
/-- CIPHER_IRQEN (R474, 15). -/
abbrev CIPHER_IRQEN : Nat := baseCIPHER + 0x28
abbrev CIPHER_IRQEN_EN : Fld := ⟨CIPHER_IRQEN, 4, 0⟩
/-- CIPHER_CNT (R474, 15). -/
abbrev CIPHER_CNT : Nat := baseCIPHER + 0x2c
abbrev CIPHER_CNT_ALARMS : Fld := ⟨CIPHER_CNT, 31, 24⟩
abbrev CIPHER_CNT_HALTS : Fld := ⟨CIPHER_CNT, 23, 16⟩
abbrev CIPHER_CNT_TAGFAIL : Fld := ⟨CIPHER_CNT, 15, 0⟩
/-- CIPHER_KEYRES (R474, 15). -/
abbrev CIPHER_KEYRES : Nat := baseCIPHER + 0x30
abbrev CIPHER_KEYRES_BUSY : Fld := ⟨CIPHER_KEYRES, 31, 31⟩
abbrev CIPHER_KEYRES_STATUS : Fld := ⟨CIPHER_KEYRES, 7, 0⟩
/-- CIPHER_KEYWn (R474, 15). -/
abbrev CIPHER_KEYWn (n : Nat) : Nat := baseCIPHER + 0x40 + 0x4 * n
abbrev CIPHER_KEYWn_W (n : Nat) : Fld := ⟨CIPHER_KEYWn n, 31, 0⟩

/-! ### LATTICE registers -/

/-- LATTICE_CMD (R475, 15). -/
abbrev LATTICE_CMD : Nat := baseLATTICE + 0x0
abbrev LATTICE_CMD_PKH : Fld := ⟨LATTICE_CMD, 11, 8⟩
abbrev LATTICE_CMD_MEAS : Fld := ⟨LATTICE_CMD, 5, 4⟩
abbrev LATTICE_CMD_OP : Fld := ⟨LATTICE_CMD, 3, 0⟩
/-- LATTICE_ARGn (R475, 15). -/
abbrev LATTICE_ARGn (n : Nat) : Nat := baseLATTICE + 0x4 + 0x4 * n
abbrev LATTICE_ARGn_ARG (n : Nat) : Fld := ⟨LATTICE_ARGn n, 31, 0⟩
/-- LATTICE_STAT (R475, 15). -/
abbrev LATTICE_STAT : Nat := baseLATTICE + 0x14
abbrev LATTICE_STAT_BUSY : Fld := ⟨LATTICE_STAT, 31, 31⟩
abbrev LATTICE_STAT_QUEUED : Fld := ⟨LATTICE_STAT, 30, 30⟩
abbrev LATTICE_STAT_IDKEY : Fld := ⟨LATTICE_STAT, 29, 29⟩
abbrev LATTICE_STAT_LOADER : Fld := ⟨LATTICE_STAT, 28, 28⟩
abbrev LATTICE_STAT_ITER : Fld := ⟨LATTICE_STAT, 23, 16⟩
abbrev LATTICE_STAT_STATUS : Fld := ⟨LATTICE_STAT, 7, 0⟩
/-- LATTICE_TIME (R475, 15). -/
abbrev LATTICE_TIME : Nat := baseLATTICE + 0x18
abbrev LATTICE_TIME_US : Fld := ⟨LATTICE_TIME, 31, 0⟩
/-- LATTICE_IRQ (R475, 15). -/
abbrev LATTICE_IRQ : Nat := baseLATTICE + 0x1c
abbrev LATTICE_IRQ_IDLOST : Fld := ⟨LATTICE_IRQ, 1, 1⟩
abbrev LATTICE_IRQ_DONE : Fld := ⟨LATTICE_IRQ, 0, 0⟩
/-- LATTICE_IRQEN (R475, 15). -/
abbrev LATTICE_IRQEN : Nat := baseLATTICE + 0x20
abbrev LATTICE_IRQEN_EN : Fld := ⟨LATTICE_IRQEN, 1, 0⟩
/-- LATTICE_DEVIDn (R475, 15). -/
abbrev LATTICE_DEVIDn (n : Nat) : Nat := baseLATTICE + 0x80 + 0x4 * n
abbrev LATTICE_DEVIDn_ID (n : Nat) : Fld := ⟨LATTICE_DEVIDn n, 31, 0⟩
/-- LATTICE_MEASn (R475, 15). -/
abbrev LATTICE_MEASn (n : Nat) : Nat := baseLATTICE + 0x100 + 0x4 * n
abbrev LATTICE_MEASn_M (n : Nat) : Fld := ⟨LATTICE_MEASn n, 31, 0⟩

/-! ### OTP registers -/

/-- OTP_CMD (R476, 15). -/
abbrev OTP_CMD : Nat := baseOTP + 0x0
abbrev OTP_CMD_ARG : Fld := ⟨OTP_CMD, 7, 4⟩
abbrev OTP_CMD_OP : Fld := ⟨OTP_CMD, 1, 0⟩
/-- OTP_ADDR (R476, 15). -/
abbrev OTP_ADDR : Nat := baseOTP + 0x4
abbrev OTP_ADDR_WORD : Fld := ⟨OTP_ADDR, 7, 0⟩
/-- OTP_DATA (R476, 15). -/
abbrev OTP_DATA : Nat := baseOTP + 0x8
abbrev OTP_DATA_DATA : Fld := ⟨OTP_DATA, 31, 0⟩
/-- OTP_STAT (R476, 15). -/
abbrev OTP_STAT : Nat := baseOTP + 0xc
abbrev OTP_STAT_BUSY : Fld := ⟨OTP_STAT, 31, 31⟩
abbrev OTP_STAT_STATUS : Fld := ⟨OTP_STAT, 7, 0⟩
/-- OTP_ARB0 (R476, 15). -/
abbrev OTP_ARB0 : Nat := baseOTP + 0x10
abbrev OTP_ARB0_V : Fld := ⟨OTP_ARB0, 31, 0⟩
/-- OTP_ARB1 (R476, 15). -/
abbrev OTP_ARB1 : Nat := baseOTP + 0x14
abbrev OTP_ARB1_V : Fld := ⟨OTP_ARB1, 31, 0⟩
/-- OTP_FLAGS (R476, 15). -/
abbrev OTP_FLAGS : Nat := baseOTP + 0x18
abbrev OTP_FLAGS_KEYLOCK : Fld := ⟨OTP_FLAGS, 2, 2⟩
abbrev OTP_FLAGS_ROOT_REVOKE : Fld := ⟨OTP_FLAGS, 1, 1⟩
abbrev OTP_FLAGS_DESTRUCT : Fld := ⟨OTP_FLAGS, 0, 0⟩
/-- OTP_IRQ (R476, 15). -/
abbrev OTP_IRQ : Nat := baseOTP + 0x1c
abbrev OTP_IRQ_FAIL : Fld := ⟨OTP_IRQ, 1, 1⟩
abbrev OTP_IRQ_DONE : Fld := ⟨OTP_IRQ, 0, 0⟩
/-- OTP_IRQEN (R476, 15). -/
abbrev OTP_IRQEN : Nat := baseOTP + 0x20
abbrev OTP_IRQEN_EN : Fld := ⟨OTP_IRQEN, 1, 0⟩
/-- OTP_WORDn (R476, 15). -/
abbrev OTP_WORDn (n : Nat) : Nat := baseOTP + 0x400 + 0x4 * n
abbrev OTP_WORDn_W (n : Nat) : Fld := ⟨OTP_WORDn n, 31, 0⟩

/-! ### UPD registers -/

/-- UPD_BOOT (R504, 16). -/
abbrev UPD_BOOT : Nat := baseSYS + 0x9000
abbrev UPD_BOOT_ROMEXIT : Fld := ⟨UPD_BOOT, 31, 31⟩
abbrev UPD_BOOT_TEXP : Fld := ⟨UPD_BOOT, 30, 30⟩
abbrev UPD_BOOT_RECOV : Fld := ⟨UPD_BOOT, 29, 29⟩
abbrev UPD_BOOT_TRIAL : Fld := ⟨UPD_BOOT, 28, 28⟩
abbrev UPD_BOOT_TRIES : Fld := ⟨UPD_BOOT, 23, 16⟩
abbrev UPD_BOOT_SET : Fld := ⟨UPD_BOOT, 8, 8⟩
abbrev UPD_BOOT_STATUS : Fld := ⟨UPD_BOOT, 7, 0⟩
/-- UPD_GENOLD (R504, 16). -/
abbrev UPD_GENOLD : Nat := baseSYS + 0x9004
abbrev UPD_GENOLD_GEN : Fld := ⟨UPD_GENOLD, 31, 0⟩
/-- UPD_GENNEW (R504, 16). -/
abbrev UPD_GENNEW : Nat := baseSYS + 0x9008
abbrev UPD_GENNEW_GEN : Fld := ⟨UPD_GENNEW, 31, 0⟩
/-- UPD_TRIAL (R504, 16). -/
abbrev UPD_TRIAL : Nat := baseSYS + 0x900c
abbrev UPD_TRIAL_RUN : Fld := ⟨UPD_TRIAL, 31, 31⟩
abbrev UPD_TRIAL_STOP : Fld := ⟨UPD_TRIAL, 30, 30⟩
abbrev UPD_TRIAL_SECS : Fld := ⟨UPD_TRIAL, 15, 0⟩
/-- UPD_TLEFT (R504, 16). -/
abbrev UPD_TLEFT : Nat := baseSYS + 0x9010
abbrev UPD_TLEFT_ST : Fld := ⟨UPD_TLEFT, 31, 0⟩

/-! ### BIST registers -/

/-- BIST_CTRL (R522, 17). -/
abbrev BIST_CTRL : Nat := baseBIST + 0x0
abbrev BIST_CTRL_CNTCLR : Fld := ⟨BIST_CTRL, 1, 1⟩
abbrev BIST_CTRL_EN : Fld := ⟨BIST_CTRL, 0, 0⟩
/-- BIST_CFG (R522, 17). -/
abbrev BIST_CFG : Nat := baseBIST + 0x4
abbrev BIST_CFG_RRDL : Fld := ⟨BIST_CFG, 23, 16⟩
abbrev BIST_CFG_CYCLE : Fld := ⟨BIST_CFG, 15, 0⟩
/-- BIST_STAT (R522, 17). -/
abbrev BIST_STAT : Nat := baseBIST + 0x8
abbrev BIST_STAT_SLICE : Fld := ⟨BIST_STAT, 31, 31⟩
abbrev BIST_STAT_REFBAD : Fld := ⟨BIST_STAT, 30, 30⟩
abbrev BIST_STAT_DUE : Fld := ⟨BIST_STAT, 29, 23⟩
abbrev BIST_STAT_ITEM : Fld := ⟨BIST_STAT, 22, 16⟩
abbrev BIST_STAT_LEFT : Fld := ⟨BIST_STAT, 15, 0⟩
/-- BIST_REQ (R522, 17). -/
abbrev BIST_REQ : Nat := baseBIST + 0xc
abbrev BIST_REQ_DEADLINE : Fld := ⟨BIST_REQ, 31, 16⟩
abbrev BIST_REQ_REINT : Fld := ⟨BIST_REQ, 8, 8⟩
abbrev BIST_REQ_ITEM : Fld := ⟨BIST_REQ, 6, 0⟩
/-- BIST_REQRES (R522, 17). -/
abbrev BIST_REQRES : Nat := baseBIST + 0x10
abbrev BIST_REQRES_BUSY : Fld := ⟨BIST_REQRES, 31, 31⟩
abbrev BIST_REQRES_STATUS : Fld := ⟨BIST_REQRES, 15, 8⟩
abbrev BIST_REQRES_ITEM : Fld := ⟨BIST_REQRES, 6, 0⟩
/-- BIST_ITEMSEL (R522, 17). -/
abbrev BIST_ITEMSEL : Nat := baseBIST + 0x14
abbrev BIST_ITEMSEL_ITEM : Fld := ⟨BIST_ITEMSEL, 6, 0⟩
/-- BIST_ITEM (R522, 17). -/
abbrev BIST_ITEM : Nat := baseBIST + 0x18
abbrev BIST_ITEM_TRANSIENTS : Fld := ⟨BIST_ITEM, 31, 24⟩
abbrev BIST_ITEM_LAST : Fld := ⟨BIST_ITEM, 23, 16⟩
abbrev BIST_ITEM_STATE : Fld := ⟨BIST_ITEM, 2, 0⟩
/-- BIST_IRQ (R522, 17). -/
abbrev BIST_IRQ : Nat := baseBIST + 0x1c
abbrev BIST_IRQ_RERUNLATE : Fld := ⟨BIST_IRQ, 6, 6⟩
abbrev BIST_IRQ_REFBAD : Fld := ⟨BIST_IRQ, 5, 5⟩
abbrev BIST_IRQ_REINT : Fld := ⟨BIST_IRQ, 4, 4⟩
abbrev BIST_IRQ_UNUSABLE : Fld := ⟨BIST_IRQ, 3, 3⟩
abbrev BIST_IRQ_TRANSIENT : Fld := ⟨BIST_IRQ, 2, 2⟩
abbrev BIST_IRQ_REQDONE : Fld := ⟨BIST_IRQ, 1, 1⟩
abbrev BIST_IRQ_CYCLEDONE : Fld := ⟨BIST_IRQ, 0, 0⟩
/-- BIST_IRQEN (R522, 17). -/
abbrev BIST_IRQEN : Nat := baseBIST + 0x20
abbrev BIST_IRQEN_EN : Fld := ⟨BIST_IRQEN, 6, 0⟩
/-- BIST_CNT (R522, 17). -/
abbrev BIST_CNT : Nat := baseBIST + 0x24
abbrev BIST_CNT_SLICES : Fld := ⟨BIST_CNT, 31, 16⟩
abbrev BIST_CNT_ABORTED : Fld := ⟨BIST_CNT, 15, 8⟩
abbrev BIST_CNT_IGNREP : Fld := ⟨BIST_CNT, 7, 0⟩

/-! ### LOG registers -/

/-- LOG_CTRL (R523, 17). -/
abbrev LOG_CTRL : Nat := baseLOG + 0x0
abbrev LOG_CTRL_CLEAR : Fld := ⟨LOG_CTRL, 0, 0⟩
/-- LOG_CFG (R523, 17). -/
abbrev LOG_CFG : Nat := baseLOG + 0x4
abbrev LOG_CFG_WATER : Fld := ⟨LOG_CFG, 27, 16⟩
abbrev LOG_CFG_MODE : Fld := ⟨LOG_CFG, 0, 0⟩
/-- LOG_HEAD (R523, 17). -/
abbrev LOG_HEAD : Nat := baseLOG + 0x8
abbrev LOG_HEAD_SEQ : Fld := ⟨LOG_HEAD, 31, 0⟩
/-- LOG_FIRST (R523, 17). -/
abbrev LOG_FIRST : Nat := baseLOG + 0xc
abbrev LOG_FIRST_SEQ : Fld := ⟨LOG_FIRST, 31, 0⟩
/-- LOG_ACK (R523, 17). -/
abbrev LOG_ACK : Nat := baseLOG + 0x10
abbrev LOG_ACK_SEQ : Fld := ⟨LOG_ACK, 31, 0⟩
/-- LOG_LOST (R523, 17). -/
abbrev LOG_LOST : Nat := baseLOG + 0x14
abbrev LOG_LOST_COUNT : Fld := ⟨LOG_LOST, 31, 0⟩
/-- LOG_RDSEQ (R523, 17). -/
abbrev LOG_RDSEQ : Nat := baseLOG + 0x18
abbrev LOG_RDSEQ_SEQ : Fld := ⟨LOG_RDSEQ, 31, 0⟩
/-- LOG_RDSTAT (R523, 17). -/
abbrev LOG_RDSTAT : Nat := baseLOG + 0x1c
abbrev LOG_RDSTAT_HELD : Fld := ⟨LOG_RDSTAT, 0, 0⟩
/-- LOG_RDWn (R523, 17). -/
abbrev LOG_RDWn (n : Nat) : Nat := baseLOG + 0x20 + 0x4 * n
abbrev LOG_RDWn_W (n : Nat) : Fld := ⟨LOG_RDWn n, 31, 0⟩
/-- LOG_WDATA (R523, 17). -/
abbrev LOG_WDATA : Nat := baseLOG + 0x30
abbrev LOG_WDATA_DATA : Fld := ⟨LOG_WDATA, 31, 0⟩
/-- LOG_WCMD (R523, 17). -/
abbrev LOG_WCMD : Nat := baseLOG + 0x34
abbrev LOG_WCMD_AUX : Fld := ⟨LOG_WCMD, 31, 16⟩
abbrev LOG_WCMD_CODE : Fld := ⟨LOG_WCMD, 15, 8⟩
abbrev LOG_WCMD_SOURCE : Fld := ⟨LOG_WCMD, 4, 0⟩
/-- LOG_IRQ (R523, 17). -/
abbrev LOG_IRQ : Nat := baseLOG + 0x38
abbrev LOG_IRQ_LOST : Fld := ⟨LOG_IRQ, 2, 2⟩
abbrev LOG_IRQ_WATER : Fld := ⟨LOG_IRQ, 1, 1⟩
abbrev LOG_IRQ_NEW : Fld := ⟨LOG_IRQ, 0, 0⟩
/-- LOG_IRQEN (R523, 17). -/
abbrev LOG_IRQEN : Nat := baseLOG + 0x3c
abbrev LOG_IRQEN_EN : Fld := ⟨LOG_IRQEN, 2, 0⟩

/-! ### GPIO registers -/

/-- GPIO_OUT (R546, 18). -/
abbrev GPIO_OUT : Nat := baseGPIO + 0x0
abbrev GPIO_OUT_OUT : Fld := ⟨GPIO_OUT, 19, 0⟩
/-- GPIO_SET (R546, 18). -/
abbrev GPIO_SET : Nat := baseGPIO + 0x4
abbrev GPIO_SET_OUT : Fld := ⟨GPIO_SET, 19, 0⟩
/-- GPIO_CLR (R546, 18). -/
abbrev GPIO_CLR : Nat := baseGPIO + 0x8
abbrev GPIO_CLR_OUT : Fld := ⟨GPIO_CLR, 19, 0⟩
/-- GPIO_IN (R546, 18). -/
abbrev GPIO_IN : Nat := baseGPIO + 0xc
abbrev GPIO_IN_IN : Fld := ⟨GPIO_IN, 19, 0⟩
/-- GPIO_DIR (R546, 18). -/
abbrev GPIO_DIR : Nat := baseGPIO + 0x10
abbrev GPIO_DIR_DIR : Fld := ⟨GPIO_DIR, 19, 0⟩
/-- GPIO_OD (R546, 18). -/
abbrev GPIO_OD : Nat := baseGPIO + 0x14
abbrev GPIO_OD_OD : Fld := ⟨GPIO_OD, 19, 0⟩
/-- GPIO_PULL0 (R546, 18). -/
abbrev GPIO_PULL0 : Nat := baseGPIO + 0x18
abbrev GPIO_PULL0_PULL : Fld := ⟨GPIO_PULL0, 31, 0⟩
/-- GPIO_PULL1 (R546, 18). -/
abbrev GPIO_PULL1 : Nat := baseGPIO + 0x1c
abbrev GPIO_PULL1_PULL : Fld := ⟨GPIO_PULL1, 31, 0⟩
/-- GPIO_TOUT (R546, 18). -/
abbrev GPIO_TOUT : Nat := baseGPIO + 0x20
abbrev GPIO_TOUT_TOUT : Fld := ⟨GPIO_TOUT, 31, 0⟩
/-- GPIO_TOUTSET (R546, 18). -/
abbrev GPIO_TOUTSET : Nat := baseGPIO + 0x24
abbrev GPIO_TOUTSET_TOUT : Fld := ⟨GPIO_TOUTSET, 31, 0⟩
/-- GPIO_TOUTCLR (R546, 18). -/
abbrev GPIO_TOUTCLR : Nat := baseGPIO + 0x28
abbrev GPIO_TOUTCLR_TOUT : Fld := ⟨GPIO_TOUTCLR, 31, 0⟩
/-- GPIO_FUNCn (R546, 18). -/
abbrev GPIO_FUNCn (n : Nat) : Nat := baseGPIO + 0x40 + 0x4 * n
abbrev GPIO_FUNCn_INV (n : Nat) : Fld := ⟨GPIO_FUNCn n, 16, 16⟩
abbrev GPIO_FUNCn_UNIT (n : Nat) : Fld := ⟨GPIO_FUNCn n, 12, 8⟩
abbrev GPIO_FUNCn_SRC (n : Nat) : Fld := ⟨GPIO_FUNCn n, 0, 0⟩

/-! ### SYS registers -/

/-- SYS_COMPAT (R560, 18). -/
abbrev SYS_COMPAT : Nat := baseSYS + 0x10
abbrev SYS_COMPAT_BOOTSEL : Fld := ⟨SYS_COMPAT, 5, 4⟩
abbrev SYS_COMPAT_PENDING : Fld := ⟨SYS_COMPAT, 2, 2⟩
abbrev SYS_COMPAT_REQ : Fld := ⟨SYS_COMPAT, 1, 1⟩
abbrev SYS_COMPAT_GEN : Fld := ⟨SYS_COMPAT, 0, 0⟩
/-- SYS_DBGCTL (R560, 18). -/
abbrev SYS_DBGCTL : Nat := baseSYS + 0x14
abbrev SYS_DBGCTL_CONN : Fld := ⟨SYS_DBGCTL, 8, 8⟩
abbrev SYS_DBGCTL_LEVEL : Fld := ⟨SYS_DBGCTL, 1, 0⟩

/-! ### HIF registers -/

/-- HIF_CTRL (R561, 18). -/
abbrev HIF_CTRL : Nat := baseHIF + 0x0
abbrev HIF_CTRL_CNTCLR : Fld := ⟨HIF_CTRL, 1, 1⟩
abbrev HIF_CTRL_EN : Fld := ⟨HIF_CTRL, 0, 0⟩
/-- HIF_BUF (R561, 18). -/
abbrev HIF_BUF : Nat := baseHIF + 0x4
abbrev HIF_BUF_BASE : Fld := ⟨HIF_BUF, 31, 12⟩
/-- HIF_CMDQ (R561, 18). -/
abbrev HIF_CMDQ : Nat := baseHIF + 0x8
abbrev HIF_CMDQ_VALID : Fld := ⟨HIF_CMDQ, 31, 31⟩
abbrev HIF_CMDQ_SLOT : Fld := ⟨HIF_CMDQ, 2, 0⟩
/-- HIF_POST (R561, 18). -/
abbrev HIF_POST : Nat := baseHIF + 0xc
abbrev HIF_POST_EV : Fld := ⟨HIF_POST, 8, 8⟩
abbrev HIF_POST_SLOT : Fld := ⟨HIF_POST, 2, 0⟩
/-- HIF_STAT (R561, 18). -/
abbrev HIF_STAT : Nat := baseHIF + 0x10
abbrev HIF_STAT_FREE : Fld := ⟨HIF_STAT, 31, 28⟩
abbrev HIF_STAT_DONE : Fld := ⟨HIF_STAT, 27, 24⟩
abbrev HIF_STAT_EVHELD : Fld := ⟨HIF_STAT, 23, 16⟩
abbrev HIF_STAT_EVHEAD : Fld := ⟨HIF_STAT, 15, 10⟩
abbrev HIF_STAT_G1ADDR : Fld := ⟨HIF_STAT, 5, 0⟩
/-- HIF_CNT (R561, 18). -/
abbrev HIF_CNT : Nat := baseHIF + 0x14
abbrev HIF_CNT_FRMERR : Fld := ⟨HIF_CNT, 31, 24⟩
abbrev HIF_CNT_DROPPED : Fld := ⟨HIF_CNT, 23, 16⟩
abbrev HIF_CNT_BADACK : Fld := ⟨HIF_CNT, 15, 8⟩
abbrev HIF_CNT_EVLOST : Fld := ⟨HIF_CNT, 7, 0⟩
/-- HIF_IRQ (R561, 18). -/
abbrev HIF_IRQ : Nat := baseHIF + 0x18
abbrev HIF_IRQ_SWITCHED : Fld := ⟨HIF_IRQ, 4, 4⟩
abbrev HIF_IRQ_G1WR : Fld := ⟨HIF_IRQ, 3, 3⟩
abbrev HIF_IRQ_EVACK : Fld := ⟨HIF_IRQ, 2, 2⟩
abbrev HIF_IRQ_ACK : Fld := ⟨HIF_IRQ, 1, 1⟩
abbrev HIF_IRQ_CMD : Fld := ⟨HIF_IRQ, 0, 0⟩
/-- HIF_IRQEN (R561, 18). -/
abbrev HIF_IRQEN : Nat := baseHIF + 0x1c
abbrev HIF_IRQEN_EN : Fld := ⟨HIF_IRQEN, 4, 0⟩
/-- HIF_G1WINn (R561, 18). -/
abbrev HIF_G1WINn (n : Nat) : Nat := baseHIF + 0x100 + 0x4 * n
abbrev HIF_G1WINn_HI (n : Nat) : Fld := ⟨HIF_G1WINn n, 31, 16⟩
abbrev HIF_G1WINn_LO (n : Nat) : Fld := ⟨HIF_G1WINn n, 15, 0⟩

/-! ### NET registers -/

/-- NET_CTRL (R562, 18). -/
abbrev NET_CTRL : Nat := baseNET + 0x0
abbrev NET_CTRL_CNTCLR : Fld := ⟨NET_CTRL, 7, 7⟩
abbrev NET_CTRL_PROMISC : Fld := ⟨NET_CTRL, 6, 6⟩
abbrev NET_CTRL_REFOUT : Fld := ⟨NET_CTRL, 5, 5⟩
abbrev NET_CTRL_STAY : Fld := ⟨NET_CTRL, 4, 4⟩
abbrev NET_CTRL_FDX : Fld := ⟨NET_CTRL, 3, 3⟩
abbrev NET_CTRL_SPEED : Fld := ⟨NET_CTRL, 2, 2⟩
abbrev NET_CTRL_EN : Fld := ⟨NET_CTRL, 0, 0⟩
/-- NET_MACLO (R562, 18). -/
abbrev NET_MACLO : Nat := baseNET + 0x4
abbrev NET_MACLO_ADDR : Fld := ⟨NET_MACLO, 31, 0⟩
/-- NET_MACHI (R562, 18). -/
abbrev NET_MACHI : Nat := baseNET + 0x8
abbrev NET_MACHI_ADDR : Fld := ⟨NET_MACHI, 31, 0⟩
/-- NET_MDIO (R562, 18). -/
abbrev NET_MDIO : Nat := baseNET + 0xc
abbrev NET_MDIO_BUSY : Fld := ⟨NET_MDIO, 31, 31⟩
abbrev NET_MDIO_OP : Fld := ⟨NET_MDIO, 27, 26⟩
abbrev NET_MDIO_PHY : Fld := ⟨NET_MDIO, 25, 21⟩
abbrev NET_MDIO_REG : Fld := ⟨NET_MDIO, 20, 16⟩
abbrev NET_MDIO_DATA : Fld := ⟨NET_MDIO, 15, 0⟩
/-- NET_RXQ (R562, 18). -/
abbrev NET_RXQ : Nat := baseNET + 0x10
abbrev NET_RXQ_VALID : Fld := ⟨NET_RXQ, 31, 31⟩
abbrev NET_RXQ_STATUS : Fld := ⟨NET_RXQ, 23, 16⟩
abbrev NET_RXQ_LEN : Fld := ⟨NET_RXQ, 10, 0⟩
/-- NET_TXLEN (R562, 18). -/
abbrev NET_TXLEN : Nat := baseNET + 0x14
abbrev NET_TXLEN_LEN : Fld := ⟨NET_TXLEN, 10, 0⟩
/-- NET_CNT (R562, 18). -/
abbrev NET_CNT : Nat := baseNET + 0x18
abbrev NET_CNT_FCS : Fld := ⟨NET_CNT, 31, 16⟩
abbrev NET_CNT_OVF : Fld := ⟨NET_CNT, 15, 0⟩
/-- NET_IRQ (R562, 18). -/
abbrev NET_IRQ : Nat := baseNET + 0x1c
abbrev NET_IRQ_IRQ : Fld := ⟨NET_IRQ, 2, 0⟩
/-- NET_IRQEN (R562, 18). -/
abbrev NET_IRQEN : Nat := baseNET + 0x20
abbrev NET_IRQEN_EN : Fld := ⟨NET_IRQEN, 2, 0⟩

/-! ### UART registers -/

/-- UART_CFGn (R562, 18). -/
abbrev UART_CFGn (n : Nat) : Nat := baseUART + 0x0 + 0x20 * n
abbrev UART_CFGn_DIV (n : Nat) : Fld := ⟨UART_CFGn n, 31, 12⟩
abbrev UART_CFGn_EN (n : Nat) : Fld := ⟨UART_CFGn n, 7, 7⟩
abbrev UART_CFGn_FLOW (n : Nat) : Fld := ⟨UART_CFGn n, 6, 6⟩
abbrev UART_CFGn_PARITY (n : Nat) : Fld := ⟨UART_CFGn n, 5, 4⟩
abbrev UART_CFGn_STOP2 (n : Nat) : Fld := ⟨UART_CFGn n, 3, 3⟩
/-- UART_DATAn (R562, 18). -/
abbrev UART_DATAn (n : Nat) : Nat := baseUART + 0x4 + 0x20 * n
abbrev UART_DATAn_VALID (n : Nat) : Fld := ⟨UART_DATAn n, 31, 31⟩
abbrev UART_DATAn_FERR (n : Nat) : Fld := ⟨UART_DATAn n, 9, 9⟩
abbrev UART_DATAn_PERR (n : Nat) : Fld := ⟨UART_DATAn n, 8, 8⟩
abbrev UART_DATAn_OCTET (n : Nat) : Fld := ⟨UART_DATAn n, 7, 0⟩
/-- UART_STATn (R562, 18). -/
abbrev UART_STATn (n : Nat) : Nat := baseUART + 0x8 + 0x20 * n
abbrev UART_STATn_OVR (n : Nat) : Fld := ⟨UART_STATn n, 31, 24⟩
abbrev UART_STATn_RXLVL (n : Nat) : Fld := ⟨UART_STATn n, 22, 16⟩
abbrev UART_STATn_TXLVL (n : Nat) : Fld := ⟨UART_STATn n, 14, 8⟩
abbrev UART_STATn_CTS (n : Nat) : Fld := ⟨UART_STATn n, 1, 1⟩
abbrev UART_STATn_TXBUSY (n : Nat) : Fld := ⟨UART_STATn n, 0, 0⟩
/-- UART_IRQ (R562, 18). -/
abbrev UART_IRQ : Nat := baseUART + 0x40
abbrev UART_IRQ_IRQ : Fld := ⟨UART_IRQ, 7, 0⟩
/-- UART_IRQEN (R562, 18). -/
abbrev UART_IRQEN : Nat := baseUART + 0x44
abbrev UART_IRQEN_EN : Fld := ⟨UART_IRQEN, 7, 0⟩

/-! ### MIRROR registers -/

/-- MIRROR_CTRL (R563, 18). -/
abbrev MIRROR_CTRL : Nat := baseMIRROR + 0x0
abbrev MIRROR_CTRL_CNTCLR : Fld := ⟨MIRROR_CTRL, 3, 3⟩
abbrev MIRROR_CTRL_RELEASE : Fld := ⟨MIRROR_CTRL, 2, 2⟩
abbrev MIRROR_CTRL_KICK : Fld := ⟨MIRROR_CTRL, 1, 1⟩
abbrev MIRROR_CTRL_EN : Fld := ⟨MIRROR_CTRL, 0, 0⟩
/-- MIRROR_CFG (R563, 18). -/
abbrev MIRROR_CFG : Nat := baseMIRROR + 0x4
abbrev MIRROR_CFG_KICKTO : Fld := ⟨MIRROR_CFG, 31, 24⟩
abbrev MIRROR_CFG_SOLO : Fld := ⟨MIRROR_CFG, 23, 16⟩
abbrev MIRROR_CFG_DIV : Fld := ⟨MIRROR_CFG, 12, 12⟩
abbrev MIRROR_CFG_KEYSLOT : Fld := ⟨MIRROR_CFG, 4, 0⟩
/-- MIRROR_STAT (R563, 18). -/
abbrev MIRROR_STAT : Nat := baseMIRROR + 0x8
abbrev MIRROR_STAT_ROLE : Fld := ⟨MIRROR_STAT, 31, 30⟩
abbrev MIRROR_STAT_LINK : Fld := ⟨MIRROR_STAT, 29, 28⟩
abbrev MIRROR_STAT_PAIRACT : Fld := ⟨MIRROR_STAT, 27, 27⟩
abbrev MIRROR_STAT_PEERACT : Fld := ⟨MIRROR_STAT, 26, 26⟩
abbrev MIRROR_STAT_MISS : Fld := ⟨MIRROR_STAT, 25, 24⟩
/-- MIRROR_TOFS (R563, 18). -/
abbrev MIRROR_TOFS : Nat := baseMIRROR + 0xc
abbrev MIRROR_TOFS_OFS : Fld := ⟨MIRROR_TOFS, 31, 0⟩
/-- MIRROR_FWBUF (R563, 18). -/
abbrev MIRROR_FWBUF : Nat := baseMIRROR + 0x10
abbrev MIRROR_FWBUF_BASE : Fld := ⟨MIRROR_FWBUF, 31, 16⟩
/-- MIRROR_FWPOST (R563, 18). -/
abbrev MIRROR_FWPOST : Nat := baseMIRROR + 0x14
abbrev MIRROR_FWPOST_BUSY : Fld := ⟨MIRROR_FWPOST, 31, 24⟩
abbrev MIRROR_FWPOST_LEN : Fld := ⟨MIRROR_FWPOST, 20, 8⟩
abbrev MIRROR_FWPOST_BUF : Fld := ⟨MIRROR_FWPOST, 2, 0⟩
/-- MIRROR_FWRXQ (R563, 18). -/
abbrev MIRROR_FWRXQ : Nat := baseMIRROR + 0x18
abbrev MIRROR_FWRXQ_VALID : Fld := ⟨MIRROR_FWRXQ, 31, 31⟩
abbrev MIRROR_FWRXQ_LEN : Fld := ⟨MIRROR_FWRXQ, 28, 16⟩
abbrev MIRROR_FWRXQ_BUF : Fld := ⟨MIRROR_FWRXQ, 3, 0⟩
/-- MIRROR_IRQ (R563, 18). -/
abbrev MIRROR_IRQ : Nat := baseMIRROR + 0x1c
abbrev MIRROR_IRQ_FWTX : Fld := ⟨MIRROR_IRQ, 7, 7⟩
abbrev MIRROR_IRQ_FWRX : Fld := ⟨MIRROR_IRQ, 6, 6⟩
abbrev MIRROR_IRQ_DUAL : Fld := ⟨MIRROR_IRQ, 5, 5⟩
abbrev MIRROR_IRQ_HBMISS : Fld := ⟨MIRROR_IRQ, 4, 4⟩
abbrev MIRROR_IRQ_LINKDOWN : Fld := ⟨MIRROR_IRQ, 3, 3⟩
abbrev MIRROR_IRQ_LINKUP : Fld := ⟨MIRROR_IRQ, 2, 2⟩
abbrev MIRROR_IRQ_STANDBY : Fld := ⟨MIRROR_IRQ, 1, 1⟩
abbrev MIRROR_IRQ_ACTIVE : Fld := ⟨MIRROR_IRQ, 0, 0⟩
/-- MIRROR_IRQEN (R563, 18). -/
abbrev MIRROR_IRQEN : Nat := baseMIRROR + 0x20
abbrev MIRROR_IRQEN_EN : Fld := ⟨MIRROR_IRQEN, 7, 0⟩
/-- MIRROR_CNT (R563, 18). -/
abbrev MIRROR_CNT : Nat := baseMIRROR + 0x24
abbrev MIRROR_CNT_CRCERR : Fld := ⟨MIRROR_CNT, 31, 24⟩
abbrev MIRROR_CNT_RETX : Fld := ⟨MIRROR_CNT, 23, 16⟩
abbrev MIRROR_CNT_DIVDROP : Fld := ⟨MIRROR_CNT, 15, 8⟩
abbrev MIRROR_CNT_HBMISS : Fld := ⟨MIRROR_CNT, 7, 0⟩

end Sys2Proof.Machine
end

