-- ==== Sys2Proof/Machine/RegTable.lean ====
section
/-! DEFINITION. The register table of the spec as data: for each register its address, its reset value and which of
its bits are RW, W1C, W1S and WO (R5, R7; the rest read and do not write). One list per block, in the order of R14. -/

namespace Sys2Proof.Machine
open Sys2Proof

/-- One register, or `count` like ones `stride` bytes apart, with the masks of its field types (R5). -/
structure RegRow where
  off : Nat
  count : Nat
  stride : Nat
  reset : Nat
  rw : Nat
  w1c : Nat
  w1s : Nat
  wo : Nat
  deriving DecidableEq, Repr

def rowsRFx : List RegRow := [
  -- RFx_CTRL
  ⟨0x0, 1, 0x4, 0x0, 0x1, 0x0, 0x0, 0xf8⟩,
  -- RFx_STATE
  ⟨0x4, 1, 0x4, 0x0, 0x0, 0x0, 0x0, 0x0⟩,
  -- RFx_WIN
  ⟨0x8, 1, 0x4, 0x0, 0x0, 0x0, 0x0, 0x0⟩,
  -- RFx_WINREQ
  ⟨0xc, 1, 0x4, 0x0, 0x0, 0x0, 0x0, 0xf⟩,
  -- RFx_TXFREQ
  ⟨0x10, 1, 0x4, 0x0, 0x1ffffff, 0x0, 0x0, 0x0⟩,
  -- RFx_TXSTART
  ⟨0x14, 1, 0x4, 0x0, 0xffffffff, 0x0, 0x0, 0x0⟩,
  -- RFx_TXCMD
  ⟨0x18, 1, 0x4, 0x0, 0x0, 0x0, 0x0, 0xffff03ff⟩,
  -- RFx_TXLATE
  ⟨0x1c, 1, 0x4, 0x0, 0xffff, 0x0, 0x0, 0x0⟩,
  -- RFx_TXSTAT
  ⟨0x20, 1, 0x4, 0x0, 0x0, 0x0, 0x0, 0x0⟩,
  -- RFx_GAIN
  ⟨0x24, 1, 0x4, 0x320080, 0xff0ff7, 0x0, 0x0, 0x0⟩,
  -- RFx_IQCORR
  ⟨0x28, 1, 0x4, 0x0, 0x0, 0x0, 0x0, 0x0⟩,
  -- RFx_CALSTAT
  ⟨0x2c, 1, 0x4, 0x0, 0x0, 0x0, 0x0, 0x0⟩,
  -- RFx_TUNTX
  ⟨0x30, 1, 0x4, 0x0, 0x3f3f, 0x0, 0x0, 0x0⟩,
  -- RFx_TUNRX
  ⟨0x34, 1, 0x4, 0x0, 0x3f3f, 0x0, 0x0, 0x0⟩,
  -- RFx_TUNSTAT
  ⟨0x38, 1, 0x4, 0x0, 0x0, 0x0, 0x0, 0x0⟩,
  -- RFx_FEMMAP
  ⟨0x3c, 1, 0x4, 0x0, 0xfffff, 0x0, 0x0, 0x0⟩,
  -- RFx_IRQ
  ⟨0x40, 1, 0x4, 0x0, 0x0, 0x1ff, 0x0, 0x0⟩,
  -- RFx_IRQEN
  ⟨0x44, 1, 0x4, 0x0, 0x1ff, 0x0, 0x0, 0x0⟩,
  -- RFx_BLINDUS
  ⟨0x48, 1, 0x4, 0x0, 0x0, 0x0, 0x0, 0x0⟩,
  -- RFx_PTABn
  ⟨0x100, 80, 0x4, 0x0, 0x0, 0x0, 0x0, 0x0⟩]

def rowsSYS : List RegRow := [
  -- SYS_COMPAT
  ⟨0x10, 1, 0x4, 0x0, 0x2, 0x0, 0x0, 0x0⟩,
  -- SYS_DBGCTL
  ⟨0x14, 1, 0x4, 0x0, 0x3, 0x0, 0x0, 0x0⟩,
  -- PWR_CMD
  ⟨0x8000, 1, 0x4, 0x0, 0x0, 0x0, 0x0, 0x7⟩,
  -- PWR_SADDLECFG
  ⟨0x8004, 1, 0x4, 0x80040040, 0x80ffffff, 0x0, 0x0, 0x0⟩,
  -- PWR_WAKEEN
  ⟨0x8008, 1, 0x4, 0x4000000, 0xbffffff, 0x0, 0x0, 0x0⟩,
  -- PWR_RETAIN
  ⟨0x800c, 1, 0x4, 0x380000f, 0x7fffff, 0x0, 0x0, 0x0⟩,
  -- PWR_VOTE
  ⟨0x8010, 1, 0x4, 0x0, 0x0, 0x0, 0x0, 0x0⟩,
  -- PWR_STAT
  ⟨0x8014, 1, 0x4, 0x0, 0x0, 0x0, 0x0, 0x0⟩,
  -- PWR_RSTCAUSE
  ⟨0x8018, 1, 0x4, 0x1, 0x0, 0x0, 0x0, 0x0⟩,
  -- PWR_CORECTL
  ⟨0x801c, 1, 0x4, 0x0, 0x7, 0x0, 0x0, 0x0⟩,
  -- PWR_CORESTAT
  ⟨0x8020, 1, 0x4, 0x40, 0x0, 0x0, 0x0, 0x0⟩,
  -- PWR_SCPC
  ⟨0x8024, 1, 0x4, 0x0, 0xffffff00, 0x0, 0x0, 0x0⟩,
  -- PWR_CLKCFG
  ⟨0x8028, 1, 0x4, 0x10064, 0x103ff, 0x0, 0x0, 0x0⟩,
  -- PWR_VINMON
  ⟨0x802c, 1, 0x4, 0x55, 0x3ff, 0x0, 0x0, 0x0⟩,
  -- PWR_IRQ
  ⟨0x8030, 1, 0x4, 0x0, 0x0, 0x1f, 0x0, 0x0⟩,
  -- PWR_IRQEN
  ⟨0x8034, 1, 0x4, 0x0, 0x1f, 0x0, 0x0, 0x0⟩,
  -- PWR_SADCNT
  ⟨0x8038, 1, 0x4, 0x0, 0x0, 0x0, 0x0, 0x0⟩,
  -- PWR_SADCNT2
  ⟨0x803c, 1, 0x4, 0x0, 0x0, 0x0, 0x0, 0x0⟩,
  -- PWR_REFUSEn
  ⟨0x8040, 8, 0x4, 0x0, 0x0, 0x0, 0x0, 0x0⟩,
  -- UPD_BOOT
  ⟨0x9000, 1, 0x4, 0x0, 0x30ff01ff, 0x0, 0x0, 0x0⟩,
  -- UPD_GENOLD
  ⟨0x9004, 1, 0x4, 0x0, 0xffffffff, 0x0, 0x0, 0x0⟩,
  -- UPD_GENNEW
  ⟨0x9008, 1, 0x4, 0x0, 0xffffffff, 0x0, 0x0, 0x0⟩,
  -- UPD_TRIAL
  ⟨0x900c, 1, 0x4, 0x0, 0xffff, 0x0, 0x0, 0x40000000⟩,
  -- UPD_TLEFT
  ⟨0x9010, 1, 0x4, 0x0, 0x0, 0x0, 0x0, 0x0⟩]

def rowsICU : List RegRow := [
  -- ICU_CTRL
  ⟨0x0, 1, 0x4, 0x0, 0x0, 0x0, 0x0, 0x1⟩,
  -- ICU_EOI
  ⟨0x4, 1, 0x4, 0x0, 0x0, 0x0, 0x0, 0x7ff⟩,
  -- ICU_BADEOI
  ⟨0x8, 1, 0x4, 0x0, 0x0, 0x0, 0x0, 0x0⟩,
  -- ICU_SWISET
  ⟨0xc, 1, 0x4, 0x0, 0x0, 0x0, 0xff, 0x0⟩,
  -- ICU_SWICLR
  ⟨0x10, 1, 0x4, 0x0, 0x0, 0xff, 0x0, 0x0⟩,
  -- ICU_ALSTAT
  ⟨0x14, 1, 0x4, 0x0, 0x0, 0xfffffff, 0x0, 0x0⟩,
  -- ICU_ALOVR
  ⟨0x18, 1, 0x4, 0x0, 0x0, 0xfffffff, 0x0, 0x0⟩,
  -- ICU_ALEN
  ⟨0x1c, 1, 0x4, 0x4000000, 0xbffffff, 0x0, 0x0, 0x0⟩,
  -- ICU_ALEDGE0
  ⟨0x20, 1, 0x4, 0x0, 0xffffffff, 0x0, 0x0, 0x0⟩,
  -- ICU_ALEDGE1
  ⟨0x24, 1, 0x4, 0x0, 0xfffff, 0x0, 0x0, 0x0⟩,
  -- ICU_ALPIN
  ⟨0x28, 1, 0x4, 0x0, 0x0, 0x0, 0x0, 0x0⟩,
  -- ICU_COREc
  ⟨0x100, 4, 0x100, 0x8, 0x10f, 0x0, 0x0, 0x0⟩,
  -- ICU_CURc
  ⟨0x104, 4, 0x100, 0x0, 0x0, 0x0, 0x0, 0x0⟩,
  -- ICU_FCURc
  ⟨0x108, 4, 0x100, 0x0, 0x0, 0x0, 0x0, 0x0⟩,
  -- ICU_ACTc
  ⟨0x10c, 4, 0x100, 0x0, 0x0, 0x0, 0x0, 0x0⟩,
  -- ICU_STATc
  ⟨0x110, 4, 0x100, 0x0, 0x0, 0x0, 0x0, 0x0⟩,
  -- ICU_SRCn
  ⟨0x1100, 1472, 0x4, 0x3000, 0x3171, 0x0, 0x0, 0x0⟩]

def rowsTMR : List RegRow := [
  -- TMR_CTRL
  ⟨0x0, 1, 0x4, 0x0, 0x0, 0x0, 0x0, 0x1⟩,
  -- TMR_RUN
  ⟨0x4, 1, 0x4, 0x0, 0xff, 0x0, 0x0, 0x0⟩,
  -- TMR_SLOWLO
  ⟨0x8, 1, 0x4, 0x0, 0x0, 0x0, 0x0, 0x0⟩,
  -- TMR_SLOWHI
  ⟨0xc, 1, 0x4, 0x0, 0x0, 0x0, 0x0, 0x0⟩,
  -- TMR_SCMPCTL
  ⟨0x10, 1, 0x4, 0x0, 0xe, 0xf00, 0x0, 0x0⟩,
  -- TMR_IRQ0
  ⟨0x14, 1, 0x4, 0x0, 0x0, 0xffffffff, 0x0, 0x0⟩,
  -- TMR_IRQEN0
  ⟨0x18, 1, 0x4, 0x0, 0xffffffff, 0x0, 0x0, 0x0⟩,
  -- TMR_IRQ1
  ⟨0x1c, 1, 0x4, 0x0, 0x0, 0xffff, 0x0, 0x0⟩,
  -- TMR_IRQEN1
  ⟨0x20, 1, 0x4, 0x0, 0xffff, 0x0, 0x0, 0x0⟩,
  -- TMR_PPSCFG
  ⟨0x24, 1, 0x4, 0x3840000, 0xffff0f07, 0x0, 0x0, 0x0⟩,
  -- TMR_PPSNTLO
  ⟨0x28, 1, 0x4, 0x0, 0x0, 0x0, 0x0, 0x0⟩,
  -- TMR_PPSNTHI
  ⟨0x2c, 1, 0x4, 0x0, 0x0, 0x0, 0x0, 0x0⟩,
  -- TMR_PPSSTAT
  ⟨0x30, 1, 0x4, 0x0, 0x0, 0x0, 0x0, 0x0⟩,
  -- TMR_SCMPnLO
  ⟨0x40, 4, 0x8, 0x0, 0xffffffff, 0x0, 0x0, 0x0⟩,
  -- TMR_SCMPnHI
  ⟨0x44, 4, 0x8, 0x0, 0xffff, 0x0, 0x0, 0x0⟩,
  -- TMR_CFGn
  ⟨0x80, 8, 0x4, 0x0, 0xf07, 0x0, 0x0, 0x0⟩,
  -- TMR_CNTn
  ⟨0xa0, 8, 0x4, 0x0, 0xffffffff, 0x0, 0x0, 0x0⟩,
  -- TMR_UuCFG
  ⟨0x100, 32, 0x10, 0x0, 0x7f7f0773, 0x0, 0x0, 0x0⟩,
  -- TMR_UuVAL
  ⟨0x104, 32, 0x10, 0x0, 0xffffffff, 0x0, 0x0, 0x0⟩,
  -- TMR_UuPER
  ⟨0x108, 32, 0x10, 0x0, 0xffffffff, 0x0, 0x0, 0x0⟩,
  -- TMR_UuSTAT
  ⟨0x10c, 32, 0x10, 0x0, 0x0, 0x0, 0x0, 0x0⟩]

def rowsPRISM : List RegRow := [
  -- PRISM_CTRL
  ⟨0x0, 1, 0x4, 0x0, 0x0, 0x0, 0x0, 0x1⟩,
  -- PRISM_BUDS
  ⟨0x4, 1, 0x4, 0xf0000800, 0x0, 0x0, 0x0, 0x0⟩,
  -- PRISM_BUDG
  ⟨0x8, 1, 0x4, 0xf0000800, 0x0, 0x0, 0x0, 0x0⟩,
  -- PRISM_SWAPCTL
  ⟨0xc, 1, 0x4, 0x3e8, 0xfff, 0x0, 0x0, 0x0⟩,
  -- PRISM_RAYSEL
  ⟨0x10, 1, 0x4, 0x0, 0x1ff, 0x0, 0x0, 0x0⟩,
  -- PRISM_RAYCFG
  ⟨0x14, 1, 0x4, 0x0, 0x0, 0x0, 0x0, 0x0⟩,
  -- PRISM_RAYFREQ
  ⟨0x18, 1, 0x4, 0x0, 0x0, 0x0, 0x0, 0x0⟩,
  -- PRISM_RAYTUNE
  ⟨0x1c, 1, 0x4, 0x0, 0x0, 0x0, 0x0, 0xffffffff⟩,
  -- PRISM_EMCMD
  ⟨0x20, 1, 0x4, 0x0, 0x0, 0x0, 0x0, 0x1ffffff⟩,
  -- PRISM_EMSTATS
  ⟨0x24, 1, 0x4, 0x0, 0x0, 0x0, 0x0, 0x0⟩,
  -- PRISM_EMSTATG
  ⟨0x28, 1, 0x4, 0x0, 0x0, 0x0, 0x0, 0x0⟩,
  -- PRISM_PRBCMD
  ⟨0x2c, 1, 0x4, 0x0, 0x0, 0x0, 0x0, 0x1ff0fff⟩,
  -- PRISM_PRBSTAT
  ⟨0x30, 1, 0x4, 0x0, 0x0, 0x0, 0x0, 0x0⟩,
  -- PRISM_LOUPES
  ⟨0x34, 1, 0x4, 0x0, 0x0, 0x0, 0x0, 0x0⟩,
  -- PRISM_LOUPEG
  ⟨0x38, 1, 0x4, 0x0, 0x0, 0x0, 0x0, 0x0⟩,
  -- PRISM_IRQ
  ⟨0x3c, 1, 0x4, 0x0, 0x0, 0xff, 0x0, 0x0⟩,
  -- PRISM_IRQEN
  ⟨0x40, 1, 0x4, 0x0, 0xff, 0x0, 0x0, 0x0⟩,
  -- PRISM_CNT
  ⟨0x44, 1, 0x4, 0x0, 0x0, 0x0, 0x0, 0x0⟩,
  -- PRISM_PRBn
  ⟨0x100, 64, 0x4, 0x0, 0x0, 0x0, 0x0, 0x0⟩]

def rowsFACET : List RegRow := [
  -- FACET_CTRL
  ⟨0x0, 1, 0x4, 0x0, 0x2, 0x0, 0x0, 0x1⟩,
  -- FACET_POOL
  ⟨0x4, 1, 0x4, 0x19000000, 0x0, 0x0, 0x0, 0x0⟩,
  -- FACET_ENGOK0
  ⟨0x8, 1, 0x4, 0xffffffff, 0x0, 0x0, 0x0, 0x0⟩,
  -- FACET_ENGOK1
  ⟨0xc, 1, 0x4, 0xffffffff, 0x0, 0x0, 0x0, 0x0⟩,
  -- FACET_SEL
  ⟨0x10, 1, 0x4, 0x0, 0x1ff, 0x0, 0x0, 0x0⟩,
  -- FACET_INFO
  ⟨0x14, 1, 0x4, 0x0, 0x0, 0x0, 0x0, 0x0⟩,
  -- FACET_PHY
  ⟨0x18, 1, 0x4, 0x0, 0x0, 0x0, 0x0, 0x0⟩,
  -- FACET_PLACE
  ⟨0x1c, 1, 0x4, 0x0, 0x0, 0x0, 0x0, 0x0⟩,
  -- FACET_DONEQ
  ⟨0x20, 1, 0x4, 0x0, 0x0, 0x0, 0x0, 0x0⟩,
  -- FACET_LBFREE
  ⟨0x24, 1, 0x4, 0x0, 0x0, 0x0, 0x0, 0x7ff⟩,
  -- FACET_LBSTAT
  ⟨0x28, 1, 0x4, 0x800, 0x0, 0x0, 0x0, 0x0⟩,
  -- FACET_LBWATER
  ⟨0x2c, 1, 0x4, 0x100, 0xfff, 0x0, 0x0, 0x0⟩,
  -- FACET_IRQ
  ⟨0x30, 1, 0x4, 0x0, 0x0, 0x7f, 0x0, 0x0⟩,
  -- FACET_IRQEN
  ⟨0x34, 1, 0x4, 0x0, 0x7f, 0x0, 0x0, 0x0⟩,
  -- FACET_CNTn
  ⟨0x40, 14, 0x4, 0x0, 0x0, 0x0, 0x0, 0x0⟩]

def rowsMAC : List RegRow := [
  -- MAC_CTRL
  ⟨0x0, 1, 0x4, 0x1, 0x3, 0x0, 0x0, 0x4⟩,
  -- MAC_NETID
  ⟨0x4, 1, 0x4, 0x0, 0xffffffff, 0x0, 0x0, 0x0⟩,
  -- MAC_HSEED
  ⟨0x8, 1, 0x4, 0x0, 0xffffffff, 0x0, 0x0, 0x0⟩,
  -- MAC_154ADDR
  ⟨0xc, 1, 0x4, 0xfffeffff, 0xffffffff, 0x0, 0x0, 0x0⟩,
  -- MAC_154CFG
  ⟨0x10, 1, 0x4, 0xc016, 0x10fffff, 0x0, 0x0, 0x0⟩,
  -- MAC_GACKCFG
  ⟨0x14, 1, 0x4, 0xc8, 0xfff, 0x0, 0x0, 0x0⟩,
  -- MAC_KEYSLOT
  ⟨0x18, 1, 0x4, 0x0, 0x1f, 0x0, 0x0, 0x0⟩,
  -- MAC_BCNCTL
  ⟨0x1c, 1, 0x4, 0x0, 0x7f01, 0x0, 0x0, 0x0⟩,
  -- MAC_DIRSTAT
  ⟨0x20, 1, 0x4, 0x0, 0x0, 0x0, 0x0, 0x0⟩,
  -- MAC_DIRFULL
  ⟨0x24, 1, 0x4, 0x0, 0x0, 0x0, 0x0, 0x0⟩,
  -- MAC_DIRKEY
  ⟨0x28, 1, 0x4, 0x0, 0xffffffff, 0x0, 0x0, 0x0⟩,
  -- MAC_DIRCMD
  ⟨0x2c, 1, 0x4, 0x0, 0x0, 0x0, 0x0, 0x103⟩,
  -- MAC_DIRRES
  ⟨0x30, 1, 0x4, 0x0, 0x0, 0x0, 0x0, 0x0⟩,
  -- MAC_DIRCTX
  ⟨0x34, 1, 0x4, 0x0, 0x0, 0x0, 0x0, 0x0⟩,
  -- MAC_DLPOOL
  ⟨0x38, 1, 0x4, 0x0, 0xffffffff, 0x0, 0x0, 0x0⟩,
  -- MAC_DLPOST
  ⟨0x3c, 1, 0x4, 0x0, 0x0, 0x0, 0x0, 0x1ff⟩,
  -- MAC_DLDONEQ
  ⟨0x40, 1, 0x4, 0x0, 0x0, 0x0, 0x0, 0x0⟩,
  -- MAC_DLSTAT
  ⟨0x44, 1, 0x4, 0x0, 0x0, 0x0, 0x0, 0x0⟩,
  -- MAC_JRESPLO
  ⟨0x48, 1, 0x4, 0x0, 0xffffffff, 0x0, 0x0, 0x0⟩,
  -- MAC_JRESPHI
  ⟨0x4c, 1, 0x4, 0x0, 0xffffffff, 0x0, 0x0, 0x0⟩,
  -- MAC_JRESPCMD
  ⟨0x50, 1, 0x4, 0x0, 0x0, 0x0, 0x0, 0xffff⟩,
  -- MAC_IRQ
  ⟨0x54, 1, 0x4, 0x0, 0x0, 0x1ff, 0x0, 0x0⟩,
  -- MAC_IRQEN
  ⟨0x58, 1, 0x4, 0x0, 0x1ff, 0x0, 0x0, 0x0⟩,
  -- MAC_LAT
  ⟨0x5c, 1, 0x4, 0x0, 0x0, 0x0, 0x0, 0x0⟩,
  -- MAC_BCNPAYn
  ⟨0x80, 16, 0x4, 0x0, 0xffffffff, 0x0, 0x0, 0x0⟩,
  -- MAC_CNTn
  ⟨0x100, 23, 0x4, 0x0, 0x0, 0x0, 0x0, 0x0⟩]

def rowsPAGER : List RegRow := [
  -- PAGER_CTRL
  ⟨0x0, 1, 0x4, 0x0, 0x0, 0x0, 0x0, 0x1⟩,
  -- PAGER_CFG
  ⟨0x4, 1, 0x4, 0x100a01f4, 0xffff0fff, 0x0, 0x0, 0x0⟩,
  -- PAGER_STAT
  ⟨0x8, 1, 0x4, 0x0, 0x0, 0x0, 0x0, 0x0⟩,
  -- PAGER_CMD
  ⟨0xc, 1, 0x4, 0x0, 0x0, 0x0, 0x0, 0x10f⟩,
  -- PAGER_RES
  ⟨0x10, 1, 0x4, 0x0, 0x0, 0x0, 0x0, 0x0⟩,
  -- PAGER_KEY
  ⟨0x14, 1, 0x4, 0x0, 0xffffffff, 0x0, 0x0, 0x0⟩,
  -- PAGER_EUILO
  ⟨0x18, 1, 0x4, 0x0, 0xffffffff, 0x0, 0x0, 0x0⟩,
  -- PAGER_EUIHI
  ⟨0x1c, 1, 0x4, 0x0, 0xffffffff, 0x0, 0x0, 0x0⟩,
  -- PAGER_SCHED
  ⟨0x20, 1, 0x4, 0x0, 0xfffffdff, 0x0, 0x0, 0x0⟩,
  -- PAGER_KEYWn
  ⟨0x24, 4, 0x4, 0x0, 0x0, 0x0, 0x0, 0xffffffff⟩,
  -- PAGER_KEYSLOT
  ⟨0x34, 1, 0x4, 0x0, 0x3f, 0x0, 0x0, 0x0⟩,
  -- PAGER_JSTAT
  ⟨0x38, 1, 0x4, 0x0, 0x0, 0x0, 0x0, 0x0⟩,
  -- PAGER_JSEQ
  ⟨0x3c, 1, 0x4, 0x0, 0x0, 0x0, 0x0, 0x0⟩,
  -- PAGER_EPOCH
  ⟨0x40, 1, 0x4, 0x0, 0x0, 0x0, 0x0, 0x0⟩,
  -- PAGER_IRQ
  ⟨0x44, 1, 0x4, 0x0, 0x0, 0xff, 0x0, 0x0⟩,
  -- PAGER_IRQEN
  ⟨0x48, 1, 0x4, 0x0, 0xff, 0x0, 0x0, 0x0⟩,
  -- PAGER_CNTn
  ⟨0x80, 12, 0x4, 0x0, 0x0, 0x0, 0x0, 0x0⟩,
  -- PAGER_CTXn
  ⟨0x100, 64, 0x4, 0x0, 0xffffffff, 0x0, 0x0, 0x0⟩]

def rowsSEQ_0 : List RegRow := [
  -- SEQ_CTRL
  ⟨0x0, 1, 0x4, 0x0, 0x1, 0x0, 0x0, 0x2⟩,
  -- SEQ_STAT
  ⟨0x4, 1, 0x4, 0x0, 0x0, 0x0, 0x0, 0x0⟩,
  -- SEQ_NTLO
  ⟨0x8, 1, 0x4, 0x0, 0xffffffff, 0x0, 0x0, 0x0⟩,
  -- SEQ_NTHI
  ⟨0xc, 1, 0x4, 0x0, 0xffffffff, 0x0, 0x0, 0x0⟩,
  -- SEQ_RATE
  ⟨0x10, 1, 0x4, 0x0, 0xffffffff, 0x0, 0x0, 0x0⟩,
  -- SEQ_SLEW
  ⟨0x14, 1, 0x4, 0x0, 0xffffffff, 0x0, 0x0, 0x0⟩,
  -- SEQ_TSRC
  ⟨0x18, 1, 0x4, 0x0, 0xffff007f, 0x0, 0x0, 0x0⟩,
  -- SEQ_TLOOP
  ⟨0x1c, 1, 0x4, 0x81441, 0xfffff, 0x0, 0x0, 0x0⟩,
  -- SEQ_GNSSSEC
  ⟨0x20, 1, 0x4, 0x0, 0xffffffff, 0x0, 0x0, 0x0⟩,
  -- SEQ_TERR
  ⟨0x24, 1, 0x4, 0x0, 0x0, 0x0, 0x0, 0x0⟩,
  -- SEQ_SLOWRI
  ⟨0x28, 1, 0x4, 0x17d7, 0x0, 0x0, 0x0, 0x0⟩,
  -- SEQ_SLOWRF
  ⟨0x2c, 1, 0x4, 0x84000000, 0x0, 0x0, 0x0, 0x0⟩,
  -- SEQ_TREFTR
  ⟨0x30, 1, 0x4, 0x0, 0x0, 0x0, 0x0, 0x0⟩,
  -- SEQ_TREFNT
  ⟨0x34, 1, 0x4, 0x0, 0x0, 0x0, 0x0, 0x0⟩,
  -- SEQ_SLOT
  ⟨0x38, 1, 0x4, 0x3e8, 0xffff, 0x0, 0x0, 0x0⟩,
  -- SEQ_WAKECFG
  ⟨0x3c, 1, 0x4, 0x830, 0xffff, 0x0, 0x0, 0x0⟩,
  -- SEQ_WAKE
  ⟨0x40, 1, 0x4, 0x0, 0x0, 0x0, 0x0, 0x0⟩,
  -- SEQ_RECSEL
  ⟨0x44, 1, 0x4, 0x0, 0x1ff, 0x0, 0x0, 0x0⟩,
  -- SEQ_RECCMD
  ⟨0x48, 1, 0x4, 0x0, 0x0, 0x0, 0x0, 0x3⟩,
  -- SEQ_LINK
  ⟨0x4c, 1, 0x4, 0x0, 0x0, 0x0, 0x0, 0x0⟩,
  -- SEQ_SRCHCFG
  ⟨0x50, 1, 0x4, 0x3c0064, 0xffffff, 0x0, 0x0, 0x0⟩,
  -- SEQ_TXPOOL
  ⟨0x54, 1, 0x4, 0x0, 0xfffff07f, 0x0, 0x0, 0x0⟩,
  -- SEQ_TXPOST
  ⟨0x58, 1, 0x4, 0x0, 0x0, 0x0, 0x0, 0x3f⟩,
  -- SEQ_TXDONEQ
  ⟨0x5c, 1, 0x4, 0x0, 0x0, 0x0, 0x0, 0x0⟩,
  -- SEQ_ACCSEL
  ⟨0x60, 1, 0x4, 0x0, 0x33f, 0x0, 0x0, 0x0⟩,
  -- SEQ_ACCUSE
  ⟨0x64, 1, 0x4, 0x0, 0x0, 0x0, 0x0, 0x0⟩,
  -- SEQ_ACCLIM
  ⟨0x68, 1, 0x4, 0x0, 0x0, 0x0, 0x0, 0x0⟩,
  -- SEQ_IRQ
  ⟨0x6c, 1, 0x4, 0x0, 0x0, 0x7ff, 0x0, 0x0⟩,
  -- SEQ_IRQEN
  ⟨0x70, 1, 0x4, 0x0, 0x7ff, 0x0, 0x0, 0x0⟩,
  -- SEQ_RECWn, n = 0–6
  ⟨0x80, 7, 0x4, 0x0, 0xffffffff, 0x0, 0x0, 0x0⟩,
  -- SEQ_RECW7, read-only
  ⟨0x9c, 1, 0x4, 0x0, 0x0, 0x0, 0x0, 0x0⟩]

def rowsSEQ_1 : List RegRow := [
  -- SEQ_CNTn
  ⟨0x100, 12, 0x4, 0x0, 0x0, 0x0, 0x0, 0x0⟩,
  -- SEQ_RLCFG
  ⟨0x8000, 1, 0x4, 0x3, 0x20f, 0x0, 0x0, 0x100⟩,
  -- SEQ_RLTHR
  ⟨0x8004, 1, 0x4, 0x24c49860, 0x3fffffff, 0x0, 0x0, 0x0⟩,
  -- SEQ_RLNBSEL
  ⟨0x8008, 1, 0x4, 0x0, 0x1f, 0x0, 0x0, 0x0⟩,
  -- SEQ_RLNB
  ⟨0x800c, 1, 0x4, 0x0, 0x0, 0x0, 0x0, 0x0⟩,
  -- SEQ_RLFOFS
  ⟨0x8010, 1, 0x4, 0x0, 0x0, 0x0, 0x0, 0x0⟩,
  -- SEQ_RLCMD
  ⟨0x8014, 1, 0x4, 0x0, 0x0, 0x0, 0x0, 0x3⟩,
  -- SEQ_RLLSTAT
  ⟨0x8018, 1, 0x4, 0x0, 0x0, 0x0, 0x0, 0x0⟩,
  -- SEQ_RLTABn
  ⟨0x8020, 8, 0x4, 0x0, 0x0, 0x0, 0x0, 0x0⟩,
  -- SEQ_RLRING0
  ⟨0x8040, 1, 0x4, 0x0, 0xfffff03f, 0x0, 0x0, 0x0⟩,
  -- SEQ_RLRING1
  ⟨0x8044, 1, 0x4, 0x0, 0xfffff03f, 0x0, 0x0, 0x0⟩,
  -- SEQ_RLRXQ0
  ⟨0x8048, 1, 0x4, 0x0, 0x1f00, 0x0, 0x0, 0x0⟩,
  -- SEQ_RLRXQ1
  ⟨0x804c, 1, 0x4, 0x0, 0x1f00, 0x0, 0x0, 0x0⟩,
  -- SEQ_RLIRQ
  ⟨0x8050, 1, 0x4, 0x0, 0x0, 0x7f, 0x0, 0x0⟩,
  -- SEQ_RLIRQEN
  ⟨0x8054, 1, 0x4, 0x0, 0x7f, 0x0, 0x0, 0x0⟩,
  -- SEQ_RLCNTn
  ⟨0x8080, 12, 0x4, 0x0, 0x0, 0x0, 0x0, 0x0⟩,
  -- SEQ_PLANCMD
  ⟨0x9000, 1, 0x4, 0x0, 0x0, 0x0, 0x0, 0x7⟩,
  -- SEQ_PLANADDR
  ⟨0x9004, 1, 0x4, 0x0, 0xfffffffc, 0x0, 0x0, 0x0⟩,
  -- SEQ_PLANLEN
  ⟨0x9008, 1, 0x4, 0x0, 0xffff, 0x0, 0x0, 0x0⟩,
  -- SEQ_PLANAT
  ⟨0x900c, 1, 0x4, 0x0, 0xffffffff, 0x0, 0x0, 0x0⟩,
  -- SEQ_PLANSTAT
  ⟨0x9010, 1, 0x4, 0x0, 0x0, 0x0, 0x0, 0x0⟩,
  -- SEQ_PLANERR
  ⟨0x9014, 1, 0x4, 0x0, 0x0, 0x0, 0x0, 0x0⟩,
  -- SEQ_PLANID0
  ⟨0x9018, 1, 0x4, 0x0, 0x0, 0x0, 0x0, 0x0⟩,
  -- SEQ_PLANID1
  ⟨0x901c, 1, 0x4, 0x0, 0x0, 0x0, 0x0, 0x0⟩,
  -- SEQ_PLANIRQ
  ⟨0x9020, 1, 0x4, 0x0, 0x0, 0xf, 0x0, 0x0⟩,
  -- SEQ_PLANIRQEN
  ⟨0x9024, 1, 0x4, 0x0, 0xf, 0x0, 0x0, 0x0⟩,
  -- SEQ_PLANCNT
  ⟨0x9028, 1, 0x4, 0x0, 0x0, 0x0, 0x0, 0x0⟩,
  -- SEQ_PLANPK0
  ⟨0x902c, 1, 0x4, 0x0, 0xfffffffc, 0x0, 0x0, 0x0⟩,
  -- SEQ_PLANPK1
  ⟨0x9030, 1, 0x4, 0x0, 0xfffffffc, 0x0, 0x0, 0x0⟩]

def rowsSEQ : List RegRow := rowsSEQ_0 ++ rowsSEQ_1

def rowsNAND : List RegRow := [
  -- NAND_CTRL
  ⟨0x0, 1, 0x4, 0x0, 0x0, 0x0, 0x0, 0x1⟩,
  -- NAND_CFG
  ⟨0x4, 1, 0x4, 0xc80c, 0xff1f, 0x0, 0x0, 0x0⟩,
  -- NAND_FKEY
  ⟨0x8, 1, 0x4, 0x0, 0x0, 0x0, 0x0, 0xffff⟩,
  -- NAND_FCMD
  ⟨0xc, 1, 0x4, 0x0, 0x0, 0x0, 0x0, 0x7⟩,
  -- NAND_FADDR
  ⟨0x10, 1, 0x4, 0x0, 0x0, 0x0, 0x0, 0xfffff⟩,
  -- NAND_FBUF
  ⟨0x14, 1, 0x4, 0x0, 0x0, 0x0, 0x0, 0xfffffff0⟩,
  -- NAND_FSTAT
  ⟨0x18, 1, 0x4, 0x0, 0x0, 0x0, 0x0, 0x0⟩,
  -- NAND_FRES
  ⟨0x1c, 1, 0x4, 0x0, 0x0, 0x0, 0x0, 0x0⟩,
  -- NAND_BBQ
  ⟨0x20, 1, 0x4, 0x0, 0x3fff, 0x0, 0x0, 0x0⟩,
  -- NAND_HEALTH
  ⟨0x24, 1, 0x4, 0x0, 0x0, 0x0, 0x0, 0x0⟩,
  -- NAND_WEAR
  ⟨0x28, 1, 0x4, 0x0, 0x0, 0x0, 0x0, 0x0⟩,
  -- NAND_BOOTSTAT
  ⟨0x2c, 1, 0x4, 0x0, 0x0, 0x0, 0x80000000, 0x40000000⟩,
  -- NAND_IRQ
  ⟨0x30, 1, 0x4, 0x0, 0x0, 0x1ff, 0x0, 0x0⟩,
  -- NAND_IRQEN
  ⟨0x34, 1, 0x4, 0x0, 0x1ff, 0x0, 0x0, 0x0⟩,
  -- NAND_CNTn
  ⟨0x40, 8, 0x4, 0x0, 0x0, 0x0, 0x0, 0x0⟩]

def rowsCIPHER : List RegRow := [
  -- CIPHER_CTRL
  ⟨0x0, 1, 0x4, 0x0, 0x0, 0x0, 0x0, 0x3⟩,
  -- CIPHER_STAT
  ⟨0x4, 1, 0x4, 0x10000000, 0x0, 0x0, 0x0, 0x0⟩,
  -- CIPHER_JOBPOST
  ⟨0x8, 1, 0x4, 0x0, 0x0, 0x0, 0x0, 0xffffffe0⟩,
  -- CIPHER_DONEQ
  ⟨0xc, 1, 0x4, 0x0, 0x0, 0x0, 0x0, 0x0⟩,
  -- CIPHER_KEYCMD
  ⟨0x10, 1, 0x4, 0x0, 0x0, 0x0, 0x0, 0xdf07⟩,
  -- CIPHER_KEYATTR
  ⟨0x14, 1, 0x4, 0x0, 0x7f1f, 0x0, 0x0, 0x0⟩,
  -- CIPHER_KEYSTAT
  ⟨0x18, 1, 0x4, 0x0, 0x0, 0x0, 0x0, 0x0⟩,
  -- CIPHER_RNG
  ⟨0x1c, 1, 0x4, 0x0, 0x0, 0x0, 0x0, 0x0⟩,
  -- CIPHER_ALARM
  ⟨0x20, 1, 0x4, 0x0, 0x0, 0xf, 0x0, 0x0⟩,
  -- CIPHER_IRQ
  ⟨0x24, 1, 0x4, 0x0, 0x0, 0x1f, 0x0, 0x0⟩,
  -- CIPHER_IRQEN
  ⟨0x28, 1, 0x4, 0x0, 0x1f, 0x0, 0x0, 0x0⟩,
  -- CIPHER_CNT
  ⟨0x2c, 1, 0x4, 0x0, 0x0, 0x0, 0x0, 0x0⟩,
  -- CIPHER_KEYRES
  ⟨0x30, 1, 0x4, 0x0, 0x0, 0x0, 0x0, 0x0⟩,
  -- CIPHER_KEYWn
  ⟨0x40, 16, 0x4, 0x0, 0x0, 0x0, 0x0, 0xffffffff⟩]

def rowsLATTICE : List RegRow := [
  -- LATTICE_CMD
  ⟨0x0, 1, 0x4, 0x0, 0x0, 0x0, 0x0, 0xf3f⟩,
  -- LATTICE_ARGn
  ⟨0x4, 4, 0x4, 0x0, 0xffffffff, 0x0, 0x0, 0x0⟩,
  -- LATTICE_STAT
  ⟨0x14, 1, 0x4, 0x0, 0x0, 0x0, 0x0, 0x0⟩,
  -- LATTICE_TIME
  ⟨0x18, 1, 0x4, 0x0, 0x0, 0x0, 0x0, 0x0⟩,
  -- LATTICE_IRQ
  ⟨0x1c, 1, 0x4, 0x0, 0x0, 0x3, 0x0, 0x0⟩,
  -- LATTICE_IRQEN
  ⟨0x20, 1, 0x4, 0x0, 0x3, 0x0, 0x0, 0x0⟩,
  -- LATTICE_DEVIDn
  ⟨0x80, 4, 0x4, 0x0, 0x0, 0x0, 0x0, 0x0⟩,
  -- LATTICE_MEASn
  ⟨0x100, 32, 0x4, 0x0, 0x0, 0x0, 0x0, 0x0⟩]

def rowsBIST : List RegRow := [
  -- BIST_CTRL
  ⟨0x0, 1, 0x4, 0x0, 0x1, 0x0, 0x0, 0x2⟩,
  -- BIST_CFG
  ⟨0x4, 1, 0x4, 0xa0384, 0xffffff, 0x0, 0x0, 0x0⟩,
  -- BIST_STAT
  ⟨0x8, 1, 0x4, 0x0, 0x0, 0x0, 0x0, 0x0⟩,
  -- BIST_REQ
  ⟨0xc, 1, 0x4, 0x0, 0x0, 0x0, 0x0, 0xffff017f⟩,
  -- BIST_REQRES
  ⟨0x10, 1, 0x4, 0x0, 0x0, 0x0, 0x0, 0x0⟩,
  -- BIST_ITEMSEL
  ⟨0x14, 1, 0x4, 0x0, 0x7f, 0x0, 0x0, 0x0⟩,
  -- BIST_ITEM
  ⟨0x18, 1, 0x4, 0x0, 0x0, 0x0, 0x0, 0x0⟩,
  -- BIST_IRQ
  ⟨0x1c, 1, 0x4, 0x0, 0x0, 0x7f, 0x0, 0x0⟩,
  -- BIST_IRQEN
  ⟨0x20, 1, 0x4, 0x0, 0x7f, 0x0, 0x0, 0x0⟩,
  -- BIST_CNT
  ⟨0x24, 1, 0x4, 0x0, 0x0, 0x0, 0x0, 0x0⟩]

def rowsLOG : List RegRow := [
  -- LOG_CTRL
  ⟨0x0, 1, 0x4, 0x0, 0x0, 0x0, 0x0, 0x1⟩,
  -- LOG_CFG
  ⟨0x4, 1, 0x4, 0x8000000, 0xfff0001, 0x0, 0x0, 0x0⟩,
  -- LOG_HEAD
  ⟨0x8, 1, 0x4, 0x0, 0x0, 0x0, 0x0, 0x0⟩,
  -- LOG_FIRST
  ⟨0xc, 1, 0x4, 0x0, 0x0, 0x0, 0x0, 0x0⟩,
  -- LOG_ACK
  ⟨0x10, 1, 0x4, 0x0, 0xffffffff, 0x0, 0x0, 0x0⟩,
  -- LOG_LOST
  ⟨0x14, 1, 0x4, 0x0, 0x0, 0x0, 0x0, 0x0⟩,
  -- LOG_RDSEQ
  ⟨0x18, 1, 0x4, 0x0, 0xffffffff, 0x0, 0x0, 0x0⟩,
  -- LOG_RDSTAT
  ⟨0x1c, 1, 0x4, 0x0, 0x0, 0x0, 0x0, 0x0⟩,
  -- LOG_RDWn
  ⟨0x20, 4, 0x4, 0x0, 0x0, 0x0, 0x0, 0x0⟩,
  -- LOG_WDATA
  ⟨0x30, 1, 0x4, 0x0, 0x0, 0x0, 0x0, 0xffffffff⟩,
  -- LOG_WCMD
  ⟨0x34, 1, 0x4, 0x0, 0x0, 0x0, 0x0, 0xffffff1f⟩,
  -- LOG_IRQ
  ⟨0x38, 1, 0x4, 0x0, 0x0, 0x7, 0x0, 0x0⟩,
  -- LOG_IRQEN
  ⟨0x3c, 1, 0x4, 0x0, 0x7, 0x0, 0x0, 0x0⟩]

def rowsHIF : List RegRow := [
  -- HIF_CTRL
  ⟨0x0, 1, 0x4, 0x0, 0x1, 0x0, 0x0, 0x2⟩,
  -- HIF_BUF
  ⟨0x4, 1, 0x4, 0x0, 0xfffff000, 0x0, 0x0, 0x0⟩,
  -- HIF_CMDQ
  ⟨0x8, 1, 0x4, 0x0, 0x0, 0x0, 0x0, 0x0⟩,
  -- HIF_POST
  ⟨0xc, 1, 0x4, 0x0, 0x0, 0x0, 0x0, 0x107⟩,
  -- HIF_STAT
  ⟨0x10, 1, 0x4, 0x80000000, 0x0, 0x0, 0x0, 0x0⟩,
  -- HIF_CNT
  ⟨0x14, 1, 0x4, 0x0, 0x0, 0x0, 0x0, 0x0⟩,
  -- HIF_IRQ
  ⟨0x18, 1, 0x4, 0x0, 0x0, 0x1f, 0x0, 0x0⟩,
  -- HIF_IRQEN
  ⟨0x1c, 1, 0x4, 0x0, 0x1f, 0x0, 0x0, 0x0⟩,
  -- HIF_G1WINn
  ⟨0x100, 32, 0x4, 0x0, 0xffffffff, 0x0, 0x0, 0x0⟩]

def rowsNET : List RegRow := [
  -- NET_CTRL
  ⟨0x0, 1, 0x4, 0x0, 0x7d, 0x0, 0x0, 0x80⟩,
  -- NET_MACLO
  ⟨0x4, 1, 0x4, 0x0, 0xffffffff, 0x0, 0x0, 0x0⟩,
  -- NET_MACHI
  ⟨0x8, 1, 0x4, 0x0, 0xffff, 0x0, 0x0, 0x0⟩,
  -- NET_MDIO
  ⟨0xc, 1, 0x4, 0x0, 0xffff, 0x0, 0x0, 0xfff0000⟩,
  -- NET_RXQ
  ⟨0x10, 1, 0x4, 0x0, 0x0, 0x0, 0x0, 0x0⟩,
  -- NET_TXLEN
  ⟨0x14, 1, 0x4, 0x0, 0x0, 0x0, 0x0, 0x7ff⟩,
  -- NET_CNT
  ⟨0x18, 1, 0x4, 0x0, 0x0, 0x0, 0x0, 0x0⟩,
  -- NET_IRQ
  ⟨0x1c, 1, 0x4, 0x0, 0x0, 0x7, 0x0, 0x0⟩,
  -- NET_IRQEN
  ⟨0x20, 1, 0x4, 0x0, 0x7, 0x0, 0x0, 0x0⟩]

def rowsUART : List RegRow := [
  -- UART_CFGn
  ⟨0x0, 2, 0x20, 0x0, 0xfffff0f8, 0x0, 0x0, 0x0⟩,
  -- UART_DATAn
  ⟨0x4, 2, 0x20, 0x0, 0xff, 0x0, 0x0, 0x0⟩,
  -- UART_STATn
  ⟨0x8, 2, 0x20, 0x0, 0x0, 0x0, 0x0, 0x0⟩,
  -- UART_IRQ
  ⟨0x40, 1, 0x4, 0x0, 0x0, 0xff, 0x0, 0x0⟩,
  -- UART_IRQEN
  ⟨0x44, 1, 0x4, 0x0, 0xff, 0x0, 0x0, 0x0⟩]

def rowsMIRROR : List RegRow := [
  -- MIRROR_CTRL
  ⟨0x0, 1, 0x4, 0x0, 0x1, 0x0, 0x0, 0xe⟩,
  -- MIRROR_CFG
  ⟨0x4, 1, 0x4, 0x3641000, 0xffff101f, 0x0, 0x0, 0x0⟩,
  -- MIRROR_STAT
  ⟨0x8, 1, 0x4, 0x0, 0x0, 0x0, 0x0, 0x0⟩,
  -- MIRROR_TOFS
  ⟨0xc, 1, 0x4, 0x0, 0x0, 0x0, 0x0, 0x0⟩,
  -- MIRROR_FWBUF
  ⟨0x10, 1, 0x4, 0x0, 0xffff0000, 0x0, 0x0, 0x0⟩,
  -- MIRROR_FWPOST
  ⟨0x14, 1, 0x4, 0x0, 0x0, 0x0, 0x0, 0x1fff07⟩,
  -- MIRROR_FWRXQ
  ⟨0x18, 1, 0x4, 0x0, 0xf, 0x0, 0x0, 0x0⟩,
  -- MIRROR_IRQ
  ⟨0x1c, 1, 0x4, 0x0, 0x0, 0xff, 0x0, 0x0⟩,
  -- MIRROR_IRQEN
  ⟨0x20, 1, 0x4, 0x0, 0xff, 0x0, 0x0, 0x0⟩,
  -- MIRROR_CNT
  ⟨0x24, 1, 0x4, 0x0, 0x0, 0x0, 0x0, 0x0⟩]

def rowsGPIO : List RegRow := [
  -- GPIO_OUT
  ⟨0x0, 1, 0x4, 0x0, 0xfffff, 0x0, 0x0, 0x0⟩,
  -- GPIO_SET
  ⟨0x4, 1, 0x4, 0x0, 0x0, 0x0, 0xfffff, 0x0⟩,
  -- GPIO_CLR
  ⟨0x8, 1, 0x4, 0x0, 0x0, 0xfffff, 0x0, 0x0⟩,
  -- GPIO_IN
  ⟨0xc, 1, 0x4, 0x0, 0x0, 0x0, 0x0, 0x0⟩,
  -- GPIO_DIR
  ⟨0x10, 1, 0x4, 0x0, 0xfffff, 0x0, 0x0, 0x0⟩,
  -- GPIO_OD
  ⟨0x14, 1, 0x4, 0x0, 0xfffff, 0x0, 0x0, 0x0⟩,
  -- GPIO_PULL0
  ⟨0x18, 1, 0x4, 0x0, 0xffffffff, 0x0, 0x0, 0x0⟩,
  -- GPIO_PULL1
  ⟨0x1c, 1, 0x4, 0x0, 0xff, 0x0, 0x0, 0x0⟩,
  -- GPIO_TOUT
  ⟨0x20, 1, 0x4, 0x0, 0x0, 0x0, 0x0, 0x0⟩,
  -- GPIO_TOUTSET
  ⟨0x24, 1, 0x4, 0x0, 0x0, 0x0, 0xffffffff, 0x0⟩,
  -- GPIO_TOUTCLR
  ⟨0x28, 1, 0x4, 0x0, 0x0, 0xffffffff, 0x0, 0x0⟩,
  -- GPIO_FUNCn
  ⟨0x40, 20, 0x4, 0x0, 0x11f01, 0x0, 0x0, 0x0⟩]

def rowsDMA : List RegRow := [
  -- DMA_IRQ
  ⟨0x0, 1, 0x4, 0x0, 0x0, 0xffffffff, 0x0, 0x0⟩,
  -- DMA_IRQEN
  ⟨0x4, 1, 0x4, 0x0, 0xffffffff, 0x0, 0x0, 0x0⟩,
  -- DMA_CHnSRC
  ⟨0x100, 16, 0x20, 0x0, 0xffffffff, 0x0, 0x0, 0x0⟩,
  -- DMA_CHnDST
  ⟨0x104, 16, 0x20, 0x0, 0xffffffff, 0x0, 0x0, 0x0⟩,
  -- DMA_CHnLEN
  ⟨0x108, 16, 0x20, 0x0, 0xffffff, 0x0, 0x0, 0x0⟩,
  -- DMA_CHnCFG
  ⟨0x10c, 16, 0x20, 0x0, 0x1fff, 0x0, 0x0, 0x0⟩,
  -- DMA_CHnTTB
  ⟨0x110, 16, 0x20, 0x0, 0xfffffc00, 0x0, 0x0, 0x0⟩,
  -- DMA_CHnCMD
  ⟨0x114, 16, 0x20, 0x0, 0x0, 0x0, 0x0, 0x3⟩,
  -- DMA_CHnSTAT
  ⟨0x118, 16, 0x20, 0x0, 0x0, 0x0, 0x0, 0x0⟩,
  -- DMA_CHnDONE
  ⟨0x11c, 16, 0x20, 0x0, 0x0, 0x0, 0x0, 0x0⟩]

def rowsMMU : List RegRow := [
  -- MMU_CTRL
  ⟨0x0, 1, 0x4, 0x0, 0x0, 0x0, 0x0, 0x1⟩,
  -- MMU_POOL
  ⟨0x4, 1, 0x4, 0x100100, 0x3ff03ff, 0x0, 0x0, 0x0⟩,
  -- MMU_PSTAT
  ⟨0x8, 1, 0x4, 0x300, 0x0, 0x0, 0x0, 0x0⟩,
  -- MMU_PCMD
  ⟨0xc, 1, 0x4, 0x0, 0x0, 0x0, 0x0, 0x3f7⟩,
  -- MMU_PADDR
  ⟨0x10, 1, 0x4, 0x0, 0xfffff000, 0x0, 0x0, 0x0⟩,
  -- MMU_SCRUB
  ⟨0x14, 1, 0x4, 0x140, 0x1ff, 0x0, 0x0, 0x0⟩,
  -- MMU_ECCSTAT
  ⟨0x18, 1, 0x4, 0x0, 0x0, 0x0, 0x0, 0x0⟩,
  -- MMU_ECCADDR
  ⟨0x1c, 1, 0x4, 0x0, 0x0, 0x0, 0x0, 0x0⟩,
  -- MMU_KEYSLOT
  ⟨0x20, 1, 0x4, 0x0, 0x1f, 0x0, 0x0, 0x0⟩,
  -- MMU_IRQ
  ⟨0x24, 1, 0x4, 0x0, 0x0, 0x1f, 0x0, 0x0⟩,
  -- MMU_IRQEN
  ⟨0x28, 1, 0x4, 0x0, 0x1f, 0x0, 0x0, 0x0⟩,
  -- MMU_KTTBc
  ⟨0x100, 4, 0x100, 0x0, 0xfffffc01, 0x0, 0x0, 0x0⟩,
  -- MMU_TCBc
  ⟨0x104, 4, 0x100, 0x0, 0xfffff800, 0x0, 0x0, 0x0⟩,
  -- MMU_TSTATc
  ⟨0x108, 4, 0x100, 0x0, 0x0, 0x0, 0x0, 0x0⟩,
  -- MMU_TCMDc
  ⟨0x10c, 4, 0x100, 0x0, 0x0, 0x0, 0x0, 0x777⟩,
  -- MMU_TQUANTc
  ⟨0x110, 4, 0x100, 0x0, 0xffffffff, 0x0, 0x0, 0x0⟩,
  -- MMU_FSTATc
  ⟨0x114, 4, 0x100, 0x0, 0x0, 0x0, 0x0, 0x0⟩,
  -- MMU_TSWc
  ⟨0x118, 4, 0x100, 0x0, 0x0, 0x0, 0x0, 0x0⟩]

def rowsOTP : List RegRow := [
  -- OTP_CMD
  ⟨0x0, 1, 0x4, 0x0, 0x0, 0x0, 0x0, 0xf3⟩,
  -- OTP_ADDR
  ⟨0x4, 1, 0x4, 0x0, 0xff, 0x0, 0x0, 0x0⟩,
  -- OTP_DATA
  ⟨0x8, 1, 0x4, 0x0, 0xffffffff, 0x0, 0x0, 0x0⟩,
  -- OTP_STAT
  ⟨0xc, 1, 0x4, 0x0, 0x0, 0x0, 0x0, 0x0⟩,
  -- OTP_ARB0
  ⟨0x10, 1, 0x4, 0x0, 0x0, 0x0, 0x0, 0x0⟩,
  -- OTP_ARB1
  ⟨0x14, 1, 0x4, 0x0, 0x0, 0x0, 0x0, 0x0⟩,
  -- OTP_FLAGS
  ⟨0x18, 1, 0x4, 0x0, 0x0, 0x0, 0x0, 0x0⟩,
  -- OTP_IRQ
  ⟨0x1c, 1, 0x4, 0x0, 0x0, 0x3, 0x0, 0x0⟩,
  -- OTP_IRQEN
  ⟨0x20, 1, 0x4, 0x0, 0x3, 0x0, 0x0, 0x0⟩,
  -- OTP_WORDn
  ⟨0x400, 256, 0x4, 0x0, 0x0, 0x0, 0x0, 0x0⟩]

/-- The registers of the block with window number `k` (block ID less one, R14), BLOCK_CFGSTAT apart. -/
def rowsOf : Nat → List RegRow
  | 0 => rowsSYS
  | 1 => rowsICU
  | 2 => rowsTMR
  | 3 => rowsRFx
  | 4 => rowsRFx
  | 5 => rowsPRISM
  | 6 => rowsFACET
  | 7 => rowsMAC
  | 8 => rowsPAGER
  | 9 => rowsSEQ
  | 10 => rowsNAND
  | 11 => rowsCIPHER
  | 12 => rowsLATTICE
  | 13 => rowsBIST
  | 14 => rowsLOG
  | 15 => rowsHIF
  | 16 => rowsNET
  | 17 => rowsUART
  | 18 => rowsMIRROR
  | 19 => rowsGPIO
  | 20 => rowsDMA
  | 21 => rowsMMU
  | 22 => rowsOTP
  | _ => []

/-- BLOCK_CFGSTAT as a row (R9): the two flags are W1C, CFG_ERR is RO. -/
def cfgstatRow : RegRow := ⟨0xffc, 1, 4, 0, 0, 0x3, 0, 0⟩

/-- Does offset `o` fall on one of the registers of row `r`? -/
def RegRow.holds (r : RegRow) (o : Nat) : Bool :=
  r.off ≤ o && (o - r.off) % r.stride == 0 && (o - r.off) / r.stride < r.count

/-- The row of the table that covers address `a`. -/
def rowAt (a : Nat) : Option RegRow :=
  if a < 0x40000000 then none
  else
    let k := (a - 0x40000000) / 0x10000
    let o := (a - 0x40000000) % 0x10000
    if k ≥ 23 then none
    else if o = 0xffc then some cfgstatRow
    else (rowsOf k).find? (fun r => r.holds o)

/-! ### Interrupt sources (R359): the registers behind their lines -/

/-- Status and enable register of the lines of a block other than ICU and SEQ; `bank` is 1 for lines 32–63 (R359). -/
def irqPair : Nat → Nat → Option (Nat × Nat)
  | 1, 0 => some (PWR_IRQ, PWR_IRQEN)
  | 3, 0 => some (TMR_IRQ0, TMR_IRQEN0)
  | 3, 1 => some (TMR_IRQ1, TMR_IRQEN1)
  | 4, 0 => some (RFx_IRQ .s, RFx_IRQEN .s)
  | 5, 0 => some (RFx_IRQ .g, RFx_IRQEN .g)
  | 6, 0 => some (PRISM_IRQ, PRISM_IRQEN)
  | 7, 0 => some (FACET_IRQ, FACET_IRQEN)
  | 8, 0 => some (MAC_IRQ, MAC_IRQEN)
  | 9, 0 => some (PAGER_IRQ, PAGER_IRQEN)
  | 11, 0 => some (NAND_IRQ, NAND_IRQEN)
  | 12, 0 => some (CIPHER_IRQ, CIPHER_IRQEN)
  | 13, 0 => some (LATTICE_IRQ, LATTICE_IRQEN)
  | 14, 0 => some (BIST_IRQ, BIST_IRQEN)
  | 15, 0 => some (LOG_IRQ, LOG_IRQEN)
  | 16, 0 => some (HIF_IRQ, HIF_IRQEN)
  | 17, 0 => some (NET_IRQ, NET_IRQEN)
  | 18, 0 => some (UART_IRQ, UART_IRQEN)
  | 19, 0 => some (MIRROR_IRQ, MIRROR_IRQEN)
  | 21, 0 => some (DMA_IRQ, DMA_IRQEN)
  | 22, 0 => some (MMU_IRQ, MMU_IRQEN)
  | 23, 0 => some (OTP_IRQ, OTP_IRQEN)
  | _, _ => none

/-- Status and enable register and bit of a line of SEQ (R359). -/
def seqLine (n : Nat) : Option (Nat × Nat × Nat) :=
  if n ≤ 10 then some (SEQ_IRQ, SEQ_IRQEN, n)
  else if 16 ≤ n && n ≤ 22 then some (SEQ_RLIRQ, SEQ_RLIRQEN, n - 16)
  else if 24 ≤ n && n ≤ 27 then some (SEQ_PLANIRQ, SEQ_PLANIRQEN, n - 24)
  else none

/-- Status and enable register and bit of a source of a block other than ICU (R359). -/
def srcRegs (src : Nat) : Option (Nat × Nat × Nat) :=
  if src / 64 = 10 then seqLine (src % 64)
  else (irqPair (src / 64) (src % 64 / 32)).map (fun p => (p.1, p.2, src % 32))

/-- Is bit `n` of the register at `a` one of its W1C bits? -/
def w1cBit (a n : Nat) : Bool :=
  match rowAt a with
  | none => false
  | some r => bitAt r.w1c n

/-- Is the source number assigned (R359)? -/
def srcAssigned (src : Nat) : Bool :=
  if src / 64 = 2 then decide (src % 64 < 8) || (decide (32 ≤ src % 64) && decide (src % 64 < 60))
  else match srcRegs src with
    | none => false
    | some (a, _, n) => w1cBit a n

/-- The row of the register at address `a`: none where the address holds no register (R10), as at ICU_SRCn of a source
number that is unassigned (R372). -/
def findRow (a : Nat) : Option RegRow :=
  if ICU_SRCn 0 ≤ a && decide (a < ICU_SRCn 1536) && !(srcAssigned ((a - ICU_SRCn 0) / 4)) then none else rowAt a

/-- The reset value the spec gives the register at address `a`; 0 where there is no register (R10). -/
def resetOf (a : Nat) : Word :=
  match findRow a with
  | some r => BitVec.ofNat 32 r.reset
  | none => 0

end Sys2Proof.Machine
end

