-- ==== Sys2Proof/Machine/Tbl.lean ====
section
/-! DEFINITION. Sparse tables: a list of key and value pairs with strictly rising keys that lists no entry equal to
what an unlisted key reads as, so that equal tables are equal lists. Registers, memory and the numbered units of the
blocks are held in this form. -/

namespace Sys2Proof.Machine

/-- The value at key `k`; `d` is what an unlisted key reads as. -/
def tblGet {α : Type} (d : α) : List (Nat × α) → Nat → α
  | [], _ => d
  | (k', v) :: t, k => if k' = k then v else tblGet d t k

/-- The table without key `k`. -/
def tblDel {α : Type} : List (Nat × α) → Nat → List (Nat × α)
  | [], _ => []
  | (k', v) :: t, k => if k' = k then tblDel t k else (k', v) :: tblDel t k

/-- The table with `v` at key `k`, kept in order. -/
def tblIns {α : Type} : List (Nat × α) → Nat → α → List (Nat × α)
  | [], k, v => [(k, v)]
  | (k', v') :: t, k, v =>
    if k < k' then (k, v) :: (k', v') :: t
    else if k = k' then (k, v) :: t
    else (k', v') :: tblIns t k v

/-- Write `v` at key `k`, where an unlisted `k` reads as `d`: writing `d` removes the entry. -/
def tblPut {α : Type} [DecidableEq α] (d : α) (t : List (Nat × α)) (k : Nat) (v : α) : List (Nat × α) :=
  if v = d then tblDel t k else tblIns t k v

/-- The keys rise strictly. -/
def tblSorted {α : Type} : List (Nat × α) → Bool
  | [] => true
  | [_] => true
  | (k, _) :: (k', v') :: t => decide (k < k') && tblSorted ((k', v') :: t)

/-- The canonical form, where an unlisted key `k` reads as `d k`. -/
def tblWf {α : Type} [DecidableEq α] (d : Nat → α) (t : List (Nat × α)) : Bool :=
  tblSorted t && t.all (fun e => decide (e.2 ≠ d e.1))

/-- Change the value at `k` by `f`. -/
def tblMod {α : Type} [DecidableEq α] (d : α) (t : List (Nat × α)) (k : Nat) (f : α → α) : List (Nat × α) :=
  tblPut d t k (f (tblGet d t k))

/-- The entry at key `k` of a table in which being listed is what counts. -/
def tblFind {α : Type} : List (Nat × α) → Nat → Option α
  | [], _ => none
  | (k', v) :: t, k => if k' = k then some v else tblFind t k

/-- Is key `k` listed? -/
def tblHas {α : Type} (t : List (Nat × α)) (k : Nat) : Bool := (tblFind t k).isSome

/-- The lowest natural number below `n` that `used` does not hold of, from `i` up. -/
def lowestFree (used : Nat → Bool) : Nat → Nat → Option Nat
  | 0, _ => none
  | n + 1, i => if used i then lowestFree used n (i + 1) else some i

/-- The lowest number that a sorted table does not list, from `i` up. -/
def freeKey {α : Type} : List (Nat × α) → Nat → Nat
  | [], i => i
  | (k, _) :: t, i => if k = i then freeKey t (i + 1) else if k < i then freeKey t i else i

end Sys2Proof.Machine
end

