-- ==== Sys2Proof/Machine/Ops.lean ====
section
/-! DEFINITION. The operations every family shares: registers and their fields, memory, free values, error
bookkeeping of a block (R5–R12) and entries of the event log (R514–R517). -/

namespace Sys2Proof.Machine
open Sys2Proof

/-- What a meaning answers. -/
abbrev Res := Host.Outcome State Fault Refusal

/-! ### Registers -/

/-- The word stored for the register at address `a`. -/
def State.rd (s : State) (a : Nat) : Word := tblGet (resetOf a) s.regs a

/-- Store `v` as the word of the register at address `a`. -/
def State.wr (s : State) (a : Nat) (v : Word) : State := { s with regs := tblPut (resetOf a) s.regs a v }

/-- The value of a field. -/
def State.fld (s : State) (f : Fld) : Nat := bitsOf (s.rd f.addr).toNat f.hi f.lo

/-- A one-bit field as a Bool. -/
def State.flag (s : State) (f : Fld) : Bool := decide (s.fld f = 1)

/-- The field read as two's complement. -/
def State.sfld (s : State) (f : Fld) : Int := signedOf (f.hi + 1 - f.lo) (s.fld f)

/-- Store `v` into a field. -/
def State.setFld (s : State) (f : Fld) (v : Nat) : State := s.wr f.addr (putBits (s.rd f.addr) f.hi f.lo v)

/-- Set a one-bit field. -/
def State.set1 (s : State) (f : Fld) : State := s.setFld f 1

/-- Clear a field. -/
def State.clr (s : State) (f : Fld) : State := s.setFld f 0

/-- Store a Bool into a one-bit field. -/
def State.setBool (s : State) (f : Fld) (b : Bool) : State := s.setFld f (if b then 1 else 0)

/-- Store a signed value into a field, saturating. -/
def State.setSat (s : State) (f : Fld) (v : Int) : State :=
  let w := f.hi + 1 - f.lo
  let top : Int := (2 ^ (w - 1) : Nat) - 1
  s.setFld f (unsignedOf w (max (-top - 1) (min top v)))

/-- Increment a count by `k`; it saturates at the top of its field. -/
def State.incBy (s : State) (f : Fld) (k : Nat) : State :=
  s.setFld f (min (s.fld f + k) (ones (f.hi + 1 - f.lo)))

/-- Increment a saturating count. -/
def State.inc (s : State) (f : Fld) : State := s.incBy f 1

/-- A field moved up within its register by `n` places of its own width one: bit `n` of a field of flags. -/
def Fld.bit (f : Fld) (n : Nat) : Fld := ⟨f.addr, f.lo + n, f.lo + n⟩

/-- The window number of a peripheral address and the base of the window (R14). -/
def blockBase (a : Nat) : Nat := a - a % 0x10000

/-! ### Configuration errors of a block (R8, R9, R10) -/

/-- A write discarded under R8 by the block whose window starts at `b`. -/
def State.discard (s : State) (b : Nat) : State :=
  (s.set1 (CFGSTAT_RSVD_WR b)).inc (CFGSTAT_CFG_ERR b)

/-- A write to an offset of that block that holds no register (R10). -/
def State.unmapped (s : State) (b : Nat) : State :=
  (s.set1 (CFGSTAT_UNMAP_WR b)).inc (CFGSTAT_CFG_ERR b)

/-- A W1C write of `v` to BLOCK_CFGSTAT (R9): clearing RSVD_WR also clears CFG_ERR. -/
def State.cfgstatW1c (s : State) (b v : Nat) : State :=
  let s := if bitAt v 0 then (s.clr (CFGSTAT_RSVD_WR b)).clr (CFGSTAT_CFG_ERR b) else s
  if bitAt v 1 then s.clr (CFGSTAT_UNMAP_WR b) else s

/-- The effect of a full write of `v` on the RW, W1C and W1S bits of the register at `a` (R5, R7). -/
def State.plainWrite (s : State) (a : Nat) (v : Word) : State :=
  match findRow a with
  | none => s
  | some r =>
    let old := (s.rd a).toNat
    let kept := old &&& (ones 32 - r.rw % 2 ^ 32)
    let w := kept ||| (v.toNat &&& r.rw) ||| (v.toNat &&& r.w1s)
    let c := v.toNat &&& r.w1c
    s.wr a (BitVec.ofNat 32 (w - (w &&& c)))

/-! ### Memory -/

/-- The byte at an address; what nothing has written reads as 0. -/
def State.memRd (s : State) (a : Nat) : Byte := tblGet 0 s.mem a

/-- Store one byte. -/
def State.memWr (s : State) (a : Nat) (b : Byte) : State := { s with mem := tblPut 0 s.mem a b }

/-- `n` bytes from `a` up. -/
def State.memBytes (s : State) (a : Nat) : Nat → List Byte
  | 0 => []
  | n + 1 => s.memRd a :: s.memBytes (a + 1) n

/-- Store bytes from `a` up. -/
def State.memPut (s : State) (a : Nat) : List Byte → State
  | [] => s
  | b :: t => (s.memWr a b).memPut (a + 1) t

/-- A little-endian value of `n` bytes at `a`. -/
def State.memLe (s : State) (a n : Nat) : Nat := leNat (s.memBytes a n)

/-- Store the `n` low bytes of `x` at `a`, least significant first. -/
def State.memPutLe (s : State) (a n x : Nat) : State := s.memPut a (leBytes n x)

/-! ### Free values -/

/-- A fresh free value, and the state with the counter advanced. -/
def State.fresh (s : State) : Nat × State := (Config.freeValue s.free, { s with free := s.free + 1 })

/-! ### Parts of the state -/

/-- The path's part of the state. -/
def State.rf (s : State) : PathId → RfPath
  | .s => s.rfS
  | .g => s.rfG

/-- Replace the path's part of the state. -/
def State.setRf (s : State) (p : PathId) (x : RfPath) : State :=
  match p with
  | .s => { s with rfS := x }
  | .g => { s with rfG := x }

/-- Change the path's part of the state. -/
def State.modRf (s : State) (p : PathId) (f : RfPath → RfPath) : State := s.setRf p (f (s.rf p))

/-- The path's number: 0 for Path S and 1 for Path G. -/
def pathNum : PathId → Nat
  | .s => 0
  | .g => 1

/-- The path with that number. -/
def pathOf (n : Nat) : PathId := if n = 0 then .s else .g

/-- The core's number (R372): 0 LC0, 1 LC1, 2 SC, 3 KC. -/
def coreNum : CoreId → Nat
  | .lc0 => 0
  | .lc1 => 1
  | .sc => 2
  | .kc => 3

/-- The core with that number. -/
def coreOf : Nat → CoreId
  | 0 => .lc0
  | 1 => .lc1
  | 2 => .sc
  | _ => .kc

/-- Cycles in a number of microseconds (one cycle is 5 ns). -/
def us (n : Nat) : Nat := 200 * n

/-- Sequencer time in microseconds (R261). -/
def State.sqt (s : State) : Nat := s.clk.nt / 2 ^ 32 / 200

/-- NETTIME in FT (R261). -/
def State.nettime (s : State) : Nat := s.clk.nt / 2 ^ 32 % 2 ^ 64

/-! ### OTP -/

/-- Word `n` of the OTP array. -/
def State.otpWord (s : State) (n : Nat) : Word := if n < 32 then Config.otpFab n else tblGet 0 s.otp.words n

/-! ### The event log (R515–R517) -/

/-- The number of ST edges in the first `t` cycles: one ST is 390,625 / 64 cycles, and the phase of the edges is the
crystal's own (R391). -/
def stEdges (t : Nat) : Nat := (64 * t + Config.stPhase % 390625) / 390625

/-- The first cycle by which `k` edges have passed. -/
def stEdgeAt (k : Nat) : Nat := ceilDiv (390625 * k - Config.stPhase % 390625) 64

/-- The writer bits of SOURCE (R515). -/
def writerOf : Option CoreId → Nat
  | none => 0
  | some c => coreNum c + 1

/-- Queue an entry, or lose and count it (R516). `rank` orders the entries of one cycle. -/
def State.logEnqueue (s : State) (rank : Nat) (e : LogEnt) : State :=
  if s.log.queue.length < 16 then
    let q : LogQ := ⟨s.clk.now, rank, e⟩
    let before := s.log.queue.filter (fun x => x.at_ < s.clk.now || (x.at_ == s.clk.now && x.rank ≤ rank))
    let after := s.log.queue.filter (fun x => !(x.at_ < s.clk.now || (x.at_ == s.clk.now && x.rank ≤ rank)))
    { s with log := { s.log with queue := before ++ q :: after } }
  else
    let s := (s.inc LOG_LOST_COUNT).set1 LOG_IRQ_LOST
    { s with log := { s.log with lostSince := s.log.lostSince + 1 } }

/-- A hardware entry: source, code, AUX and DATA. Raised in Saddle, ENTRY or WAKE it waits in the AON queue of 8
(R517), and a ninth is lost and counted under R516. -/
def State.logPut (s : State) (src code aux data : Nat) : State :=
  let slow := s.clk.slowcnt
  match s.pwr.phase with
  | .awake | .inReset | .off | .softStart =>
    let sub := min 0xffff (s.clk.now - stEdgeAt (stEdges s.clk.now))
    s.logEnqueue src ⟨slow, sub, src, code, aux, data % 2 ^ 32⟩
  | _ =>
    if s.log.aon.length < 8 then
      { s with log := { s.log with aon := s.log.aon ++ [⟨slow, 0, src, code, aux, data % 2 ^ 32⟩] } }
    else
      let s := (s.inc LOG_LOST_COUNT).set1 LOG_IRQ_LOST
      { s with log := { s.log with lostSince := s.log.lostSince + 1 } }

end Sys2Proof.Machine
end

