-- ==== Sys2Proof/Machine/BistBase.lean ====
section
/-! DEFINITION. The items of self-test (R505) and the end of a check by what another block does (R507). -/

namespace Sys2Proof.Machine
open Sys2Proof

/-- Item `i` (R505). -/
def State.bistItem (s : State) (i : Nat) : BistItem := tblGet {} s.bist.items i

def State.setBistItem (s : State) (i : Nat) (x : BistItem) : State :=
  { s with bist := { s.bist with items := tblPut {} s.bist.items i x } }

/-- A check that ends with BIST_ABORTED is neither a pass nor a failure: its item keeps its state (R507). -/
def State.bistAborted (s : State) (item : Nat) : State :=
  (s.setBistItem item { s.bistItem item with last := Code.BIST_ABORTED }).inc BIST_CNT_ABORTED

/-- The check in progress ends with BIST_ABORTED when `hit` holds of it (R507). -/
def State.bistAbortC (s : State) (hit : BistCheck → Bool) : State :=
  match s.bist.check with
  | some c => if hit c then ({ s with bist := { s.bist with check := none } } : State).bistAborted c.item else s
  | none => s

/-- The check in progress ends with BIST_ABORTED when `hit` holds of its item (R507). -/
def State.bistAbort (s : State) (hit : Nat → Bool) : State := s.bistAbortC (fun c => hit c.item)

end Sys2Proof.Machine
end

