-- ==== Sys2Proof/Machine/Time.lean ====
section
/-! DEFINITION. The passage of time: the cycle count, NETTIME (R261), SLOWCNT (R391) and the TMR counters (R376). A
command that falls due at a stored time brings the clock forward to it. -/

namespace Sys2Proof.Machine
open Sys2Proof

/-- RATE as a signed value (R262). -/
def State.rate (s : State) : Int := signedOf 32 (s.rd SEQ_RATE).toNat

/-- Does the core clock run? It stops at the expiry edge (R406). -/
def State.clocked (s : State) : Bool := s.pwr.phase == .awake

/-- Is the core rail on: awake, or before the point of no return (R406)? Until then SYSPLL and XREF run on, and with them the
timers' counters (R376). -/
def State.railOn (s : State) : Bool :=
  match s.pwr.phase with
  | .awake | .entry => true
  | _ => false

/-- Cycle by which the next conditioner output that reseeds the mask expanders is 512 µs late (R455). -/
def State.reseedLate (s : State) : Nat := s.cipher.nextOut + us 128 * ((4 - s.cipher.outs % 4) % 4) + us 512

/-- Do the AES cores run (R445, R455, R456, R472)? They need seeded mask expanders, no halt, and a reseed that is at most 512 µs
late; a start-up test extends that limit to its end. -/
def State.aesRuns (s : State) : Bool :=
  s.cipher.seeded && !(s.flag CIPHER_STAT_HALTED) && (s.cipher.testEnd.isSome || decide (s.clk.now ≤ s.reseedLate))

/-- Length of one tick of counter `n`, in the units `tmrUnits` counts (R376). -/
def State.tmrPeriod (s : State) (n : Nat) : Nat :=
  match s.fld (TMR_CFGn_CLK n) with
  | 1 => 5 * 2 ^ s.fld (TMR_CFGn_DIV n)
  | _ => 2 ^ s.fld (TMR_CFGn_DIV n)

/-- Units of counter `n`'s clock in `d` cycles that hold `e` ST edges; a clock that is absent gives none (R376). -/
def State.tmrUnits (s : State) (n d e : Nat) : Nat :=
  match s.fld (TMR_CFGn_CLK n) with
  | 0 => if s.clk.pll && s.railOn then d else 0
  | 1 => if s.flag PWR_STAT_XREFOK && s.railOn then d else 0
  | 2 => if s.railOn && (s.tmr.saved.find? (fun x => x.1 == n)).isNone then e else 0
  | _ => 0

/-- Is counter `n` running? -/
def State.tmrRuns (s : State) (n : Nat) : Bool := bitAt (s.fld TMR_RUN_RUN) n

/-- The divider phase of counter `n`. -/
def State.tmrPhase (s : State) (n : Nat) : Nat := tblGet 0 s.tmr.phase n

/-- Set the divider phase of counter `n`. -/
def State.setTmrPhase (s : State) (n v : Nat) : State :=
  { s with tmr := { s.tmr with phase := tblPut 0 s.tmr.phase n v } }

/-- Counter `n` over `u` units of its clock: its ticks, and OVFn at each wrap (R376). -/
def State.tmrCount (s : State) (n u : Nat) : State :=
  let tot := s.tmrPhase n + u
  let per := s.tmrPeriod n
  let c := s.fld (TMR_CNTn_COUNT n) + tot / per
  let s := (s.setFld (TMR_CNTn_COUNT n) (c % 2 ^ 32)).setTmrPhase n (tot % per)
  if c ≥ 2 ^ 32 then s.set1 (TMR_IRQ1_OVF.bit n) else s

/-- The running counters over `d` cycles that hold `e` ST edges. -/
def State.tmrAdvance (s : State) (d e : Nat) : State :=
  (setBits 8 (s.fld TMR_RUN_RUN)).foldl (fun s n => s.tmrCount n (s.tmrUnits n d e)) s

/-- The SQT wrap of a CLK 3 counter between two SQT values sets its OVF (R376). -/
def State.sqtWraps (s : State) (a b : Nat) : State :=
  if a / 2 ^ 32 = b / 2 ^ 32 then s
  else (setBits 8 (s.fld TMR_RUN_RUN)).foldl
    (fun s n => if s.fld (TMR_CFGn_CLK n) = 3 then s.set1 (TMR_IRQ1_OVF.bit n) else s) s

/-- NETTIME after `d` cycles: each adds 1 + RATE × 2^−32 FT while NETTIME counts (R261, R265). -/
def State.ntAfter (s : State) (d : Nat) : Nat :=
  if s.flag SEQ_STAT_NTVALID && s.clk.pll then
    s.clk.nt + (((d : Int) * ((2 ^ 32 : Nat) + s.rate)).toNat)
  else s.clk.nt

/-- Does a core let the idle timer advance (R403)? -/
def CoreSt.quiet : CoreSt → Bool
  | .run => false
  | _ => true

/-- Do all cores? -/
def State.quiet (s : State) : Bool := s.lc0.st.quiet && s.lc1.st.quiet && s.sc.st.quiet && s.kc.st.quiet

/-- The idle timer after time that ends at edge `k` and held an edge: 0 at every edge at which a core ran (R403). -/
def State.idleTo (s : State) (k : Nat) : State := if s.quiet then s else { s with pwr := { s.pwr with idle := k } }

/-- `d` cycles pass. Until XSLOW is stable there is no ST edge (R397). -/
def State.advance (s : State) (d : Nat) : State :=
  let k := stEdges (s.clk.now + d)
  let e := if s.clk.slowOn then k - stEdges s.clk.now else 0
  let nt := s.ntAfter d % 2 ^ 96
  let q := s.sqt
  let s1 := (if e = 0 then s else s.idleTo k).tmrAdvance d e
  let s2 := { s1 with clk := { s1.clk with now := s1.clk.now + d, nt := nt,
                                           slowcnt := if s1.clk.slowOn then (s1.clk.slowcnt + e) % 2 ^ 48
                                                      else s1.clk.slowcnt } }
  s2.sqtWraps q s2.sqt

/-- Bring the clock forward to cycle `t`; a time already passed changes nothing. -/
def State.advanceTo (s : State) (t : Nat) : State :=
  if s.clk.now < t then s.advance (t - s.clk.now) else s

/-- Cycles until NETTIME reaches `ft` FT (none left when it has). -/
def State.cyclesToFt (s : State) (ft : Nat) : Nat :=
  ceilDiv (ft * 2 ^ 32 - s.clk.nt) ((2 ^ 32 : Nat) + s.rate).toNat

/-- Bring the clock forward to sequencer microsecond `t`. -/
def State.advanceSqt (s : State) (t : Nat) : State :=
  if s.sqt < t then s.advance (s.cyclesToFt (200 * t)) else s

/-- Bring the clock forward to the next 1 µs boundary of sequencer time. -/
def State.advanceUs (s : State) : State := s.advanceSqt (s.sqt + 1)

/-- The next 1 µs boundary of the trunk after now (R75). -/
def State.trunkBoundary (s : State) : Nat := (s.clk.now / 200 + 1) * 200

/-- The trunk sample count (R66): 80 MS/s, two samples in five cycles. -/
def trunkAt (cycle : Nat) : Nat := cycle * 2 / 5

/-- Bring the clock forward to the next ST edge. -/
def State.advanceEdge (s : State) : State := s.advanceTo (stEdgeAt (stEdges s.clk.now + 1))

/-- Bring the clock forward by `k` ST edges. -/
def State.advanceEdges (s : State) (k : Nat) : State := s.advanceTo (stEdgeAt (stEdges s.clk.now + k))

end Sys2Proof.Machine
end

