-- ==== Sys2Proof/Machine/PlanOps.lean ====
section
/-! DEFINITION. What the active band plan says: its records, occupied bands (R585), channels (R175) and power entries
(R46–R52). -/

namespace Sys2Proof.Machine
open Sys2Proof

/-- The plan held in a slot. -/
def State.planSlot (s : State) (n : Nat) : Option Plan := if n = 0 then s.plan.slot0 else s.plan.slot1

/-- The active plan (R164): the plan of the slot that SEQ_PLANSTAT.ACTIVE names, if that slot holds one. -/
def State.activePlan (s : State) : Option Plan := s.planSlot (s.fld SEQ_PLANSTAT_ACTIVE)

/-- The number of the standby slot: slot 0 while no slot is active (R167). -/
def State.standbyNum (s : State) : Nat :=
  match s.activePlan with
  | none => 0
  | some _ => 1 - s.fld SEQ_PLANSTAT_ACTIVE

/-- Put a plan into a slot, or empty it, and show it in VALIDn and PLANIDn. -/
def State.setSlot (s : State) (n : Nat) (p : Option Plan) : State :=
  let id := match p with
    | some q => q.planid
    | none => 0
  if n = 0 then
    let s := (s.setBool SEQ_PLANSTAT_VALID0 p.isSome).wr SEQ_PLANID0 (BitVec.ofNat 32 id)
    { s with plan := { s.plan with slot0 := p } }
  else
    let s := (s.setBool SEQ_PLANSTAT_VALID1 p.isSome).wr SEQ_PLANID1 (BitVec.ofNat 32 id)
    { s with plan := { s.plan with slot1 := p } }

/-- The window record of a path with index `i`. -/
def Plan.window (q : Plan) (p : PathId) (i : Nat) : Option PlanWindow :=
  q.windows.find? (fun w => w.path == p && w.index == i)

/-- The DEFAULT window of a path (R160). -/
def Plan.dfltWindow (q : Plan) (p : PathId) : Option PlanWindow :=
  q.windows.find? (fun w => w.path == p && w.dflt)

def Plan.profile (q : Plan) (i : Nat) : Option PlanProfile := q.profiles.find? (fun r => r.profid == i)

def Plan.branch (q : Plan) (p : PathId) (i : Nat) : Option PlanBranch :=
  q.branches.find? (fun r => r.path == p && r.branch == i)

def Plan.ray (q : Plan) (p : PathId) (i : Nat) : Option PlanRay :=
  q.rays.find? (fun r => r.path == p && r.ray == i)

def Plan.powerAt (q : Plan) (p : PathId) (i : Nat) : Option PlanPower :=
  q.power.find? (fun r => r.path == p && r.index == i)

def Plan.neighbour (q : Plan) (n : Nat) : Option PlanNeighbour := q.neighbours.find? (fun r => r.nb == n)

def Plan.hop (q : Plan) (n : Nat) : Option PlanHop := q.hops.find? (fun r => r.hopid == n)

def Plan.tuner (q : Plan) (p : PathId) : Option PlanTuner := q.tuners.find? (fun r => r.path == p)

def Plan.mask (q : Plan) (n : Nat) : Option PlanMask := q.masks.find? (fun r => r.maskid == n)

def Plan.subband (q : Plan) (p : PathId) (n : Nat) : Option PlanSubband :=
  q.subbands.find? (fun r => r.path == p && r.subband == n)

/-- Half the receive window of a path in Hz (R40, R67). -/
def windowHalf : PathId → Int
  | .s => 14000000
  | .g => 16000000

/-- The occupied band of a transmission with carrier `fc` in Hz (R585). -/
def occBand (k : TxKind) (fc : Int) : Int × Int :=
  match k with
  | .il1 => (fc - 62500, fc + 62500)
  | .il2 r => (fc - 62500 * 2 ^ r, fc + 62500 * 2 ^ r)
  | .oqpsk => (fc - 1500000, fc + 1500000)
  | .sun => (fc - 750000, fc + 750000)
  | .rl1 => (fc - 270000, fc + 270000)
  | .rl2 n => (fc - 200000 * 2 ^ n, fc + 200000 * 2 ^ n - 25000)
  | .cw => (fc, fc)
  | .pn9a => (fc - 125000, fc + 125000)
  | .pn9b => (fc - 625000, fc + 625000)

/-- The channel of a path in which a band lies wholly (R175). -/
def Plan.channelOf (q : Plan) (p : PathId) (b : Int × Int) : Option PlanChannel :=
  q.channels.find? (fun c => c.path == p && decide ((c.lo : Int) ≤ b.1) && decide (b.2 ≤ (c.hi : Int)))

/-- The channel of the active plan in which a band lies. -/
def State.channelOf (s : State) (p : PathId) (b : Int × Int) : Option PlanChannel :=
  match s.activePlan with
  | none => none
  | some q => q.channelOf p b

/-! ### Power entries -/

/-- Power-table entry `n` of a path (R46). -/
def State.ptab (s : State) (p : PathId) (n : Nat) : Nat := (s.rd (RFx_PTABn p n)).toNat

/-- VALID of an entry (R46). -/
def entryValid (e : Nat) : Bool := bitAt e 21

/-- NOMPWR of an entry in 0.5 dB units (R46). -/
def entryNom (e : Nat) : Int := signedOf 8 (e / 2 ^ 24)

/-- The highest entry below `n` that satisfies `ok`. -/
def highestBelow (ok : Nat → Bool) : Nat → Option Nat
  | 0 => none
  | n + 1 => if ok n then some n else highestBelow ok n

/-- The entry a command is sent on, and whether it was clamped (R49, R52): the highest valid entry at or below the cap
where the index names an entry with VALID = 0 or one above the cap, and under back-off the highest valid entry at
least 6 dB below, or entry 0. Where both apply, 'the requested entry' of R52 is the one that the clamp left (DESIGN CHOICE, log
entry 161: neither rule gives the order). -/
def State.txEntry (s : State) (p : PathId) (pidx cap : Nat) : Nat × Bool :=
  let bad := !(entryValid (s.ptab p pidx)) || decide (cap < pidx)
  let i := if bad then (highestBelow (fun n => entryValid (s.ptab p n)) (cap + 1)).getD 0 else pidx
  let i' := if s.flag (RFx_STATE_BACKOFF p) then
      (highestBelow (fun n => entryValid (s.ptab p n) &&
        decide (entryNom (s.ptab p n) + 12 ≤ entryNom (s.ptab p i))) 80).getD 0
    else i
  (i', bad)

/-! ### Rays as a plan fixes them -/

/-- The usable half-width of a branch in Hz: 0.4 × Fb (R64). -/
def branchHalf (dexp : Nat) : Int := 8000000 / 2 ^ dexp

/-- Bandwidth of a ray in Hz (R65). -/
def rayB (k : Nat) : Int := 12500 * 2 ^ k

/-- R67 for a centre `fr` on a branch at `ofs` kHz in a window centred on `fw` kHz, in quarter hertz. -/
def rayFits (p : PathId) (ofs : Int) (dexp k : Nat) (fr : Nat) (fwKHz : Nat) : Bool :=
  let fw : Int := 1000 * (fwKHz : Int)
  let fb : Int := fw + 1000 * ofs
  decide (4 * ((fr : Int) - fb).natAbs + 3 * rayB k ≤ 4 * branchHalf dexp) &&
  decide (4 * ((fr : Int) - fw).natAbs + 3 * rayB k ≤ 4 * windowHalf p)

/-- R67 in every window of a mask; a window the plan does not hold fails (R69). -/
def Plan.rayOk (q : Plan) (p : PathId) (ofs : Int) (dexp k : Nat) (fr wmask : Nat) : Bool :=
  (setBits 16 wmask).all (fun i =>
    match q.window p i with
    | none => false
    | some w => rayFits p ofs dexp k fr w.centreKHz)

/-- The parameters of a ray of a plan, with its branch's place. -/
def Plan.rayPar (q : Plan) (r : PlanRay) : RayPar :=
  let b := q.branch r.path r.branch
  let prio := (q.facets.filter (fun f => f.path == r.path && f.ray == r.ray)).foldl (fun m f => min m f.prio) 8
  { branch := r.branch, dexp := (b.map (·.dexp)).getD 0, ofsKHz := (b.map (·.ofsKHz)).getD 0, k := r.k, fr := r.freq,
    wmask := r.wmask, prio := if prio = 8 then r.prio else prio, planFr := r.freq }

/-- Weight of a ray (R70): 2 + ceil(2^k / 4) + Fb / 5 MS/s. -/
def RayPar.weight (r : RayPar) : Nat := 2 + ceilDiv (2 ^ r.k) 4 + 4 / 2 ^ r.dexp

/-- Weight of a branch (R64). -/
def branchWeight : Nat → Nat
  | 0 => 64
  | 1 => 48
  | _ => 40

/-- Chip-rate load in units of 100 kchip/s by RCODE (R93). -/
def loadOf : Nat → Nat
  | 0 => 1
  | 1 => 2
  | 2 => 4
  | 3 => 8
  | 4 => 10
  | _ => 20

/-- The load of an allocation (R93). -/
def FacetAlloc.load (a : FacetAlloc) : Nat := loadOf a.prof.rcode

/-- The allocation a plan gives a facet. -/
def Plan.alloc (q : Plan) (f : PlanFacet) : FacetAlloc :=
  { path := f.path, ray := f.ray, prof := (q.profile f.profid).getD {}, prio := f.prio }

/-- The facet kinds as transmissions: the modulation of a downlink on that profile. -/
def PlanProfile.txKind (r : PlanProfile) : TxKind :=
  match r.phy with
  | 0 => .il1
  | 1 => .il2 r.rcode
  | 2 => .oqpsk
  | 3 => .sun
  | 4 => .rl1
  | _ => .rl2 r.ncode

/-- Group delay of a ray from the land to its output, in cycles: 1.2 µs and 6 / B (R65). -/
def rayDelay (k : Nat) : Nat := 240 + 96000 / 2 ^ k

/-- Half-span of a ray filter in cycles (R65). -/
def raySpan (k : Nat) : Nat := 96000 / 2 ^ k

end Sys2Proof.Machine
end

