-- ==== Sys2Proof/Machine/Trunk.lean ====
section
/-! DEFINITION. The samples of rays: lookup of rays, the intervals in which a path's trunk is replaced with zero (R63), the
flag of each ray sample (R72–R76), and what follows for a detection, a frame and a measurement (R82, R86, R101, R587).

Sample `i` of a ray leaves its filter `i` sample periods after cycle 0 (DESIGN CHOICE, log entry 147: the spec fixes the rate of
a ray and not the phase of its samples). Periods are counted in quarter cycles: at k = 8 one is 31.25 cycles. -/

namespace Sys2Proof.Machine
open Sys2Proof

/-! ### Rays -/

/-- Ray `n` of a path. -/
def State.ray (s : State) (p : PathId) (n : Nat) : Ray :=
  match p with
  | .s => tblGet {} s.prism.raysS n
  | .g => tblGet {} s.prism.raysG n

/-- Replace ray `n` of a path. -/
def State.setRay (s : State) (p : PathId) (n : Nat) (r : Ray) : State :=
  match p with
  | .s => { s with prism := { s.prism with raysS := tblPut {} s.prism.raysS n r } }
  | .g => { s with prism := { s.prism with raysG := tblPut {} s.prism.raysG n r } }

/-- The rays of a path that are not UNUSED or that wait to start, by number. -/
def State.rays (s : State) : PathId → List (Nat × Ray)
  | .s => s.prism.raysS
  | .g => s.prism.raysG

/-- Is ray `n` of a path LIVE (R77)? -/
def State.rayLive (s : State) (p : PathId) (n : Nat) : Bool := (s.ray p n).st == .live

/-- The ridge frame being received on a path. -/
def State.rlRx (s : State) : PathId → Option RidgeRx
  | .s => s.ridge.rxS
  | .g => s.ridge.rxG

def State.setRlRx (s : State) (p : PathId) (x : Option RidgeRx) : State :=
  match p with
  | .s => { s with ridge := { s.ridge with rxS := x } }
  | .g => { s with ridge := { s.ridge with rxG := x } }

/-- The ray of a neighbour leaves LIVE (R148): a ridge frame on it is lost with RAY_LOST; one whose header is decoded waits for
its end. -/
def State.ridgeSilent (s : State) (p : PathId) (n : Nat) : State :=
  match s.rlRx p with
  | none => s
  | some x =>
    if ((s.activePlan.bind (·.neighbour x.nb)).map (·.ray)) == some n then
      s.setRlRx p (if x.hdr then some { x with lost := some (x.lost.getD Code.RAY_LOST) } else none)
    else s

/-- A ray that leaves LIVE, for state `st`. -/
def State.rayDown (s : State) (p : PathId) (n : Nat) (st : RaySt) : State :=
  let s := s.ridgeSilent p n
  let r := s.ray p n
  s.setRay p n { r with st := st, goneAt := some (r.goneAt.getD s.clk.now) }

/-- Intervals before this cycle no longer matter: meters run for 65,535 µs at most (R81). -/
def State.keepFrom (s : State) (p : PathId) : Nat :=
  let x := s.rf p
  let m := fun (n : Nat) (e : Option Meter) => match e with
    | some e => min n e.t0
    | none => n
  m (m (s.clk.now - 2 ^ 25) x.em) x.seqMeter

/-- A ray becomes LIVE with the parameters `par` (R74, R78): it starts now. -/
def State.rayUp (s : State) (p : PathId) (n : Nat) (par : RayPar) : State :=
  let r := s.ray p n
  let past := (r.gone ++ [(r.goneAt.getD 0, s.clk.now)]).filter (fun g => decide (s.keepFrom p ≤ g.2))
  s.setRay p n { st := .live, par := par, tune := r.tune, startAt := some s.clk.now, gone := past }

/-! ### Rates of rays (R65) -/

/-- Output rate of a ray in samples per second: 2 × B. -/
def rayRate (k : Nat) : Nat := 25000 * 2 ^ k

/-- Sample period of a ray in quarter cycles: 1 / (2 × B). -/
def rayPeriod4 (k : Nat) : Nat := 32000 / 2 ^ k

/-- The first sample that leaves the filter at or after cycle `o`. -/
def sampleFrom (k o : Nat) : Nat := ceilDiv (4 * o) (rayPeriod4 k)

/-- The last sample that has left it by cycle `o`. -/
def sampleAt (k o : Nat) : Nat := 4 * o / rayPeriod4 k

/-- The cycle by which sample `i` has left the filter. -/
def sampleCycle (k i : Nat) : Nat := ceilDiv (i * rayPeriod4 k) 4

/-! ### Causes on the trunk (R63) -/

/-- The order of R72. -/
def flagRank : SampleFlag → Nat
  | .valid => 0
  | .erased => 1
  | .retune => 2
  | .frozenCal => 3
  | .frozenTx => 4

/-- The higher of two flags (R72, R76). -/
def flagMax (a b : SampleFlag) : SampleFlag := if flagRank a < flagRank b then b else a

/-- The frames of a path hold the intervals since their detection. -/
def State.oldestFrame (s : State) (p : PathId) : Nat :=
  let now := match s.rlRx p with
    | some x => x.at_
    | none => s.clk.now
  s.facet.facets.foldl (fun n e =>
    match e.2.frame with
    | some fr => if e.2.alloc.path == p then min n fr.det else n
    | none => n) now

/-- An interval of the trunk of path `p` is over. -/
def State.addMark (s : State) (p : PathId) (m : TrunkMark) : State :=
  let keep := min (s.keepFrom p) (s.oldestFrame p - 2 ^ 19)
  s.modRf p (fun x => { x with marks := x.marks.filter (fun m => decide (keep ≤ m.hi)) ++ [m] })

/-- The trunk freezes for cause `c`, or a freeze goes on for another cause (R45, R63). -/
def State.openMark (s : State) (p : PathId) (c : SampleFlag) : State :=
  match (s.rf p).openMark with
  | none => s.modRf p (fun x => { x with openMark := some (c, s.clk.now) })
  | some (d, a) =>
    if c == d then s
    else (s.addMark p ⟨d, a, s.clk.now⟩).modRf p (fun x => { x with openMark := some (c, s.clk.now) })

/-- The trunk's freeze ends. -/
def State.closeMark (s : State) (p : PathId) : State :=
  match (s.rf p).openMark with
  | none => s
  | some (d, a) => (s.addMark p ⟨d, a, s.clk.now⟩).modRf p (fun x => { x with openMark := none })

/-! ### Flags of ray samples (R72–R76) -/

/-- The samples that a cause flags: those that leave the filter from cycle `lo` up to, not including, `hi`. -/
structure FlagWin where
  flag : SampleFlag
  lo : Nat
  hi : Nat
  deriving DecidableEq, Repr

/-- A trunk interval [a, b) as ray samples see it (R73): their span reaches from 1.2 µs and two half-spans before they leave
the filter to 1.2 µs before. -/
def spanWin (k : Nat) (c : SampleFlag) (a b : Nat) : FlagWin := ⟨c, a + 240, b + 240 + 2 * raySpan k⟩

/-- Every cause of a flag on ray `n`: intervals of the trunk, the start or flush of the ray (R74), its centre changes (R75). -/
def State.flagWins (s : State) (p : PathId) (n : Nat) : List FlagWin :=
  let x := s.rf p
  let r := s.ray p n
  let k := r.par.k
  x.marks.map (fun m => spanWin k m.flag m.lo m.hi) ++
    (match x.openMark with
     | some (c, a) => [spanWin k c a (s.clk.now + 1)]
     | none => []) ++
    (match r.startAt with
     | some a => [⟨.frozenCal, a, a + 240 + 2 * raySpan k⟩]
     | none => []) ++
    r.tunes.map (fun c => spanWin k .retune c (c + 1))

/-- The samples of a window, rounded outward to whole ray samples (R73): from the first up to, not including, the second. -/
def FlagWin.range (w : FlagWin) (k : Nat) : Nat × Nat := (sampleAt k w.lo, sampleFrom k w.hi)

/-- Is sample `i` among them? -/
def FlagWin.holds (w : FlagWin) (k i : Nat) : Bool := decide ((w.range k).1 ≤ i) && decide (i < (w.range k).2)

/-- The flag of sample `i` of ray `n` (R72, R76): the highest of the causes in its span. -/
def State.flagAt (s : State) (p : PathId) (n i : Nat) : SampleFlag :=
  (s.flagWins p n).foldl (fun f w => if w.holds (s.ray p n).par.k i then flagMax f w.flag else f) .valid

/-- Are samples `i` up to `j` all VALID, on a ray that is LIVE and has been since? -/
def State.allValid (s : State) (p : PathId) (n i j : Nat) : Bool :=
  let k := (s.ray p n).par.k
  s.rayLive p n && (s.ray p n).startAt.all (fun a => decide (sampleFrom k a ≤ i)) &&
    (s.flagWins p n).all (fun w => decide (j < (w.range k).1) || decide ((w.range k).2 ≤ i))

/-- The status a flagged sample gives a frame (R101). -/
def flagCode : SampleFlag → Option Nat
  | .frozenTx => some Code.BLINDED
  | .frozenCal => some Code.CAL_FROZEN
  | .retune => some Code.RETUNED
  | .valid | .erased => none

/-- The first sample after cycle `det` that ends a frame on ray `n`, if one does (R101). -/
def State.firstLoss (s : State) (p : PathId) (n det : Nat) : Option Nat :=
  let k := (s.ray p n).par.k
  let d := sampleAt k det + 1
  (s.flagWins p n).foldl (fun (b : Option Nat) w =>
    let r := w.range k
    if flagRank w.flag < 2 || decide (r.2 ≤ d) then b
    else
      let i := max d r.1
      match b with
      | some j => some (min i j)
      | none => some i) none

/-- When and with which status a frame detected at cycle `det` on ray `n` is lost to a flag (R101). -/
def State.lossOn (s : State) (p : PathId) (n det : Nat) : Option (Nat × Nat) :=
  (s.firstLoss p n det).bind (fun i => (flagCode (s.flagAt p n i)).map (fun c => (sampleCycle (s.ray p n).par.k i, c)))

/-- Has a frame detected at cycle `det` on ray `n` met a sample flagged ERASED by cycle `t` (R101)? -/
def State.erasedOn (s : State) (p : PathId) (n det t : Nat) : Bool :=
  let k := (s.ray p n).par.k
  (s.flagWins p n).any (fun w => w.flag == .erased && decide (sampleAt k det < (w.range k).2) &&
    decide ((w.range k).1 ≤ sampleAt k t))

/-- At least 16 consecutive pilots or symbols, of which the last 16 correlate below the lock threshold (R104, R148). -/
def weakRun (thr : Nat) (corrs : List Nat) : Bool :=
  decide (16 ≤ corrs.length) && (corrs.drop (corrs.length - 16)).all (fun c => decide (c < thr))

/-! ### VALID samples of an interval (R82) -/

/-- Insert a range by its start. -/
def insRange (r : Nat × Nat) : List (Nat × Nat) → List (Nat × Nat)
  | [] => [r]
  | q :: t => if r.1 ≤ q.1 then r :: q :: t else q :: insRange r t

/-- The runs of [i, j) that no range of a sorted list covers. -/
def freeRuns (j : Nat) : List (Nat × Nat) → Nat → List (Nat × Nat)
  | [], i => if i < j then [(i, j)] else []
  | r :: t, i => (if i < min r.1 j then [(i, min r.1 j)] else []) ++ freeRuns j t (max i r.2)

/-- The samples of ray `n` that never arrive: those of times at which it was not LIVE (R82). -/
def State.absent (s : State) (p : PathId) (n : Nat) : List (Nat × Nat) :=
  let r := s.ray p n
  let k := r.par.k
  r.gone.map (fun g => (sampleFrom k g.1, sampleFrom k g.2)) ++
    (if r.st == .live then [] else [(sampleFrom k (r.goneAt.getD 0), sampleFrom k (s.clk.now + 1))])

/-- The runs of VALID samples of ray `n` among the sample positions `i` up to `j`. -/
def State.validRuns (s : State) (p : PathId) (n i j : Nat) : List (Nat × Nat) :=
  let k := (s.ray p n).par.k
  let bad := (s.flagWins p n).map (fun w => w.range k) ++ s.absent p n
  freeRuns j (bad.foldr insRange []) i

/-- Group delay of a ray; an UNUSED ray has none (R84). -/
def State.delayOf (s : State) (p : PathId) (n : Nat) : Nat :=
  let r := s.ray p n
  if r.st == .unused then 0 else rayDelay r.par.k

/-- The runs of VALID samples by now of a measurement of ray `n` over `durUs` µs from land time `t0`, and its sample positions
(R81, R82). -/
def State.measured (s : State) (p : PathId) (n t0 durUs : Nat) : List (Nat × Nat) × Nat :=
  let k := (s.ray p n).par.k
  let i := sampleFrom k (t0 + rayDelay k)
  let j := sampleFrom k (t0 + rayDelay k + us durUs)
  (s.validRuns p n i (min j (sampleAt k s.clk.now + 1)), j - i)

/-- MEAN and PEAK where no sample is VALID (R82). -/
def noPower : Int := -2048

/-- What a measurement reports of `mean` and `peak` as measured (R82): VALIDPCT, MEAN and PEAK. Without a VALID sample both are
the most negative code; without 8 consecutive ones PEAK is MEAN. -/
def State.reported (s : State) (p : PathId) (m : Meter) (mean peak : Int) : Nat × Int × Int :=
  let v := s.measured p m.ray m.t0 m.durUs
  let n := v.1.foldl (fun c r => c + (r.2 - r.1)) 0
  if n = 0 then (0, noPower, noPower)
  else (100 * n / v.2, mean, if v.1.any (fun r => decide (8 ≤ r.2 - r.1)) then peak else mean)

end Sys2Proof.Machine
end

