-- ==== Sys2Proof/Machine/FacetOps.lean ====
section
/-! DEFINITION. Facets as shared operations: lookup, the landing buffer (R118–R121), frames that end (R100,
R120) and placement on engines (R96–R98). -/

namespace Sys2Proof.Machine
open Sys2Proof

/-! ### Facets -/

/-- Facet `f`. -/
def State.fct (s : State) (f : Nat) : Facet := tblGet {} s.facet.facets f

/-- Replace facet `f`. -/
def State.setFct (s : State) (f : Nat) (x : Facet) : State :=
  { s with facet := { s.facet with facets := tblPut {} s.facet.facets f x } }

/-- Mid-frame (R99): in SYNC, HEADER or PAYLOAD. -/
def FacetSt.mid : FacetSt → Bool
  | .sync | .header | .payload => true
  | _ => false

/-- The numbers of the facets on a ray. -/
def State.facetsOn (s : State) (p : PathId) (n : Nat) : List Nat :=
  (s.facet.facets.filter (fun e => e.2.alloc.path == p && e.2.alloc.ray == n && e.2.st != .unused)).map (·.1)

/-- The numbers of the facets of a path. -/
def State.facetsOf (s : State) (p : PathId) : List Nat :=
  (s.facet.facets.filter (fun e => e.2.alloc.path == p && e.2.st != .unused)).map (·.1)

/-- The FACET_CNT register that counts a status (R125). -/
def facetCnt : Nat → Nat
  | 0x00 => 0
  | 0x01 => 1
  | 0x02 => 2
  | 0x04 => 3
  | 0x0a => 4
  | 0x0b => 5
  | 0x0c => 6
  | 0x0d => 7
  | 0x0e => 8
  | 0x0f => 9
  | 0x10 => 10
  | 0x11 => 11
  | 0x12 => 12
  | _ => 13

/-- Count a frame under its status. -/
def State.countFrame (s : State) (code : Nat) : State := s.inc (FACET_CNTn_COUNT (facetCnt code))

/-! ### The landing buffer -/

/-- Address of a landing slot (R118). -/
def slotAddr (n : Nat) : Nat := 0x20400000 + 384 * n

/-- FACET_LBSTAT follows the lists. -/
def State.showLb (s : State) : State :=
  (s.setFld FACET_LBSTAT_FREE s.facet.free.length).setFld FACET_LBSTAT_QUEUED s.facet.doneq.length

/-- A slot joins the tail of the free list (R118). -/
def State.freeSlot (s : State) (n : Nat) : State :=
  ({ s with facet := { s.facet with free := s.facet.free ++ [n] },
            mac := { s.mac with frames := tblDel s.mac.frames n } }).showLb

/-- A slot is posted to FACET_DONEQ (R118). -/
def State.postSlot (s : State) (n : Nat) : State :=
  ({ s with facet := { s.facet with doneq := s.facet.doneq ++ [n] },
            mac := { s.mac with frames := tblDel s.mac.frames n } }).showLb.set1 FACET_IRQ_DONE

/-- Take the slot at the head of the free list; LBLOW sets when the free count falls below LOW (R118, R121). -/
def State.takeSlot (s : State) : Option (Nat × State) :=
  match s.facet.free with
  | [] => none
  | n :: t =>
    let s1 := ({ s with facet := { s.facet with free := t } }).showLb
    let s2 := if t.length < s.fld FACET_LBWATER_LOW && s.fld FACET_LBWATER_LOW ≤ t.length + 1
      then s1.set1 FACET_IRQ_LBLOW else s1
    some (n, s2)

/-- Descriptor RATE (R120): SFEXP for IL2, RateMode for SUN-O-QPSK-915, else 0. -/
def rateOf (x : Facet) (fr : RxFrame) : Nat :=
  match x.alloc.prof.phy with
  | 1 => x.alloc.prof.sfexp
  | 3 => fr.rate
  | _ => 0

/-- Write the descriptor of R120 into slot `n`, for a frame that ended at cycle `t`. -/
def State.writeDesc (s : State) (n f : Nat) (x : Facet) (fr : RxFrame) (t status len durMs : Nat) (snr : Int) : State :=
  let a := slotAddr n
  let eras := s.erasedOn x.alloc.path x.alloc.ray fr.det t
  let flags := (if x.old then 1 else 0) + (if fr.qpsk then 2 else 0) + (if eras then 4 else 0)
  let source := f % 512 + 512 * pathNum x.alloc.path + 1024 * (x.alloc.prof.phy % 8)
  let s := (((s.memPutLe a 1 status).memPutLe (a + 1) 1 flags).memPutLe (a + 2) 2 len).memPutLe (a + 4) 2 source
  let s := ((s.memPutLe (a + 6) 1 x.alloc.ray).memPutLe (a + 7) 1 (rateOf x fr)).memPutLe (a + 8) 6 fr.tstamp
  let s := ((s.memPutLe (a + 0xe) 2 durMs).memPutLe (a + 0x10) 2 (unsignedOf 16 fr.rssi)).memPutLe (a + 0x12) 2
    (unsignedOf 16 snr)
  (s.memPutLe (a + 0x14) 4 (unsignedOf 32 fr.fofs)).memPutLe (a + 0x18) 8 0

/-- The state a placed facet takes when it is not mid-frame: SEARCH on a LIVE ray, else IDLE (R100). An OLD facet
whose frame has ended waits in IDLE for its new allocation (R102). -/
def State.restSt (s : State) (x : Facet) : FacetSt :=
  if x.old || x.wait then .idle else if s.rayLive x.alloc.path x.alloc.ray then .search else .idle

/-- A mid-frame facet loses its frame at cycle `t` with a status (R100, R118): it is counted, its slot is freed, or posted when
KEEPBAD = 1, and the facet takes state `dest`. SNR of a lost frame is a free value: the mean over the symbols it decoded, which
no command reports (R120, log entry 148). -/
def State.loseFrameAt (s : State) (f t code : Nat) (dest : FacetSt) : State :=
  let x := s.fct f
  let s := s.countFrame code
  let s := match x.frame with
    | some fr =>
      match fr.slot with
      | some n =>
        if s.flag FACET_CTRL_KEEPBAD then
          let dur := ceilDiv (t - rayDelay (s.ray x.alloc.path x.alloc.ray).par.k - fr.first) 200000
          let snr := s.fresh
          (snr.2.writeDesc n f x fr t code fr.decided dur snr.1).postSlot n
        else s.freeSlot n
      | none => s
    | none => s
  s.setFct f { x with st := dest, frame := none }

/-- A mid-frame facet loses its frame now. -/
def State.loseFrame (s : State) (f code : Nat) (dest : FacetSt) : State := s.loseFrameAt f s.clk.now code dest

/-- The cycle by which a frame ends by itself: its SFD timeout in SYNC, its last symbol in PAYLOAD. -/
def RxFrame.endsAt (fr : RxFrame) : Option Nat :=
  if fr.hdrOk then some fr.endDue else if fr.slot.isSome then none else some fr.sfdDue

/-- When and with which status a flagged sample ends the frame of facet `f` (R101). -/
def State.flagLoss (s : State) (f : Nat) : Option (Nat × Nat) :=
  let x := s.fct f
  match x.frame with
  | some fr => (s.lossOn x.alloc.path x.alloc.ray fr.det).filter (fun c => fr.endsAt.all (fun t => decide (c.1 ≤ t)))
  | none => none

/-- A frame that a flagged sample has ended by now is lost with the status of that flag (R101). -/
def State.endFlagged (s : State) (f : Nat) : State :=
  if (s.fct f).st.mid then
    match s.flagLoss f with
    | some (t, code) => if t ≤ s.clk.now then s.loseFrameAt f t code (s.restSt (s.fct f)) else s
    | none => s
  else s

/-- A frame in progress, if any, is lost with `code`; the facet takes state `dest` either way. -/
def State.endFacet (s : State) (f code : Nat) (dest : FacetSt) : State :=
  let s := s.endFlagged f
  let x := s.fct f
  if x.st.mid then s.loseFrame f code dest else s.setFct f { x with st := dest }

/-- A ray leaves LIVE: its facets go IDLE and a frame in progress is lost with RAY_LOST (R100). -/
def State.raySilent (s : State) (p : PathId) (n : Nat) : State :=
  (s.facetsOn p n).foldl (fun s f =>
    if (s.fct f).st == .shed then s else s.endFacet f Code.RAY_LOST .idle) s

/-- A ray becomes LIVE: its idle facets whose context is free start to search (R100, R103). -/
def State.rayHeard (s : State) (p : PathId) (n : Nat) : State :=
  (s.facetsOn p n).foldl (fun s f =>
    let x := s.fct f
    if x.st == .idle && x.place.isSome && !x.old && !x.wait then s.setFct f { x with st := .search } else s) s

/-! ### Placement on engines (R96–R98) -/

/-- Is facet engine `e` usable? -/
def State.engineOk (s : State) (e : Nat) : Bool :=
  if e < 32 then bitAt (s.rd FACET_ENGOK0).toNat e else bitAt (s.rd FACET_ENGOK1).toNat (e - 32)

/-- An occupied context: engine, context, load. -/
abbrev Occ := List (Nat × Nat × Nat)

/-- The load on an engine. -/
def Occ.load (o : Occ) (e : Nat) : Nat := (o.filter (fun x => x.1 == e)).foldl (fun n x => n + x.2.2) 0

/-- The lowest free context of an engine that has the spare load. -/
def Occ.ctxOn (o : Occ) (e load : Nat) : Option Nat :=
  if o.load e + load ≤ 100 then (List.range 8).find? (fun c => !(o.any (fun x => x.1 == e && x.2.1 == c))) else none

/-- First fit: the lowest-numbered free context of the lowest-numbered usable engine with room (R96). -/
def Occ.fit (o : Occ) (ok : Nat → Bool) (load : Nat) : List Nat → Option (Nat × Nat)
  | [] => none
  | e :: t =>
    if ok e then
      match o.ctxOn e load with
      | some c => some (e, c)
      | none => Occ.fit o ok load t
    else Occ.fit o ok load t

/-- Insert by priority, and by rising number within one priority. -/
def insByPrio (x : Nat × FacetAlloc) : List (Nat × FacetAlloc) → List (Nat × FacetAlloc)
  | [] => [x]
  | y :: t =>
    if x.2.prio < y.2.prio || (x.2.prio == y.2.prio && x.1 < y.1) then x :: y :: t else y :: insByPrio x t

/-- The order of placement (R96): most important priority first, then ascending facet number. -/
def placeOrder (l : List (Nat × FacetAlloc)) : List (Nat × FacetAlloc) := l.foldr insByPrio []

/-- Place allocations in order: each facet with its place, none where it fits nowhere. -/
def placeAll (ok : Nat → Bool) : Occ → List (Nat × FacetAlloc) → List (Nat × FacetAlloc × Option (Nat × Nat))
  | _, [] => []
  | o, (f, a) :: t =>
    match o.fit ok a.load (List.range 64) with
    | some (e, c) => (f, a, some (e, c)) :: placeAll ok ((e, c, a.load) :: o) t
    | none => (f, a, none) :: placeAll ok o t

/-- The contexts that placed facets hold, OLD facets at their old place and load. -/
def State.occupied (s : State) : Occ :=
  s.facet.facets.filterMap (fun e =>
    match e.2.place with
    | some (g, c) => some (g, c, e.2.alloc.load)
    | none => none)

/-- A FACENG check ends when a placement needs its context, or its engine's spare load falls below 20 (R507). -/
def State.abortFaceng (s : State) : State :=
  s.bistAbortC (fun c => decide (12 ≤ c.item) && decide (c.item < 76) &&
    (s.occupied.any (fun x => x.1 == c.item - 12 && x.2.1 == c.ctx) || decide (80 < s.occupied.load (c.item - 12))))

/-- FACET_POOL and the budget follow the placement (R94, R125). -/
def State.showPool (s : State) : State :=
  let s := s.abortFaceng
  let used := s.occupied.foldl (fun n x => n + x.2.2) 0
  let eng := popBits 32 (s.rd FACET_ENGOK0).toNat + popBits 32 (s.rd FACET_ENGOK1).toNat
  (s.setFld FACET_POOL_USED used).setFld FACET_POOL_BUDGET (100 * eng)

/-- A facet becomes SHED (R97, R100): IRQ and count; a frame in progress is lost with FACET_SHED. One that finished as OLD
takes its new allocation, if it has one (R102). -/
def State.shedFacet (s : State) (f : Nat) : State :=
  let old := s.fct f
  let s := s.endFacet f Code.FACET_SHED .shed
  let x : Facet := if old.old then
      match old.pending with
      | none => {}
      | some a => { alloc := a, st := .shed }
    else { alloc := old.alloc, st := .shed }
  ((s.setFct f x).set1 FACET_IRQ_SHED).inc (FACET_CNTn_COUNT 11)

/-- A facet takes a place: SEARCH or IDLE by its ray. -/
def State.settleFacet (s : State) (f : Nat) (a : FacetAlloc) (pl : Nat × Nat) : State :=
  let x : Facet := { alloc := a, place := some pl }
  s.setFct f { x with st := s.restSt x }

/-- The least important placed facet of less important priority than `prio`, the highest number among equals (R97). -/
def State.victim (s : State) (prio : Nat) : Option Nat :=
  let c := s.facet.facets.filter (fun e => e.2.place.isSome && decide (prio < e.2.alloc.prio))
  (c.foldl (fun (b : Option (Nat × Nat)) e =>
    match b with
    | none => some (e.2.alloc.prio, e.1)
    | some (pr, n) => if pr < e.2.alloc.prio || (pr == e.2.alloc.prio && n < e.1) then some (e.2.alloc.prio, e.1)
      else some (pr, n)) none).map (·.2)

/-- Re-place a displaced facet, shedding less important ones until it fits (R97). -/
def State.replace (s : State) (f : Nat) (a : FacetAlloc) : Nat → State
  | 0 => (s.setFct f { alloc := a }).shedFacet f
  | k + 1 =>
    match s.occupied.fit s.engineOk a.load (List.range 64) with
    | some pl => s.settleFacet f a pl
    | none =>
      match s.victim a.prio with
      | some v => (s.shedFacet v).replace f a k
      | none => (s.setFct f { alloc := a }).shedFacet f

/-- An engine is marked unusable (R97, R510). -/
def State.engineLost (s : State) (e : Nat) : State :=
  let r := if e < 32 then FACET_ENGOK0 else FACET_ENGOK1
  let s := s.setFld ⟨r, e % 32, e % 32⟩ 0
  let out := s.facet.facets.filter (fun x => x.2.place.any (fun pl => pl.1 == e))
  let s := out.foldl (fun s x => s.endFacet x.1 Code.FACET_SHED .idle) s
  -- a facet that finished as OLD takes its new allocation (R102)
  let s := out.foldl (fun s x => s.setFct x.1 (if x.2.old && x.2.pending.isNone then {} else { s.fct x.1 with place := none })) s
  let again := out.filterMap (fun x => (if x.2.old then x.2.pending else some x.2.alloc).map (fun a => (x.1, a)))
  let s := (placeOrder again).foldl (fun s x => s.replace x.1 x.2 513) s
  (s.set1 FACET_IRQ_ENGLOST).showPool

/-- An engine returns: SHED facets are placed in order into free capacity (R98). -/
def State.engineBack (s : State) (e : Nat) : State :=
  let r := if e < 32 then FACET_ENGOK0 else FACET_ENGOK1
  let s := s.setFld ⟨r, e % 32, e % 32⟩ 1
  let shed := (s.facet.facets.filter (fun x => x.2.st == .shed)).map (fun x => (x.1, x.2.alloc))
  let s := (placeOrder shed).foldl (fun s x =>
    match s.occupied.fit s.engineOk x.2.load (List.range 64) with
    | some pl => (s.settleFacet x.1 x.2 pl).set1 FACET_IRQ_RESTORED
    | none => s) s
  s.showPool

/-- Place the facets of a plan on an empty pool: at plan load and at a wake (R96). -/
def State.placePlan (s : State) (q : Plan) : State :=
  let l := placeAll s.engineOk [] (placeOrder (q.facets.map (fun f => (f.facet, q.alloc f))))
  let s := l.foldl (fun s x =>
    match x.2.2 with
    | some pl => s.settleFacet x.1 x.2.1 pl
    | none => (s.setFct x.1 { alloc := x.2.1, st := .shed }).set1 FACET_IRQ_SHED) s
  s.showPool

end Sys2Proof.Machine
end

