-- ==== Sys2Proof/Machine/PrismOps.lean ====
section
/-! DEFINITION. The Prism as shared operations: weights and budgets (R70), shedding and restoration (R71), the moves of
rays with their path (R74, R78), centre changes (R75) and the plan swap (R79, R80). -/

namespace Sys2Proof.Machine
open Sys2Proof

/-- The path state as RFx_STATE.STATE encodes it (R34). -/
def PathSt.num : PathSt → Nat
  | .off => 0
  | .startup => 1
  | .syncal => 2
  | .ircal => 3
  | .rx => 4
  | .settle => 5
  | .rxtx => 6
  | .tx => 7
  | .txrx => 8
  | .tune => 9
  | .fault => 10

/-- The path state a value of RFx_STATE.STATE names. -/
def PathSt.ofNum : Nat → PathSt
  | 1 => .startup
  | 2 => .syncal
  | 3 => .ircal
  | 4 => .rx
  | 5 => .settle
  | 6 => .rxtx
  | 7 => .tx
  | 8 => .txrx
  | 9 => .tune
  | 10 => .fault
  | _ => .off

/-- The state of a path. -/
def State.pst (s : State) (p : PathId) : PathSt := PathSt.ofNum (s.fld (RFx_STATE_STATE p))

/-- The window position of a path (R19). -/
def State.win (s : State) (p : PathId) : Nat := s.fld (RFx_STATE_WIN p)

/-- Is the path past STARTUP and not in FAULT or OFF (R78)? -/
def State.pathOn (s : State) (p : PathId) : Bool :=
  match s.pst p with
  | .off | .startup | .fault => false
  | _ => true

/-- PRISM_BUDx.USED and BUDGET of a path. -/
def budUsed : PathId → Fld
  | .s => PRISM_BUDS_USED
  | .g => PRISM_BUDG_USED

def budBudget : PathId → Fld
  | .s => PRISM_BUDS_BUDGET
  | .g => PRISM_BUDG_BUDGET

def budEngok : PathId → Fld
  | .s => PRISM_BUDS_ENGOK
  | .g => PRISM_BUDG_ENGOK

/-- The branches of a path. -/
def State.branches (s : State) : PathId → List PlanBranch
  | .s => s.prism.branchesS
  | .g => s.prism.branchesG

/-- Does a ray count toward the used weight: every allocated ray but a SHED one or one that waits to start (R70,
R80)? -/
def Ray.counts (r : Ray) : Bool :=
  match r.st with
  | .live | .parked | .held => true
  | _ => false

/-- Does a ray lie on branch `b`? -/
def RayPar.on (r : RayPar) (b : PlanBranch) : Bool := r.branch == b.branch && r.ofsKHz == b.ofsKHz && r.dexp == b.dexp

/-- Does the weight of a plan branch count: a ray on it counts (R71, R80), or the plan puts none on it (R70)? -/
def State.branchUsed (s : State) (p : PathId) (b : PlanBranch) : Bool :=
  (s.rays p).any (fun r => r.2.par.on b && r.2.counts) ||
    !((s.rays p).any (fun r => (r.2.st != .unused && r.2.par.on b) || r.2.next.any (fun n => n.on b)))

/-- The old branches that HELD rays still run on, once each (R80). -/
def State.heldBranches (s : State) (p : PathId) : List (Nat × Int × Nat) :=
  (((s.rays p).filter (fun r => r.2.st == .held && !((s.branches p).any (fun b => r.2.par.on b)))).map
    (fun r => (r.2.par.branch, r.2.par.ofsKHz, r.2.par.dexp))).eraseDups

/-- The used weight of a path (R70, R80). -/
def State.usedWeight (s : State) (p : PathId) : Nat :=
  ((s.rays p).filter (fun r => r.2.counts)).foldl (fun n r => n + r.2.par.weight) 0 +
  ((s.branches p).filter (s.branchUsed p)).foldl (fun n b => n + branchWeight b.dexp) 0 +
  (s.heldBranches p).foldl (fun n b => n + branchWeight b.2.2) 0

/-- The usable budget of a path: 512 for each usable ray engine (R70, R71). -/
def State.rayBudget (s : State) (p : PathId) : Nat := 512 * popBits 4 (s.fld (budEngok p))

/-- PRISM_BUDx follows. -/
def State.showBud (s : State) (p : PathId) : State :=
  (s.setFld (budUsed p) (s.usedWeight p)).setFld (budBudget p) (s.rayBudget p)

/-- The ray to shed next: LIVE or PARKED, least important first, highest number among equals (R71). -/
def State.shedNext (s : State) (p : PathId) : Option Nat :=
  (((s.rays p).filter (fun r => r.2.st == .live || r.2.st == .parked)).foldl (fun (b : Option (Nat × Nat)) r =>
    match b with
    | none => some (r.2.par.prio, r.1)
    | some (pr, n) => if pr < r.2.par.prio || (pr == r.2.par.prio && n < r.1) then some (r.2.par.prio, r.1)
      else some (pr, n)) none).map (·.2)

/-- The order of shedding of a path. -/
def State.shedList (s : State) : PathId → List Nat
  | .s => s.prism.shedS
  | .g => s.prism.shedG

def State.setShedList (s : State) (p : PathId) (l : List Nat) : State :=
  match p with
  | .s => { s with prism := { s.prism with shedS := l } }
  | .g => { s with prism := { s.prism with shedG := l } }

/-- Shed one ray (R71, R78): its facets go idle. -/
def State.shedRay (s : State) (p : PathId) (n : Nat) : State :=
  let s := (s.raySilent p n).rayDown p n .shed
  let s := s.setRay p n { s.ray p n with tune := none }
  let s := s.setShedList p (s.shedList p ++ [n])
  (s.set1 PRISM_IRQ_SHED).inc PRISM_CNT_SHED

/-- Shed rays until the used weight fits the budget (R71). -/
def State.shedFit (s : State) (p : PathId) : Nat → State
  | 0 => s
  | k + 1 =>
    if s.usedWeight p ≤ s.rayBudget p then s
    else
      match s.shedNext p with
      | none => s
      | some n => (s.shedRay p n).shedFit p k

/-- A ray that may run takes LIVE or PARKED by the window and the path state (R78), and its facets follow. -/
def State.startRay (s : State) (p : PathId) (n : Nat) (par : RayPar) : State :=
  if bitAt par.wmask (s.win p) && s.pathOn p then (s.rayUp p n par).rayHeard p n
  else s.setRay p n { st := .parked, par := par }

/-- Restore shed rays in the reverse of the shedding order, as far as the budget allows (R71). -/
def State.restoreRays (s : State) (p : PathId) : Nat → State
  | 0 => s
  | k + 1 =>
    match (s.shedList p).reverse with
    | [] => s
    | n :: t =>
      let s1 := (s.startRay p n (s.ray p n).par).setShedList p t.reverse
      if s1.usedWeight p ≤ s1.rayBudget p then s1.restoreRays p k else s

/-- A ray engine is marked unusable (R71, R510). -/
def State.rayEngineLost (s : State) (p : PathId) (e : Nat) : State :=
  let s := s.setFld ((⟨(budEngok p).addr, 28 + e, 28 + e⟩ : Fld)) 0
  (s.shedFit p 256).showBud p

/-- A ray engine returns (R71). -/
def State.rayEngineBack (s : State) (p : PathId) (e : Nat) : State :=
  let s := s.setFld ((⟨(budEngok p).addr, 28 + e, 28 + e⟩ : Fld)) 1
  (s.restoreRays p 256).showBud p

/-! ### Rays and their path (R74, R78) -/

/-- The path reaches RX: its PARKED rays whose mask holds the window become LIVE. -/
def State.raysToLive (s : State) (p : PathId) : State :=
  (s.rays p).foldl (fun s e =>
    let r := s.ray p e.1
    if r.st == .parked && bitAt r.par.wmask (s.win p) then (s.rayUp p e.1 r.par).rayHeard p e.1 else s) s

/-- The path enters OFF or FAULT: its LIVE rays are PARKED and their facets go idle. -/
def State.raysToPark (s : State) (p : PathId) : State :=
  (s.rays p).foldl (fun s e =>
    let r := s.ray p e.1
    if r.st == .live then (s.raySilent p e.1).rayDown p e.1 .parked else s) s

/-- A window move (R74): LIVE rays whose mask excludes the new window are PARKED; the filters of those that stay are flushed. -/
def State.raysMove (s : State) (p : PathId) (w : Nat) : State :=
  (s.rays p).foldl (fun s e =>
    let r := s.ray p e.1
    if r.st != .live then s
    else if bitAt r.par.wmask w then s.setRay p e.1 { r with startAt := some s.clk.now }
    else (s.raySilent p e.1).rayDown p e.1 .parked) s

/-! ### Centre changes (R75) -/

/-- Does a new centre keep R67 in every window of the ray's mask? -/
def State.tuneOk (s : State) (p : PathId) (r : Ray) (fr : Nat) : Bool :=
  match s.activePlan with
  | none => false
  | some q => q.rayOk p r.par.ofsKHz r.par.dexp r.par.k fr r.par.wmask

/-- A centre change asked for by the sequencer, to take effect at cycle `t`: refused with HOPREF for a HELD or SHED
ray and for a centre that breaks R67. -/
def State.seqTune (s : State) (p : PathId) (n fr t : Nat) : State :=
  let r := s.ray p n
  if (r.st == .live || r.st == .parked) && s.tuneOk p r fr then s.setRay p n { r with tune := some (fr, t) }
  else (s.inc PRISM_CNT_HOPREF).set1 PRISM_IRQ_HOPREF

/-- The requested centre takes effect; a PARKED ray stores it for when it is next LIVE (R75). The samples of a LIVE ray whose span
includes the boundary carry RETUNE. -/
def State.takeTune (s : State) (p : PathId) (n : Nat) : State :=
  let r := s.ray p n
  match r.tune with
  | none => s
  | some (fr, _) =>
    let past := (r.tunes ++ [s.clk.now]).filter (fun c => decide (min (s.keepFrom p) (s.oldestFrame p - 2 ^ 19) ≤ c))
    s.setRay p n { r with par := { r.par with fr := fr }, tune := none, tunes := if r.st == .live then past else [] }

/-! ### Plan load and plan swap -/

/-- Put the branches of a plan in force. -/
def State.setBranches (s : State) (q : Plan) : State :=
  { s with prism := { s.prism with branchesS := q.branches.filter (fun b => b.path == .s),
                                   branchesG := q.branches.filter (fun b => b.path == .g) } }

/-- Put the branches of a plan on one path in force. -/
def State.setBranchesOf (s : State) (q : Plan) (p : PathId) : State :=
  match p with
  | .s => { s with prism := { s.prism with branchesS := q.branches.filter (fun b => b.path == .s) } }
  | .g => { s with prism := { s.prism with branchesG := q.branches.filter (fun b => b.path == .g) } }

/-- Allocate the rays of a plan on an empty Prism, then shed against the kept budget (R78, R91). -/
def State.raysOfPlan (s : State) (q : Plan) : State :=
  let s := s.setBranches q
  let s := { s with prism := { s.prism with raysS := [], raysG := [], shedS := [], shedG := [] } }
  let s := q.rays.foldl (fun s r => s.startRay r.path r.ray (q.rayPar r)) s
  (((s.shedFit .s 256).shedFit .g 256).showBud .s).showBud .g

/-- Does a facet on the ray still finish a frame? None begins one on a HELD ray, so there each is of the old profile (R79). -/
def State.rayBusy (s : State) (p : PathId) (n : Nat) : Bool := (s.facetsOn p n).any (fun f => (s.fct f).st.mid)

/-- The waiting rays of a path start in ascending number once their weight fits (R80). A ray that does not fit is passed over,
and a later one that fits starts before it (DESIGN CHOICE, log entry 149: the rule gives the order and does not say that a ray
that must wait holds up the rest). -/
def State.startWaiting (s : State) (p : PathId) : State :=
  (s.rays p).foldl (fun s e =>
    let r := s.ray p e.1
    match r.next with
    | some par =>
      if r.st == .unused then
        let s1 := s.startRay p e.1 par
        if s1.usedWeight p ≤ s1.rayBudget p then s1 else s
      else s
    | none => s) s

/-- One ray number at the swap boundary (R79): unchanged, HELD, rebuilt or removed. -/
def State.swapRay (s : State) (p : PathId) (n : Nat) (new : Option RayPar) : State :=
  let r := s.ray p n
  let hold := s.clk.now + 200000 * s.fld PRISM_SWAPCTL_HOLD
  match new with
  | some par =>
    if r.st != .unused && r.par.branch == par.branch && r.par.ofsKHz == par.ofsKHz && r.par.dexp == par.dexp &&
        r.par.k == par.k && r.par.planFr == par.planFr && r.par.wmask == par.wmask then
      s.setRay p n { r with par := { par with fr := r.par.fr } }
    else
    let s := s.ridgeSilent p n
    if r.st == .live && s.rayBusy p n then
      s.setRay p n { r with st := .held, next := some par, holdAt := hold, tune := none, goneAt := some s.clk.now }
    else s.setRay p n { st := .unused, par := {}, next := some par }
  | none =>
    let s := s.ridgeSilent p n
    if r.st == .live && s.rayBusy p n then
      s.setRay p n { r with st := .held, removed := true, holdAt := hold, tune := none, goneAt := some s.clk.now }
    else s.setRay p n {}

/-- The rays of a path at a swap to plan `q` (R79, R80); an unchanged ray stays SHED until the budget returns, and a new one that
does not fit waits: no ray that runs is shed for it. -/
def State.swapRays (s : State) (q : Plan) (p : PathId) : State :=
  let new := q.rays.filter (fun r => r.path == p)
  let nums := ((s.rays p).map (·.1) ++ new.map (·.ray)).eraseDups
  let s := s.setBranchesOf q p
  let s := nums.foldl (fun s n => s.swapRay p n ((new.find? (fun r => r.ray == n)).map q.rayPar)) s
  let s := s.setShedList p ((s.shedList p).filter (fun n => (s.ray p n).st == .shed))
  (s.startWaiting p).showBud p

/-- A HELD ray ends: it takes its new parameters or is removed, and waiting rays start (R78, R80). -/
def State.releaseHeld (s : State) (p : PathId) (n : Nat) : State :=
  let r := s.ray p n
  let s := if r.removed then s.setRay p n {} else s.setRay p n { st := .unused, next := r.next }
  (s.startWaiting p).showBud p

end Sys2Proof.Machine
end

