-- ==== Sys2Proof/Machine/BistOps.lean ====
section
/-! DEFINITION. What other blocks do to self-test: failures they report (R509) and checks they end (R507). -/

namespace Sys2Proof.Machine
open Sys2Proof

/-- The PATH and LOUPE items of a path (R505). -/
def pathItem (p : PathId) : Nat := pathNum p
def loupeItem (p : PathId) : Nat := 2 + pathNum p

/-- The items DUE in the current cycle, lowest first: none outside a cycle (R506, R508). -/
def State.bistDue (s : State) : List Nat :=
  if s.bist.running then (List.range 77).filter (fun i => (s.bistItem i).st == .due) else []

/-- A failed check: the item goes to RERUN and BIST_FAIL is logged with its detail (R509). -/
def State.bistFail (s : State) (i detail : Nat) : State :=
  let s := s.setBistItem i { s.bistItem i with st := .rerun, last := Code.BIST_FAIL, since := s.clk.now,
                                               lateLogged := false }
  s.logPut 14 Code.BIST_FAIL detail i

/-- A failure a block reports by its own work: the first failure of the item, or counted in IGNREP where a rerun is
pending already (R509). An UNUSABLE item's resource carries no work. -/
def State.bistReport (s : State) (i detail : Nat) : State :=
  let s := s.bistAbort (fun j => j == i)
  match (s.bistItem i).st with
  | .rerun => s.inc BIST_CNT_IGNREP
  | .unusable => s
  | _ => s.bistFail i detail

end Sys2Proof.Machine
end

