-- ==== Sys2Proof/Machine/FacetSwap.lean ====
section
/-! DEFINITION. Facets at a plan swap (R102, R103, R416): which finish their frame as OLD, where the others are placed,
and when a facet that waits for its context or load starts. -/

namespace Sys2Proof.Machine
open Sys2Proof

/-- Load of the facets of a path that have started, OLD ones at their old load (R103, R416). -/
def State.pathLoad (s : State) (p : PathId) : Nat :=
  (s.facet.facets.filter (fun e => e.2.place.isSome && !e.2.wait && e.2.alloc.path == p)).foldl
    (fun n e => n + e.2.alloc.load) 0

/-- Load of the facets on an engine that have started, OLD ones at their old load. -/
def State.engineLoad (s : State) (g : Nat) : Nat :=
  (s.facet.facets.filter (fun e => e.2.place.any (fun pl => pl.1 == g) && !e.2.wait)).foldl
    (fun n e => n + e.2.alloc.load) 0

/-- The facet load a plan allocates to a path: US or UG of R416. -/
def Plan.pathLoad (q : Plan) (p : PathId) : Nat :=
  (q.facets.filter (fun f => f.path == p)).foldl (fun n f => n + (q.alloc f).load) 0

/-- May a waiting facet start: no OLD facet holds its context, its engine has the spare load, and its path stays
within the load accepted for the plan (R103, R416)? -/
def State.mayStart (s : State) (f : Nat) : Bool :=
  let x := s.fct f
  match x.place, s.activePlan with
  | some pl, some q =>
    !(s.facet.facets.any (fun e => e.2.old && e.2.place == some pl)) &&
    decide (s.engineLoad pl.1 + x.alloc.load ≤ 100) &&
    decide (s.pathLoad x.alloc.path + x.alloc.load ≤ q.pathLoad x.alloc.path)
  | _, _ => false

/-- Waiting facets that may start do so, in ascending number. -/
def State.startFacets (s : State) : State :=
  (s.facet.facets.map (·.1)).foldl (fun s f =>
    let x := s.fct f
    if x.wait && s.mayStart f then
      let x' := { x with wait := false }
      s.setFct f { x' with st := s.restSt x' }
    else s) s

/-- The swap of the facets to plan `q` on the paths `now` names (R102); a path whose window must move keeps its old
facets until the move (R178). -/
def State.swapFacets (s : State) (q : Plan) (now : PathId → Bool) : State :=
  let new := (q.facets.filter (fun f => now f.path)).map (fun f => (f.facet, q.alloc f))
  let newOf := fun (f : Nat) => (new.find? (fun e => e.1 == f)).map (·.2)
  let cur := s.facet.facets.filter (fun e => e.2.st != .unused && now e.2.alloc.path)
  -- facets mid-frame that the swap changes or removes, themselves or their ray, finish as OLD
  let olds := (cur.filter (fun e => e.2.st.mid &&
    (newOf e.1 != some e.2.alloc || (s.ray e.2.alloc.path e.2.alloc.ray).st == .held))).map (·.1)
  let s := olds.foldl (fun s f => s.setFct f { s.fct f with old := true, pending := newOf f }) s
  -- facets that are not mid-frame leave their old allocation
  let s := cur.foldl (fun s e => if e.2.st.mid then s else s.setFct e.1 {}) s
  -- the new placement leaves out the facets that finish
  let kept : Occ := (s.facet.facets.filter (fun e => !(now e.2.alloc.path) && e.2.place.isSome)).filterMap
    (fun e => e.2.place.map (fun pl => (pl.1, pl.2, e.2.alloc.load)))
  let l := placeAll s.engineOk kept (placeOrder (new.filter (fun e => !(olds.contains e.1))))
  let s := l.foldl (fun s e =>
    let x := s.fct e.1
    match e.2.2 with
    | some pl =>
      if x.st.mid then s.setFct e.1 { x with place := some pl }
      else s.setFct e.1 { alloc := e.2.1, place := some pl, wait := true, st := .idle }
    | none => ((s.endFacet e.1 Code.FACET_SHED .shed).setFct e.1 { alloc := e.2.1, st := .shed }).set1 FACET_IRQ_SHED) s
  s.startFacets.showPool

/-- The frame of an OLD facet has ended: it takes its new allocation, and facets that wait on its context or load
start (R102, R103). The boundary's placement left it out and R102 names no place for it: it takes the first one of R96 in the
capacity free at this moment, without moving another facet, and is SHED where there is none (DESIGN CHOICE, log entry 156). -/
def State.finishOld (s : State) (f : Nat) : State :=
  let x := s.fct f
  let s := match x.pending with
    | none => s.setFct f {}
    | some a =>
      let s := s.setFct f {}
      match s.occupied.fit s.engineOk a.load (List.range 64) with
      | some pl => s.setFct f { alloc := a, place := some pl, wait := true, st := .idle }
      | none => (s.setFct f { alloc := a, st := .shed }).set1 FACET_IRQ_SHED
  s.startFacets.showPool

end Sys2Proof.Machine
end

