-- ==== Sys2Proof/Machine/Acct.lean ====
section
/-! DEFINITION. Regulatory accounting in bins (R293, R295, R296, R298). -/

namespace Sys2Proof.Machine
open Sys2Proof

/-- Bin length of a channel record: ceil(W / 64) with W = 1,000,000 × DWELLWIN (R295). -/
def PlanChannel.binUs (c : PlanChannel) : Nat := ceilDiv (1000000 * c.dwellWin) 64

/-- Bin length of a sub-band record: W = 1,000 × PERIOD (R295). -/
def PlanSubband.binUs (b : PlanSubband) : Nat := ceilDiv (1000 * b.periodMs) 64

/-- The accounts a plan needs: each channel with a dwell limit and each sub-band (R295). -/
def Plan.accounts (q : Plan) : List AcctRec :=
  (q.channels.filter (fun c => c.dwellMs != 0)).map (fun c => ⟨c.path, false, c.chan, c.binUs, []⟩) ++
  q.subbands.map (fun b => ⟨b.path, true, b.subband, b.binUs, []⟩)

/-- Add a span of `len` µs from `t` to the bins it spans; `n` bounds the number of bins. -/
def addSpan (b : Nat) : Nat → List (Nat × Nat) → Nat → Nat → List (Nat × Nat)
  | 0, bins, _, _ => bins
  | n + 1, bins, t, len =>
    if len = 0 then bins
    else
      let k := t / b
      let part := min len ((k + 1) * b - t)
      addSpan b n (tblMod 0 bins k (· + part)) (t + part) (len - part)

/-- A charge of `len` µs from `t` in one account. -/
def AcctRec.charge (a : AcctRec) (t len : Nat) : AcctRec :=
  { a with bins := addSpan a.binUs (len / a.binUs + 2) a.bins t len }

/-- Take back a charge of `len` µs from `t`. -/
def subSpan (b : Nat) : Nat → List (Nat × Nat) → Nat → Nat → List (Nat × Nat)
  | 0, bins, _, _ => bins
  | n + 1, bins, t, len =>
    if len = 0 then bins
    else
      let k := t / b
      let part := min len ((k + 1) * b - t)
      subSpan b n (tblMod 0 bins k (· - part)) (t + part) (len - part)

def AcctRec.release (a : AcctRec) (t len : Nat) : AcctRec :=
  { a with bins := subSpan a.binUs (len / a.binUs + 2) a.bins t len }

/-- The account is one that a transmission on channel `c` charges: the channel's own or its sub-band's. -/
def AcctRec.of (a : AcctRec) (c : PlanChannel) : Bool :=
  a.path == c.path && (if a.sub then c.subband == some a.num else c.chan == a.num)

/-- Charge a transmission on channel `c` to its bins (R293, R295). -/
def State.chargeTx (s : State) (c : PlanChannel) (t len : Nat) : State :=
  { s with acct := s.acct.map (fun a => if a.of c then a.charge t len else a) }

/-- Release a charge (R293: a drop with TX_LATE or a refusal). -/
def State.releaseTx (s : State) (c : PlanChannel) (t len : Nat) : State :=
  { s with acct := s.acct.map (fun a => if a.of c then a.release t len else a) }

/-- The sum of bin `k` and the 64 before it (R296). -/
def AcctRec.sum65 (a : AcctRec) (k : Nat) : Nat :=
  (a.bins.filter (fun e => decide (e.1 ≤ k) && decide (k < e.1 + 65))).foldl (fun n e => n + e.2) 0

/-- Does the account stay within `limit` µs in every bin that a charge of `len` from `t` touches (R296)? -/
def AcctRec.within (a : AcctRec) (t len limit : Nat) : Bool :=
  let a' := a.charge t len
  (List.range ((t + (len - 1)) / a.binUs - t / a.binUs + 1)).all
    (fun i => decide (a'.sum65 (t / a.binUs + i) ≤ limit))

/-- Does a transmission keep the dwell limit of its channel (R296)? -/
def State.dwellOk (s : State) (c : PlanChannel) (t len : Nat) : Bool :=
  c.dwellMs == 0 || (s.acct.filter (fun a => !a.sub && a.of c)).all (fun a => a.within t len (1000 * c.dwellMs))

/-- Does it keep the duty limit of the channel's sub-band: DUTY × 10^−4 × 1,000 × PERIOD µs (R296)? -/
def State.dutyOk (s : State) (c : PlanChannel) (t len : Nat) : Bool :=
  match s.activePlan, c.subband with
  | some q, some n =>
    match q.subband c.path n with
    | some b => (s.acct.filter (fun a => a.sub && a.of c)).all (fun a => a.within t len (b.duty * b.periodMs / 10))
    | none => true
  | _, _ => true

/-- Span of an account's record in a plan. -/
def Plan.acctSpan (q : Plan) (a : AcctRec) : Option (Nat × Nat) :=
  if a.sub then (q.subband a.path a.num).map (fun b => (b.lo, b.hi))
  else (q.channels.find? (fun c => c.path == a.path && c.chan == a.num)).map (fun c => (c.lo, c.hi))

/-- Carry the accounts over a swap (R298): a new record takes the bins of every old record of its kind and path whose
span overlaps its own; bin by bin where the bin lengths agree, else the whole sum into the current bin. -/
def carryAcct (old : Plan) (olds : List AcctRec) (new : Plan) (t : Nat) : List AcctRec :=
  new.accounts.map (fun a =>
    match new.acctSpan a with
    | none => a
    | some (lo, hi) =>
      olds.foldl (fun a o =>
        match old.acctSpan o with
        | none => a
        | some (lo', hi') =>
          if o.path == a.path && o.sub == a.sub && decide (lo' < hi) && decide (lo < hi') then
            if o.binUs == a.binUs then
              { a with bins := o.bins.foldl (fun b e => tblMod 0 b e.1 (· + e.2)) a.bins }
            else
              { a with bins := tblMod 0 a.bins (t / a.binUs) (· + o.bins.foldl (fun n e => n + e.2) 0) }
          else a) a)

end Sys2Proof.Machine
end

