-- ==== Sys2Proof/Machine/RfOps.lean ====
section
/-! DEFINITION. The moves of a path between its states (R34–R43, R586), the end of a transmission and the pins of the
external front end (R57). -/

namespace Sys2Proof.Machine
open Sys2Proof

/-- The facets of a path freeze for cause `c`, or stay frozen for another (R45, R63, R72): RFx_BLINDUS runs meanwhile. -/
def State.freeze (s : State) (p : PathId) (c : SampleFlag) : State :=
  let s := s.openMark p c
  match (s.rf p).frozenAt with
  | none => (s.modRf p (fun x => { x with frozenAt := some s.clk.now })).set1 (RFx_STATE_FROZEN p)
  | some _ => s

/-- The facets of a path live again. -/
def State.unfreeze (s : State) (p : PathId) : State :=
  let s := s.closeMark p
  match (s.rf p).frozenAt with
  | some t =>
    (s.modRf p (fun x => { x with frozenAt := none, blindCyc := x.blindCyc + (s.clk.now - t) })).clr (RFx_STATE_FROZEN p)
  | none => s

/-- RFx_BLINDUS: every frozen microsecond, wrapping at 2^32 (R45, R62). -/
def State.blindUs (s : State) (p : PathId) : Nat :=
  let x := s.rf p
  let open_ := match x.frozenAt with
    | some t => s.clk.now - t
    | none => 0
  (x.blindCyc + open_) / 200 % 2 ^ 32

/-- The path enters state `st`, which lasts `dur` cycles. -/
def State.enter (s : State) (p : PathId) (st : PathSt) (dur : Nat) : State :=
  (s.modRf p (fun x => { x with since := s.clk.now, due := s.clk.now + dur })).setFld (RFx_STATE_STATE p) st.num

/-- A frame or test command ends with a status (R40, R62): RFx_TXSTAT.LAST, the interrupt for it, and for a frame of
the sequencer the note to its sender. -/
def State.endTx (s : State) (p : PathId) (c : TxCmd) (code : Nat) : State :=
  let s := s.setFld (RFx_TXSTAT_LAST p) code
  let s := if code = Code.TX_LATE then (s.set1 (RFx_IRQ_TXLATE p)).inc (RFx_TXSTAT_TXLATE_CNT p)
    else if code = Code.OK then s.set1 (RFx_IRQ_TXDONE p)
    else s.set1 (RFx_IRQ_TXFAIL p)
  if c.owner = 0 then s else { s with txEnds := s.txEnds ++ [(c.owner, code, c.started)] }

/-- Every held command ends with PATH_UNUSABLE (R35, R586). -/
def State.endHeld (s : State) (p : PathId) : State :=
  let l := (s.rf p).held
  l.foldl (fun s c => s.endTx p c Code.PATH_UNUSABLE) (s.modRf p (fun x => { x with held := [], gap := false }))

/-- The move of a path's rays and facets to the new plan when its window had to move (R178): frames mid-frame are lost
with CAL_FROZEN, no ray becomes HELD, and the new rays start under R74. -/
def State.movePlan (s : State) (p : PathId) : State :=
  let due := match p with
    | .s => s.plan.moveS
    | .g => s.plan.moveG
  if due then
    let s := { s with plan := { s.plan with moveS := s.plan.moveS && p != PathId.s, moveG := s.plan.moveG && p != PathId.g } }
    let s := (s.facetsOf p).foldl (fun s f => s.endFacet f Code.CAL_FROZEN .idle) s
    match s.activePlan with
    | none => s
    | some q => (s.swapRays q p).swapFacets q (fun x => x == p)
  else s

/-- A tuner search ends: a write of RFx_TUNTX that it held is applied (R56). -/
def State.applyTun (s : State) (p : PathId) : State :=
  match (s.rf p).tunHeld with
  | some v => (s.wr (RFx_TUNTX p) v).modRf p (fun x => { x with tunHeld := none })
  | none => s

/-- The path goes down, to OFF or FAULT: a waiting move is recorded in WIN, held commands end, a search ends, its rays are
PARKED, its facets idle, and a move to a new plan that waited for the window move is made (R19, R35, R56, R78, R178). -/
def State.goDown (s : State) (p : PathId) (st : PathSt) : State :=
  let s := match (s.rf p).winPend with
    | some w => s.setFld (RFx_STATE_WIN p) w
    | none => s
  let s := (((s.endHeld p).applyTun p).unfreeze p).enter p st 0
  let s := s.modRf p (fun x => { x with winPend := none, pendOff := false, unfreezeAt := none, tuneUntil := none,
                                        loupe := { x.loupe with mask := none } })
  (s.raysToPark p).movePlan p

/-- OFF: the LO reads 0 (R62). -/
def State.goOff (s : State) (p : PathId) : State := (s.goDown p .off).clr (RFx_WIN_LOKHZ p)

/-- FAULT (R29, R35). -/
def State.goFault (s : State) (p : PathId) : State := (s.goDown p .fault).set1 (RFx_IRQ_FAULT p)

/-- LO of a window in kHz: 20 MHz below or above its centre (R20). -/
def loKHz (centre : Nat) (ifside : Bool) : Nat := if ifside then centre + 20000 else centre - 20000

/-- The path runs on window `w` of the active plan from now on. -/
def State.onWindow (s : State) (p : PathId) (w : Nat) : State :=
  let s := s.setFld (RFx_STATE_WIN p) w
  match s.activePlan with
  | none => s
  | some q =>
    match q.window p w with
    | none => s
    | some r =>
      let s := s.modRf p (fun x => { x with centreKHz := r.centreKHz, ifside := r.ifside })
      (s.setFld (RFx_WIN_LOKHZ p) (loKHz r.centreKHz r.ifside)).setBool (RFx_WIN_IFSIDE p) r.ifside

/-- A due calibration (R27, R32). -/
def State.setSynDue (s : State) (p : PathId) : State :=
  (s.modRf p (fun x => { x with synDueAt := some (x.synDueAt.getD s.clk.now) })).set1 (RFx_STATE_SYNDUE p)

def State.setIrcDue (s : State) (p : PathId) : State :=
  (s.modRf p (fun x => { x with ircDueAt := some (x.ircDueAt.getD s.clk.now) })).set1 (RFx_STATE_IRCDUE p)

/-- A start with RFx_IQCORR.VALID = 0 is a cold start, which makes IRCAL due (R32, R38). -/
def State.coldDue (s : State) (p : PathId) : State := if s.flag (RFx_IQCORR_VALID p) then s else s.setIrcDue p

/-- A path start: OFF to STARTUP on the window WIN names (R19, R35); it waits for SYSPLL (R410). A wake learns from its
calibration record whether it is a cold start (R37). -/
def State.startPath (s : State) (p : PathId) (waking : Bool) : State :=
  if s.pst p = .off && s.clk.pll then
    let s := (s.onWindow p (s.win p)).enter p .startup (us 25)
    let s := (s.modRf p (fun x => { x with waking := waking, lockFails := 0 })).freeze p .frozenCal
    if waking then s else s.coldDue p
  else s

/-- SYNCAL, 150 µs; the facets are frozen (R26, R34). -/
def State.toSyncal (s : State) (p : PathId) : State :=
  ((s.enter p .syncal (us 150)).modRf p (fun x => { x with unfreezeAt := none })).freeze p .frozenCal

/-- IRCAL, 120 µs (R30). -/
def State.toIrcal (s : State) (p : PathId) : State :=
  ((s.enter p .ircal (us 120)).modRf p (fun x => { x with unfreezeAt := none })).freeze p .frozenCal

/-- RX: PARKED rays of the window become LIVE, and the facets unfreeze, `late` cycles later after TXRX or TUNE
(R35, R36, R78). -/
def State.toRx (s : State) (p : PathId) (late : Nat) : State :=
  let s := (s.enter p .rx 0).raysToLive p
  if late = 0 then (s.modRf p (fun x => { x with unfreezeAt := none })).unfreeze p
  else s.modRf p (fun x => { x with unfreezeAt := some (s.clk.now + late) })

/-- Entry `n` of a plan's power table for a path: 0 where the plan has none. -/
def Plan.powerWord (q : Plan) (p : PathId) (n : Nat) : Nat :=
  ((q.power.find? (fun e => e.path == p && e.index == n)).map (·.entry)).getD 0

/-- Power-table registers of a path from a plan: all 80 entries (R46). -/
def State.loadPower (s : State) (q : Plan) (p : PathId) : State :=
  (List.range 80).foldl (fun s n => s.wr (RFx_PTABn p n) (BitVec.ofNat 32 (q.powerWord p n))) s

/-- Tuner codes of a path from a plan (R50). -/
def State.loadTuner (s : State) (q : Plan) (p : PathId) : State :=
  match q.tuner p with
  | none => s
  | some t => (((s.setFld (RFx_TUNTX_SER p) t.txser).setFld (RFx_TUNTX_SHN p) t.txshn).setFld (RFx_TUNRX_SER p)
      t.rxser).setFld (RFx_TUNRX_SHN p) t.rxshn

/-- A window move is taken in RX (R25, R43, R74): SETTLE for 40 µs, or SYNCAL where SYNDUE is set, which also serves a
SYNCREQ that waits (R27). -/
def State.takeMove (s : State) (p : PathId) (w : Nat) : State :=
  let s := (s.modRf p (fun x => { x with winPend := none, unfreezeAt := none })).onWindow p w
  let s := (s.movePlan p).raysMove p w
  if s.flag (RFx_STATE_SYNDUE p) then (s.modRf p (fun x => { x with syncReq := false })).toSyncal p
  else (s.enter p .settle (us 40)).freeze p .frozenCal

/-- A request for a window move (R19, R43): taken at once in RX, recorded in WIN in OFF or FAULT, waiting elsewhere. -/
def State.requestMove (s : State) (p : PathId) (w : Nat) : State :=
  match s.pst p with
  | .rx => s.takeMove p w
  | .off | .fault => s.setFld (RFx_STATE_WIN p) w
  | _ => s.modRf p (fun x => { x with winPend := some w })

/-- While a member of a Mirror pair is not ACTIVE it refuses every transmission (R552). -/
def State.pairBlocks (s : State) : Bool := s.flag MIRROR_CTRL_EN && decide (s.fld MIRROR_STAT_ROLE ≠ 3)

/-- The refusals of R40 and R175 in their order, for a command on arrival; `Code.OK` where it is accepted. -/
def State.txRefusal (s : State) (p : PathId) (c : TxCmd) : Nat :=
  let x := s.rf p
  let fw : Int := 1000 * (x.centreKHz : Int)
  let b := occBand c.kind (fw + c.fofs)
  if s.pairBlocks then Code.PAIR_STANDBY
  else if s.pst p = .off || s.pst p = .fault || x.pendOff then Code.PATH_UNUSABLE
  else if !(decide (fw - windowHalf p ≤ b.1) && decide (b.2 ≤ fw + windowHalf p)) then Code.TX_WINDOW
  else if 2 ≤ x.held.length then Code.TX_BUSY
  else if (s.channelOf p b).isNone then Code.NO_CHANNEL
  else Code.OK

/-- A command arrives at the path: held, or refused with its status in LAST (R40). -/
def State.submitTx (s : State) (p : PathId) (c : TxCmd) : State :=
  let r := s.txRefusal p c
  if r = Code.OK then s.modRf p (fun x => { x with held := x.held ++ [c] })
  else s.endTx p c r

/-- The channel a held command lies in. -/
def State.cmdChannel (s : State) (p : PathId) (c : TxCmd) : Option PlanChannel :=
  s.channelOf p (occBand c.kind (1000 * ((s.rf p).centreKHz : Int) + c.fofs))

/-- The entry a command goes out on, and whether it was clamped (R49, R52). -/
def State.cmdEntry (s : State) (p : PathId) (c : TxCmd) : Nat × Bool :=
  s.txEntry p c.pidx (((s.cmdChannel p c).map (·.capidx)).getD 79)

/-- Is a held command that now starts refused by the plan or the window in force (R179): R40's TX_WINDOW, then R175's
NO_CHANNEL? `Code.OK` where neither applies. -/
def State.startRefusal (s : State) (p : PathId) (c : TxCmd) : Nat :=
  let fw : Int := 1000 * ((s.rf p).centreKHz : Int)
  let b := occBand c.kind (fw + c.fofs)
  if !(decide (fw - windowHalf p ≤ b.1) && decide (b.2 ≤ fw + windowHalf p)) then Code.TX_WINDOW
  else if (s.channelOf p b).isNone then Code.NO_CHANNEL
  else Code.OK

/-- The band of a path in hertz (R19). -/
def bandOf : PathId → Nat × Nat
  | .s => (863000000, 930000000)
  | .g => (2400000000, 2483500000)

/-- The quarter of the band in which a carrier lies (R48). -/
def bandQuarter (p : PathId) (fc : Int) : Nat :=
  let b := bandOf p
  min 3 ((fc - b.1).toNat * 4 / (b.2 - b.1))

/-- The factory trim of a path for a carrier, in 0.125 dB (R48): a signed byte of OTP from offset 0x48. -/
def State.rfTrim (s : State) (p : PathId) (fc : Int) : Int :=
  let o := 4 * pathNum p + bandQuarter p fc
  signedOf 8 ((s.otpWord (18 + o / 4)).toNat / 256 ^ (o % 4) % 256)

/-- The path puts power entry `e` on the air at carrier `fc` (R46, R48): its word, its DGAIN and the trim added to it. -/
def State.putOnAir (s : State) (p : PathId) (e : Nat) (fc : Int) : State :=
  let w := s.ptab p e
  s.modRf p (fun x => { x with entry := e, airWord := w, dgain := bitsOf w 11 0, trim := s.rfTrim p fc, halved := false })

/-- The first command of a path starts with first chip at sequencer microsecond `first` (R48, R49): its entry, its mask and its
gain are fixed, and stay under a plan swap (R179). -/
def State.bindTx (s : State) (p : PathId) (first : Int) : State :=
  match (s.rf p).held with
  | [] => s
  | c :: t =>
    let e := s.cmdEntry p c
    let mask := c.mask.bind (fun m => s.activePlan.bind (fun q => q.mask m))
    let s := s.putOnAir p e.1 (1000 * ((s.rf p).centreKHz : Int) + c.fofs)
    s.modRf p (fun x => { x with held := { c with started := true, first := first, word := x.airWord, clamped := e.2 } :: t,
                                 airMask := mask })

/-! ### The tuner probe (R53, R55) -/

/-- The carrier of a path's tuner probe in hertz (R53, R162). -/
def State.probeCarrier (s : State) (p : PathId) : Int :=
  1000 * ((s.rf p).centreKHz : Int) + 1000 * ((s.activePlan.bind (·.tuner p)).map (·.probeKHz)).getD 0

/-- The entry of a tuner probe: the lowest valid one with NOMPWR ≥ 0 (R53), clamped to the cap of its channel (R2, R49). -/
def State.probeEntry (s : State) (p : PathId) : Nat :=
  let e := ((List.range 80).find? (fun n => entryValid (s.ptab p n) && decide (0 ≤ entryNom (s.ptab p n)))).getD 0
  let cap := ((s.channelOf p (occBand .cw (s.probeCarrier p))).map (·.capidx)).getD 79
  if cap < e then (highestBelow (fun n => entryValid (s.ptab p n)) (cap + 1)).getD 0 else e

/-- Is a tuner search due: TUNEDUE, and not three failures in a row (R55)? -/
def State.searchDue (s : State) (p : PathId) : Bool := s.flag (RFx_STATE_TUNEDUE p) && decide (s.fld (RFx_TUNSTAT_SRCHFAIL p) < 3)

/-! ### Loupe (R88, R89) -/

/-- Cycles of one FFT of Loupe by LDEC code (R88). -/
def fftCycles : Nat → Nat
  | 0 => 1280
  | 1 => 5120
  | _ => 20480

/-- Loupe's account of a checked frame (R89): the third consecutive checked frame that fails on one mask is a failed check. The
streak then starts again at 0, so that three more report again (DESIGN CHOICE, log entry 151: the rule does not say what a
fourth does). -/
def State.loupeVerdict (s : State) (p : PathId) (m : Nat) (failed : Bool) : State :=
  let l := (s.rf p).loupe
  let n := if failed then (if l.streakMask = m then l.streak + 1 else 1) else 0
  let s := s.modRf p (fun x => { x with loupe := { x.loupe with streakMask := m, streak := if n ≥ 3 then 0 else n } })
  if n ≥ 3 then s.bistReport (loupeItem p) 0 else s

/-- Loupe at the end of a frame, whole or cut (R88, R89): one in which no FFT completed is not checked. -/
def State.loupeEnd (s : State) (p : PathId) : State :=
  let l := (s.rf p).loupe
  match l.mask with
  | none => s
  | some m =>
    let cnt := match p with
      | .s => PRISM_LOUPES_NOVERD
      | .g => PRISM_LOUPEG_NOVERD
    let s := s.modRf p (fun x => { x with loupe := { x.loupe with mask := none } })
    if s.clk.now < l.startAt + us 8 + fftCycles m.ldec then s.inc cnt else s.loupeVerdict p m.maskid l.failed

/-- The power amplifier goes down and the frame in the air ends with `code`; the path enters TXRX as after a last chip
(R89). -/
def State.cutTx (s : State) (p : PathId) (code : Nat) : State :=
  match (s.rf p).held with
  | [] => s
  | c :: t =>
    let s := if s.pst p = .tx && !(s.rf p).gap then s.loupeEnd p else s
    let s := (s.modRf p (fun x => { x with held := t, gap := false, lastEndUs := s.sqt })).endTx p c code
    s.enter p .txrx (us 8)

/-- FEM pattern of an entry by its FEMSEL (R57). -/
def State.femTx (s : State) (p : PathId) (sel : Bool) : Nat := if sel then s.fld (RFx_FEMMAP_TXB p) else s.fld (RFx_FEMMAP_TXA p)

/-- The pattern on the FEM pins of a path (R57, R58): 0 until firmware has written RFx_FEMMAP. In TUNE the probe's first chip is
12 µs after entry and its last at 364 µs (R53). R57 names no pattern for RXTX and TUNE earlier than LEAD before the first chip,
where this gives the RX pattern that the path comes from, nor for a back-to-back gap from 2 µs after the last chip on, where this
gives the next frame's TX pattern (DESIGN CHOICE, log entry 150). -/
def State.femPins (s : State) (p : PathId) : Nat :=
  let x := s.rf p
  let tx := s.femTx p (bitAt x.airWord 20)
  let rx := s.fld (RFx_FEMMAP_RX p)
  let lead := us (s.fld (RFx_FEMMAP_LEAD p))
  if !x.femWritten then 0
  else match s.pst p with
    | .off | .startup | .syncal | .fault => s.fld (RFx_FEMMAP_OFF p)
    | .rx | .settle | .ircal => rx
    | .rxtx => if x.due ≤ s.clk.now + lead then tx else rx
    | .tx => if x.gap && decide (s.clk.now < x.since + us 2) then s.femTx p x.gapSel else tx
    | .tune => if x.since + us 12 ≤ s.clk.now + lead && decide (s.clk.now < x.since + us 366) then tx else rx
    | .txrx => if s.clk.now < x.since + us 2 then tx else rx

/-- A gain step of a path (R24): for 1 µs the samples of its trunk are flagged ERASED. -/
def State.gainStep (s : State) (p : PathId) (g : Nat) : State :=
  (s.addMark p ⟨.erased, s.clk.now, s.clk.now + us 1⟩).setFld (RFx_STATE_GAIN p) g

end Sys2Proof.Machine
end

