-- ==== Sys2Proof/Machine/BistRun.lean ====
section
/-! DEFINITION. How self-test starts a check (R505, R506, R509) and marks or reintegrates a resource (R510). -/

namespace Sys2Proof.Machine
open Sys2Proof

/-- Duration of an item's check in microseconds (R505). -/
def bistUs (i : Nat) : Nat :=
  if i < 2 then 120 else if i < 4 then 40 else if i < 12 then 50 else if i < 76 then 100 else 20

/-- The path of a PATH, LOUPE or RAYENG item. -/
def bistPath (i : Nat) : PathId := if i < 4 then pathOf (i % 2) else if i < 8 then .s else .g

/-- Is a PATH or LOUPE resource idle (R505): the path in RX, no window move waiting (R43), and no facet of it mid-frame? -/
def State.pathIdle (s : State) (p : PathId) : Bool :=
  s.pst p == .rx && (s.rf p).winPend.isNone && !((s.facetsOf p).any (fun f => (s.fct f).st.mid))

/-- Is the item's resource idle in a slice on path `p` (R505, R506)? -/
def State.bistIdle (s : State) (p : PathId) (i : Nat) : Bool :=
  if i < 4 then bistPath i == p && s.pathIdle p
  else if i < 12 then
    decide (s.usedWeight (bistPath i) + 512 ≤ s.rayBudget (bistPath i))
  else if i < 76 then s.engineOk (i - 12) && (Occ.ctxOn s.occupied (i - 12) 20).isSome
  else s.clk.pll

/-- Start a check (R505): a PATH check sets IRCDUE and takes the path to IRCAL, a LOUPE check freezes its facets, a
FACENG check borrows the lowest free context of its engine. -/
def State.bistStart (s : State) (i : Nat) (why : BistWhy) : State :=
  let c : BistCheck := ⟨i, why, s.clk.now + us (bistUs i), ((Occ.ctxOn s.occupied (i - 12) 20).getD 0)⟩
  let s := (({ s with bist := { s.bist with check := some c } } : State).set1 BIST_STAT_SLICE).setFld BIST_STAT_ITEM i
  if s.pst (bistPath i) = .fault then s
  else if i < 2 then (s.setIrcDue (bistPath i)).toIrcal (bistPath i)
  else if i < 4 then s.freeze (bistPath i) .frozenCal
  else s

/-- Are both items of a path usable: neither is UNUSABLE, and no PATH rerun is pending (R509, R510)? -/
def State.pathItemsOk (s : State) (p : PathId) : Bool :=
  (s.bistItem (pathItem p)).st != .unusable && (s.bistItem (pathItem p)).st != .rerun &&
    (s.bistItem (loupeItem p)).st != .unusable

/-- The resource of an item is marked unusable (R510). -/
def State.bistMark (s : State) (i : Nat) : State :=
  if i < 4 then (s.goFault (bistPath i)).set1 (RFx_STATE_UNUSABLE (bistPath i))
  else if i < 12 then s.rayEngineLost (bistPath i) (i % 4)
  else s.engineLost (i - 12)

/-- The resource of an item returns (R510). -/
def State.bistBack (s : State) (i : Nat) : State :=
  if i < 4 then
    if s.pathItemsOk (bistPath i) && s.pst (bistPath i) == .fault then
      (s.goOff (bistPath i)).clr (RFx_STATE_UNUSABLE (bistPath i))
    else s
  else if i < 12 then s.rayEngineBack (bistPath i) (i % 4)
  else s.engineBack (i - 12)

/-- The items whose rerun is pending, lowest first. -/
def State.bistReruns (s : State) : List Nat := (List.range 77).filter (fun i => (s.bistItem i).st == .rerun)

/-- A PATH rerun that is pending on a path in RX takes a CALWIN on its path (R509). -/
def State.calRerun (s : State) (p : PathId) (durUs : Nat) : Bool :=
  (s.bistItem (pathItem p)).st == .rerun && s.pathIdle p && s.bist.check.isNone && decide (120 ≤ durUs)

end Sys2Proof.Machine
end

