-- ==== Sys2Proof/Machine/Bist.lean ====
section
/-! DEFINITION. The meanings of the self-test commands (chapter 17). -/

namespace Sys2Proof.Machine
open Sys2Proof

/-! ### Cycles (R508) -/

/-- A cycle starts at edge `k`: every item that is not UNUSABLE and has no rerun pending becomes DUE. -/
def State.bistCycle (s : State) (k : Nat) : State :=
  let s := (List.range 77).foldl (fun (s : State) i =>
    match (s.bistItem i).st with
    | .unusable | .rerun => s
    | _ => s.setBistItem i { s.bistItem i with st := .due }) s
  { s with bist := { s.bist with running := true, cycleAt := k,
                                 cycleLen := 32768 * s.fld BIST_CFG_CYCLE } }

/-- BIST_CNTCLR (R522). -/
def State.bistCntclr (s : State) : State :=
  (List.range 77).foldl (fun (s : State) i => s.setBistItem i { s.bistItem i with transients := 0 }) (s.wr BIST_CNT 0)

def execBistCntclr (r : Requester) (s : State) : Res :=
  .next (if r == .core .kc then s.bistCntclr else s.discard baseBIST)

/-- A write of BIST_CTRL by `r` (R508, R522). -/
def State.bistCtrlWrite (s : State) (r : Requester) (v : Word) : State :=
  if r != .core .kc then s.discard baseBIST
  else
    let s := if bitAt v.toNat 1 then s.bistCntclr else s
    let en := bitAt v.toNat 0
    let old := s.flag BIST_CTRL_EN
    let s := s.setBool BIST_CTRL_EN en
    if en && !old then s.bistCycle s.clk.slowcnt
    else if !en then { s with bist := { s.bist with running := false } }
    else s

/-- BIST_CTRL_WRITE (R508). -/
def execBistCtrlWrite (r : Requester) (v : Word) (s : State) : Res := .next (s.bistCtrlWrite r v)

/-- BIST_CYCLE_START (R508): the next cycle starts at the edge at which the last has ended. -/
def execBistCycleStart (s : State) : Res :=
  if s.flag BIST_CTRL_EN && !s.bist.running then .next (s.bistCycle s.bist.cycleAt) else .next s

/-- BIST_CYCLE_END (R508): items still DUE become NOT_RUN, and the cycle is logged. -/
def execBistCycleEnd (s : State) : Res :=
  if s.flag BIST_CTRL_EN && s.bist.running && s.clk.slowOn then
    let left := (s.bist.cycleAt + s.bist.cycleLen + 2 ^ 48 - s.clk.slowcnt) % 2 ^ 48
    let s := if left < 2 ^ 47 then s.advanceEdges left else s
    let due := s.bistDue
    let passed := ((List.range 77).filter (fun i => (s.bistItem i).st == .pass)).length
    let s := due.foldl (fun (s : State) i =>
      s.setBistItem i { s.bistItem i with st := .notRun, last := Code.NOT_RUN_BUSY }) s
    let s : State := { s with bist := { s.bist with running := false, cycleAt := (s.bist.cycleAt + s.bist.cycleLen) % 2 ^ 48 } }
    .next ((s.set1 BIST_IRQ_CYCLEDONE).logPut 14 Code.CYCLE_DONE passed due.length)
  else .next s

/-! ### Slices (R506, R509) -/

/-- The check to start next in a slice on path `p` with `left` µs: a pending rerun, the request, a DUE item (R506). -/
def State.bistNext (s : State) (p : PathId) (left : Nat) : Option (Nat × BistWhy) :=
  let ok := fun (i : Nat) => s.bistIdle p i && decide (bistUs i ≤ left)
  match s.bistReruns.find? ok with
  | some i => some (i, .rerun)
  | none =>
    match s.bist.req.filter (fun q => ok q.1 && decide (s.clk.now ≤ q.2)) with
    | some q => some (q.1, .request)
    | none =>
      (s.bistDue.find? ok).map (fun i => (i, .cycle))

/-- A PATH rerun pending on a path in FAULT that is not marked (R509): it needs no slice. -/
def State.faultRerun (s : State) : Option Nat :=
  [0, 1].find? (fun i => (s.bistItem i).st == .rerun && s.pst (bistPath i) == .fault)

/-- The slice ends; a reintegration may go on. -/
def State.sliceEnd (s : State) : State :=
  ({ s with bist := { s.bist with slice := none } } : State).setBool BIST_STAT_SLICE s.bist.reint.isSome

/-- BIST_SLICE (R506, R509): self-test starts its next check; a slice in which nothing more can start ends. -/
def execBistSlice (s : State) : Res :=
  if s.bist.check.isSome then .next s
  else match s.faultRerun with
    | some i => .next (s.bistStart i .rerun)
    | none =>
      match s.bist.slice with
      | none => .next s
      | some w =>
        if w.endAt ≤ s.clk.now then .next s.sliceEnd
        else match s.bistNext w.path ((w.endAt - s.clk.now) / 200) with
          | some (i, why) =>
            let s := if w.used then s else s.inc BIST_CNT_SLICES
            let s : State := { s with bist := { s.bist with slice := some { w with used := true } } }
            .next (s.bistStart i why)
          | none =>
            let s := s.advanceTo w.endAt
            .next s.sliceEnd

/-- A request ends (R513). -/
def State.reqEnd (s : State) (status : Nat) : State :=
  let s : State := { s with bist := { s.bist with req := none } }
  ((s.setFld BIST_REQRES_STATUS status).clr BIST_REQRES_BUSY).set1 BIST_IRQ_REQDONE

/-- An item passes. -/
def State.itemPass (s : State) (i : Nat) : State :=
  let s := s.setBistItem i { s.bistItem i with st := .pass, last := Code.OK }
  if i = 76 then s.clr BIST_STAT_REFBAD else s

/-- A check passes (R509, R513). -/
def State.checkPass (s : State) (c : BistCheck) (detail : Nat) : State :=
  let s := s.itemPass c.item
  match c.why with
  | .request => s.reqEnd Code.OK
  | .rerun =>
    let x := s.bistItem c.item
    let s := (s.setBistItem c.item { x with transients := min 255 (x.transients + 1) }).set1 BIST_IRQ_TRANSIENT
    let s := s.logPut 14 Code.BIST_TRANSIENT detail c.item
    if c.item < 4 then s.bistBack c.item else s
  | _ => s

/-- A check fails (R509, R510, R513). -/
def State.checkFail (s : State) (c : BistCheck) (detail : Nat) : State :=
  match c.why with
  | .rerun =>
    if c.item = 76 then
      let s := s.setBistItem 76 { s.bistItem 76 with st := .due, last := Code.BIST_REFBAD }
      ((s.set1 BIST_STAT_REFBAD).set1 BIST_IRQ_REFBAD).logPut 14 Code.BIST_REFBAD detail 76
    else
      let s := (s.setBistItem c.item { s.bistItem c.item with st := .unusable, last := Code.BIST_UNUSABLE }).bistMark c.item
      (s.set1 BIST_IRQ_UNUSABLE).logPut 14 Code.BIST_UNUSABLE detail c.item
  | .request => (s.bistFail c.item detail).reqEnd Code.BIST_FAIL
  | _ => s.bistFail c.item detail

/-- A slice or reintegration check is over: SLICE and ITEM follow, and a LOUPE check lets the facets live. -/
def State.checkOver (s : State) (i : Nat) : State :=
  let s := if 2 ≤ i && i < 4 && s.pst (bistPath i) == .rx then s.unfreeze (bistPath i) else s
  s.setBool BIST_STAT_SLICE (s.bist.slice.isSome || s.bist.check.isSome || s.bist.reint.isSome)

/-- A check of a reintegration ends (R511). -/
def State.reintEnd (s : State) (c : BistCheck) (pass : Bool) (detail : Nat) : State :=
  if !pass then
    (({ s with bist := { s.bist with reint := none } } : State).reqEnd Code.BIST_UNUSABLE).checkOver c.item
  else match c.why with
    | .reint1 =>
      { s with bist := { s.bist with reint := some { c with why := .reint2, endAt := s.clk.now + us (bistUs c.item) } } }
    | _ =>
      let s := ((({ s with bist := { s.bist with reint := none } } : State).itemPass c.item).bistBack c.item)
      let s := (s.reqEnd Code.BIST_REINT).set1 BIST_IRQ_REINT
      (s.logPut 14 Code.BIST_REINT detail c.item).checkOver c.item

/-- BIST_CHECK_END (R509, R510, R511, R513): the check in progress, or where `re` that of a reintegration, ends with its
outcome and the detail AUX takes. -/
def execBistCheckEnd (re pass : Bool) (detail : Nat) (s : State) : Res :=
  if re then
    match s.bist.reint with
    | none => .next s
    | some c => .next ((s.advanceTo c.endAt).reintEnd c pass (detail % 65536))
  else
    match s.bist.check with
    | none => .next s
    | some c =>
      let s := s.advanceTo c.endAt
      let s : State := { s with bist := { s.bist with check := none } }
      let s := if pass then s.checkPass c (detail % 65536) else s.checkFail c (detail % 65536)
      .next (s.checkOver c.item)

/-- RERUN_LATE (R509): the rerun of item `i` was not run within RRDL seconds. -/
def execRerunLate (i : Nat) (s : State) : Res :=
  let x := s.bistItem i
  if i < 77 && x.st == .rerun && !x.lateLogged then
    let s := s.advanceTo (x.since + 200000000 * s.fld BIST_CFG_RRDL)
    let s := s.setBistItem i { x with lateLogged := true }
    .next ((s.logPut 14 Code.NOT_RUN_BUSY 0 i).set1 BIST_IRQ_RERUNLATE)
  else .next s

/-! ### Requests (R511, R513) -/

/-- A write of BIST_REQ by `r` (R511, R513, R522). -/
def State.bistReqWrite (s : State) (r : Requester) (v : Word) : State :=
  let i := bitsOf v.toNat 6 0
  let re := bitAt v.toNat 8
  let dl := bitsOf v.toNat 31 16
  let unusable := (s.bistItem i).st == .unusable
  let bad := r != .core .kc || i > 76 || s.flag BIST_REQRES_BUSY || (re && (!unusable || i == 76)) ||
    (!re && (unusable || dl == 0))
  if bad then s.discard baseBIST
  else
    let s := ((s.set1 BIST_REQRES_BUSY).setFld BIST_REQRES_ITEM i).setFld BIST_REQRES_STATUS 0
    if re then
      let c : BistCheck := { item := i, why := .reint1, endAt := s.clk.now + us (bistUs i) }
      (({ s with bist := { s.bist with reint := some c } } : State).set1 BIST_STAT_SLICE).setFld BIST_STAT_ITEM i
    else { s with bist := { s.bist with req := some (i, s.clk.now + 200000 * dl) } }

/-- BIST_REQUEST (R513). -/
def execBistRequest (r : Requester) (item deadline : Nat) (s : State) : Res :=
  .next (s.bistReqWrite r (BitVec.ofNat 32 (deadline % 65536 * 65536 + item % 128)))

/-- BIST_REINT (R511). -/
def execBistReint (r : Requester) (item : Nat) (s : State) : Res :=
  .next (s.bistReqWrite r (BitVec.ofNat 32 (256 + item % 128)))

/-- REQUEST_DEADLINE (R513). -/
def execRequestDeadline (s : State) : Res :=
  match s.bist.req with
  | none => .next s
  | some q =>
    if s.bist.check.any (fun c => c.why == .request) then .next s
    else .next ((s.advanceTo q.2).reqEnd Code.NOT_RUN_BUSY)

/-- BIST_ITEM as a read shows it (R522). -/
def State.itemWord (s : State) : Word :=
  let x := s.bistItem (s.fld BIST_ITEMSEL_ITEM)
  let st := match x.st with
    | .due => 0
    | .pass => 1
    | .rerun => 2
    | .unusable => 3
    | .notRun => 4
  BitVec.ofNat 32 (min 255 x.transients * 2 ^ 24 + x.last * 2 ^ 16 + st)

/-- BIST_STAT as a read shows it (R522). -/
def State.bistStatWord (s : State) : Word :=
  let left := if s.bist.running then
      (s.bist.cycleAt + s.bist.cycleLen + 2 ^ 48 - s.clk.slowcnt) % 2 ^ 48 / 32768 else 0
  BitVec.ofNat 32 ((s.rd BIST_STAT).toNat / 2 ^ 30 * 2 ^ 30 + s.bistDue.length * 2 ^ 23 + s.fld BIST_STAT_ITEM * 2 ^ 16 +
    min left 65535)

/-- A write of BIST_CFG by `r` (R522). -/
def State.bistCfgWrite (s : State) (r : Requester) (v : Word) : State :=
  if r != .core .kc || bitsOf v.toNat 23 16 == 0 || bitsOf v.toNat 15 0 < 60 then s.discard baseBIST
  else s.plainWrite BIST_CFG v

end Sys2Proof.Machine
end

