-- ==== Sys2Proof/Machine/Fips.lean ====
section
/-! DEFINITION. The primitives the scope chapter names: the AES block cipher of FIPS 197 and the sponge functions of FIPS 202. -/

namespace Sys2Proof.Machine
open Sys2Proof

/-! ### AES (FIPS 197) -/

/-- Entry `x` of a table of 256 bytes held as eight numbers of 32 bytes each, the first entry lowest. -/
def tabByte (t : List Nat) (x : Nat) : Nat := (t.getD (x / 32) 0 >>> (8 * (x % 32))) % 256

/-- The substitution of SUBBYTES. -/
def aesSbox (x : Nat) : Nat := tabByte
  [0xc072a49cafa2d4adf04759fa7dc982ca76abd7fe2b670130c56f6bf27b777c63,
   0x75b227ebe28012079a059618c323c7041531d871f1e5a534ccf73f362693fdb7,
   0xcf584c4a39becb6a5bb1fc20ed00d153842fe329b3d63b52a05a6e1b1a2c8309,
   0xd2f3ff1021dab6bcf5389d928f40a351a89f3c507f02f94585334d43fbaaefd0,
   0xdb0b5ede14b8ee4688902a22dc4f816073195d643d7ea7c41744975fec130ccd,
   0x08ae7a65eaf4566ca94ed58d6d37c8e779e4959162acd3c25c2406490a3a32e0,
   0x9e1dc186b95735610ef6034866b53e708a8bbd4b1f74dde8c6b4a61c2e2578ba,
   0x16bb54b00f2d99416842e6bf0d89a18cdf2855cee9871e9b948ed9691198f8e1] x

/-- Its inverse. -/
def aesSboxInv (x : Nat) : Nat := tabByte
  [0xcbe9dec444438e3487ff2f9b8239e37cfbd7f3819ea340bf38a53630d56a0952,
   0x25d18b6d49a25b76b224d92866a12e084ec3fa420b954cee3d23c2a632947b54,
   0x849d8da75746155edab9edfd5048706c92b6655dcc5ca4d41698688664f6f872,
   0x6b8a130103bdafc1020f3fca8f1e2cd00645b3b80558e4f70ad3bc8c00abd890,
   0x6edf751ce837f9e28535ade72274ac9673e6b4f0cecff297eadc674f4111913a,
   0xf45acd78fec0db9a2079d2c64b3e56fc1bbe18aa0e62b76f89c5291d711af147,
   0xef9cc9939f7ae52d0d4ab519a97f51605fec8027591012b131c7078833a8dd1f,
   0x7d0c2155631469e126d677ba7e042b17619953833cbbebc8b0f52aae4d3be0a0] x

/-- The product by x in the field of AES. -/
def xtime (a : Nat) : Nat := if a < 128 then 2 * a else (2 * a) ^^^ 0x11b

/-- The product by 1, 2, 3, 9, 11, 13 or 14: the bits of `k` choose the doublings. -/
def aesMul (k a : Nat) : Nat :=
  let a2 := xtime a
  let a4 := xtime a2
  (if k.testBit 0 then a else 0) ^^^ (if k.testBit 1 then a2 else 0) ^^^ (if k.testBit 2 then a4 else 0) ^^^
    (if k.testBit 3 then xtime a4 else 0)

/-- The columns of the state through a circulant matrix, `k` its first row. -/
def mixCols (k st : List Nat) : List Nat :=
  (List.range 16).map (fun i =>
    (List.range 4).foldl (fun v j => v ^^^ aesMul (k.getD j 0) (st.getD (4 * (i / 4) + (i + j) % 4) 0)) 0)

/-- Rows shifted: the byte at `i` comes from `m` columns further for each row. -/
def shiftRows (m : Nat) (st : List Nat) : List Nat :=
  (List.range 16).map (fun i => st.getD ((i + 4 * m * (i % 4)) % 16) 0)

/-- Bytewise exclusive or of two lists of numbers. -/
def xorNats (a b : List Nat) : List Nat := List.zipWith (· ^^^ ·) a b

/-- The next word of the key schedule: `n` words of key, `i` the word's number. -/
def aesWord (n i : Nat) (w : List (List Nat)) : List Nat :=
  let t := w.getD (i - 1) []
  let t := if i % n = 0 then
      xorNats ((t.drop 1 ++ t.take 1).map aesSbox) [(List.range (i / n - 1)).foldl (fun v _ => xtime v) 1, 0, 0, 0]
    else if 6 < n && i % n = 4 then t.map aesSbox else t
  xorNats (w.getD (i - n) []) t

/-- The words of a key. -/
def keyWordsOf : Nat → List Nat → List (List Nat)
  | 0, _ => []
  | n + 1, k => k.take 4 :: keyWordsOf n (k.drop 4)

/-- The round keys, the first for the whitening. -/
def aesKeys (key : List Byte) : List (List Nat) :=
  let n := key.length / 4
  let w := (List.range (4 * (n + 7) - n)).foldl (fun w j => w ++ [aesWord n (n + j) w]) (keyWordsOf n (key.map (·.toNat)))
  (List.range (n + 7)).map (fun r => ((w.drop (4 * r)).take 4).flatten)

/-- A state as a block of 16 bytes. -/
def blockOf (st : List Nat) : List Byte := (List.range 16).map (fun i => BitVec.ofNat 8 (st.getD i 0))

/-- The block cipher of FIPS 197, for a key of 16 or 32 bytes. -/
def aes (key block : List Byte) : List Byte :=
  let ks := aesKeys key
  let n := ks.length - 1
  let st := xorNats (block.map (·.toNat)) (ks.getD 0 [])
  let st := (List.range (n - 1)).foldl (fun st r =>
    xorNats (mixCols [2, 3, 1, 1] (shiftRows 1 (st.map aesSbox))) (ks.getD (r + 1) [])) st
  blockOf (xorNats (shiftRows 1 (st.map aesSbox)) (ks.getD n []))

/-- Its inverse cipher. -/
def aesInv (key block : List Byte) : List Byte :=
  let ks := aesKeys key
  let n := ks.length - 1
  let st := xorNats (block.map (·.toNat)) (ks.getD n [])
  let st := (List.range (n - 1)).foldl (fun st r =>
    mixCols [14, 11, 13, 9] (xorNats ((shiftRows 3 st).map aesSboxInv) (ks.getD (n - 1 - r) []))) st
  blockOf (xorNats ((shiftRows 3 st).map aesSboxInv) (ks.getD 0 []))

/-! ### The sponge functions (FIPS 202) -/

/-- A lane rotated left. -/
def rotl64 (x n : Nat) : Nat := ((x <<< n) ||| (x >>> (64 - n))) % 2 ^ 64

/-- The offsets of ρ, by x + 5y. -/
def rhoOffs : List Nat :=
  [0, 1, 62, 28, 27, 36, 44, 6, 55, 20, 3, 10, 43, 25, 39, 41, 45, 15, 21, 8, 18, 2, 61, 56, 14]

/-- The round constants of ι. -/
def iotaConsts : List Nat :=
  [0x1, 0x8082, 0x800000000000808a, 0x8000000080008000, 0x808b, 0x80000001, 0x8000000080008081, 0x8000000000008009, 0x8a,
   0x88, 0x80008009, 0x8000000a, 0x8000808b, 0x800000000000008b, 0x8000000000008089, 0x8000000000008003,
   0x8000000000008002, 0x8000000000000080, 0x800a, 0x800000008000000a, 0x8000000080008081, 0x8000000000008080, 0x80000001,
   0x8000000080008008]

/-- One round of KECCAK-f[1600] on 25 lanes, by x + 5y. -/
def keccakRound (a : List Nat) (rc : Nat) : List Nat :=
  let at_ := fun (l : List Nat) (x y : Nat) => l.getD (x % 5 + 5 * (y % 5)) 0
  let c := (List.range 5).map (fun x => at_ a x 0 ^^^ at_ a x 1 ^^^ at_ a x 2 ^^^ at_ a x 3 ^^^ at_ a x 4)
  let d := (List.range 5).map (fun x => c.getD ((x + 4) % 5) 0 ^^^ rotl64 (c.getD ((x + 1) % 5) 0) 1)
  let b := (List.range 25).map (fun j =>
    let x := (j % 5 + 3 * (j / 5)) % 5
    let i := x + 5 * (j % 5)
    rotl64 (a.getD i 0 ^^^ d.getD x 0) (rhoOffs.getD i 0))
  (List.range 25).map (fun j =>
    let v := b.getD j 0 ^^^ ((at_ b (j + 1) (j / 5) ^^^ (2 ^ 64 - 1)) &&& at_ b (j + 2) (j / 5))
    if j = 0 then v ^^^ rc else v)

/-- KECCAK-f[1600]. -/
def keccakF (a : List Nat) : List Nat := iotaConsts.foldl keccakRound a

/-- A block of the message goes into the state and the state is permuted. -/
def absorbBlock (a : List Nat) (blk : List Byte) : List Nat :=
  keccakF ((List.range 25).map (fun i => a.getD i 0 ^^^ leNat ((blk.drop (8 * i)).take 8)))

/-- Whole blocks of `rate` bytes are absorbed; `n` bounds their number. -/
def absorb (rate : Nat) : Nat → List Nat → List Byte → List Nat
  | 0, a, _ => a
  | n + 1, a, m => if m.isEmpty then a else absorb rate n (absorbBlock a (m.take rate)) (m.drop rate)

/-- Output of `n` blocks of `rate` bytes. -/
def squeeze (rate : Nat) : Nat → List Nat → List Byte
  | 0, _ => []
  | n + 1, a => (a.flatMap (leBytes 8)).take rate ++ squeeze rate n (keccakF a)

/-- The pad of SHAKE: 1111, 1, zeros, 1. -/
def shakePad (rate : Nat) (m : List Byte) : List Byte :=
  let n := rate - m.length % rate
  m ++ (if n = 1 then [0x9f] else [0x1f] ++ List.replicate (n - 2) 0 ++ [0x80])

/-- SHAKE with `rate` bytes: `n` bytes of output. -/
def shake (rate : Nat) (m : List Byte) (n : Nat) : List Byte :=
  let p := shakePad rate m
  let o := squeeze rate (n / rate + 1) (absorb rate (p.length / rate + 1) (List.replicate 25 0) p)
  (List.range n).map (fun i => o.getD i 0)

/-- SHAKE128: input and output length in bytes. -/
def shake128 (m : List Byte) (n : Nat) : List Byte := shake 168 m n

/-- SHAKE256: input and output length in bytes. -/
def shake256 (m : List Byte) (n : Nat) : List Byte := shake 136 m n

end Sys2Proof.Machine
end

