-- ==== Sys2Proof/Machine/Aes.lean ====
section
/-! DEFINITION. The modes of R447, R190, R191 and R229 over the block cipher of FIPS 197, as NIST SP 800-38A (CTR, CBC), 38B
(CMAC), 38C (CCM), 38D (GCM), 38E (XTS) and 38F (KW) give them. -/

namespace Sys2Proof.Machine
open Sys2Proof

/-- Bytewise exclusive or, as long as the shorter. -/
def xorBytes (a b : List Byte) : List Byte := List.zipWith (· ^^^ ·) a b

/-- `n` zero bytes. -/
def zeros (n : Nat) : List Byte := List.replicate n 0

/-- Big-endian value. -/
def beNat (l : List Byte) : Nat := l.foldl (fun n b => 256 * n + b.toNat) 0

/-- The `n` low bytes of `x`, most significant first. -/
def beBytes (n x : Nat) : List Byte := (leBytes n x).reverse

/-- Pad with zeros to a whole number of blocks. -/
def pad16 (l : List Byte) : List Byte := l ++ zeros ((16 - l.length % 16) % 16)

/-- Blocks of 16 bytes, the last perhaps shorter; `n` bounds their number. -/
def blocks16 : Nat → List Byte → List (List Byte)
  | 0, _ => []
  | n + 1, l => if l.isEmpty then [] else l.take 16 :: blocks16 n (l.drop 16)

def blocksOf (l : List Byte) : List (List Byte) := blocks16 (l.length / 16 + 1) l

/-- CTR: the whole counter block counts as a big-endian number modulo 2^128 (R447). -/
def ctrMode (key ctr data : List Byte) : List Byte :=
  ((blocksOf data).foldl (fun (a : Nat × List Byte) b =>
    ((a.1 + 1) % 2 ^ 128, a.2 ++ xorBytes b (aes key (beBytes 16 a.1)))) (beNat ctr, [])).2

def cbcEnc (key iv data : List Byte) : List Byte :=
  ((blocksOf data).foldl (fun (a : List Byte × List Byte) b =>
    let c := aes key (xorBytes b a.1)
    (c, a.2 ++ c)) (iv, [])).2

def cbcDec (key iv data : List Byte) : List Byte :=
  ((blocksOf data).foldl (fun (a : List Byte × List Byte) b =>
    (b, a.2 ++ xorBytes (aesInv key b) a.1)) (iv, [])).2

/-- The chain of CBC-MAC over whole blocks. -/
def cbcMac (key data : List Byte) : List Byte :=
  (blocksOf data).foldl (fun x b => aes key (xorBytes x b)) (zeros 16)

/-- Doubling in the field of CMAC. -/
def cmacDbl (x : Nat) : Nat := if x < 2 ^ 127 then 2 * x else (2 * x) % 2 ^ 128 ^^^ 0x87

/-- AES-CMAC (16 bytes). -/
def cmac (key msg : List Byte) : List Byte :=
  let k1 := cmacDbl (beNat (aes key (zeros 16)))
  let k2 := cmacDbl k1
  let n := if msg.isEmpty then 0 else (msg.length - 1) / 16 * 16
  let lastB := msg.drop n
  let final := if lastB.length = 16 then xorBytes lastB (beBytes 16 k1)
    else xorBytes (pad16 (lastB ++ [0x80])) (beBytes 16 k2)
  cbcMac key (msg.take n ++ final)

/-- The tag chain of CCM: tag length `m`, nonce, associated data and payload. -/
def ccmTag (key nonce aad pt : List Byte) (m : Nat) : List Byte :=
  let q := 15 - nonce.length
  let flags := (if aad.isEmpty then 0 else 64) + 8 * ((m - 2) / 2) + (q - 1)
  let b0 := BitVec.ofNat 8 flags :: nonce ++ beBytes q pt.length
  let a := if aad.isEmpty then [] else pad16 (beBytes 2 aad.length ++ aad)
  (cbcMac key (b0 ++ a ++ pad16 pt))

/-- Counter block `i` of CCM. -/
def ccmCtr (nonce : List Byte) (i : Nat) : List Byte :=
  BitVec.ofNat 8 (14 - nonce.length) :: nonce ++ beBytes (15 - nonce.length) i

/-- CCM sealing: ciphertext and tag of `m` bytes. -/
def ccmSeal (key nonce aad pt : List Byte) (m : Nat) : List Byte × List Byte :=
  let t := (ccmTag key nonce aad pt m).take m
  (ctrMode key (ccmCtr nonce 1) pt, xorBytes t (aes key (ccmCtr nonce 0)))

/-- CCM opening: the payload where the tag verifies. -/
def ccmOpen (key nonce aad ct tag : List Byte) : Option (List Byte) :=
  let pt := ctrMode key (ccmCtr nonce 1) ct
  let t := (ccmTag key nonce aad pt tag.length).take tag.length
  if xorBytes t (aes key (ccmCtr nonce 0)) = tag then some pt else none

/-- Product in the field of GCM, bit 0 the most significant of the block. -/
def gfMul (x y : Nat) : Nat :=
  ((List.range 128).foldl (fun (a : Nat × Nat) i =>
    let z := if x.testBit (127 - i) then a.1 ^^^ a.2 else a.1
    let v := if a.2.testBit 0 then (a.2 >>> 1) ^^^ (0xe1 <<< 120) else a.2 >>> 1
    (z, v)) (0, y)).1

def ghash (h : Nat) (data : List Byte) : Nat :=
  (blocksOf data).foldl (fun y b => gfMul (y ^^^ beNat b) h) 0

/-- GCM with a 12-byte IV: the tag of 16 bytes over a ciphertext. -/
def gcmTag (key iv aad ct : List Byte) : List Byte :=
  let h := beNat (aes key (zeros 16))
  let s := ghash h (pad16 aad ++ pad16 ct ++ beBytes 8 (8 * aad.length) ++ beBytes 8 (8 * ct.length))
  xorBytes (beBytes 16 s) (aes key (iv ++ beBytes 4 1))

/-- The 32-bit counter of GCM wraps within its last four bytes. -/
def gcmStream (key iv data : List Byte) : List Byte :=
  ((blocksOf data).foldl (fun (a : Nat × List Byte) b =>
    ((a.1 + 1) % 2 ^ 32, a.2 ++ xorBytes b (aes key (iv ++ beBytes 4 a.1)))) (2, [])).2

/-- The product by α of an XTS tweak, its least significant byte first. -/
def xtsNext (x : Nat) : Nat := if x < 2 ^ 127 then 2 * x else (2 * x) % 2 ^ 128 ^^^ 0x87

/-- XTS over a data unit of whole blocks: `f` is the block function under the first key, `k2` the tweak key and `i` the number
of the data unit. -/
def xtsRun (f : List Byte → List Byte) (k2 : List Byte) (i : Nat) (data : List Byte) : List Byte :=
  ((blocksOf data).foldl (fun (a : Nat × List Byte) b =>
    let t := leBytes 16 a.1
    (xtsNext a.1, a.2 ++ xorBytes (f (xorBytes b t)) t)) (leNat (aes k2 (leBytes 16 i)), [])).2

/-- AES-256-XTS under a key of 64 bytes. -/
def xtsEnc (key : List Byte) (i : Nat) (data : List Byte) : List Byte := xtsRun (aes (key.take 32)) (key.drop 32) i data
def xtsDec (key : List Byte) (i : Nat) (data : List Byte) : List Byte := xtsRun (aesInv (key.take 32)) (key.drop 32) i data

/-- One step of KW: `t` counts up in wrapping. -/
def kwStep (key : List Byte) (x : List Byte × List (List Byte)) (t i : Nat) : List Byte × List (List Byte) :=
  let r := x.2.getD i []
  let b := aes key (x.1 ++ r)
  (beBytes 8 (beNat (b.take 8) ^^^ t), x.2.set i (b.drop 8))

/-- The semiblocks of a string; `n` bounds their number. -/
def semis : Nat → List Byte → List (List Byte)
  | 0, _ => []
  | n + 1, l => if l.isEmpty then [] else l.take 8 :: semis n (l.drop 8)

/-- KW wrapping. -/
def kwWrap (key data : List Byte) : List Byte :=
  let r := semis (data.length / 8 + 1) data
  let n := r.length
  let x := (List.range (6 * n)).foldl (fun x t => kwStep key x (t + 1) (t % n)) (List.replicate 8 0xa6, r)
  x.1 ++ x.2.flatten

/-- One step of KW in unwrapping. -/
def kwBack (key : List Byte) (x : List Byte × List (List Byte)) (t i : Nat) : List Byte × List (List Byte) :=
  let b := aesInv key (beBytes 8 (beNat x.1 ^^^ t) ++ x.2.getD i [])
  (b.take 8, x.2.set i (b.drop 8))

/-- KW unwrapping: the data where the integrity check holds. -/
def kwUnwrap (key blob : List Byte) : Option (List Byte) :=
  let r := semis (blob.length / 8) (blob.drop 8)
  let n := r.length
  let x := (List.range (6 * n)).foldl (fun x i =>
    let t := 6 * n - i
    kwBack key x t ((t - 1) % n)) (blob.take 8, r)
  if x.1 = List.replicate 8 0xa6 then some x.2.flatten else none

end Sys2Proof.Machine
end

