-- ==== Sys2Proof/Machine/Crc.lean ====
section
/-! DEFINITION. The bit-serial checks the spec writes out (R109), and the FCS of IEEE 802.15.4 (R114, R115): bits in transmission order, no final inversion. -/

namespace Sys2Proof.Machine
open Sys2Proof

/-- One step of the check of R109 on `n` bits with polynomial `poly`. -/
def crcBit (n poly : Nat) (crc : Nat) (b : Bool) : Nat :=
  let fb := Bool.xor (crc.testBit (n - 1)) b
  let c := (crc <<< 1) % 2 ^ n
  if fb then c ^^^ poly else c

/-- The check over a list of bits. -/
def crcBits (n poly init : Nat) (bits : List Bool) : Nat := bits.foldl (crcBit n poly) init

/-- The bits of an octet, least significant first. -/
def octetBits (b : Byte) : List Bool := (List.range 8).map (fun i => b.toNat.testBit i)

/-- The CRC-8 of the IL2 header over its 16 PHR bits (R109). -/
def crc8 (phr : Nat) : Nat := crcBits 8 0x07 0xff ((List.range 16).map (fun i => phr.testBit i))

/-- The CRC-8 of an RL2 header over its 32 bits (R132). -/
def crc8x32 (hdr : Nat) : Nat := crcBits 8 0x07 0xff ((List.range 32).map (fun i => hdr.testBit i))

/-- The CRC-32 of an RL2 PSDU (R134). -/
def crc32 (psdu : List Byte) : Nat := crcBits 32 0x04c11db7 0xffffffff (psdu.flatMap octetBits)

/-- The CRC-16 of a PSDU (R109). -/
def crc16 (psdu : List Byte) : Nat := crcBits 16 0x1021 0xffff (psdu.flatMap octetBits)

/-- A number of `n` bits with its bits in reverse. -/
def bitRev (n x : Nat) : Nat := (List.range n).foldl (fun v i => 2 * v + (if x.testBit i then 1 else 0)) 0

/-- The 2-octet FCS of IEEE 802.15.4-2020 over the octets before it, as the number whose low octet goes first: the ITU-T CRC-16
with remainder 0 at the start, its highest coefficient first on the air. -/
def fcs154 (l : List Byte) : Nat := bitRev 16 (crcBits 16 0x1021 0 (l.flatMap octetBits))

/-- A PSDU with its FCS. -/
def withFcs (l : List Byte) : List Byte := l ++ leBytes 2 (fcs154 l)

/-- Does a PSDU end in its FCS? -/
def fcs154Ok (psdu : List Byte) : Bool :=
  decide (2 ≤ psdu.length) && psdu == withFcs (psdu.take (psdu.length - 2))

end Sys2Proof.Machine
end

