-- ==== Sys2Proof/Machine/NandOps.lean ====
section
/-! DEFINITION. Operations of the NAND controller (chapter 14): partitions, the bad-block table, corrected and failed
reads, retirement, and the blocks of the hardware partitions. -/

namespace Sys2Proof.Machine
open Sys2Proof

/-! ### Partitions (R421) -/

/-- First block and one past the last block of a hardware partition. -/
def hwLo : HwPart → Nat
  | .ctx => 464
  | .page => 2512
def hwHi : HwPart → Nat
  | .ctx => 2512
  | .page => 6608

/-- The hardware partition of a block. -/
def hwPartOf (b : Nat) : Option HwPart :=
  if 464 ≤ b && b < 2512 then some .ctx else if 2512 ≤ b && b < 6608 then some .page else none

/-- May a core's software command reach the block (R421)? -/
def partOk (c : CoreId) (b : Nat) : Bool :=
  if b = 7 || b = 15 || (hwPartOf b).isSome then false
  else if b < 400 then c == .kc
  else decide (b < 16384)

/-! ### The flow of a command -/

/-- The plane of a block. -/
def planeOf (b : Nat) : Nat := b % 2

/-- The copy of the bad-block table that governs: that of the higher sequence number (R439). -/
def NandState.bbt (n : NandState) : BbtCopy := if n.bbt1.seq < n.bbt0.seq then n.bbt0 else n.bbt1

/-- The blocks marked bad, and those marked at shipment. -/
def NandState.bad (n : NandState) : List Nat := n.bbt.bad
def NandState.factory (n : NandState) : List Nat := n.bbt.factory

/-- Is the block marked bad? -/
def State.nandBad (s : State) (b : Nat) : Bool := s.nand.bad.contains b

/-- The erase on a plane. -/
def State.eraseOn (s : State) (p : Nat) : Option NandErase := tblFind s.nand.erases p

/-- Is the block's erase in progress or suspended? -/
def State.erasing (s : State) (b : Nat) : Bool := (s.eraseOn (planeOf b)).any (fun e => e.block == b)

/-- Show the erases in NAND_FSTAT. -/
def State.showErases (s : State) : State :=
  let run := fun (p : Nat) => (s.eraseOn p).any (fun e => !e.suspended)
  let sus := fun (p : Nat) => (s.eraseOn p).any (fun e => e.suspended)
  (((s.setBool NAND_FSTAT_ERASING0 (run 0)).setBool NAND_FSTAT_ERASING1 (run 1)).setBool NAND_FSTAT_SUSP0
    (sus 0)).setBool NAND_FSTAT_SUSP1 (sus 1)

/-- Put an erase on a plane, or take it off. -/
def State.setErase (s : State) (p : Nat) (e : Option NandErase) : State :=
  ({ s with nand := { s.nand with erases := match e with
      | some e => tblIns s.nand.erases p e
      | none => tblDel s.nand.erases p } } : State).showErases

/-- The erase of a plane is suspended. -/
def State.suspendErase (s : State) (p : Nat) : State :=
  match s.eraseOn p with
  | none => s
  | some e => if e.suspended then s
              else (s.setErase p (some { e with suspended := true })).inc (NAND_CNTn_COUNT 6)

/-- A NAND log entry: source 11 (R443). -/
def State.nandLog (s : State) (code data : Nat) : State := s.logPut 11 code 0 data

/-- A read that failed at set 7 (R436). -/
def State.readUncorr (s : State) : State := (s.inc (NAND_CNTn_COUNT 5)).set1 NAND_IRQ_UNCORR

/-! ### Hardware partitions: free blocks, reserve, wear (R422, R438, R441) -/

/-- The good blocks of a hardware partition that are neither full nor being filled. -/
def State.freeBlocks (s : State) (p : HwPart) : List Nat :=
  let open_ := match p with
    | .ctx => s.nand.openCtx
    | .page => s.nand.openPage
  ((List.range (hwHi p)).drop (hwLo p)).filter
    (fun b => !(s.nandBad b) && !(s.nand.full.contains b) && !(open_.any (fun o => o.1 == b)))

/-- Erase count of a block. -/
def State.pecOf (s : State) (b : Nat) : Nat := tblGet 0 s.nand.pec b

/-- The block of a list with the least key, the first of equals. -/
def leastBy (k : Nat → Nat) : List Nat → Option Nat
  | [] => none
  | b :: t => match leastBy k t with
    | none => some b
    | some c => if k c < k b then some c else some b

/-- Good unused reserve of a hardware partition: its 512 reserve blocks less the bad ones (R422, R441). -/
def State.reserveOf (s : State) (p : HwPart) : Nat :=
  512 - (s.nand.bad.filter (fun b => hwPartOf b == some p)).length

/-- Number of a hardware partition, for the list of those logged. -/
def hwNum : HwPart → Nat
  | .ctx => 0
  | .page => 1

/-- Show the reserve in NAND_HEALTH and act on it (R441). -/
def State.showReserve (s : State) (p : HwPart) : State :=
  let r := s.reserveOf p
  let s := match p with
    | .ctx => s.setFld NAND_HEALTH_CTXRSV r
    | .page => s.setFld NAND_HEALTH_PAGERSV r
  let s := if r < 64 && !(s.nand.lowLogged.contains (hwNum p)) then
      (({ s with nand := { s.nand with lowLogged := s.nand.lowLogged ++ [(hwNum p)] } } : State).nandLog Code.LOW_SPARE
        (hwNum p)).set1 NAND_IRQ_LOWSPARE
    else s
  let ro := match p with
    | .ctx => NAND_HEALTH_CTXRO
    | .page => NAND_HEALTH_PAGERO
  if r ≠ 0 then s
  else if s.nand.lowLogged.contains (2 + hwNum p) then s.set1 ro
  else (({ s with nand := { s.nand with lowLogged := s.nand.lowLogged ++ [2 + hwNum p] } } : State).set1 ro).set1
    NAND_IRQ_READONLY |>.nandLog Code.STORE_READONLY (hwNum p)

/-- The whole table goes to the next page of the copy not last written; a full block is erased first (R439). -/
def NandState.writeBbt (n : NandState) (bad : List Nat) : NandState :=
  let next := fun (c : BbtCopy) => ({ seq := n.bbt.seq + 1, used := if c.used = 64 then 1 else c.used + 1, bad := bad,
                                      factory := n.bbt.factory } : BbtCopy)
  if n.bbt1.seq < n.bbt0.seq then { n with bbt1 := next n.bbt1 } else { n with bbt0 := next n.bbt0 }

/-- A block is marked bad (R440, steps 2 and 3). -/
def State.retireBlock (s : State) (b : Nat) : State :=
  let bad := if s.nandBad b then s.nand.bad else s.nand.bad ++ [b]
  let s : State := { s with nand := { (s.nand.writeBbt bad) with full := s.nand.full.filter (· != b) } }
  let s := ((s.inc (NAND_CNTn_COUNT 7)).set1 NAND_IRQ_RETIRED).nandLog Code.BLK_RETIRED b
  match hwPartOf b with
  | some p => s.showReserve p
  | none => s

/-- The program time of R437 stage 3, or the erase time. -/
def State.slowBlock (s : State) (b : Nat) (slow : Bool) : State :=
  if slow then
    ({ s with nand := { s.nand with slow := if s.nand.slow.contains b then s.nand.slow
                                            else s.nand.slow ++ [b] } } : State).set1 NAND_IRQ_SLOW |>.nandLog
      Code.NAND_SLOW b
  else s

/-- Where the logical pages of a partition lie. -/
def State.hwRows (s : State) : HwPart → List (Nat × Nat)
  | .ctx => s.nand.rowsCtx
  | .page => s.nand.rowsPage

/-- Set where they lie. -/
def State.setHwRows (s : State) (p : HwPart) (r : List (Nat × Nat)) : State :=
  match p with
  | .ctx => { s with nand := { s.nand with rowsCtx := r } }
  | .page => { s with nand := { s.nand with rowsPage := r } }

/-- The block a partition is filling. -/
def State.hwOpen (s : State) : HwPart → Option (Nat × Nat)
  | .ctx => s.nand.openCtx
  | .page => s.nand.openPage

/-- Set it. -/
def State.setHwOpen (s : State) (p : HwPart) (o : Option (Nat × Nat)) : State :=
  match p with
  | .ctx => { s with nand := { s.nand with openCtx := o } }
  | .page => { s with nand := { s.nand with openPage := o } }

/-- The next page of a hardware partition takes logical page `id`: in the block being filled, else in the free block of
least erase count (R438). -/
def State.hwProgram (s : State) (p : HwPart) (id : Nat) : State :=
  let at_ := match s.hwOpen p with
    | some o => some o
    | none => (leastBy s.pecOf (s.freeBlocks p)).map (fun b => (b, 0))
  match at_ with
  | none => s
  | some (b, n) =>
    let s := s.setHwRows p (tblIns (s.hwRows p) id (64 * b + n))
    if n = 63 then
      ({ s with nand := { s.nand with full := s.nand.full ++ [b] } } : State).setHwOpen p none
    else s.setHwOpen p (some (b, n + 1))

/-- The block that takes the next program in a hardware partition. -/
def State.hwNext (s : State) (p : HwPart) : Option Nat :=
  match s.hwOpen p with
  | some o => some o.1
  | none => leastBy s.pecOf (s.freeBlocks p)

/-- Logical page `id` is live no more. -/
def State.hwDrop (s : State) (p : HwPart) (id : Nat) : State := s.setHwRows p (tblDel (s.hwRows p) id)

/-- Is logical page `id` of CTX live? By its remainder modulo 4 it is a cluster page, a journal page, which is live until it is
released (R242), or a copy of the header page. -/
def State.ctxLive (s : State) (id : Nat) : Bool :=
  match id % 4 with
  | 0 => tblHas s.pager.pages (id / 4)
  | 1 => s.pager.jpages.any (fun g => g.seq == id / 4)
  | 2 => !s.pager.headers.isEmpty
  | _ => false

/-- The live pages of a block of a hardware partition. -/
def State.liveIn (s : State) (p : HwPart) (b : Nat) : List Nat :=
  (((s.hwRows p).filter (fun e => e.2 / 64 == b)).map (·.1)).filter (fun id => p != .ctx || s.ctxLive id)

/-- A block has been erased: its count rises, its pages are gone and its correction may be logged again. -/
def State.erased (s : State) (b : Nat) : State :=
  { s with nand := { s.nand with
      pec := tblPut 0 s.nand.pec b (s.pecOf b + 1),
      pages := s.nand.pages.filter (fun (e : Nat × NandPage) => e.1 / 64 != b),
      nextPage := tblDel s.nand.nextPage b,
      hotLogged := s.nand.hotLogged.filter (· != b),
      full := s.nand.full.filter (· != b) } }

/-- The content of a CTX or PAGE row that was hard to read moves to a fresh page (R435). -/
def State.relocate (s : State) (row : Nat) : State :=
  match hwPartOf (row / 64) with
  | none => s
  | some p => match (s.hwRows p).find? (fun e => e.2 == row) with
    | none => s
    | some e => s.hwProgram p e.1

/-- A read for any requester decoded with `corr` corrected bits at set `retry` (R435, R436). -/
def State.readCorrected (s : State) (row corr retry : Nat) : State :=
  if retry = 0 && corr < s.fld NAND_CFG_EWARN then s
  else
    let b := row / 64
    let first := !s.nand.hotLogged.contains b
    let s := if retry = 0 then (s.inc (NAND_CNTn_COUNT 3)).set1 NAND_IRQ_CORRHIGH
             else (s.inc (NAND_CNTn_COUNT 4)).set1 NAND_IRQ_RETRY
    let s := s.relocate row
    if first then
      ({ s with nand := { s.nand with hotLogged := s.nand.hotLogged ++ [b] } } : State).nandLog
        (if retry = 0 then Code.CORR_HIGH else Code.NAND_RETRY) row
    else s

/-- Every live page of block `b` moves to fresh pages of its partition (R438, R440). -/
def State.moveLive (s : State) (p : HwPart) (b : Nat) : State :=
  (s.liveIn p b).foldl (fun (s : State) id => s.hwProgram p id) s

/-- How the next program in a hardware partition ends on the die (R437, R440). One that fails retires its block: the live pages
of the block move to a fresh one, and with them the data of that program, which is invisible to its requester. -/
def State.hwDie (s : State) (p : HwPart) (e : DieEnd) : State :=
  match e, s.hwNext p with
  | .slow, some b => s.slowBlock b true
  | .failed, some b => ((s.setHwOpen p none).retireBlock b).moveLive p b
  | _, _ => s

/-- May the pager and the page engine use the die (R434)? -/
def State.dieReleased (s : State) : Bool := s.flag NAND_BOOTSTAT_RELEASE

/-- NAND_WEAR as a read shows it: the extremes of the erase counts in CTX and PAGE. -/
def State.wearWord (s : State) : Word :=
  let pecs := ((List.range 6608).drop 464).map s.pecOf
  let mx := pecs.foldl max 0
  let mn := pecs.foldl min mx
  BitVec.ofNat 32 (min mx 65535 * 65536 + min mn 65535)

/-- Fresh bytes: free values. -/
def State.freshBytes (s : State) : Nat → List Byte × State
  | 0 => ([], s)
  | n + 1 =>
    let r := s.fresh
    let t := r.2.freshBytes n
    (BitVec.ofNat 8 r.1 :: t.1, t.2)

end Sys2Proof.Machine
end

