-- ==== Sys2Proof/Machine/MirBase.lean ====
section
/-! DEFINITION. Sending on the MIRROR link (R548, R549). -/

namespace Sys2Proof.Machine
open Sys2Proof

/-- Is the link UP (R547)? -/
def State.linkUp (s : State) : Bool := decide (s.fld MIRROR_STAT_LINK = 2)

/-- A packet goes on the link. -/
def State.mirWire (s : State) (k : MirPkt) : State := { s with mirror := { s.mirror with wire := some k } }

/-- The session value is drawn anew (R549). -/
def State.newSession (s : State) : State :=
  let r := s.freshBytes 8
  { r.2 with mirror := { r.2.mirror with session := r.1 } }

/-- A sequenced packet is sent (R548): it takes the next SEQ and stays until it is acknowledged; while 64 are
unacknowledged it waits. The session value is redrawn before SEQ repeats (R549). -/
def State.mirSend (s : State) (typ : Nat) (body : MirBody) (buf : Option Nat) : State :=
  if s.linkUp then
    let s := if s.mirror.txSeq = 2 ^ 32 - 1 then s.newSession else s
    let k : MirPkt := ⟨typ, s.mirror.txSeq % (2 ^ 32 - 1) + 1, body, buf⟩
    let m := s.mirror
    { s with mirror := { m with txSeq := k.seq, unacked := m.unacked ++ [k],
                                oldestAt := if m.unacked.isEmpty then s.clk.now else m.oldestAt,
                                wire := if m.unacked.length < 64 then some k else m.wire } }
  else s

end Sys2Proof.Machine
end

