-- ==== Sys2Proof/Machine/PagerOps.lean ====
section
/-! DEFINITION. The directory (R193–R195), resident contexts and their store (R225–R248) as shared operations. -/

namespace Sys2Proof.Machine
open Sys2Proof

/-! ### Uncorrectable lines (R352) -/

/-- An uncorrectable read of the line that holds `a`: counted, logged, and the line left poisoned. -/
def State.uncorrRead (s : State) (a : Nat) : State :=
  let s := (s.inc MMU_ECCSTAT_UNCORR).setFld MMU_ECCADDR_LINE (a / 16)
  let s := (s.set1 MMU_IRQ_UNCORR).logPut 22 Code.MEM_UNCORR 0 a
  { s with mmu := { s.mmu with poison := if s.mmu.poison.contains (a / 16) then s.mmu.poison
                                         else s.mmu.poison ++ [a / 16] } }

/-- Is the line of `a` poisoned? -/
def State.poisoned (s : State) (a : Nat) : Bool := s.mmu.poison.contains (a / 16)

/-- A full aligned 16-byte write ends the poison of its line (R352). -/
def State.cureLine (s : State) (a : Nat) : State :=
  { s with mmu := { s.mmu with poison := s.mmu.poison.filter (fun l => l != a / 16) } }

/-- A write of the `n` bytes from `a` ends the poison of every line that it covers whole (R352). -/
def State.cureRange (s : State) (a n : Nat) : State :=
  { s with mmu := { s.mmu with poison := s.mmu.poison.filter (fun l => !(decide (a ≤ 16 * l) && decide (16 * l + 16 ≤ a + n))) } }

/-- Address of directory set `set` (R193, R330). -/
def setAddr (set : Nat) : Nat := 0x30000000 + 64 * set

/-- Address of hot slot `n` (R230). -/
def hotAddr (n : Nat) : Nat := 0x30400000 + 256 * n

/-- Is a read of directory set `set` uncorrectable, or is the set invalidated (R199)? `ecc` says that the read is. -/
def State.setUnread (s : State) (set : Nat) (ecc : Bool) : Bool :=
  ecc || s.mac.badSets.contains set || (List.range 4).any (fun k => s.poisoned (setAddr set + 16 * k))

/-! ### Mirror roles (R551) -/

/-- Is the device the active member of a Mirror pair? -/
def State.pairActive (s : State) : Bool := s.flag MIRROR_CTRL_EN && decide (s.fld MIRROR_STAT_ROLE = 3)

/-- Is it the standby member? -/
def State.pairStandby (s : State) : Bool := s.flag MIRROR_CTRL_EN && decide (s.fld MIRROR_STAT_ROLE = 2)

/-! ### The directory -/

/-- The set that holds a key (R194). -/
def dirSetOf (hseed key : Nat) : Nat := ((key ^^^ hseed) % 2 ^ 32 * 0x9e3779b1) % 2 ^ 32 / 2 ^ 16

/-- The set of a key under MAC_HSEED. -/
def State.dirSet (s : State) (key : Nat) : Nat := dirSetOf (s.rd MAC_HSEED).toNat key

/-- Entry at a place: 8 × set + way. -/
def State.dirAt (s : State) (i : Nat) : DirEnt := tblGet {} s.mac.dir i

/-- The place of the valid entry for a key and class. -/
def State.dirFind (s : State) (key cls : Nat) : Option Nat :=
  (List.range 8).map (fun w => 8 * s.dirSet key + w) |>.find? (fun i =>
    (s.dirAt i).valid && (s.dirAt i).key == key && (s.dirAt i).cls == cls)

/-- Ways of a set with VALID = 0. -/
def State.dirFree (s : State) (set : Nat) : Nat :=
  ((List.range 8).filter (fun w => !(s.dirAt (8 * set + w)).valid)).length

/-- MAC_DIRSTAT and MAC_DIRFULL follow the directory. -/
def State.showDir (s : State) : State :=
  let live := (s.mac.dir.filter (fun e => e.2.valid)).length
  let full := (s.mac.dir.filter (fun e => e.1 % 8 == 0 && s.dirFree (e.1 / 8) == 0)).length
  (s.setFld MAC_DIRSTAT_LIVE live).setFld MAC_DIRFULL_FULL full

/-- Write one directory entry (R195). -/
def State.dirPut (s : State) (i : Nat) (e : DirEnt) : State :=
  ({ s with mac := { s.mac with dir := tblPut {} s.mac.dir i e } }).showDir

/-- Change the entry of a key and class, if there is one. -/
def State.dirMod (s : State) (key cls : Nat) (f : DirEnt → DirEnt) : State :=
  match s.dirFind key cls with
  | some i => { s with mac := { s.mac with dir := tblMod {} s.mac.dir i f } }
  | none => s

/-- The lowest-numbered free way of a key's set (R195). -/
def State.dirSlot (s : State) (key : Nat) : Option Nat :=
  (List.range 8).map (fun w => 8 * s.dirSet key + w) |>.find? (fun i => !(s.dirAt i).valid)

/-- The eight octets of an entry (R193), as a read of the eDRAM directory half shows them. -/
def DirEnt.word (e : DirEnt) : Nat :=
  let b := fun (x : Bool) (n : Nat) => if x then 2 ^ n else 0
  e.key % 2 ^ 32 + 2 ^ 32 * (e.ctx % 2 ^ 18) + 2 ^ 50 * (e.cls % 2) + b e.valid 51 + b e.pend 52 + b e.res 53 +
    b e.lost 54 + b e.block 55

/-! ### Resident contexts -/

/-- The resident context with index `i`. -/
def State.hot (s : State) (i : Nat) : Option HotCtx := tblFind s.pager.hot i

/-- Is it resident? A slot that an alarm zeroised is not (R258). -/
def State.isHot (s : State) (i : Nat) : Bool := tblHas s.pager.hot i && !(s.pager.zeroed.contains i)

/-- Has context `i` a record in the commit in progress? -/
def State.inCommit (s : State) (i : Nat) : Bool :=
  match s.pager.commit with
  | some c => c.recs.any (fun r => r.ctx == i)
  | none => false

/-- PAGER_STAT.HOT and PAGER_JSTAT.DIRTY follow. -/
def State.showPager (s : State) : State :=
  (s.setFld PAGER_STAT_HOT s.pager.hot.length).setFld PAGER_JSTAT_DIRTY
    ((s.pager.hot.filter (fun e => e.2.dirty || s.inCommit e.1)).length)

/-- Replace a resident context's record. -/
def State.putHot (s : State) (i : Nat) (h : HotCtx) : State :=
  ({ s with pager := { s.pager with hot := tblIns s.pager.hot i h } }).showPager

/-- FLAGS of a context as a journal record carries them (R225, R240). -/
def Ctx.flags (c : Ctx) : Nat :=
  c.cls % 2 + (if c.k0 then 2 else 0) + (if c.k1 then 4 else 0) + 8 * (c.keyuse % 2) + (if c.lost then 16 else 0) +
    (if c.block then 32 else 0)

/-- The journal record of a context (R240). -/
def Ctx.record (c : Ctx) : JournalRec :=
  { ctx := c.ctxid, miss := c.miss, flags := c.flags, resv := false, rxfc0 := c.rxfc0, rxfc1 := c.rxfc1, txv := c.txfc }

/-- The RESERVE record of the next block (R245), or of the first block under a new key (R252). -/
def Ctx.reserveRec (c : Ctx) (newKey : Bool) : JournalRec :=
  { c.record with resv := true, txv := if newKey then c.txrsv else c.txrsv + 4096 }

/-- A context with a journal record applied (R240, R247). -/
def Ctx.apply (c : Ctx) (r : JournalRec) : Ctx :=
  let c := { c with miss := r.miss, k0 := bitAt r.flags 1, k1 := bitAt r.flags 2, keyuse := bitsOf r.flags 3 3,
                    lost := bitAt r.flags 4, block := bitAt r.flags 5, rxfc0 := r.rxfc0, rxfc1 := r.rxfc1 }
  if r.resv then { c with txrsv := r.txv } else { c with txfc := r.txv }

/-- FLAGS, CHK aside, the octets 0x00–0xF7 of a context (R225). -/
def Ctx.octets (c : Ctx) : List Byte :=
  let l8 := fun (n : Nat) => [BitVec.ofNat 8 n]
  let fit := fun (n : Nat) (b : List Byte) => (b ++ zeros n).take n
  leBytes 4 c.key ++ fit 8 c.eui ++ l8 c.flags ++ l8 c.miss ++ l8 c.grp ++ l8 c.periodc ++ leBytes 2 c.pos ++
    l8 c.phasec ++ [0] ++ leBytes 4 c.ctxid ++ leBytes 4 c.rxfc0 ++ leBytes 4 c.rxfc1 ++ leBytes 4 c.txfc ++ leBytes 4 c.txrsv ++
    leBytes 8 c.lastrx ++ fit 16 c.key0 ++ fit 16 c.key1 ++ leBytes 4 c.okcnt ++ leBytes 4 c.txepoch ++ fit 160 c.app

/-- CHK over the octets before it (R225): under an XTS key its first 256 bits serve (R452). -/
def ctxChk (key body : List Byte) : List Byte := (cmac (key.take 32) body).take 8

/-- The 256 octets of a context, CHK among them (R225). -/
def Ctx.image (c : Ctx) (key : List Byte) : List Byte := c.octets ++ ctxChk key c.octets

/-- The context that 248 octets lay out (R225). -/
def Ctx.ofOctets (b : List Byte) : Ctx :=
  let le := fun (i n : Nat) => leNat ((b.drop i).take n)
  let fl := le 0x0c 1
  { key := le 0 4, eui := (b.drop 4).take 8, cls := fl % 2, k0 := bitAt fl 1, k1 := bitAt fl 2, keyuse := bitsOf fl 3 3,
    lost := bitAt fl 4, block := bitAt fl 5, miss := le 0x0d 1, grp := le 0x0e 1, periodc := le 0x0f 1, pos := le 0x10 2,
    phasec := le 0x12 1, ctxid := le 0x14 4, rxfc0 := le 0x18 4, rxfc1 := le 0x1c 4, txfc := le 0x20 4, txrsv := le 0x24 4,
    lastrx := le 0x28 8, key0 := (b.drop 0x30).take 16, key1 := (b.drop 0x40).take 16, okcnt := le 0x50 4,
    txepoch := le 0x54 4, app := (b.drop 0x58).take 160 }

/-- The octets that a cluster page holds for a context (R229): AES-256-XTS under the store key, the tweak its index. -/
def StoredCtx.octets (e : StoredCtx) (i : Nat) : List Byte := xtsEnc e.key i (e.ctx.image e.key)

/-- The context read back under a store key, where CHK verifies (R229). Under the key it was sealed with, decryption gives
back what was sealed. -/
def StoredCtx.opens (e : StoredCtx) (i : Nat) (key : List Byte) : Option Ctx :=
  if e.key = key then some e.ctx
  else
    let d := xtsDec key i (e.octets i)
    if ctxChk key (d.take 0xf8) = d.drop 0xf8 then some (Ctx.ofOctets (d.take 0xf8)) else none

/-- An item joins the journal feed of the active member (R254). -/
def State.feed (s : State) (x : FeedItem) : State :=
  if s.pairActive then { s with pager := { s.pager with feedOut := s.pager.feedOut ++ [x] } } else s

/-- A change to a resident context: it becomes dirty (R231) and is fed (R254). On the standby contexts change only
through the feed (R255). -/
def State.modCtx (s : State) (i : Nat) (f : Ctx → Ctx) : State :=
  if s.pairStandby then s
  else
    match s.hot i with
    | none => s
    | some h =>
      let c := f h.ctx
      (s.putHot i { h with ctx := c, dirty := true, newer := true, ref := true }).feed (.state c.record)

/-- Is the reservation wish of context `i` already in a commit in progress? -/
def State.resvBusy (s : State) (i : Nat) : Bool :=
  s.pager.commit.any (fun c => c.recs.any (fun r => r.resv && r.ctx == i))

/-- A reservation of the next block of outgoing counters is wanted (R245). -/
def State.wantReserve (s : State) (i : Nat) : State :=
  if s.pager.resv.contains i || s.resvBusy i || s.pairStandby then s
  else { s with pager := { s.pager with resv := s.pager.resv ++ [i] } }

/-- The next block is due once TX_FC reaches TX_RSV − RSVLEAD (R245). -/
def State.leadReserve (s : State) (i : Nat) (c : Ctx) : State :=
  if c.txrsv ≤ c.txfc + 16 * s.fld PAGER_CFG_RSVLEAD then s.wantReserve i else s

/-- An access sets the reference bit of the clock sweep (R232). -/
def State.touch (s : State) (i : Nat) : State :=
  match s.hot i with
  | some h => s.putHot i { h with ref := true }
  | none => s

/-! ### Pins and victims (R231, R232) -/

/-- Does a frame on context `i` park, or is it in its MIC check? -/
def State.ctxFrames (s : State) (i : Nat) : Bool :=
  s.mac.frames.any (fun e => e.2.ctx == i && e.2.verdict == some .proceed && (e.2.phase == .parked || e.2.phase == .auth))

/-- Has the node of a context a queued downlink? -/
def State.ctxDownlink (s : State) (c : Ctx) : Bool :=
  s.mac.dlq.any (fun d => (d.kind == 0 || d.kind == 1 || d.kind == 3) && d.key == c.key &&
    (if d.kind == 3 then 1 else 0) == c.cls)

/-- Is a resident context pinned (R231)? -/
def State.pinned (s : State) (i : Nat) (h : HotCtx) : Bool :=
  h.dirty || s.inCommit i || s.ctxFrames i || !h.prefetch.isEmpty || s.ctxDownlink h.ctx ||
    s.pager.cmd.any (fun c => c.op != 7 && (c.names == some i || (c.op == 1 && c.status == Code.OK && c.ctx == i)))

/-- Unpinned contexts by hot slot. -/
def State.unpinned (s : State) : List (Nat × HotCtx) := s.pager.hot.filter (fun e => !(s.pinned e.1 e.2))

/-- The context whose hot slot comes next after `hand` among those that satisfy `ok`. -/
def nextSlot (hand : Nat) (l : List (Nat × HotCtx)) (ok : HotCtx → Bool) : Option Nat :=
  let d := fun (h : HotCtx) => (h.slot + 16384 - hand % 16384) % 16384
  (l.foldl (fun (b : Option (Nat × Nat)) e =>
    if ok e.2 then
      match b with
      | none => some (d e.2, e.1)
      | some (x, i) => if d e.2 < x then some (d e.2, e.1) else some (x, i)
    else b) none).map (·.2)

/-- The victim (R232): a LOST context first, else the first with a clear reference bit that the sweep meets, the second time
round where every bit is set. -/
def State.pageVictim (s : State) : Option Nat :=
  let l := s.unpinned
  match nextSlot s.pager.hand l (fun h => h.ctx.lost) with
  | some i => some i
  | none =>
    match nextSlot s.pager.hand l (fun h => !h.ref) with
    | some i => some i
    | none => nextSlot s.pager.hand l (fun _ => true)

/-- The sweep has come to the victim's slot: the reference bits it met are clear, all of them where it went round (R232). A
LOST victim needs no sweep. -/
def State.sweepTo (s : State) (v : Nat) : State :=
  match s.hot v with
  | none => s
  | some h =>
    if h.ctx.lost then s
    else
      let d := fun (x : HotCtx) => (x.slot + 16384 - s.pager.hand % 16384) % 16384
      { s with pager := { s.pager with hand := (h.slot + 1) % 16384,
                                       hot := s.pager.hot.map (fun e =>
                                         if h.ref || d e.2 < d h then (e.1, { e.2 with ref := false }) else e) } }

/-- The context leaves its hot slot: RES clears before the slot is reused (R230). -/
def State.dropHot (s : State) (i : Nat) : State :=
  match s.hot i with
  | none => s
  | some h =>
    let s := s.dirMod h.ctx.key h.ctx.cls (fun e => { e with res := false })
    ({ s with pager := { s.pager with hot := tblDel s.pager.hot i } }).showPager

/-- Zeroised slots whose counters are durable are released (R258). -/
def State.dropZeroed (s : State) : State :=
  s.pager.zeroed.foldl (fun s i =>
    let keep := (match s.hot i with
      | some h => h.dirty
      | none => false) || s.inCommit i
    if keep then s
    else
      let s := s.dropHot i
      { s with pager := { s.pager with zeroed := s.pager.zeroed.filter (fun (n : Nat) => n != i) } }) s

/-- An alarm has zeroised the key slots (R258). -/
def State.zeroPager (s : State) : State :=
  let s := s.pager.hot.foldl (fun (s : State) (e : Nat × HotCtx) =>
    s.dirMod e.2.ctx.key e.2.ctx.cls (fun d => { d with res := false })) s
  let hot := s.pager.hot.map (fun (e : Nat × HotCtx) => (e.1, { e.2 with ctx := { e.2.ctx with key0 := [], key1 := [] } }))
  let s := { s with pager := { s.pager with hot := hot, zeroed := hot.map (fun (e : Nat × HotCtx) => e.1) } }
  ((s.set1 PAGER_STAT_STOREDOWN).set1 PAGER_IRQ_STOREDOWN).dropZeroed.showPager

/-- The lowest free hot slot (R230). -/
def State.freeHot (s : State) : Option Nat :=
  lowestFree (fun n => s.pager.hot.any (fun e => e.2.slot == n)) 16384 0

/-- A context of an older epoch gives up what is left of its reservation (R246). On the standby contexts change only through
the feed (R255). -/
def State.staleCtx (s : State) (c : Ctx) : Bool := !s.pairStandby && decide (c.txepoch ≠ (s.rd PAGER_EPOCH).toNat)

/-- A context with its outgoing counter past every value that may have been sent, in the present epoch (R246). -/
def State.renew (s : State) (c : Ctx) : Ctx := { c with txfc := c.txrsv, txepoch := (s.rd PAGER_EPOCH).toNat }

/-- A context becomes resident in slot `n`: RES sets (R230), and a context of an older epoch gives up what is left of
its reservation (R246). What changed while it was not resident is still to be committed (R226). -/
def State.makeHot (s : State) (i n : Nat) (c : Ctx) : State :=
  let stale := s.staleCtx c
  let c' := if stale then s.renew c else c
  let d := stale || tblHas s.pager.cold i
  let s := ({ s with pager := { s.pager with cold := tblDel s.pager.cold i } } : State).cureRange (hotAddr n) 256
  let s := s.putHot i { slot := n, ctx := c', dirty := d, newer := d, ref := true }
  let s := s.dirMod c.key c.cls (fun e => { e with res := true })
  let s := if stale then s.feed (.state c'.record) else s
  s.leadReserve i c'

/-- EPOCH has advanced: contexts that are resident already are renewed too before a frame is built for them (R246). -/
def State.renewHot (s : State) : State :=
  (s.pager.hot.filter (fun e => s.staleCtx e.2.ctx)).foldl (fun (s : State) e =>
    (s.modCtx e.1 s.renew).wantReserve e.1) s

/-! ### The store -/

/-- The page that holds a context's cluster copy. -/
def State.pageOf (s : State) (i : Nat) : Option (Nat × ClusterPage) :=
  s.pager.pages.find? (fun p => p.2.members.contains i)

/-- The cluster key of a context (R228). -/
def Ctx.cluster (c : Ctx) : Option Nat × Nat :=
  if c.periodc = 0 then (none, c.ctxid / 16) else (some c.grp, c.pos / 16)

/-- Take a context out of its page; an empty page is released. -/
def dropMember (pages : List (Nat × ClusterPage)) (i : Nat) : List (Nat × ClusterPage) :=
  (pages.map (fun p => (p.1, { p.2 with members := p.2.members.erase i }))).filter (fun p => !p.2.members.isEmpty)

/-- Place a context in a page of its cluster key, a 17th in a further page (R228). -/
def addMember (pages : List (Nat × ClusterPage)) (c : Ctx) : List (Nat × ClusterPage) :=
  let k := c.cluster
  match pages.find? (fun p => p.2.grp == k.1 && p.2.sub == k.2 && decide (p.2.members.length < 16)) with
  | some p => tblIns pages p.1 { p.2 with members := p.2.members ++ [c.ctxid] }
  | none => tblIns pages (freeKey pages 0) { grp := k.1, sub := k.2, members := [c.ctxid] }

/-- May the pager program the CTX partition (R434, R441)? -/
def State.ctxWritable (s : State) : Bool := s.dieReleased && !(s.flag NAND_HEALTH_CTXRO)

/-- The store key (R229): that of the slot PAGER_KEYSLOT names, two keys of 256 bits. -/
def State.storeKey (s : State) : Option (List Byte) :=
  if s.flag PAGER_KEYSLOT_VALID then
    (tblGet {} s.cipher.keys (s.fld PAGER_KEYSLOT_SLOT)).key.filter (fun k => k.length == 64)
  else none

/-- Is the store key absent (R258, R259)? -/
def State.storeDown (s : State) : Bool := s.flag PAGER_STAT_STOREDOWN || s.storeKey.isNone

/-- A context is in the page of its cluster key. -/
def State.place (s : State) (c : Ctx) : State :=
  match s.pageOf c.ctxid with
  | some p => if (p.2.grp, p.2.sub) = c.cluster then s
    else { s with pager := { s.pager with pages := addMember (dropMember s.pager.pages c.ctxid) c } }
  | none => { s with pager := { s.pager with pages := addMember s.pager.pages c } }

/-- Is store sequence number `a` newer than `b`? -/
def seqNewer (a b : Nat) : Bool := a != b && reached 32 a b

/-- The journal's records with the number of the page each stands in, oldest first. -/
def PagerState.journal (p : PagerState) : List (Nat × JournalRec) := p.jpages.flatMap (fun g => g.recs.map (fun r => (g.seq, r)))

/-- The number of the page that holds a context's cluster copy. -/
def PagerState.copySeq (p : PagerState) (i : Nat) : Option Nat := (p.pages.find? (fun g => g.2.members.contains i)).map (·.2.seq)

/-- Is a record newer than its context's cluster copy (R242)? -/
def PagerState.recLive (p : PagerState) (e : Nat × JournalRec) : Bool := (p.copySeq e.2.ctx).any (fun q => seqNewer e.1 q)

/-- Journal pages of which every record is older than its context's cluster copy are released (R242); the newest page stays for
the marks of its commit. -/
def PagerState.prune (p : PagerState) : PagerState :=
  let keep := p.jpages.getLast?
  { p with jpages := p.jpages.filter (fun g => some g == keep || g.recs.any (fun r => p.recLive (g.seq, r))) }

/-- A context as its cluster copy and the journal records newer than it give it (R244, R247). -/
def PagerState.rebuilt (p : PagerState) (i : Nat) (c : Ctx) : Ctx :=
  (p.journal.filter (fun e => e.2.ctx == i && p.recLive e)).foldl (fun c e => c.apply e.2) c

/-- A context as its store copy and the journal give it. -/
def State.durable (s : State) (i : Nat) : Option Ctx := (tblFind s.pager.store i).map (fun e => s.pager.rebuilt i e.ctx)

/-- The same, as far as the store key opens the copy (R229). -/
def State.fetched (s : State) (i : Nat) : Option Ctx :=
  match tblFind s.pager.store i, s.storeKey with
  | some e, some k => (e.opens i k).map (s.pager.rebuilt i)
  | _, _ => none

/-- A context that is not resident, as it now stands. -/
def State.outside (s : State) (i : Nat) : Option Ctx :=
  match tblFind s.pager.cold i with
  | some c => some c
  | none => s.durable i

/-- Every live context with its index, as it now stands. -/
def State.allCtx (s : State) : List (Nat × Ctx) :=
  s.pager.store.map (fun e =>
    match s.hot e.1 with
    | some h => (e.1, h.ctx)
    | none => (e.1, (s.outside e.1).getD e.2.ctx))

/-- A context that is not resident changes: it is dirty until a commit holds the change (R226), and the change is fed (R254). -/
def State.modCold (s : State) (i : Nat) (f : Ctx → Ctx) : State :=
  match s.outside i with
  | none => s
  | some c => ({ s with pager := { s.pager with cold := tblIns s.pager.cold i (f c) } }).feed (.state (f c).record)

/-- Change a context wherever it stands: resident, else in the store at the next commit (R226). On the standby contexts change
only through the feed (R255). -/
def State.modAny (s : State) (i : Nat) (f : Ctx → Ctx) : State :=
  if s.pairStandby then s else if s.isHot i then s.modCtx i f else s.modCold i f

/-- The next store sequence number (R227). -/
def State.nextSeq (s : State) : Nat := (s.pager.storeSeq + 1) % 2 ^ 32

/-- What a page being programmed takes for a member: what is resident of it, else the context as it now stands. -/
def State.copyOf (s : State) (m : Nat) : Option (Nat × Ctx) :=
  match if s.isHot m then s.hot m else none with
  | some h => some (m, h.ctx)
  | none => (s.outside m).map (fun c => (m, c))

/-- Program cluster page `k` with what is resident of its members, and with the rest as the store and the journal give them
(R227, R229, R232). -/
def State.programAt (s : State) (k : Nat) (p : ClusterPage) (key : List Byte) : State :=
  let s := s.hwProgram .ctx (4 * k)
  let now := p.members.filterMap (s.copyOf)
  let hot := s.pager.hot.map (fun (e : Nat × HotCtx) => if p.members.contains e.1 then (e.1, { e.2 with newer := false }) else e)
  { s with pager := ({ s.pager with
      store := now.foldl (fun (t : List (Nat × StoredCtx)) (e : Nat × Ctx) => tblIns t e.1 ⟨e.2, key⟩) s.pager.store, hot := hot,
      cold := s.pager.cold.filter (fun e => !(p.members.contains e.1)),
      pages := tblIns s.pager.pages k { p with seq := s.nextSeq }, storeSeq := s.nextSeq }).prune }

/-- Program the cluster page that holds context `i`, where the store key is there. -/
def State.programPage (s : State) (i : Nat) : State :=
  match s.pageOf i, s.storeKey with
  | some (k, p), some key => s.programAt k p key
  | _, _ => s

/-- Is a reservation being programmed? Cluster pages wait for it: the older TX_RSV in a copy must not be the newer page. -/
def State.resvCommit (s : State) : Bool := s.pager.commit.any (fun c => c.recs.any (fun r => r.resv))

/-- Context `i` is marked dead in the store (R251): its page is programmed without it. -/
def State.programDead (s : State) (i : Nat) : State :=
  let gone : State := { s with pager := { s.pager with store := tblDel s.pager.store i } }
  match s.pageOf i with
  | none => gone
  | some (k, p) =>
    let left : ClusterPage := { p with members := p.members.filter (fun m => m != i) }
    match left.members.isEmpty, s.storeKey with
    | false, some key => gone.programAt k left key
    | e, _ =>
      let pages := if e then tblDel s.pager.pages k else tblIns s.pager.pages k left
      ({ gone with pager := ({ gone.pager with pages := pages, storeSeq := s.nextSeq } : PagerState).prune } : State).hwProgram .ctx (4 * k)

/-- The header that governs (R227). -/
def PagerState.header (p : PagerState) : Option HeaderCopy :=
  p.headers.getLast?

/-- The header is programmed over the copy that does not govern (R227). -/
def State.writeHeader (s : State) (hseed epoch : Nat) : State :=
  let new : HeaderCopy := { hseed := hseed, epoch := epoch, format := Config.storeFormat, seq := s.nextSeq }
  ({ s with pager := { s.pager with headers := s.pager.header.toList ++ [new], storeSeq := s.nextSeq } } : State).hwProgram .ctx (4 * (s.nextSeq % 2) + 2)

/-- Did the newest commit end with END and CLEAN (R243, R247)? -/
def PagerState.cleanEnd (p : PagerState) : Bool := p.jpages.getLast?.any (fun g => g.last && g.clean)

/-! ### Commits (R240, R241, R243) -/

/-- P of R241. -/
def commitPages (recs : List JournalRec) : Nat := ceilDiv recs.length 256

/-- The first `n` pages of a commit; END and CLEAN stand on the last one. -/
def JCommit.written (c : JCommit) (n : Nat) : List JournalPage :=
  (List.range n).map (fun j =>
    { seq := (c.seq0 + 1 + j) % 2 ^ 32, recs := (c.recs.drop (256 * j)).take 256, last := j + 1 == c.pages,
      clean := j + 1 == c.pages && c.flush })

/-- Those pages reach NAND. -/
def State.journalPages (s : State) (l : List JournalPage) : State :=
  let s := l.foldl (fun (s : State) g => s.hwProgram .ctx (4 * g.seq + 1)) s
  { s with pager := ({ s.pager with jpages := s.pager.jpages ++ l }).prune }

/-- A commit starts (R240): its pages take their store sequence numbers. -/
def State.beginCommit (s : State) (recs : List JournalRec) (flush immediate : Bool) (startAt pages : Nat) : State :=
  let c : JCommit := { recs := recs, flush := flush, immediate := immediate, startAt := startAt, pages := pages,
                       seq0 := s.pager.storeSeq }
  { s with pager := { s.pager with commit := some c, storeSeq := (s.pager.storeSeq + pages) % 2 ^ 32 } }

/-- When a commit's last page pair is programmed (R241). -/
def JCommit.endAt (c : JCommit) : Nat := c.startAt + us (270 * ceilDiv c.pages 2)

/-- A commit stops before its end: the page pairs programmed by now reach NAND, with one more where a program in progress
completes (R240, R243, R434). -/
def State.cutCommit (s : State) (oneMore : Bool) : State :=
  match s.pager.commit with
  | none => s
  | some c =>
    let n := (s.clk.now - c.startAt) / us 270 + (if oneMore && decide (c.startAt < s.clk.now) then 1 else 0)
    let s := s.journalPages (c.written (min c.pages (2 * n)))
    { s with pager := { s.pager with commit := none } }

/-! ### Fetches (R233, R236) -/

/-- A fetch of a context is wanted; a demand overtakes a prefetch that waits. -/
def State.wantCtx (s : State) (i : Nat) (demand : Bool) : State :=
  let w := s.pager.wants
  match w.find? (fun e => e.1 == i) with
  | some e =>
    if e.2 || !demand then s
    else { s with pager := { s.pager with wants := (w.filter (fun e => e.1 != i)) ++ [(i, true)] } }
  | none => { s with pager := { s.pager with wants := w ++ [(i, demand)] } }

/-- The context whose page is fetched next: a demand fetch in landing order, else a prefetch (R233). -/
def State.nextWant (s : State) : Option (Nat × Bool) :=
  match s.pager.wants.find? (fun e => e.2) with
  | some e => some e
  | none => s.pager.wants.head?

/-- Count a kind of pager event (R260). -/
def State.pgCnt (s : State) (n : Nat) : State := s.inc (PAGER_CNTn_COUNT n)

end Sys2Proof.Machine
end

