-- ==== Sys2Proof/Machine/SeqOps.lean ====
section
/-! DEFINITION. Schedule records (R274–R276), requests of the sequencer (R278, R292–R297) and the durations of the frames
it sends, as shared operations. -/

namespace Sys2Proof.Machine
open Sys2Proof

/-! ### Schedule records (R274, R275) -/

def SchedRec.word (r : SchedRec) (n : Nat) : Nat := r.words.getD n 0
def SchedRec.kind (r : SchedRec) : Nat := bitsOf (r.word 0) 3 0
def SchedRec.path (r : SchedRec) : PathId := pathOf (bitsOf (r.word 0) 4 4)
def SchedRec.ray (r : SchedRec) : Nat := bitsOf (r.word 0) 15 8
def SchedRec.profid (r : SchedRec) : Nat := bitsOf (r.word 0) 20 16
def SchedRec.pidx (r : SchedRec) : Nat := bitsOf (r.word 0) 27 21
/-- PERIOD; a BEACON's 0 means 16,000,000 µs. -/
def SchedRec.period (r : SchedRec) : Nat := if r.kind = 1 && r.word 2 = 0 then 16000000 else r.word 2
def SchedRec.grp (r : SchedRec) : Nat := bitsOf (r.word 3) 7 0
def SchedRec.npos (r : SchedRec) : Nat := bitsOf (r.word 3) 17 8
def SchedRec.syncs (r : SchedRec) : Nat := bitsOf (r.word 3) 23 18
def SchedRec.sdrift (r : SchedRec) : Nat := bitsOf (r.word 3) 31 24
def SchedRec.uplen (r : SchedRec) : Nat := r.word 4
def SchedRec.ggap (r : SchedRec) : Nat := bitsOf (r.word 5) 15 0
def SchedRec.dlofs (r : SchedRec) : Nat := bitsOf (r.word 5) 31 16
def SchedRec.dllen (r : SchedRec) : Nat := bitsOf (r.word 6) 15 0
def SchedRec.gbase (r : SchedRec) : Nat := bitsOf (r.word 6) 31 16
def SchedRec.nb (r : SchedRec) : Nat := bitsOf (r.word 3) 4 0
def SchedRec.init (r : SchedRec) : Bool := bitAt (r.word 3) 8
def SchedRec.probe (r : SchedRec) : Bool := bitAt (r.word 3) 9
def SchedRec.rvbase (r : SchedRec) : Nat := bitsOf (r.word 3) 31 16
def SchedRec.rvlen (r : SchedRec) : Nat := r.word 4
def SchedRec.turn (r : SchedRec) : Nat := bitsOf (r.word 5) 15 0
def SchedRec.drift (r : SchedRec) : Nat := bitsOf (r.word 5) 23 16
def SchedRec.rvmax (r : SchedRec) : Nat := bitsOf (r.word 6) 15 0
def SchedRec.quiet (r : SchedRec) : Nat := bitsOf (r.word 6) 31 16
def SchedRec.dur (r : SchedRec) : Nat := r.word 4

/-- G: the GACK's first chip from S (R281). -/
def SchedRec.gackAt (r : SchedRec) : Nat := r.uplen + r.ggap

/-- Length of an occurrence (R276). -/
def SchedRec.occLen (r : SchedRec) : Nat :=
  match r.kind with
  | 2 => r.uplen + r.ggap + r.dlofs + 1000 * r.dllen
  | 3 => r.rvlen
  | 1 => 0
  | _ => r.dur

/-- Record `n`, where one is enabled. -/
def State.sched (s : State) (n : Nat) : Option SchedRec := tblFind s.seq.recs n

def State.putRec (s : State) (n : Nat) (r : SchedRec) : State :=
  { s with seq := { s.seq with recs := tblIns s.seq.recs n r } }

def State.delRec (s : State) (n : Nat) : State := { s with seq := { s.seq with recs := tblDel s.seq.recs n } }

/-- The occurrence that begins next starts: `next` moves on by PERIOD, a single occurrence leaves none, and GSEQ counts
(R274, R276). -/
def SchedRec.begin_ (r : SchedRec) (s0 : Nat) : SchedRec :=
  { r with occ := some { s0 := s0 }, announced := false, gseq := (r.gseq + 1) % 65536,
           next := if r.period = 0 then none else some (s0 + r.period) }

/-- The next occurrence from microsecond `t` on: a SADDLE record, whose occurrences no event begins, stays at its first. -/
def SchedRec.nextFrom (r : SchedRec) (t : Nat) : Option Nat :=
  match r.next with
  | none => none
  | some u =>
    if r.kind ≠ 7 || decide (t ≤ u) then some u
    else if r.period = 0 then none
    else some (u + ceilDiv (t - u) r.period * r.period)

/-- The record ends its occurrence. -/
def SchedRec.finish (r : SchedRec) : SchedRec := { r with occ := none }

/-- When the armed swap takes effect: at its boundary, or where that passed in Saddle at the first one from now on (R180). -/
def State.swapDue (s : State) : Nat :=
  if s.sqt ≤ s.plan.swapAt then s.plan.swapAt else ceilDiv s.sqt (s.fld SEQ_SLOT_LEN) * s.fld SEQ_SLOT_LEN

/-! ### Times -/

/-- NETTIME × 2^32 at a trunk sample count (R264). -/
def State.ntOfTrunk (s : State) (tr : Nat) : Int :=
  (s.clk.nt : Int) - ((s.clk.now : Int) - ((tr * 5 / 2 : Nat) : Int)) * ((2 ^ 32 : Nat) + s.rate)

/-- Sequencer microseconds at a trunk sample count. -/
def State.usOfTrunk (s : State) (tr : Nat) : Int := s.ntOfTrunk tr / ((2 ^ 32 * 200 : Nat) : Int)

/-- Sequencer microseconds at a cycle near now. -/
def State.usOfCycle (s : State) (c : Nat) : Int :=
  ((s.clk.nt : Int) - ((s.clk.now : Int) - (c : Int)) * ((2 ^ 32 : Nat) + s.rate)) / ((2 ^ 32 * 200 : Nat) : Int)

/-! ### Frame durations -/

/-- Cycles of one chip by RCODE (R93): 100, 200, 400, 800, 1,000 and 2,000 kchip/s. -/
def chipCycles : Nat → Nat
  | 0 => 2000
  | 1 => 1000
  | 2 => 500
  | 3 => 250
  | 4 => 200
  | _ => 100

/-- Preamble length of IL2 (R105). -/
def npre : Nat → Nat
  | 0 => 16
  | 1 => 32
  | _ => 64

/-- Cycles from the first chip after the SFD to the last chip of the frame its header describes (R110–R115, R588). -/
def frameCycles (r : PlanProfile) (len : Nat) (qpsk : Bool) (rate : Nat) : Nat :=
  match r.phy with
  | 0 => (8 + 8 * len + 16) * us 640
  | 1 =>
    let nc := 16 * len + 44
    let nd := 60 + (if qpsk then nc / 2 else nc)
    (nd + ceilDiv nd 8 + 1) * 2 ^ (r.sfexp + 4) * chipCycles r.rcode
  | 2 => (1 + len) * us 32
  | _ => Config.sunPsduCycles rate len

/-- Cycles of the preamble and SFD (R105, R113–R115). -/
def shrCycles (r : PlanProfile) : Nat :=
  match r.phy with
  | 0 => (32 + 16) * us 640
  | 1 => (npre r.pre + 16) * 2 ^ (r.sfexp + 4) * chipCycles r.rcode
  | 2 => us 160
  | _ => Config.sunShrCycles

/-- Duration of a leaf frame of `len` PSDU octets, in µs rounded up (R111). -/
def leafUs (r : PlanProfile) (len : Nat) (qpsk : Bool) : Nat := ceilDiv (shrCycles r + frameCycles r len qpsk 0) 200

/-! ### Hop sequences (R291, R292) -/

/-- One step of the generator of R291. -/
def hopStep (x : Nat) : Nat :=
  let x := x ^^^ (x * 128 % 65536)
  let x := x ^^^ (x / 512)
  x ^^^ (x * 256 % 65536)

/-- Exchange two places of a list. -/
def swapAt_ (l : List Nat) (i j : Nat) : List Nat := (l.set i (l.getD j 0)).set j (l.getD i 0)

/-- The shuffle of R291 from place `i` down. -/
def hopShuffle : Nat → Nat → List Nat → List Nat
  | 0, _, l => l
  | i + 1, x, l =>
    let x := hopStep x
    hopShuffle i x (swapAt_ l (i + 1) (x % (i + 2)))

/-- The permutation of a hop sequence (R291). -/
def hopPerm (nch seed : Nat) : List Nat :=
  hopShuffle (nch - 1) (if seed = 0 then 0xace1 else seed) (List.range nch)

/-- The centre of a hop sequence at sequencer microsecond `t` (R292). -/
def PlanHop.centreAt (h : PlanHop) (t : Nat) : Nat :=
  h.base + (hopPerm h.nch h.seed).getD (t / (1000 * h.hopMs) % h.nch) 0 * h.spacing

/-- The hop sequence of a ray of the active plan. -/
def State.hopOf (s : State) (p : PathId) (n : Nat) : Option PlanHop :=
  match s.activePlan with
  | none => none
  | some q => ((q.ray p n).bind (·.hop)).bind q.hop

/-! ### The order of the events of one microsecond (R272) -/

/-- The next boundary of a hop sequence to be served; where boundaries passed unserved, the latest of them. -/
def State.hopDue (s : State) (h : PlanHop) : Nat :=
  let len := 1000 * h.hopMs
  match tblFind s.seq.hopAt h.hopid with
  | some t => max (t + len) (s.sqt / len * len)
  | none => (s.sqt / len + 1) * len

/-- The hop sequences of the active plan. -/
def State.hops (s : State) : List PlanHop := ((s.activePlan.map (·.hops)).getD []).filter (fun h => h.hopMs != 0)

/-- Does the timing wheel execute events: RUN = 1 (R263) and NETTIME valid (R266)? -/
def State.wheelRuns (s : State) : Bool := s.flag SEQ_CTRL_RUN && s.flag SEQ_STAT_NTVALID

/-- An event of the wheel: its microsecond, its rank in R272 and its record number. -/
structure WheelEv where
  at_ : Nat
  rank : Nat
  num : Nat
  deriving DecidableEq, Repr

/-- The ranked events of a record that have not run: the end of its occurrence, a start and an announcement. A BEACON's request goes
out, and an RVZ's ray is retuned, before the occurrence, so neither is a start here. -/
def State.recDue (s : State) (n : Nat) (r : SchedRec) : List WheelEv :=
  (r.occ.toList.map (fun o => ⟨o.s0 + r.occLen, 3, n⟩)) ++
    (match r.next with
     | none => []
     | some t =>
       (if r.occ.isNone && (r.kind == 2 || (decide (4 ≤ r.kind) && decide (r.kind ≤ 6))) then [⟨t, 4, n⟩] else []) ++
         (if r.kind == 2 && !r.announced then [⟨t - 1000 * s.fld PAGER_CFG_LOOKAHEAD, 4, n⟩] else []))

/-- The ranked events that have not run. -/
def State.wheelDue (s : State) : List WheelEv :=
  (if s.flag SEQ_PLANSTAT_ARMED then [⟨s.swapDue, 1, 0⟩] else []) ++
    (if s.wheelRuns then s.hops.map (fun h => ⟨s.hopDue h, 2, h.hopid⟩) ++ s.seq.recs.flatMap (fun e => s.recDue e.1 e.2) else [])

/-- Is it the turn of an event of rank `k` and record `n` in microsecond `t` (R266, R272): every event of an earlier microsecond, of a
lower rank, and of the same rank with a lower record number, has run? An event that R272 does not rank has rank 0: it waits for the
earlier microseconds alone. -/
def State.inTurn (s : State) (t k n : Nat) : Bool :=
  s.wheelDue.all (fun e => decide (t < e.at_) || (e.at_ == t && (decide (k < e.rank) || (e.rank == k && decide (n ≤ e.num)))))

/-- The pool events of a record (R271): those within 65,535 µs, at most six. A GROUP's are its announcement and the steps of R281 but
the GACK, which is a request; an RVZ's its retune, its start or next turn, and its end (DESIGN CHOICE, log entry 162). -/
def State.recEvents (s : State) (r : SchedRec) : Nat :=
  let mid := match r.occ with
    | none => []
    | some o => (if r.kind = 2 then [o.s0 + r.uplen, o.s0 + r.gackAt - s.fld MAC_GACKCFG_BUILD, o.s0 + r.gackAt + r.dlofs]
        else [o.s0 + o.turn * r.turn]) ++ [o.s0 + r.occLen]
  let next := match r.next with
    | none => []
    | some t => t :: (if r.kind = 2 && !r.announced then [t - 1000 * s.fld PAGER_CFG_LOOKAHEAD]
        else if r.kind = 3 then [t - 1000] else [])
  min 6 ((mid.filter (fun t => decide (s.sqt ≤ t) && decide (t ≤ s.sqt + 65535))).length +
    (next.filter (fun t => decide (t ≤ s.sqt + 65535))).length)

/-- Events of the pool in use: those of the records, and one for each approved request (R271). -/
def State.poolUsed (s : State) : Nat := s.seq.recs.foldl (fun n e => n + s.recEvents e.2) s.seq.approved.length

/-! ### Requests -/

/-- The centre of a ray in Hz at sequencer microsecond `t`: a hopping ray takes the channel of the last hop boundary up to
then, once one has come (R292). -/
def State.rayCentreAt (s : State) (p : PathId) (n : Nat) (t : Int) : Nat :=
  match s.hopOf p n with
  | some h =>
    if h.hopMs ≠ 0 && decide (s.sqt / (1000 * h.hopMs) < t.toNat / (1000 * h.hopMs)) then h.centreAt t.toNat
    else (s.ray p n).par.fr
  | none => (s.ray p n).par.fr

/-- The centre of a request in Hz: that of its ray at its first chip, fixed when it is approved. -/
def State.reqCentre (s : State) (r : TxReq) : Nat := r.carrier.getD (s.rayCentreAt r.path r.ray r.tstart)

/-- The channel a request lies in (R175). -/
def State.reqChannel (s : State) (r : TxReq) : Option PlanChannel := s.channelOf r.path (occBand r.tx (s.reqCentre r))

/-- Order of arrival within one cycle (R278). -/
def ReqKind.rank : ReqKind → Nat
  | .immAck _ => 0
  | .gack _ => 1
  | .beacon _ => 2
  | .ridge _ _ _ => 3
  | .probe _ => 3
  | .downlink _ => 4
  | .assoc => 4

/-- A block asks the sequencer to send a frame: the request waits its turn. -/
def State.ask (s : State) (r : TxReq) : State :=
  { s with seq := { s.seq with nextId := s.seq.nextId + 1,
                               asks := s.seq.asks ++ [{ r with id := s.seq.nextId, askedAt := s.clk.now }] } }

/-- The request that is decided next: the earliest, and by R278 within one cycle. -/
def nextAsk : List TxReq → Option TxReq
  | [] => none
  | r :: t =>
    match nextAsk t with
    | none => some r
    | some q => if q.askedAt < r.askedAt || (q.askedAt == r.askedAt && q.kind.rank < r.kind.rank) then some q else some r

/-- Last chip of a request. -/
def TxReq.last (r : TxReq) : Int := r.tstart + r.lenUs

/-- The later of two requests forms a back-to-back chain with the earlier (R278). -/
def TxReq.chains (later earlier : TxReq) : Bool :=
  later.path == earlier.path && later.id != earlier.id && decide (earlier.last ≤ later.tstart) &&
    decide (later.tstart < earlier.last + 20)

/-- The interval of a request against the others (R278): from its RXTX start, or from the last chip of the request it
is chained to, to 8 µs after its last chip. -/
def TxReq.interval (r : TxReq) (others : List TxReq) : Int × Int :=
  match others.find? (fun e => r.chains e) with
  | some e => (e.last, r.last + 8)
  | none => (r.tstart - 12, r.last + 8)

/-- Do two intervals share a microsecond? -/
def shareUs (a b : Int × Int) : Bool := decide (a.1 < b.2) && decide (b.1 < a.2)

/-- Does a request overlap an approved request or a granted window on its path (R278)? -/
def State.reqOverlaps (s : State) (r : TxReq) : Bool :=
  let ap := s.seq.approved.filter (fun a => a.path == r.path)
  let i := r.interval ap
  ap.any (fun a => !(r.chains a) && !(a.chains r) && shareUs i (a.interval (r :: ap))) ||
    s.seq.grants.any (fun g => g.path == r.path && shareUs i ((g.fromUs : Int), (g.toUs : Int)))

/-- Does an interval cross a hop boundary of the ray (R292)? -/
def State.crossesHop (s : State) (p : PathId) (n : Nat) (i : Int × Int) : Bool :=
  match s.hopOf p n with
  | none => false
  | some h => decide (i.1 / ((1000 * h.hopMs : Nat) : Int) ≠ (i.2 - 1) / ((1000 * h.hopMs : Nat) : Int))

/-- Is the channel of a request one of listen-before-talk, and does the request need a measurement (R297)? -/
def State.needsLbt (s : State) (r : TxReq) : Bool :=
  match r.kind with
  | .immAck _ => false
  | _ => (s.reqChannel r).any (·.lbt) && !(s.seq.approved.any (fun a => r.chains a &&
      (match a.kind with
       | .immAck _ => false
       | _ => true)))

/-- Does the sequencer run a request's measurement itself at T0 (R297): a beacon, a GACK, the first frame of an own turn? -/
def ReqKind.ownLbt : ReqKind → Bool
  | .gack _ => true
  | .beacon _ => true
  | .ridge _ _ _ => true
  | _ => false

/-- T0 of a request's listen interval: TSTART − 14 − group delay − LBTUS, rounded down to 1 µs (R297). -/
def State.lbtT0 (s : State) (r : TxReq) : Int :=
  let prof := (s.activePlan.bind (·.profile r.profid)).getD {}
  ((200 * (r.tstart - 14) - (rayDelay (s.ray r.path r.ray).par.k : Nat)) / 200) - prof.lbtus

def State.lbtUs (s : State) (r : TxReq) : Nat := ((s.activePlan.bind (·.profile r.profid)).getD {}).lbtus

/-- The first failure of the checks of R294 in their order; `Code.OK` where all pass. -/
def State.reqCheck (s : State) (r : TxReq) : Nat :=
  let i := r.interval (s.seq.approved.filter (fun a => a.path == r.path))
  let t := r.tstart.toNat
  let t0 := s.lbtT0 r
  if !(s.flag SEQ_CTRL_RUN) || s.reqOverlaps r then Code.SEQ_CONFLICT
  else if 4096 ≤ s.poolUsed then Code.WHEEL_FULL
  else if s.crossesHop r.path r.ray i then Code.DWELL
  else match s.reqChannel r with
    | none => Code.OK
    | some c =>
      if !(s.dwellOk c t r.lenUs) then Code.DWELL
      else if !(s.dutyOk c t r.lenUs) then Code.DUTY
      else if s.needsLbt r then
        if s.seq.approved.any (fun a => a.path == r.path && shareUs (t0, t0 + s.lbtUs r) (a.interval s.seq.approved)) then
          Code.LBT_INVALID
        else if t0 ≤ (s.sqt : Int) && !r.kind.ownLbt then Code.LBT_BUSY
        else Code.OK
      else Code.OK

/-- The SEQ_CNT register of a refusal (R302). -/
def refuseCnt : Nat → Option Nat
  | 0x26 => some 0
  | 0x27 => some 1
  | 0x35 => some 2
  | 0x36 => some 3
  | 0x37 => some 4
  | 0x38 => some 5
  | _ => none

/-- A refusal of the sequencer is counted (R294). -/
def State.countRefusal (s : State) (code : Nat) : State :=
  let s := s.set1 SEQ_IRQ_REFUSE
  match refuseCnt code with
  | some n => s.inc (SEQ_CNTn_COUNT n)
  | none => s

/-- The approved request with a number. -/
def State.reqOf (s : State) (id : Nat) : Option TxReq := s.seq.approved.find? (fun r => r.id == id)

/-- Take a request off the approved ones. -/
def State.dropReq (s : State) (id : Nat) : State :=
  { s with seq := { s.seq with approved := s.seq.approved.filter (fun r => r.id != id) } }

/-- Change an approved request. -/
def State.modReq (s : State) (id : Nat) (f : TxReq → TxReq) : State :=
  { s with seq := { s.seq with approved := s.seq.approved.map (fun r => if r.id == id then f r else r) } }

/-- The charge of a request goes to its channel's bins (R293, R295). -/
def State.chargeReq (s : State) (r : TxReq) : State :=
  match s.reqChannel r with
  | some c => s.chargeTx c r.tstart.toNat r.lenUs
  | none => s

/-- The charge of a request that radiated nothing is released (R293). -/
def State.releaseReq (s : State) (r : TxReq) : State :=
  match s.reqChannel r with
  | some c => if r.charged then s.releaseTx c r.tstart.toNat r.lenUs else s
  | none => s

/-- The command a request gives its path (R39). -/
def State.reqCmd (s : State) (r : TxReq) : TxCmd :=
  { owner := r.id, tstart := r.tstart, late := r.late, pidx := r.pidx,
    fofs := (s.reqCentre r : Int) - 1000 * ((s.rf r.path).centreKHz : Int), lenUs := r.lenUs, kind := r.tx,
    mask := r.mask }

/-- A request that passed every check goes to its path. -/
def State.sendReq (s : State) (r : TxReq) : State := s.submitTx r.path (s.reqCmd r)

/-- A profile's fields of a request. -/
def State.profOf (s : State) (n : Nat) : PlanProfile := (s.activePlan.bind (·.profile n)).getD {}

/-- CAPIDX of the channel that a ray's centre lies in (R208). -/
def State.rayCap (s : State) (p : PathId) (n : Nat) (k : TxKind) : Nat :=
  ((s.channelOf p (occBand k (s.ray p n).par.fr)).map (·.capidx)).getD 79

end Sys2Proof.Machine
end

