-- ==== Sys2Proof/Machine/RidgeOps.lean ====
section
/-! DEFINITION. The ridge modem as shared operations: neighbours, loading tables (R126–R128, R136–R144), frame lengths
(R135, R138, R150) and the frames of an own turn (R142, R284, R285). -/

namespace Sys2Proof.Machine
open Sys2Proof

/-! ### Neighbours -/

/-- The modem's tables of neighbour `n`. -/
def State.nb (s : State) (n : Nat) : RidgeNb := tblGet {} s.ridge.nbs n

def State.setNb (s : State) (n : Nat) (x : RidgeNb) : State :=
  { s with ridge := { s.ridge with nbs := tblPut {} s.ridge.nbs n x } }

/-- The neighbour record of the active plan (SEQ_RLNB.VALID). -/
def State.planNb (s : State) (n : Nat) : Option PlanNeighbour := s.activePlan.bind (·.neighbour n)

/-- The profile of a neighbour's link. -/
def State.nbProf (s : State) (n : Nat) : PlanProfile := ((s.planNb n).map (fun r => s.profOf r.profid)).getD {}

/-- N of a link by NCODE (R126). -/
def nSub (ncode : Nat) : Nat := 2 ^ (ncode + 4)

/-- The pilot sub-carriers (R126). -/
def pilots : Nat → List Nat
  | 0 => [3, 12]
  | 1 => [3, 11, 20, 28]
  | _ => []

/-- Usable sub-carriers U (R126). -/
def usable (ncode : Nat) : Nat := nSub ncode - (pilots ncode).length

/-- Bits per group of a loading code (R136). -/
def codeBits : Nat → Nat
  | 1 => 8
  | 2 => 16
  | 3 => 24
  | 4 => 4
  | 5 => 2
  | 6 => 1
  | _ => 0

/-- The base loading: BPSK on every usable sub-carrier (R140). -/
def baseTable (ncode : Nat) : List Nat := (List.range (nSub ncode)).map (fun n => if (pilots ncode).contains n then 0 else 1)

/-- The codes of a table; LTID 0 is the base loading. -/
def tableCodes (ncode : Nat) (t : Nat × List Nat) : List Nat := if t.1 = 0 then baseTable ncode else t.2

/-- G: bits per group of a table (R136). -/
def tableG (codes : List Nat) : Nat := codes.foldl (fun n c => n + codeBits c) 0

/-! ### Frame lengths -/

/-- Coded bits of `n` information bits by RATE (R135). -/
def codedBits (rate n : Nat) : Nat :=
  match rate with
  | 0 => 2 * n
  | 1 => n + ceilDiv n 2
  | _ => n + ceilDiv n 3

/-- T of an RL2 frame in µs (R133, R138). -/
def rl2Us (ncode g rate len : Nat) : Nat :=
  let h := ceilDiv 96 (usable ncode)
  let k := ceilDiv (codedBits rate (8 * len + 38)) g
  256 + 48 * (h + 8 * k)

/-- Duration of an RL1 frame in µs (R150). -/
def rl1Us (len : Nat) : Nat := (84 + 4 * len) * 40

/-- CAPIDX of the channel of a link, whose frames lie about fl (R126). -/
def State.linkCap (s : State) (r : PlanNeighbour) : Nat :=
  ((s.channelOf r.path (occBand (s.profOf r.profid).txKind r.fl)).map (·.capidx)).getD 79

/-- The table a frame to a neighbour goes out under: LTID 0 where R49 clamps LINKPIDX (R142). -/
def State.txTable (s : State) (n : Nat) (r : PlanNeighbour) : Nat × List Nat :=
  if (s.txEntry r.path r.linkpidx (s.linkCap r)).2 then (0, []) else (s.nb n).tx

/-- Duration of a frame to a neighbour (R138, R150). -/
def State.ridgeUs (s : State) (n : Nat) (r : PlanNeighbour) (rate len : Nat) : Nat :=
  let prof := s.profOf r.profid
  if prof.phy = 4 then rl1Us len
  else rl2Us prof.ncode (tableG (tableCodes prof.ncode (s.txTable n r))) rate len

/-- The LOAD payload of a table (R141). -/
def loadPayload (ncode ltid : Nat) (codes : List Nat) : List Byte :=
  let hdr : List Byte := [BitVec.ofNat 8 ltid, BitVec.ofNat 8 ncode, 0, 0]
  if ltid = 0 then hdr
  else hdr ++ (List.range (nSub ncode / 2)).map (fun i =>
    BitVec.ofNat 8 (codes.getD (2 * i) 0 % 16 + 16 * (codes.getD (2 * i + 1) 0 % 16)))

/-- Payload of a queued LOAD or QUIET frame. -/
def RidgeCtl.payload (ncode : Nat) : RidgeCtl → List Byte
  | .load l c => loadPayload ncode l c
  | .quiet d _ => leBytes 2 d

/-- Kind of a ridge frame in a request: 0 an entry, 1 a LOAD or QUIET, 2 a keepalive. -/
abbrev ridgeEntry : Nat := 0
abbrev ridgeCtl : Nat := 1
abbrev ridgeKeep : Nat := 2

/-- The reset of a neighbour (R144); an RL1 link has no LOAD frames. -/
def State.resetNb (s : State) (n : Nat) : State :=
  let x := s.nb n
  s.setNb n { x with tx := (0, []), cur := (0, []), off := none, queued := if (s.nbProf n).phy = 5 then x.queued ++ [.load 0 []] else x.queued }

/-! ### Ridge transmit entries (R285) -/

/-- Address of entry `i` of the ridge transmit pool. -/
def State.ridgeAddr (s : State) (i : Nat) : Nat := (s.rd SEQ_TXPOOL).toNat / 4096 * 4096 + 4096 * i

/-- An entry completes. -/
def State.ridgeDone (s : State) (e status : Nat) : State :=
  let s := s.memPutLe (s.ridgeAddr e) 1 status
  ({ s with seq := { s.seq with ridgeq := s.seq.ridgeq.filter (fun (x : RidgeEnt) => x.ent != e),
                                ridgeDone := s.seq.ridgeDone ++ [(e, status)] } }).set1 SEQ_IRQ_TXDONE

/-- Mark an entry as asked for, or as waiting again. -/
def State.ridgeMark (s : State) (e : Nat) (b : Bool) : State :=
  { s with seq := { s.seq with ridgeq := s.seq.ridgeq.map (fun (x : RidgeEnt) =>
      if x.ent == e then { x with sending := b } else x) } }

/-! ### Filling an own turn (R284) -/

def State.setTurn (s : State) (t : TurnState) : State :=
  { s with seq := { s.seq with turns := s.seq.turns.map (fun (x : TurnState) => if x.recn == t.recn then t else x) } }

/-- Ask for a frame of the turn: its carrier is fl, whatever centre the ray has for reception (R126, R129). -/
def State.askRidge (s : State) (t : TurnState) (r : PlanNeighbour) (ent : Option Nat) (kind lenUs : Nat)
    (psdu : List Byte) : State :=
  let prof := s.profOf r.profid
  let q : TxReq := { kind := .ridge t.nb ent kind, path := r.path, ray := r.ray, profid := r.profid, pidx := r.linkpidx,
                     tstart := t.nextUs, lenUs := lenUs, psdu := psdu, tx := prof.txKind, mask := some prof.mask,
                     carrier := some r.fl }
  (s.setTurn { t with any := true, nextUs := t.nextUs + lenUs }).ask q

/-- Requests of a neighbour that are asked for or approved. -/
def State.ridgeBusy (s : State) (n : Nat) : List TxReq :=
  (s.seq.asks ++ s.seq.approved).filter (fun r =>
    match r.kind with
    | .ridge m _ _ => m == n
    | _ => false)

/-- How many of the neighbour's queued LOAD and QUIET frames are already asked for. -/
def State.ctlBusy (s : State) (n : Nat) : Nat :=
  ((s.ridgeBusy n).filter (fun r =>
    match r.kind with
    | .ridge _ _ 1 => true
    | _ => false)).length

/-- Is a ridge frame one that a partner's quiet interval bars: does it start before the interval ends (R145)? -/
def State.quietBars (s : State) (r : TxReq) : Bool :=
  match r.kind with
  | .ridge n _ _ => decide (s.clk.now < (s.nb n).quietUntil) && decide (r.tstart < s.usOfCycle ((s.nb n).quietUntil + 199))
  | _ => false

/-- The first queued LOAD or QUIET frame that is not asked for yet leaves the queue unsent: it is longer than 8,000 µs and is
refused with RL_TOOLONG (R138; that it leaves the queue: DESIGN CHOICE, log entry 157). -/
def State.dropCtl (s : State) (n : Nat) : State :=
  let x := s.nb n
  s.setNb n { x with queued := x.queued.eraseIdx (s.ctlBusy n) }

/-- Entries that cannot be sent complete at once: RL_TOOLONG (R138), and NOFIT in an empty turn (R285). Otherwise the
next frame is asked for: a queued LOAD or QUIET, else the oldest entry, else a keepalive first. -/
def State.fillTurn (s : State) (t : TurnState) : Nat → State
  | 0 => s
  | fuel + 1 =>
    match s.planNb t.nb with
    | none => s
    | some r =>
      let prof := s.profOf r.profid
      let x := s.nb t.nb
      let ctl := Config.ctlRate % 3
      let long := fun (d : Nat) => prof.phy == 5 && decide (8000 < d)
      if 1 < (s.ridgeBusy t.nb).length then s
      else
        match x.queued.drop (s.ctlBusy t.nb), s.seq.ridgeq.find? (fun e => e.nb == t.nb && !e.sending) with
        | c :: _, _ =>
          let p := c.payload prof.ncode
          let d := s.ridgeUs t.nb r ctl p.length
          if long d then (s.dropCtl t.nb).fillTurn t fuel
          else if t.endUs < t.nextUs + d then s else s.askRidge t r none ridgeCtl d p
        | [], some e =>
          let d := s.ridgeUs t.nb r e.rate e.len
          if long d then (s.ridgeDone e.ent Code.RL_TOOLONG).fillTurn t fuel
          else if t.endUs < t.nextUs + d then
            if t.any then s else (s.ridgeDone e.ent Code.NOFIT).fillTurn t fuel
          else (s.ridgeMark e.ent true).askRidge t r (some e.ent) ridgeEntry d (s.memBytes (s.ridgeAddr e.ent + 0x20) e.len)
        | [], none =>
          let d := s.ridgeUs t.nb r ctl 1
          if t.any || long d || t.endUs < t.nextUs + d then s else s.askRidge t r none ridgeKeep d [0]

/-- Every own turn that is open goes on. -/
def State.pumpTurns (s : State) : State :=
  s.seq.turns.foldl (fun s t => if (s.sqt : Int) < t.endUs then s.fillTurn t 65 else s) s

/-- A ridge frame has ended (R285, R290): a LOAD or QUIET that was radiated leaves the queue, and a QUIET for a probe
notes when it ended. -/
def State.ridgeEnded (s : State) (r : TxReq) (n : Nat) (ent : Option Nat) (kind code : Nat) (radiated : Bool) : State :=
  match ent with
  | some e =>
    if radiated then (s.memPutLe (s.ridgeAddr e + 0xc) 4 (unsignedOf 32 r.tstart)).ridgeDone e code
    else s.ridgeMark e false
  | none =>
    if kind = ridgeCtl && radiated then
      let x := s.nb n
      match x.queued with
      | [] => s
      | c :: rest =>
        let s := s.setNb n { x with queued := rest }
        match c with
        | .quiet _ true =>
          { s with seq := { s.seq with recs := s.seq.recs.map (fun (e : Nat × SchedRec) =>
              if e.2.kind == 3 && e.2.nb == n then
                (e.1, { e.2 with occ := e.2.occ.map (fun o => { o with quietAt := some r.last.toNat }) })
              else e) } }
        | _ => s
    else s

end Sys2Proof.Machine
end

