-- ==== Sys2Proof/Machine/MacOps.lean ====
section
/-! DEFINITION. The leaf MAC as shared operations: frame formats (R183–R190, R214), the acceptance rule (R198), how a
frame ends (R201, R220, R221), GACK records (R205–R207), acknowledgements (R208, R209), join responses (R210–R213),
downlinks (R216–R219), and what follows the end of a transmission. -/

namespace Sys2Proof.Machine
open Sys2Proof

/-! ### Frame formats -/

/-- Octet `i` of a frame. -/
def oct (b : List Byte) (i : Nat) : Nat := (b.getD i 0).toNat

/-- Little-endian value of `n` octets from `i`. -/
def octLe (b : List Byte) (i n : Nat) : Nat := leNat ((b.drop i).take n)

/-- The node address of an EUI-64 in a network (R189). -/
def addrOf (eui : List Byte) (netid : Nat) : Nat :=
  crcBits 32 0x04c11db7 0xffffffff ((eui ++ leBytes 2 netid).flatMap octetBits)

/-- Does an IL2 frame break R183, as far as its octets tell? -/
def il2Bad (b : List Byte) (len : Nat) : Bool :=
  let fcf := oct b 0
  let ty := fcf % 16
  bitAt fcf 4 || bitAt fcf 5 || bitsOf fcf 7 6 != 0 ||
    (match ty with
     | 1 => decide (len < 20) || bitsOf (oct b 1) 7 1 != 0
     | 3 => decide (len < 24) || oct b 1 != 0
     | 4 => decide (len < 21) || bitsOf (oct b 1) 7 1 != 0
     | _ => true) || decide (255 < len)

/-- Octets an IL2 frame needs for its key (R196). -/
def il2Need (b : List Byte) : Nat := if oct b 0 % 16 = 3 then 12 else 8

/-- What the header of an IEEE 802.15.4 frame says (R214). -/
structure Mhr where
  ftype : Nat := 0
  sec : Bool := false
  ar : Bool := false
  bad : Bool := false
  ver : Nat := 0
  seq : Nat := 0
  dstMode : Nat := 0
  dstPan : Option Nat := none
  dst : Nat := 0
  srcMode : Nat := 0
  srcPan : Option Nat := none
  src : List Byte := []
  addrEnd : Nat := 0
  deriving DecidableEq, Repr

def modeLen : Nat → Nat
  | 2 => 2
  | 3 => 8
  | _ => 0

/-- Are the destination and the source PAN ID present (IEEE 802.15.4-2020, PAN ID compression)? -/
def panFields (ver dm sm : Nat) (comp : Bool) : Bool × Bool :=
  if ver = 2 then
    match dm, sm with
    | 0, 0 => (comp, false)
    | _, 0 => (!comp, false)
    | 0, _ => (false, !comp)
    | 3, 3 => (!comp, false)
    | _, _ => (true, !comp)
  else (dm != 0, sm != 0 && !(comp && dm != 0))

/-- Parse the addressing of an 802.15.4 frame. -/
def parseMhr (b : List Byte) : Mhr :=
  let fcf := octLe b 0 2
  let ver := bitsOf fcf 13 12
  let dm := bitsOf fcf 11 10
  let sm := bitsOf fcf 15 14
  let pans := panFields ver dm sm (bitAt fcf 6)
  let i1 := 3 + (if pans.1 then 2 else 0)
  let i2 := i1 + modeLen dm
  let i3 := i2 + (if pans.2 then 2 else 0)
  let i4 := i3 + modeLen sm
  let ft := fcf % 8
  let ar := bitAt fcf 5
  let dp := if pans.1 then some (octLe b 3 2) else none
  { ftype := ft, sec := bitAt fcf 3, ar := ar,
    bad := ver == 3 || (ver == 2 && (ar || bitAt fcf 8 || bitAt fcf 9)) || !(ft == 1 || ft == 3) || dm == 1 || sm == 1,
    ver := ver, seq := oct b 2, dstMode := dm, dstPan := dp, dst := octLe b i1 (modeLen dm), srcMode := sm,
    srcPan := if pans.2 then some (octLe b i2 2) else dp, src := (b.drop i3).take (modeLen sm), addrEnd := i4 }

/-- The auxiliary security header of a short-source frame breaks the subset of R214, or the frame cannot hold it. -/
def auxBad (b : List Byte) (m : Mhr) (len : Nat) : Bool :=
  let sc := oct b m.addrEnd
  sc % 8 != 6 || bitsOf sc 4 3 != 1 || bitAt sc 5 || !(oct b (m.addrEnd + 5) == 1 || oct b (m.addrEnd + 5) == 2) ||
    decide (len < m.addrEnd + 6 + 8 + 2) || decide (127 < len)

/-- Does a frame lie outside the subset of R214, as far as its first `avail` octets tell? One too short for its addressing fields
and FCS does. -/
def form154Bad (b : List Byte) (m : Mhr) (len avail : Nat) : Bool :=
  m.bad || decide (len < m.addrEnd + 2) || decide (127 < len) ||
    (m.srcMode == 2 && (!m.sec || (decide (m.addrEnd + 6 ≤ avail) && auxBad b m len)))

/-- Octets an 802.15.4 frame needs for its key, or to be told apart from one with a key. -/
def mhrNeed (b : List Byte) : Nat := (parseMhr b).addrEnd

/-- The destination is the collector (R214): its PAN, or broadcast, and its short address, or broadcast. -/
def State.dstOurs (s : State) (m : Mhr) : Bool :=
  let pan := s.fld MAC_154ADDR_PAN
  pan != 0xffff && m.dstPan.any (fun p => p == pan || p == 0xffff) && m.dstMode == 2 &&
    (m.dst == s.fld MAC_154ADDR_SHORT || m.dst == 0xffff)

/-! ### The acceptance rule -/

/-- The octets of a slot. -/
def State.slotBytes (s : State) (n len : Nat) : List Byte := s.memBytes (slotAddr n + 0x20) len

/-- A lookup (R194, R198): rejected as DIR_ECC or UNKNOWN_SRC or BLOCKED, or PROCEED with what it latches. -/
def State.lookup (s : State) (x : MacFrame) (key cls : Nat) (ecc : Bool) : MacFrame :=
  let x := { x with key := key, cls := cls }
  if s.setUnread (s.dirSet key) ecc then { x with verdict := some (.reject Code.DIR_ECC) }
  else
    match s.dirFind key cls with
    | none => { x with verdict := some (.reject Code.UNKNOWN_SRC) }
    | some i =>
      let e := s.dirAt i
      if e.block then { x with verdict := some (.reject Code.BLOCKED) }
      else { x with verdict := some .proceed, pend := e.pend, ctx := e.ctx }

/-- The verdict of R198 on an IL2 frame. -/
def State.verdictIl2 (s : State) (x : MacFrame) (b : List Byte) (len : Nat) (ecc : Bool) : MacFrame :=
  let ty := oct b 0 % 16
  let x := { x with ftype := ty }
  if il2Bad b len then { x with verdict := some (.reject Code.FMT_BAD) }
  else if octLe b 2 2 ≠ s.fld MAC_NETID_NETID then { x with verdict := some (.reject Code.FOREIGN) }
  else if ty = 3 then
    let addr := addrOf ((b.drop 4).take 8) (octLe b 2 2)
    let x := { x with key := addr }
    if s.setUnread (s.dirSet addr) ecc then { x with verdict := some (.reject Code.DIR_ECC) }
    else { x with verdict := some .join }
  else s.lookup { x with keyIdx := oct b 1 % 2 } (octLe b 4 4) 0 ecc

/-- The verdict of R198 on an 802.15.4 frame. -/
def State.verdict154 (s : State) (x : MacFrame) (b : List Byte) (len avail : Nat) (ecc : Bool) : MacFrame :=
  let m := parseMhr b
  let x := { x with ftype := m.ftype, cls := 1 }
  if form154Bad b m len avail then { x with verdict := some (.reject Code.FMT_BAD) }
  else if !(s.dstOurs m) then { x with verdict := some (.reject Code.FOREIGN) }
  else if m.srcMode ≠ 2 then { x with verdict := some .join }
  else s.lookup x (65536 * m.srcPan.getD 0 + leNat m.src) 1 ecc

/-- The record of a frame with its verdict, when its first `avail` octets have been released. -/
def State.verdictOf (s : State) (x : MacFrame) (n len avail : Nat) (ecc : Bool) : MacFrame :=
  let b := s.slotBytes n len
  if x.phy = 1 then s.verdictIl2 x b len ecc else s.verdict154 x b len avail ecc

/-! ### How a frame ends -/

/-- The MAC_CNT register of an outcome (R224). -/
def macCntOf (code : Nat) : Option Nat :=
  [(Code.OK, 0), (Code.DUP, 1), (Code.REPLAY, 2), (Code.MIC_FAIL, 3), (Code.FC_EXHAUSTED, 4), (Code.UNKNOWN_SRC, 5),
   (Code.FOREIGN, 6), (Code.BLOCKED, 7), (Code.FMT_BAD, 8), (Code.DIR_ECC, 9), (Code.CTX_LATE, 10),
   (Code.CIPHER_DOWN, 11), (Code.SLOT_MISMATCH, 12), (Code.JOIN_CLOSED, 14), (Code.SET_FULL, 15),
   (Code.CAPACITY, 16)].lookup code

/-- Count an event of the MAC. -/
def State.macCnt (s : State) (n : Nat) : State := s.inc (MAC_CNTn_COUNT n)

/-- Count an outcome. -/
def State.countOutcome (s : State) (code : Nat) : State :=
  match macCntOf code with
  | some n => s.macCnt n
  | none => s

/-- MACINFO of R221. -/
def MacFrame.info (x : MacFrame) (join rejoin plain : Bool) : Nat :=
  let b := fun (y : Bool) (n : Nat) => if y then 2 ^ n else 0
  x.ctx % 2 ^ 18 + b (x.cls == 1) 18 + b (x.keyIdx == 1) 19 + b x.pend 20 + b join 21 + b rejoin 22 + b plain 23 +
    2 ^ 24 * (x.ftype % 16)

/-- Post a landed frame with its status, KEY and MACINFO (R220, R221). -/
def State.postFrame (s : State) (n : Nat) (x : MacFrame) (status : Nat) (join rejoin plain : Bool) : State :=
  let a := slotAddr n
  let s := ((s.memPutLe a 1 status).memPutLe (a + 0x18) 4 x.key).memPutLe (a + 0x1c) 4 (x.info join rejoin plain)
  (s.postSlot n).set1 MAC_IRQ_DELIV

/-- The acknowledgement that waits for a frame's outcome learns it. -/
def State.decideAck (s : State) (n : Nat) (yes : Bool) : State :=
  { s with mac := { s.mac with acks := s.mac.acks.map (fun a =>
      if a.slot == n && a.decided.isNone then { a with decided := some yes } else a) } }

/-- A frame that is not delivered: counted, never acknowledged, freed, or posted when KEEPREJ = 1 (R198, R220). DUP is
the one such outcome that is acknowledged. -/
def State.rejectFrame (s : State) (n : Nat) (x : MacFrame) (code : Nat) : State :=
  let s := (s.countOutcome code).decideAck n (code == Code.DUP)
  let s := if code = Code.CTX_LATE then (s.pgCnt 4).set1 PAGER_IRQ_CTXLATE else s
  let s := if code = Code.REPLAY then s.set1 MAC_IRQ_REPLAY else s
  let s := if code = Code.REPLAY || code = Code.FC_EXHAUSTED then s.logPut 8 code 0 x.key else s
  if s.flag MAC_CTRL_KEEPREJ then s.postFrame n x code false false false else s.freeSlot n

/-- Frames that satisfy `hit` end with a code. -/
def State.rejectAll (s : State) (code : Nat) (hit : MacFrame → Bool) : State :=
  (s.mac.frames.filter (fun e => hit e.2)).foldl (fun s e => s.rejectFrame e.1 e.2 code) s

/-! ### GACK records -/

/-- The record of an occurrence of a GROUP record. -/
def State.gackOf (s : State) (recn s0 : Nat) : Option GackRec :=
  s.mac.gacks.find? (fun g => g.recn == recn && g.s0 == s0)

def State.setGack (s : State) (g : GackRec) : State :=
  { s with mac := { s.mac with gacks := s.mac.gacks.map (fun x => if x.recn == g.recn && x.s0 == g.s0 then g else x) } }

/-- A record for an occurrence that starts at `s0`, unless there is one (R205). -/
def State.openGack (s : State) (recn s0 gseq : Nat) (r : SchedRec) : State :=
  if (s.gackOf recn s0).isSome then s
  else { s with mac := { s.mac with gacks := s.mac.gacks ++
      [{ recn := recn, grp := r.grp, gseq := gseq, npos := r.npos, s0 := s0 }] } }

/-- M(m) of R281. -/
def SchedRec.margin (r : SchedRec) (m : Nat) : Nat := r.gbase + 2 * r.sdrift * r.syncs * (m + 1)

/-- Does a frame's time lie in the group's window, extended for MISS = m (R281)? -/
def State.inWindow (s : State) (g : GackRec) (t : Int) (m : Nat) : Bool :=
  match s.sched g.recn with
  | none => false
  | some r =>
    let lo : Int := (g.s0 : Int) - r.margin m
    let hi : Int := min ((g.s0 + r.uplen + r.margin m : Nat) : Int)
      (((g.s0 + r.gackAt : Nat) : Int) - s.fld MAC_GACKCFG_BUILD)
    decide (lo ≤ t) && decide (t < hi)

/-- Groups whose next occurrence already credits early frames get their record (R281: the window opens at S − M). -/
def State.earlyGacks (s : State) (t : Int) (m : Nat) : State :=
  s.seq.recs.foldl (fun s e =>
    match e.2.kind, e.2.next with
    | 2, some n => if (n : Int) - e.2.margin m ≤ t && t < (n : Int) then s.openGack e.1 n e.2.gseq e.2 else s
    | _, _ => s) s

/-- The context with the placement that holds for a group cycle: a MOVE takes effect for cycles announced after it
(R249). -/
def State.placedFor (s : State) (c : Ctx) (grp gseq : Nat) : Ctx :=
  match s.pager.moved.find? (fun m => m.ctx == c.ctxid && m.cycles.contains (grp, gseq)) with
  | some m => { c with grp := m.grp, pos := m.pos, periodc := m.periodc, phasec := m.phasec }
  | none => c

/-- Is a context due in a group cycle (R225, R234)? -/
def Ctx.due (c : Ctx) (grp gseq : Nat) : Bool :=
  c.grp == grp && c.periodc != 0 && gseq % c.periodc == c.phasec

/-- The group record that credits a frame of context `c`, and the node's position in it (R205, R281). -/
def State.creditGroup (s : State) (c : Ctx) (t : Int) : Option (GackRec × Nat) :=
  (s.mac.gacks.find? (fun g => g.grp == (s.placedFor c g.grp g.gseq).grp && s.inWindow g t c.miss)).map
    (fun g => (g, (s.placedFor c g.grp g.gseq).pos))

/-- The group whose uplink window holds a time (R211). -/
def State.groupAt (s : State) (t : Int) : Option Nat :=
  (s.mac.gacks.find? (fun g =>
    match s.sched g.recn with
    | none => false
    | some r => decide ((g.s0 : Int) ≤ t) && decide (t < ((g.s0 + r.uplen : Nat) : Int)))).map (·.grp)

/-- A group's record with the ACK bit of a position, and the PEND bit of the frame with the latest verdict (R205). A position at
or above NPOS has no bit (R187). -/
def GackRec.credit (g : GackRec) (pos : Nat) (x : MacFrame) : GackRec :=
  if g.npos ≤ pos then g
  else
    let g := { g with acks := if g.acks.contains pos then g.acks else g.acks ++ [pos] }
    if (tblFind g.at_ pos).any (fun t => decide (x.decidedAt < t)) then g
    else
      { g with at_ := tblIns g.at_ pos x.decidedAt,
               pends := if x.pend then (if g.pends.contains pos then g.pends else g.pends ++ [pos]) else g.pends.erase pos }

/-- A frame of a node of the group is credited to its record, or is counted ACK_MISS after the freeze (R205, R206). -/
def State.creditFrame (s : State) (g : GackRec) (pos : Nat) (x : MacFrame) : State :=
  if g.frozen then (s.macCnt 18).set1 MAC_IRQ_ACKMISS else s.setGack (g.credit pos x)

/-! ### Join responses (R211–R213) -/

/-- MAC_JRESPCMD.FULL follows the list. -/
def State.showJresp (s : State) : State := s.setBool MAC_JRESPCMD_FULL (decide (32 ≤ s.mac.jresp.length))

/-- A join response joins the list, or is not carried and JRFULL sets (R213). -/
def State.putJresp (s : State) (j : JoinResp) : State :=
  if 32 ≤ s.mac.jresp.length then s.set1 MAC_IRQ_JRFULL
  else ({ s with mac := { s.mac with jresp := s.mac.jresp ++ [j] } }).showJresp

/-- The join responses that a group's GACK carries: at most 8, oldest first, with those of no group (R211, R213). -/
def takeJresp (grp : Nat) : Nat → List JoinResp → List JoinResp × List JoinResp
  | _, [] => ([], [])
  | 0, l => ([], l)
  | n + 1, j :: t =>
    if j.grp == some grp || j.grp.isNone then
      let r := takeJresp grp n t
      (j :: r.1, r.2)
    else
      let r := takeJresp grp (n + 1) t
      (r.1, j :: r.2)

/-- A GACK is not sent: its record is discarded and its join responses return to the head of the list (R207). -/
def State.gackLost (s : State) (g : GackRec) : State :=
  let s := s.setGack { g with frozen := true, asked := true, ended := true, acks := [], pends := [], jrs := [] }
  (({ s with mac := { s.mac with jresp := g.jrs ++ s.mac.jresp } }).showJresp).macCnt 20

/-! ### Keys -/

/-- The key in a cipher slot. -/
def State.slotKey (s : State) (n : Nat) : Option (List Byte) := (tblGet {} s.cipher.keys n).key

/-- The TAG of a BEACON or GACK under the network key (R191); an empty slot leaves it a free value. -/
def State.netTag (s : State) (msg : List Byte) : List Byte × State :=
  match s.slotKey (s.fld MAC_KEYSLOT_NK) with
  | some k => ((cmac (k.take (if k.length = 64 then 32 else k.length)) msg).take 8, s)
  | none =>
    let (v, s) := s.fresh
    (leBytes 8 v, s)

/-- The session key of an index where its valid bit is set (R192). -/
def Ctx.keyAt (c : Ctx) (i : Nat) : Option (List Byte) :=
  if i = 0 then (if c.k0 then some c.key0 else none) else (if c.k1 then some c.key1 else none)

def Ctx.rxfc (c : Ctx) (i : Nat) : Nat := if i = 0 then c.rxfc0 else c.rxfc1

def Ctx.setRxfc (c : Ctx) (i v : Nat) : Ctx := if i = 0 then { c with rxfc0 := v } else { c with rxfc1 := v }

/-- The nonce of R190. -/
def il2Nonce (eui : List Byte) (fc ty keyIdx dir : Nat) : List Byte :=
  eui ++ leBytes 4 fc ++ [BitVec.ofNat 8 (ty + 16 * keyIdx + 128 * dir)]

/-- The nonce of IEEE 802.15.4: source address, frame counter and security level, most significant octet first. -/
def nonce154 (eui : List Byte) (fc : Nat) : List Byte := eui.reverse ++ beBytes 4 fc ++ [6]

/-- The frame counter a frame carries, and its payload where the MIC verifies (R190, R192, R214). -/
def openFrame (x : MacFrame) (b : List Byte) (c : Ctx) : Nat × Nat × Option (List Byte) :=
  if x.phy = 1 then
    let fc := octLe b 8 4
    (fc, 12, (c.keyAt x.keyIdx).bind (fun k =>
      ccmOpen k (il2Nonce c.eui fc x.ftype x.keyIdx 0) (b.take 12) ((b.drop 12).take (x.len - 20)) ((b.drop (x.len - 8)).take 8)))
  else
    let m := parseMhr b
    let fc := octLe b (m.addrEnd + 1) 4
    let h := m.addrEnd + 6
    (fc, h, (c.keyAt x.keyIdx).bind (fun k =>
      ccmOpen k (nonce154 c.eui fc) (b.take h) ((b.drop h).take (x.len - h - 10)) ((b.drop (x.len - 10)).take 8)))

/-! ### Downlinks (R216–R219) -/

/-- Address of entry `i` of the downlink pool. -/
def State.dlAddr (s : State) (i : Nat) : Nat := (s.rd MAC_DLPOOL).toNat / 1024 * 1024 + 288 * i

/-- MAC_DLSTAT follows. -/
def State.showDl (s : State) : State :=
  (s.setFld MAC_DLSTAT_QUEUED s.mac.dlq.length).setFld MAC_DLSTAT_DONE s.mac.dldone.length

/-- The class that a node downlink's KIND implies. -/
def DlEnt.cls (d : DlEnt) : Nat := if d.kind = 3 then 1 else 0

/-- Is it an entry of a node's queue? -/
def DlEnt.ofNode (d : DlEnt) : Bool := d.kind == 0 || d.kind == 1 || d.kind == 3

/-- An entry is returned to MAC_DLDONEQ with its status (R216, R219); PEND clears when its node's queue empties (R217). -/
def State.dlDone (s : State) (d : DlEnt) (status : Nat) : State :=
  let s := s.memPutLe (s.dlAddr d.ent) 1 status
  let s := { s with mac := { s.mac with dlq := s.mac.dlq.filter (fun x => x.ent != d.ent),
                                        dldone := s.mac.dldone ++ [(d.ent, status)] } }
  let s := (s.showDl).set1 MAC_IRQ_DLDONE
  let s := if status = Code.DL_EXPIRED then s.macCnt 22 else s
  if d.ofNode && !(s.mac.dlq.any (fun x => x.ofNode && x.key == d.key && x.cls == d.cls)) then
    s.dirMod d.key d.cls (fun e => { e with pend := false })
  else s

/-- The resident context of a directory key. -/
def State.ctxOfKey (s : State) (key cls : Nat) : Option (Nat × HotCtx) :=
  match s.dirFind key cls with
  | none => none
  | some i => (s.hot (s.dirAt i).ctx).map (fun h => ((s.dirAt i).ctx, h))

/-- Is the counter one of a reservation that the active member has yet to send to its standby (R254)? -/
def State.resvUnsent (s : State) (i : Nat) (c : Ctx) : Bool :=
  s.pager.feedOut.any (fun x =>
    match x with
    | .reserve r => r.ctx == i && decide (r.txv ≤ c.txfc + 4096)
    | _ => false)

/-- May the MAC build a frame with the context's next counter (R245, R252, R254)? -/
def State.mayBuild (s : State) (i : Nat) (c : Ctx) : Bool :=
  decide (c.txfc < c.txrsv) && !(s.pager.resvNew.contains i) && !(s.pairStandby) && !(s.resvUnsent i c)

/-- A counter of the context is used: TX_FC advances, and the next block is reserved when RSVLEAD is reached (R245). -/
def State.useFc (s : State) (i : Nat) : State :=
  match s.hot i with
  | none => s
  | some h =>
    let fc := h.ctx.txfc + 1
    (s.modCtx i (fun c => { c with txfc := fc })).leadReserve i { h.ctx with txfc := fc }

/-- The PSDU of an IL2 DATA or COMMAND downlink (R184, R190). -/
def il2Down (netid ty keyIdx : Nat) (more : Bool) (c : Ctx) (key pt : List Byte) : List Byte :=
  let fcf := ty + 16 + (if more then 32 else 0)
  let hdr := [BitVec.ofNat 8 fcf, BitVec.ofNat 8 keyIdx] ++ leBytes 2 netid ++ leBytes 4 c.key ++ leBytes 4 c.txfc
  let r := ccmSeal key (il2Nonce c.eui c.txfc ty keyIdx 1) hdr pt 8
  hdr ++ r.1 ++ r.2

/-- The PSDU of an 802.15.4 data downlink (R218); `own` is the extended address of the collector, which
the spec does not give. -/
def data154 (short keyIdx : Nat) (more : Bool) (own : List Byte) (c : Ctx) (key pt : List Byte) : List Byte :=
  let fcf := 1 + 8 + (if more then 16 else 0) + 64 + 2 * 1024 + 4096 + 2 * 16384
  let hdr := leBytes 2 fcf ++ leBytes 1 c.txfc ++ leBytes 2 (c.key / 65536) ++ leBytes 2 c.key ++ leBytes 2 short ++
    [0x0e] ++ leBytes 4 c.txfc ++ [BitVec.ofNat 8 (keyIdx + 1)]
  let r := ccmSeal key (nonce154 own c.txfc) hdr pt 8
  withFcs (hdr ++ r.1 ++ r.2)

/-- The entry is marked as in transmission. -/
def State.markSending (s : State) (e : Nat) (b : Bool) : State :=
  { s with mac := { s.mac with dlq := s.mac.dlq.map (fun d => if d.ent == e then { d with sending := b } else d) } }

/-- Payload of an entry. -/
def State.dlData (s : State) (d : DlEnt) : List Byte := s.memBytes (s.dlAddr d.ent + 0x20) d.len

/-- Does EXPIRY pass before a start (R219)? -/
def State.lateFor (s : State) (d : DlEnt) (tstart : Int) : Bool := decide (timeOf32 s.sqt d.expiry < tstart)

/-- Entries of the same node posted after an entry (R218). -/
def State.nodeAfter (s : State) (d : DlEnt) : Bool :=
  ((s.mac.dlq.dropWhile (fun x => x.ent != d.ent)).drop 1).any (fun x => x.ofNode && x.key == d.key && x.cls == d.cls)

/-- Build a node downlink and ask for it at `tstart`, at most ending by `close`: none where it does not fit, where its
counter is not reserved, or where its context is not resident (R218, R245, R282). -/
def State.sendNode (s : State) (d : DlEnt) (path : PathId) (ray profid pidx : Nat) (tstart : Int) (close : Option Nat) :
    Option State :=
  match s.ctxOfKey d.key d.cls with
  | none => none
  | some (i, h) =>
    let c := h.ctx
    let more := s.nodeAfter d
    let prof := s.profOf profid
    let ty := if d.kind = 1 then 4 else 1
    match c.keyAt c.keyuse, s.mayBuild i c with
    | some k, true =>
      let (v, s1) := s.fresh
      let psdu := if d.kind = 3 then data154 (s.fld MAC_154ADDR_SHORT) c.keyuse more (leBytes 8 v) c k (s.dlData d)
        else il2Down (s.fld MAC_NETID_NETID) ty c.keyuse more c k (s.dlData d)
      let lenUs := leafUs prof psdu.length (Config.sentQpsk 2)
      if close.any (fun t => decide ((t : Int) < tstart + lenUs)) then none
      else
        let s1 := (s1.useFc i).memPutLe (s.dlAddr d.ent + 0x10) 4 c.txfc
        some ((s1.markSending d.ent true).ask
          { kind := .downlink d.ent, path := path, ray := ray, profid := profid, pidx := pidx, tstart := tstart,
            lenUs := lenUs, psdu := psdu, tx := prof.txKind, mask := some prof.mask, fc := c.txfc })
    | _, _ => none

/-- Ask for a RAW downlink (kinds 2 and 4). -/
def State.sendRaw (s : State) (d : DlEnt) (path : PathId) (ray profid pidx : Nat) (tstart : Int) (close : Option Nat) :
    Option State :=
  let prof := s.profOf profid
  let psdu := if d.kind = 4 then withFcs (s.dlData d) else s.dlData d
  let lenUs := leafUs prof psdu.length (Config.sentQpsk 3)
  if close.any (fun t => decide ((t : Int) < tstart + lenUs)) then none
  else some ((s.markSending d.ent true).ask
    { kind := .downlink d.ent, path := path, ray := ray, profid := profid, pidx := pidx, tstart := tstart,
      lenUs := lenUs, psdu := psdu, tx := prof.txKind, mask := some prof.mask })

/-- Downlinks of a window that are asked for and not yet ended. -/
def State.dlBusy (s : State) (w : DlWin) : List TxReq :=
  (s.seq.asks ++ s.seq.approved).filter (fun r => r.path == w.path &&
    (match r.kind with
     | .downlink _ => true
     | _ => false))

/-- First chip for the next downlink of a window: at the last chip of the one before it, else as soon as the path can
(R39). -/
def State.dlStart (s : State) (w : DlWin) : Int :=
  (s.dlBusy w).foldl (fun t r => max t r.last) ((s.sqt : Int) + 14)

/-- The nodes of a window in ascending POS from the one after the last served; a node served goes to the end. -/
def State.sendNext (s : State) (w : DlWin) : List Nat → Option (State × Nat)
  | [] => none
  | k :: t =>
    match s.mac.dlq.find? (fun d => (d.kind == 0 || d.kind == 1) && d.key == k && !d.sending && !(s.lateFor d (s.dlStart w))) with
    | none => s.sendNext w t
    | some d =>
      match s.sendNode d w.path w.ray w.profid w.pidx (s.dlStart w) (some w.closeUs) with
      | some s' => some (s', k)
      | none => s.sendNext w t

/-- Ask for the first RAW downlink of a list that starts before its EXPIRY and fits in the window; the others stay queued
(R218). -/
def State.sendFirst (s : State) (w : DlWin) : List DlEnt → Option State
  | [] => none
  | d :: t =>
    if s.lateFor d (s.dlStart w) then s.sendFirst w t
    else
      match s.sendRaw d w.path w.ray w.profid w.pidx (s.dlStart w) (some w.closeUs) with
      | some s' => some s'
      | none => s.sendFirst w t

/-- Ask for the next downlink of a window while at most one is outstanding: the RAW queue first, then the nodes in
rounds of ascending POS (R218, R282). While the cipher engine is halted no secured downlink is sent (R204). -/
def State.pumpWin (s : State) (w : DlWin) : State :=
  if 1 < (s.dlBusy w).length then s
  else
    match s.sendFirst w (s.mac.dlq.filter (fun d => d.kind == 2 && d.grp == w.grp && !d.sending)) with
    | some s' => s'
    | none =>
      if s.flag CIPHER_STAT_HALTED then s
      else
        match s.sendNext w w.keys with
        | some (s', k) =>
          let w' := { w with keys := (w.keys.filter (· != k)) ++ [k] }
          { s' with mac := { s'.mac with dlwins := s'.mac.dlwins.map (fun x => if x.grp == w.grp then w' else x) } }
        | none => s

/-- Every open window goes on (R218). -/
def State.pumpDl (s : State) : State := s.mac.dlwins.foldl (fun s w => s.pumpWin w) s

/-- A node entry whose outgoing counter has reached 0xFFFF_FFFE completes with TXFC_EXHAUSTED (R219, R245). -/
def State.dropExhausted (s : State) : State :=
  (s.mac.dlq.filter (fun d => d.ofNode && !d.sending && (s.ctxOfKey d.key d.cls).any (fun h =>
    decide (0xfffffffe ≤ h.2.ctx.txfc)))).foldl (fun s d => s.dlDone d Code.TXFC_EXHAUSTED) s

/-! ### The end of a request -/

/-- What a refused or ended request means to the block that asked (R207, R209, R219, R285). `radiated` says that its
transmission started. -/
def State.reqEnded (s : State) (r : TxReq) (code : Nat) (radiated : Bool) : State :=
  match r.kind with
  | .gack n =>
    match s.mac.gacks.find? (fun g => g.recn == n && g.asked && !g.ended) with
    | none => s
    | some g => if code = Code.OK then (s.setGack { g with ended := true, okSent := true }).macCnt 19 else s.gackLost g
  | .beacon _ =>
    if code = Code.OK then { (s.inc (SEQ_CNTn_COUNT 11)) with mac := { s.mac with bsn := (s.mac.bsn + 1) % 65536 } } else s
  | .immAck n =>
    if code = Code.OK then s.macCnt 17
    else
      let s := (s.macCnt 18).set1 MAC_IRQ_ACKMISS
      { s with mac := { s.mac with after := s.mac.after.filter (fun a => a.slot != n) } }
  | .ridge n ent k =>
    let s := s.ridgeEnded r n ent k code radiated
    if radiated then s.pumpTurns
    else { s with seq := { s.seq with turns := s.seq.turns.filter (fun (t : TurnState) => t.nb != n) } }
  | .downlink e => if radiated then s else (s.markSending e false).pumpDl
  | .assoc => s
  | .probe _ => s

/-- A request is refused by the sequencer (R294). -/
def State.refuseReq (s : State) (r : TxReq) (code : Nat) : State :=
  ((s.dropReq r.id).countRefusal code).reqEnded r code false

/-- Did a transmission end in a way that radiated nothing (R293)? -/
def silentEnd (code : Nat) (started : Bool) : Bool := !started || code == Code.TX_LATE

/-- Requests whose frames the paths have ended leave the approved ones; what asked for them is told. The end of a
downlink waits for DL_COMPLETE. -/
def State.drainEnds (s : State) : State :=
  let ends := s.txEnds
  ends.foldl (fun s e =>
    match s.reqOf e.1 with
    | none => s
    | some r =>
      let quiet := silentEnd e.2.1 e.2.2
      let s := if quiet then s.releaseReq r else s
      match r.kind, quiet with
      | .downlink _, false => { s with txEnds := s.txEnds ++ [e] }
      | _, _ => (s.dropReq r.id).reqEnded r e.2.1 (!quiet)) { s with txEnds := [] }

/-! ### From the facet to the MAC -/

/-- aTurnaroundTime in µs (R208). -/
def turnaround (phy : Nat) : Nat := if phy = 2 then 192 else 1000

/-- Does a landed 802.15.4 frame ask for an Imm-Ack of this collector (R208)? -/
def State.wantsAck (s : State) (x : MacFrame) (b : List Byte) : Bool :=
  let m := parseMhr b
  x.phy ≠ 1 && m.ar && m.dst == s.fld MAC_154ADDR_SHORT && m.dst != 0xffff && m.dstMode == 2

/-- A facet hands over a landed slot (R118, R220): IL1 frames, and every frame while MAC_CTRL.EN = 0, are posted as
landed; a CRC_FAIL is freed, or posted when KEEPBAD = 1; other frames wait for the MAC. -/
def State.landFrame (s : State) (n f : Nat) (x : Facet) (status : Nat) : State :=
  if x.alloc.prof.phy = 0 || !(s.flag MAC_CTRL_EN) then
    if status = Code.OK || s.flag FACET_CTRL_KEEPBAD then (s.postSlot n).set1 MAC_IRQ_DELIV else s.freeSlot n
  else if status = Code.CRC_FAIL then
    if s.flag FACET_CTRL_KEEPBAD then (s.postSlot n).set1 MAC_IRQ_DELIV else s.freeSlot n
  else
    let m := tblGet {} s.mac.frames n
    let len := (s.memLe (slotAddr n + 2) 2)
    let m := { m with facet := f, phy := x.alloc.prof.phy, path := x.alloc.path, phase := .landed, status := status,
                      len := len, landAt := s.clk.now, tstamp := s.memLe (slotAddr n + 8) 6 }
    { s with mac := { s.mac with frames := tblIns s.mac.frames n m } }

end Sys2Proof.Machine
end

