-- ==== Sys2Proof/Machine/CipherOps.lean ====
section
/-! DEFINITION. Cipher engine, lattice engine and OTP as shared operations (R445–R476). -/

namespace Sys2Proof.Machine
open Sys2Proof

/-! ### OTP (R468–R470) -/

/-- Set bits of a fuse word; a fuse never clears. -/
def State.otpBlow (s : State) (n : Nat) (v : Word) : State :=
  { s with otp := { s.otp with words := tblPut 0 s.otp.words n (tblGet 0 s.otp.words n ||| v) } }

/-- Is pair `i` of counter `n` blown: either of its cells reads 1 (R470)? -/
def State.pairBlown (s : State) (n i : Nat) : Bool :=
  (s.otpWord (80 + 4 * n + i / 16)).toNat / 2 ^ (2 * (i % 16)) % 4 != 0

/-- Pairs blown from pair `i` up, until the first that is not. -/
def State.arbFrom (s : State) (n : Nat) : Nat → Nat → Nat
  | 0, _ => 0
  | k + 1, i => if s.pairBlown n i then 1 + s.arbFrom n k (i + 1) else 0

/-- Value of anti-rollback counter `n`, 0 to 64 (R470). -/
def State.arb (s : State) (n : Nat) : Nat := s.arbFrom n 64 0

/-- What an OTP command leaves of its work where the cells `bad` did not take (R469–R471): of a word, of the pair at the
counter's value, or of a flag. -/
def State.otpTook (s : State) (c : OtpCmd) (bad : Word) : State :=
  match c.op with
  | 1 => s.otpBlow c.word (c.data &&& ~~~bad)
  | 2 =>
    let v := s.arb c.arg
    if v = 64 then s
    else s.otpBlow (80 + 4 * c.arg + v / 16) ((BitVec.ofNat 32 3 &&& ~~~bad) <<< (2 * (v % 16)))
  | _ => if bitAt bad.toNat 0 then s else s.otpBlow 112 (BitVec.ofNat 32 (2 ^ c.arg))

/-- A reset cuts an OTP command off: the bits that had taken stay, and which those are is a free value (R471). -/
def State.otpCut (s : State) : State :=
  match s.otp.cmd with
  | none => s
  | some c =>
    let f := s.fresh
    f.2.otpTook c (BitVec.ofNat 32 f.1)

/-- `n` bytes of the array from word `w`. -/
def State.otpBytes (s : State) (w n : Nat) : List Byte :=
  (List.range (n / 4)).flatMap (fun i => leBytes 4 (s.otpWord (w + i)).toNat)

/-- The device secret. -/
def State.huk (s : State) : List Byte := s.otpBytes 0 32

/-- A HUK of all zeros is unprogrammed (R453). -/
def State.hukBlank (s : State) : Bool := s.huk.all (fun b => b == 0)

/-- OTP key hash `n`, 1 to 6 (R468). -/
def State.otpHash (s : State) (n : Nat) : List Byte := s.otpBytes (32 + 8 * (n - 1)) 32

/-- FLAGS (R468). -/
def State.otpFlag (s : State) (n : Nat) : Bool := bitAt (s.otpWord 112).toNat n

/-! ### Addresses (R448) -/

/-- Do `n` bytes from `a` lie wholly in [lo, hi]? -/
def inRange (lo hi a n : Nat) : Bool := decide (lo ≤ a) && decide (a + n ≤ hi + 1)

/-- In a fixed frame of shared SRAM (R332)? -/
def State.inFixedFrame (s : State) (a n : Nat) : Bool :=
  inRange 0x20000000 (0x20000000 + 4096 * s.fld MMU_POOL_FIRST - 1) a n && decide (a % 4096 + n ≤ 4096)

/-- The regions of R448 but the landing buffer, as the core `c` may name them. -/
def State.coreRegion (s : State) (c : CoreId) (a n : Nat) : Bool :=
  (match c with
   | .lc0 => inRange 0x10000000 0x1007ffff a n
   | .lc1 => inRange 0x10080000 0x100fffff a n
   | .sc => false
   | .kc => inRange 0x20500000 0x2052ffff a n) || s.inFixedFrame a n

/-- The regions of R448. -/
def State.jobRegion (s : State) (c : CoreId) (a n : Nat) : Bool :=
  s.coreRegion c a n || inRange 0x20400000 0x204bffff a n

/-! ### Key slots (R452–R454) -/

def State.keySlot (s : State) (n : Nat) : KeySlot := tblGet {} s.cipher.keys n

/-- Fill or empty a slot; CIPHER_KEYSTAT follows. -/
def State.setKey (s : State) (n : Nat) (k : KeySlot) : State :=
  let s := { s with cipher := { s.cipher with keys := tblPut {} s.cipher.keys n k } }
  s.setBool ⟨CIPHER_KEYSTAT, n, n⟩ k.key.isSome

/-- Key bytes of a type (R452, R453). -/
def keyLen (typ : Nat) : Nat := if typ = 0 then 16 else if typ = 1 then 32 else 64

/-- Is an attribute word at odds with the type (R452)? -/
def attrBad (typ attr : Nat) : Bool := bitAt attr 2 != (typ == 2) || (typ == 2 && (bitAt attr 0 || bitAt attr 3))

/-- The descriptor at `a` (R447). -/
def State.jobDesc (s : State) (a : Nat) : JobDesc :=
  { mode := s.memLe (a + 1) 1, slot := s.memLe (a + 2) 1, taglen := s.memLe (a + 3) 1, src := s.memLe (a + 4) 4,
    dst := s.memLe (a + 8) 4, len := s.memLe (a + 12) 4, aad := s.memLe (a + 16) 4, aadlen := s.memLe (a + 20) 2,
    ivlen := s.memLe (a + 22) 1, kslot := s.memLe (a + 23) 1, iv := s.memLe (a + 24) 4, tag := s.memLe (a + 28) 4 }

/-- Does a slot register or a posted job name the slot (R454)? -/
def State.slotNamed (s : State) (n : Nat) : Bool :=
  s.fld MAC_KEYSLOT_NK == n || s.fld MMU_KEYSLOT_SLOT == n ||
  (s.flag PAGER_KEYSLOT_VALID && s.fld PAGER_KEYSLOT_SLOT == n) ||
  (s.flag MIRROR_CTRL_EN && s.fld MIRROR_CFG_KEYSLOT == n) ||
  s.cipher.jobs.any (fun j =>
    let d := j.run.getD (s.jobDesc j.addr)
    d.slot == n || ((d.mode == 9 || d.mode == 10) && d.kslot == n))

/-- A key command ends: CIPHER_KEYWn are cleared and the outcome shown (R453). -/
def State.keyEnd (s : State) (status : Nat) : State :=
  ((List.range 16).foldl (fun (s : State) n => s.wr (CIPHER_KEYWn n) 0) s).wr CIPHER_KEYRES (BitVec.ofNat 32 status)

/-- The bytes of CIPHER_KEYW0 to KEYW15. -/
def State.keyWords (s : State) : List Byte :=
  (List.range 16).flatMap (fun n => leBytes 4 (s.rd (CIPHER_KEYWn n)).toNat)

/-- Is a LOAD or DERIVE a reserved encoding (R452, R454, R474)? -/
def State.keyFillBad (s : State) (typ slot : Nat) : Bool :=
  decide (3 ≤ typ) || decide (32 ≤ slot) || s.slotNamed slot || (s.keySlot slot).key.isSome ||
    attrBad typ (s.rd CIPHER_KEYATTR).toNat

/-- Is any alarm bit set (R460)? -/
def State.alarmed (s : State) : Bool := decide ((s.rd CIPHER_ALARM).toNat ≠ 0)

/-! ### Firmware jobs (R447–R451) -/

/-- CIPHER_STAT follows the job lists and the word buffer. -/
def State.showCipher (s : State) : State :=
  ((s.setFld CIPHER_STAT_QUEUED s.cipher.jobs.length).setFld CIPHER_STAT_DONE (min 31 s.cipher.doneq.length)).setFld
    CIPHER_STAT_RNGLVL s.cipher.rng.length

/-- Is a mode an AEAD opening, an AEAD at all? -/
def isAead (m : Nat) : Bool := decide (5 ≤ m) && decide (m ≤ 8)

/-- The oldest posted job that has not started takes its descriptor at cycle `now`. -/
def startFirst (now : Nat) (d : JobDesc) : List CipherJob → List CipherJob
  | [] => []
  | j :: t => if j.run.isNone then { j with run := some d, startAt := now } :: t else j :: startFirst now d t

/-- Cycles of one block under a key (R445). -/
def aesCycles (key : List Byte) : Nat := if key.length = 16 then 22 else 30

/-- Blocks in the longest chain of a job (R446): a CCM job's chain is B0, its AAD with the length octets, and its data; a GCM
job's the counter stream and the tag's block; KW takes six blocks for each 64-bit half of the key (R447). -/
def jobBlocks (d : JobDesc) : Nat :=
  let n := ceilDiv d.len 16
  match d.mode with
  | 5 => 1 + (if d.aadlen = 0 then 0 else ceilDiv (2 + d.aadlen) 16) + n
  | 6 => 1 + (if d.aadlen = 0 then 0 else ceilDiv (2 + d.aadlen) 16) + n
  | 7 => 1 + n
  | 8 => 1 + n
  | 9 => 0
  | 10 => 6 * (d.len / 8 - 1)
  | _ => n

/-- The least cycles of a job that no other requester delays: 40 of set-up and its blocks (R446). -/
def State.jobCycles (s : State) (d : JobDesc) : Nat :=
  let blocks := if d.mode = 9 then 6 * (((s.keySlot d.kslot).key.getD []).length / 8) else jobBlocks d
  40 + blocks * aesCycles ((s.keySlot d.slot).key.getD [])

/-- A job ends: STATUS is written and the job joins CIPHER_DONEQ (R451). -/
def State.jobEnd (s : State) (j : CipherJob) (status : Nat) : State :=
  let s := s.memPutLe j.addr 1 status
  let s := { s with cipher := { s.cipher with jobs := s.cipher.jobs.erase j,
                                              doneq := s.cipher.doneq ++ [j.addr] } }
  let s := if status = Code.TAG_FAIL then (s.set1 CIPHER_IRQ_TAGFAIL).inc CIPHER_CNT_TAGFAIL else s
  (s.set1 CIPHER_IRQ_DONE).showCipher

/-- Every job in progress ends with `status`, AEAD destinations zeroed (R450, R457, R459). -/
def State.jobsCut (s : State) (status : Nat) : State :=
  (s.cipher.jobs.filter (fun j => j.run.isSome)).foldl (fun s j =>
    let s := match j.run with
      | some d => if isAead d.mode then s.memPut d.dst (zeros d.len) else s
      | none => s
    s.jobEnd j status) s

/-- The field rules of R447 by mode, lengths and unused fields. -/
def JobDesc.fieldsOk (d : JobDesc) : Bool :=
  decide (1 ≤ d.mode) && decide (d.mode ≤ 10) && decide (d.slot < 32) && decide (1 ≤ d.len) && decide (d.len < 2 ^ 24) &&
  (match d.mode with
   | 4 => decide (1 ≤ d.taglen) && decide (d.taglen ≤ 16)
   | 5 => decide (4 ≤ d.taglen) && decide (d.taglen ≤ 16) && d.taglen % 2 == 0
   | 6 => decide (4 ≤ d.taglen) && decide (d.taglen ≤ 16) && d.taglen % 2 == 0
   | 7 => decide (12 ≤ d.taglen) && decide (d.taglen ≤ 16)
   | 8 => decide (12 ≤ d.taglen) && decide (d.taglen ≤ 16)
   | _ => d.taglen == 0 && d.tag == 0) &&
  (match d.mode with
   | 1 => d.ivlen == 16
   | 2 => d.ivlen == 16 && d.len % 16 == 0
   | 3 => d.ivlen == 16 && d.len % 16 == 0
   | 4 => d.ivlen == 0 && d.iv == 0 && d.dst == 0
   | 5 => decide (7 ≤ d.ivlen) && decide (d.ivlen ≤ 13) && decide (d.aadlen ≤ 65279)
   | 6 => decide (7 ≤ d.ivlen) && decide (d.ivlen ≤ 13) && decide (d.aadlen ≤ 65279)
   | 7 => d.ivlen == 12
   | 8 => d.ivlen == 12
   | 9 => d.ivlen == 0 && d.iv == 0 && d.src == 0 && decide (d.kslot < 32)
   | _ => d.ivlen == 0 && decide (d.kslot < 32) && (d.len == 24 || d.len == 40 || d.len == 72)) &&
  (isAead d.mode || (d.aad == 0 && d.aadlen == 0)) && (d.mode == 9 || d.mode == 10 || d.kslot == 0)

/-- Key type of a wrapped blob by its length. -/
def blobType (len : Nat) : Nat := if len = 24 then 0 else if len = 40 then 1 else 2

/-- The address rules of R448 and the attribute word of a KUNWRAP. -/
def State.jobAddrOk (s : State) (c : CoreId) (a : Nat) (d : JobDesc) : Bool :=
  let ok := s.jobRegion c
  ok a 32 &&
  (match d.mode with
   | 4 => ok d.src d.len && ok d.tag d.taglen
   | 9 => ok d.dst (8 + keyLen (s.keySlot d.kslot).typ)
   | 10 => ok d.src d.len && d.dst == 0 && !(attrBad (blobType d.len) d.iv) &&
      decide (d.iv &&& 0x7f1f = d.iv)
   | _ => ok d.src d.len && ok d.dst d.len && ok d.iv d.ivlen) &&
  (!(isAead d.mode) || (ok d.tag d.taglen && (d.aadlen == 0 || ok d.aad d.aadlen)))

/-- The bit of an attribute word that allows a core (R474). -/
def coreAttr (c : CoreId) : Nat := 11 + coreNum c

/-- The checks of R449, first failure first. -/
def State.jobCheck (s : State) (j : CipherJob) (d : JobDesc) : Nat :=
  let k := s.keySlot d.slot
  let w := s.keySlot d.kslot
  let modeOk := match d.mode with
    | 4 => bitAt k.attr 1
    | 9 => bitAt k.attr 3 && bitAt w.attr 4
    | 10 => bitAt k.attr 3 && w.key.isNone
    | _ => bitAt k.attr 0
  if !(d.fieldsOk && s.jobAddrOk j.core j.addr d) then Code.BAD_DESC
  else if k.key.isNone || (d.mode == 9 && w.key.isNone) then Code.KEY_EMPTY
  else if !modeOk || !(bitAt k.attr (coreAttr j.core)) then Code.KEY_USAGE
  else Code.OK

/-- The work of a job that runs to its end: memory written and the outcome (R447, R450, R453). A slot that another KUNWRAP has
filled meanwhile keeps its key (R452). -/
def State.jobRun (s : State) (d : JobDesc) : State × Nat :=
  let key := (s.keySlot d.slot).key.getD []
  let src := s.memBytes d.src d.len
  let iv := s.memBytes d.iv d.ivlen
  let aad := s.memBytes d.aad d.aadlen
  let tag := s.memBytes d.tag d.taglen
  match d.mode with
  | 1 => (s.memPut d.dst (ctrMode key iv src), Code.OK)
  | 2 => (s.memPut d.dst (cbcEnc key iv src), Code.OK)
  | 3 => (s.memPut d.dst (cbcDec key iv src), Code.OK)
  | 4 => (s.memPut d.tag ((cmac (key.take 32) src).take d.taglen), Code.OK)
  | 5 =>
    let r := ccmSeal key iv aad src d.taglen
    ((s.memPut d.dst r.1).memPut d.tag r.2, Code.OK)
  | 6 =>
    match ccmOpen key iv aad src tag with
    | some pt => (s.memPut d.dst pt, Code.OK)
    | none => (s.memPut d.dst (zeros d.len), Code.TAG_FAIL)
  | 7 =>
    let ct := gcmStream key iv src
    ((s.memPut d.dst ct).memPut d.tag ((gcmTag key iv aad ct).take d.taglen), Code.OK)
  | 8 =>
    if (gcmTag key iv aad src).take d.taglen = tag then (s.memPut d.dst (gcmStream key iv src), Code.OK)
    else (s.memPut d.dst (zeros d.len), Code.TAG_FAIL)
  | 9 => (s.memPut d.dst (kwWrap key ((s.keySlot d.kslot).key.getD [])), Code.OK)
  | _ =>
    if s.alarmed then (s, Code.ZEROISED)
    else if (s.keySlot d.kslot).key.isSome then (s, Code.KEY_USAGE)
    else
      match kwUnwrap key src with
      | some k => (s.setKey d.kslot ⟨some k, blobType d.len, d.iv⟩, Code.OK)
      | none => (s, Code.TAG_FAIL)

/-! ### TRNG (R455–R457) -/

/-- `n` random words. -/
def State.freshWords (s : State) : Nat → List Word × State
  | 0 => ([], s)
  | n + 1 =>
    let a := s.fresh
    let r := a.2.freshWords n
    (BitVec.ofNat 32 a.1 :: r.1, r.2)

/-- A start-up test begins: 1,024 samples at 4 Mb/s take 256 µs (R456). -/
def State.trngTest (s : State) : State :=
  let s := { s with cipher := { s.cipher with testEnd := some (s.clk.now + us 256) } }
  s.setFld CIPHER_STAT_TRNG 1

/-- RESTART (R457): KC starts a start-up test, which may end a halt. -/
def State.trngRestart (s : State) : State :=
  ({ s with cipher := { s.cipher with restarted := true } } : State).trngTest

/-- One conditioner output: of every four the first reseeds the mask expanders and three fill the buffer (R455). -/
def State.trngOut (s : State) : State :=
  let c := s.cipher
  if c.outs % 4 = 0 then { s with cipher := { c with outs := 1, seeded := true } }
  else
    let r := s.freshWords 8
    ({ r.2 with cipher := { c with outs := c.outs + 1, rng := (c.rng ++ r.1).take 16 } }).showCipher

/-- The next conditioner output falls due. -/
def State.trngNext (s : State) : State :=
  let s := s.advanceTo s.cipher.nextOut
  let s := s.trngOut
  { s with cipher := { s.cipher with nextOut := s.cipher.nextOut + us 128 } }

/-- The next output that reaches the word buffer: the one that reseeds the expanders goes first where its turn has come. -/
def State.trngWord (s : State) : State := if s.cipher.outs % 4 = 0 then s.trngNext.trngNext else s.trngNext

/-! ### Lattice engine (R462–R467) -/

/-- LATTICE_STAT follows the engine. -/
def State.showLat (s : State) : State :=
  let s := s.setBool LATTICE_STAT_BUSY s.lat.cur.isSome
  let s := s.setBool LATTICE_STAT_QUEUED (s.lat.wait.any (fun o => !o.loader))
  let s := s.setBool LATTICE_STAT_LOADER (s.lat.cur.any (fun o => o.loader))
  s.setBool LATTICE_STAT_IDKEY s.lat.idKey.isSome

/-- The running operation ends; the engine is free. -/
def State.latFree (s : State) : State := ({ s with lat := { s.lat with cur := none } }).showLat

/-- The running KC operation ends after `d` cycles with `status`: STATUS, TIME and DONE (R475). -/
def State.latEnd (s : State) (status : Nat) (o : LatOp) : State :=
  let s := (s.setFld LATTICE_STAT_STATUS status).wr LATTICE_TIME (BitVec.ofNat 32 ((s.clk.now - o.startAt) / 200))
  (s.set1 LATTICE_IRQ_DONE).latFree

/-- Does an operation need randomness or the identity key store (R457, R459)? -/
def LatOp.secret (o : LatOp) : Bool := o.op == 2 || o.op == 3 || o.op == 6

/-- A SIGN, KEYGEN or REPORT in progress ends with `status`. -/
def State.latCut (s : State) (status : Nat) : State :=
  match s.lat.cur with
  | some o => if o.secret then s.latEnd status o else s
  | none => s

/-- The free engine starts an operation. A SIGN, KEYGEN or REPORT that starts while the cipher engine is halted ends TRNG_FAIL
at once (R457). -/
def State.latBegin (s : State) (o : LatOp) : State :=
  let s := ({ s with lat := { s.lat with cur := some { o with startAt := s.clk.now } } } : State).showLat
  if s.flag CIPHER_STAT_HALTED then s.latCut Code.TRNG_FAIL else s

/-- An operation is issued: it starts when the engine is free and none waits, and waits its turn otherwise (R462). -/
def State.latIssue (s : State) (o : LatOp) : State :=
  match s.lat.cur, s.lat.wait with
  | none, [] => s.latBegin o
  | _, _ => ({ s with lat := { s.lat with wait := s.lat.wait ++ [o] } }).showLat

/-- A KC command (R462): a second one while one waits is a reserved encoding. -/
def State.latCmd (s : State) (op pkh meas : Nat) : State :=
  if s.lat.wait.any (fun o => !o.loader) || decide (7 ≤ pkh) then s.discard baseLATTICE
  else s.latIssue { op := op, args := (List.range 4).map (fun n => (s.rd (LATTICE_ARGn n)).toNat), pkh := pkh,
                    meas := meas % 4 }

/-- Key hash check and signature check of VERIFY (R463). -/
def State.latVerify (s : State) (pkh : Nat) (pk msg sig : List Byte) : Nat :=
  if pkh ≠ 0 ∧ (s.otpHash pkh).all (fun b => b == 0) then Code.KEY_EMPTY
  else if pkh ≠ 0 ∧ shake256 pk 32 ≠ s.otpHash pkh then Code.PK_MISMATCH
  else if Config.mldsaVerify pk [] msg sig then Code.OK else Code.SIG_FAIL

/-- The 32 bytes of measurement register `n`. -/
def State.meas (s : State) (n : Nat) : List Byte :=
  (List.range 8).flatMap (fun i => leBytes 4 (s.rd (LATTICE_MEASn (8 * n + i))).toNat)

/-- Store bytes as words of a run of registers. -/
def State.putWords (s : State) (a : Nat) (l : List Byte) (n : Nat) : State :=
  (List.range n).foldl (fun s i => s.wr (a + 4 * i) (BitVec.ofNat 32 (leNat ((l.drop (4 * i)).take 4)))) s

/-- EXTEND (R466). -/
def State.extend (s : State) (n : Nat) (data : List Byte) : State :=
  s.putWords (LATTICE_MEASn (8 * n)) (shake256 (s.meas n ++ data) 32) 8

/-- The identity key leaves the store, or a new one enters it: IDKEY and DEVID follow (R464, R475). -/
def State.setIdKey (s : State) (k : Option (List Byte)) : State :=
  let s := ({ s with lat := { s.lat with idKey := k } }).showLat
  match k with
  | some seed => s.putWords (LATTICE_DEVIDn 0) (shake256 (Config.mldsaPub seed) 16) 4
  | none => s.putWords (LATTICE_DEVIDn 0) (zeros 16) 4

/-- The label of the identity key, zero-padded to 32 bytes (R464). -/
def idLabel : List Byte :=
  ["I", "G", "8", "5", "1", "2", "-", "I", "D", "-", "S", "E", "E", "D"].map
    (fun (c : String) => BitVec.ofNat 8 ((c.toList.map Char.toNat).headD 0)) ++ zeros 18

/-- The report body (R467). -/
def State.reportBody (s : State) (nonce : List Byte) : List Byte :=
  let flags := (if s.otpFlag 0 then 1 else 0) + (if s.cipher.alarmSeen then 2 else 0) +
    (if s.cipher.haltSeen then 4 else 0)
  let nt := s.nettime % 2 ^ 63 + (if s.flag SEQ_STAT_NTVALID then 2 ^ 63 else 0)
  leBytes 4 0x31525441 ++ leBytes 1 1 ++ leBytes 1 (s.fld PWR_RSTCAUSE_CAUSE) ++ leBytes 1 flags ++ leBytes 1 0 ++
  shake256 (Config.mldsaPub (s.lat.idKey.getD [])) 16 ++
  (List.range 8).flatMap (fun n => leBytes 1 (s.arb n)) ++ nonce ++
  (List.range 4).flatMap s.meas ++ leBytes 8 nt ++ leBytes 8 s.clk.slowcnt ++ s.otpBytes 16 8 ++ leBytes 8 0

/-- Sign under the identity key (R465): the outcome, the state with the randomness drawn, and the signature. -/
def State.idSign (s : State) (msg : List Byte) : Nat × State × List Byte :=
  let r := s.freshWords 8
  let g := Config.mldsaSign (s.lat.idKey.getD []) [] msg (r.1.flatMap (fun w => leBytes 4 w.toNat))
  let s := r.2.setFld LATTICE_STAT_ITER (min 64 g.2)
  if 64 ≤ g.2 then (Code.SIGN_LIMIT, s, []) else (Code.OK, s, g.1)

/-- What the running KC operation does at its end (R457, R460, R461, R463–R467): the outcome and the state. Addresses
follow R448 without the landing buffer. -/
def State.latRun (s : State) (o : LatOp) : Nat × State :=
  let ok := s.coreRegion .kc
  let a := fun (n : Nat) => o.args.getD n 0
  match o.op with
  | 1 =>
    if !(ok (a 0) (a 1) && decide (a 1 < 2 ^ 24) && ok (a 2) 1952 && ok (a 3) 3309) then (Code.BAD_DESC, s)
    else (s.latVerify o.pkh (s.memBytes (a 2) 1952) (s.memBytes (a 0) (a 1)) (s.memBytes (a 3) 3309), s)
  | 2 =>
    if !(ok (a 0) (a 1) && decide (a 1 < 2 ^ 24) && ok (a 2) 3309 && a 3 == 0) then (Code.BAD_DESC, s)
    else if s.flag CIPHER_STAT_HALTED then (Code.TRNG_FAIL, s)
    else if s.lat.idKey.isNone then (Code.KEY_EMPTY, s)
    else
      let g := s.idSign (s.memBytes (a 0) (a 1))
      (g.1, g.2.1.memPut (a 2) g.2.2)
  | 3 =>
    if !(a 0 == 0 && a 1 == 0 && ok (a 2) 1952 && a 3 == 0) then (Code.BAD_DESC, s)
    else if s.flag CIPHER_STAT_HALTED then (Code.TRNG_FAIL, s)
    else if s.alarmed then (Code.ZEROISED, s)
    else if s.otpFlag 1 then (Code.REVOKED, s)
    else if s.hukBlank || (s.otpBytes 8 32).all (fun b => b == 0) then (Code.KEY_EMPTY, s)
    else
      let seed := Config.seedDecrypt (shake256 (s.huk ++ idLabel) 32) (s.otpBytes 8 32)
      (Code.OK, (s.setIdKey (some seed)).memPut (a 2) (Config.mldsaPub seed))
  | 4 =>
    if !(ok (a 0) (a 1) && ok (a 2) (a 3) && decide (1 ≤ a 3) && decide (a 3 ≤ 4096)) then (Code.BAD_DESC, s)
    else (Code.OK, s.memPut (a 2) (shake256 (s.memBytes (a 0) (a 1)) (a 3)))
  | 5 =>
    if !(ok (a 0) 32 && a 1 == 0 && a 2 == 0 && a 3 == 0) then (Code.BAD_DESC, s)
    else (Code.OK, s.extend o.meas (s.memBytes (a 0) 32))
  | _ =>
    if !(ok (a 0) 32 && ok (a 1) 3533 && a 2 == 0 && a 3 == 0) then (Code.BAD_DESC, s)
    else if s.flag CIPHER_STAT_HALTED then (Code.TRNG_FAIL, s)
    else if s.lat.idKey.isNone then (Code.KEY_EMPTY, s)
    else
      let body := s.reportBody (s.memBytes (a 0) 32)
      let g := s.idSign body
      (g.1, if g.1 = Code.OK then g.2.1.memPut (a 1) (body ++ g.2.2) else g.2.1)

end Sys2Proof.Machine
end

