-- ==== Sys2Proof/Machine/Cipher.lean ====
section
/-! DEFINITION. The meanings of the cipher, lattice and OTP commands and events (chapter 15). -/

namespace Sys2Proof.Machine
open Sys2Proof

/-- JOB_POST (R451): core `c` writes a descriptor address. -/
def execJobPost (c : CoreId) (v : Word) (s : State) : Res :=
  if 16 ≤ s.cipher.jobs.length then .next (s.discard baseCIPHER)
  else
    let j : CipherJob := { addr := v.toNat / 32 * 32, core := c }
    .next ({ s with cipher := { s.cipher with jobs := s.cipher.jobs ++ [j] } }).showCipher

/-- JOB_START (R449): the oldest posted job that has not started runs its checks. -/
def execJobStart (s : State) : Res :=
  match s.cipher.jobs.find? (fun j => j.run.isNone) with
  | none => .next s
  | some j =>
    if !s.aesRuns then .next s
    else
      let d := s.jobDesc j.addr
      let st := s.jobCheck j d
      if st ≠ Code.OK then .next (s.jobEnd j st)
      else
        .next { s with cipher := { s.cipher with jobs := startFirst s.clk.now d s.cipher.jobs } }

/-- JOB_COMPLETE (R446, R450, R451, R453): outstanding job `k` completes; jobs may complete out of order. It takes its set-up
and its blocks at least, and waits while the AES cores do not run. -/
def execJobComplete (k : Nat) (s : State) : Res :=
  match s.cipher.jobs[k]? with
  | none => .next s
  | some j =>
    match j.run with
    | none => .next s
    | some d =>
      if !s.aesRuns then .next s
      else
        let s := s.advanceTo (j.startAt + s.jobCycles d)
        let r := s.jobRun d
        .next (r.1.jobEnd j r.2)

/-- CIPHER_DONEQ_READ (R451). -/
def execCipherDoneqRead (s : State) : Res :=
  match s.cipher.doneq with
  | [] => .next { s with rdata := 0 }
  | a :: t => .next ({ s with cipher := { s.cipher with doneq := t }, rdata := BitVec.ofNat 32 (a + 1) }).showCipher

/-- KEY_LOAD (R452–R454, R460). -/
def execKeyLoad (typ slot : Nat) (s : State) : Res :=
  if s.keyFillBad typ slot then .next (s.discard baseCIPHER)
  else if s.alarmed then .next (s.keyEnd Code.ZEROISED)
  else
    let k : KeySlot := ⟨some (s.keyWords.take (keyLen typ)), typ, (s.rd CIPHER_KEYATTR).toNat⟩
    .next ((s.setKey slot k).keyEnd Code.OK)

/-- KEY_DERIVE (R453, R460, R461). -/
def execKeyDerive (typ slot : Nat) (s : State) : Res :=
  if s.keyFillBad typ slot then .next (s.discard baseCIPHER)
  else if s.alarmed then .next (s.keyEnd Code.ZEROISED)
  else if s.otpFlag 1 then .next (s.keyEnd Code.REVOKED)
  else if s.hukBlank then .next (s.keyEnd Code.KEY_EMPTY)
  else
    let k : KeySlot := ⟨some (shake256 (s.huk ++ s.keyWords.take 32) (keyLen typ)), typ,
      (s.rd CIPHER_KEYATTR).toNat⟩
    .next ((s.setKey slot k).keyEnd Code.OK)

/-- KEY_CLEAR (R452, R454). -/
def execKeyClear (slot : Nat) (s : State) : Res :=
  if 32 ≤ slot ∨ s.slotNamed slot then .next (s.discard baseCIPHER)
  else .next ((s.setKey slot {}).keyEnd Code.OK)

/-- CIPHER_CNTCLR (R474). -/
def execCipherCntclr (s : State) : Res := .next (s.wr CIPHER_CNT 0)

/-- The oldest word of the buffer is read. -/
def State.rngTake (s : State) : State :=
  match s.cipher.rng with
  | [] => s
  | w :: t => ({ s with cipher := { s.cipher with rng := t }, rdata := w }).showCipher

/-- A start-up test passes (R456, R472): the first of its two outputs reseeds the expanders and the second goes to the
word buffer. A halt ends where KC has written RESTART (R457). -/
def State.testPass (s : State) : State :=
  let ends := s.cipher.restarted
  let s := { s with cipher := { s.cipher with testEnd := none, restarted := false, outs := 0, nextOut := s.clk.now + us 128 } }
  let s := if ends then s.clr CIPHER_STAT_HALTED else s
  (((s.setFld CIPHER_STAT_TRNG 0).set1 CIPHER_IRQ_RESTARTED).trngOut).trngOut

/-- RNG_READ (R455, R456): a read stalls until a word reaches the buffer. -/
def execRngRead (s : State) : Res :=
  if s.cipher.rng.isEmpty then
    if s.fld CIPHER_STAT_TRNG = 0 then .next s.trngWord.rngTake
    else if s.cipher.seeded && !(s.flag CIPHER_STAT_HALTED) then
      match s.cipher.testEnd with
      | some t => .next (s.advanceTo t).testPass.rngTake
      | none => .next ({ s with rdata := 0 }.set1 CIPHER_IRQ_HALT)
    else .next ({ s with rdata := 0 }.set1 CIPHER_IRQ_HALT)
  else if s.fld CIPHER_STAT_TRNG = 0 || s.cipher.seeded then .next s.rngTake
  else .next ({ s with rdata := 0 }.set1 CIPHER_IRQ_HALT)

/-- TRNG_OUTPUT (R455): the next conditioner output, 128 µs after the last; in Saddle the TRNG
is stopped (R472). -/
def execTrngOutput (s : State) : Res :=
  if s.clocked && s.fld CIPHER_STAT_TRNG = 0 then .next s.trngNext else .next s

/-- The engine halts (R457). -/
def State.cipherHalt (s : State) : State :=
  let s := s.logPut 12 Code.TRNG_FAIL 0 (s.rd CIPHER_ALARM).toNat
  let s := s.setFld CIPHER_STAT_TRNG 2
  let c := { s.cipher with testEnd := none, restarted := false, seeded := false, rng := [], outs := 0, haltSeen := true }
  let s := { s with cipher := c }
  if s.flag CIPHER_STAT_HALTED then s.showCipher
  else
    let s := ((s.set1 CIPHER_STAT_HALTED).set1 CIPHER_IRQ_HALT).inc CIPHER_CNT_HALTS
    (((s.set1 MAC_IRQ_CIPHDOWN).jobsCut Code.TRNG_FAIL).latCut Code.TRNG_FAIL).showCipher

/-- TRNG_HEALTH_FAIL (R457): with a RESTART of the same cycle the failure stands and the test begins again;
in Saddle the TRNG is stopped (R472). -/
def execTrngHealthFail (s : State) : Res :=
  if !s.clocked then .next s
  else
    let again := s.cipher.restarted && s.cipher.testEnd == some (s.clk.now + us 256)
    let s := s.cipherHalt
    .next (if again then s.trngRestart else s)

/-- RESTART (R456, R457): KC starts a start-up test. -/
def execRestart (s : State) : Res := .next s.trngRestart

/-- STARTUP_TEST_DONE (R456, R457): the test that runs ends 256 µs after it started. -/
def execStartupTestDone (pass : Bool) (s : State) : Res :=
  match s.cipher.testEnd with
  | none => .next s
  | some t =>
    let s := s.advanceTo t
    .next (if pass then s.testPass else s.cipherHalt)

/-- The alarm bits (R458): 0 VOLT, 1 CLK, 2 TEMP, 3 SHIELD; VOLT and CLK are monitored only awake, none without power. -/
def State.alarmSeesIt (s : State) (k : Nat) : Bool :=
  match s.pwr.phase with
  | .off | .softStart => false
  | .awake => decide (k < 4)
  | _ => k == 2 || k == 3

/-- ALARM (R459, R461, R258): an alarm condition has been found. -/
def execAlarm (k : Nat) (s : State) : Res :=
  if s.alarmSeesIt k then
    let s := (s.set1 ⟨CIPHER_ALARM, k, k⟩).set1 CIPHER_IRQ_ALARM
    let s := s.inc CIPHER_CNT_ALARMS
    let s := (s.jobsCut Code.ZEROISED).latCut Code.ZEROISED
    let s := (List.range 32).foldl (fun (s : State) n => s.setKey n {}) s
    let s := if s.lat.idKey.isSome then (s.setIdKey none).set1 LATTICE_IRQ_IDLOST else s
    let s := s.logPut 12 Code.ALARM 0 (s.rd CIPHER_ALARM).toNat
    let s := if s.otpFlag 0 then s.otpBlow 112 2 else s
    let asleep := s.pwr.phase == .entry || s.pwr.phase == .saddle
    let s := { s with cipher := { s.cipher with alarmSeen := true },
                      pwr := { s.pwr with alarmAt := if asleep && s.pwr.alarmAt.isNone then some s.clk.now else s.pwr.alarmAt } }
    -- an alarm ends a debug session (R538)
    .next (s.wr SYS_DBGCTL 0).zeroPager
  else .next s

/-- ALARM_CLEAR (R460): a W1C write by KC; `holding` are the bits whose condition still holds. -/
def execAlarmClear (v : Word) (holding : Nat) (s : State) : Res :=
  let old := (s.rd CIPHER_ALARM).toNat
  let keep := old - (old &&& v.toNat)
  .next (s.wr CIPHER_ALARM (BitVec.ofNat 32 (keep ||| (old &&& holding % 16))))

/-- VERIFY, SIGN, KEYGEN, SHAKE, EXTEND and REPORT (R462, R463): KC writes LATTICE_CMD. -/
def execVerify (pkh : Nat) (s : State) : Res := .next (s.latCmd 1 pkh 0)
def execSign (s : State) : Res := .next (s.latCmd 2 0 0)
def execKeygen (s : State) : Res := .next (s.latCmd 3 0 0)
def execShake (s : State) : Res := .next (s.latCmd 4 0 0)
def execExtend (meas : Nat) (s : State) : Res := .next (s.latCmd 5 0 meas)
def execReport (s : State) : Res := .next (s.latCmd 6 0 0)

/-- LATTICE_START (R462): the engine is free and the oldest waiting operation starts. -/
def execLatticeStart (s : State) : Res :=
  match s.lat.cur, s.lat.wait with
  | none, o :: t => .next (({ s with lat := { s.lat with wait := t } } : State).latBegin o)
  | _, _ => .next s

/-- Longest time of an operation in cycles, and whether it is exact (R463, R465). -/
def latTime (o : LatOp) : Nat × Bool :=
  match o.op with
  | 1 => (us 1200 + 24 * ceilDiv (o.args.getD 1 0) 136, false)
  | 2 => (us 450 + us 500 * 64, false)
  | 3 => (us 1000, false)
  | 4 => (24 * ceilDiv (o.args.getD 1 0) 136 + 24 * ceilDiv (o.args.getD 3 0) 136 + 200, true)
  | 5 => (us 2, false)
  | _ => (us 450 + us 500 * 64 + us 2, false)

/-- Does a signature take `d` cycles: 0.45 ms, 0.5 ms for each iteration and, in a REPORT, 2 µs (R463, R465)? Other outcomes
name no time. -/
def signTimeOk (o : LatOp) (d : Nat) (r : Nat × State) : Bool :=
  !(o.op == 2 || o.op == 6) || !(r.1 == Code.OK || r.1 == Code.SIGN_LIMIT) ||
    d == us 450 + us 500 * r.2.fld LATTICE_STAT_ITER + (if o.op = 6 then us 2 else 0)

/-- LATTICE_DONE (R463–R467): the running KC operation ends `d` cycles after it started, in the time the rule gives
it; another time is no event. A REPORT forms its body in the 2 µs before its signature. -/
def execLatticeDone (d : Nat) (s : State) : Res :=
  match s.lat.cur with
  | none => .next s
  | some o =>
    let lim := latTime o
    if o.loader || decide (lim.1 < d) || (lim.2 && d != lim.1) then .next s
    else
      let r := (s.advanceTo (o.startAt + if o.op = 6 then us 2 else d)).latRun o
      if signTimeOk o d r then .next ((r.2.advanceTo (o.startAt + d)).latEnd r.1 o) else .next s

/-- An OTP command is accepted (R471). -/
def State.otpIssue (s : State) (c : OtpCmd) : State :=
  if s.otp.cmd.isSome then s.discard baseOTP
  else ({ s with otp := { s.otp with cmd := some c } }).set1 OTP_STAT_BUSY

/-- OTP_PROGRAM (R469): the word that OTP_ADDR names. -/
def execOtpProgram (s : State) : Res :=
  let w := s.fld OTP_ADDR_WORD
  if w < 32 ∨ 80 ≤ w ∨ s.otpFlag 2 ∨ s.otpWord w ≠ 0 then .next (s.discard baseOTP)
  else .next (s.otpIssue ⟨1, 0, w, s.rd OTP_DATA⟩)

/-- ARBINC (R470). -/
def execArbinc (n : Nat) (s : State) : Res :=
  if 8 ≤ n then .next (s.discard baseOTP) else .next (s.otpIssue ⟨2, n, 0, 0⟩)

/-- SETFLAG (R476). -/
def execSetflag (n : Nat) (s : State) : Res :=
  if 3 ≤ n then .next (s.discard baseOTP) else .next (s.otpIssue ⟨3, n, 0, 0⟩)

/-- An OTP command on word `w` ends with its outcome. -/
def State.otpEnd (s : State) (w status : Nat) : State :=
  let s := { s with otp := { s.otp with cmd := none } }
  let s := s.wr OTP_STAT (BitVec.ofNat 32 status)
  let s := if status = Code.OK then s else s.set1 OTP_IRQ_FAIL
  let s := if status = Code.OTP_FAIL then s.logPut 23 Code.OTP_FAIL 0 w else s
  s.set1 OTP_IRQ_DONE

/-- OTP_DONE (R469–R471): the command ends; `bad` are the fuse cells of the word, or of the pair, that did not take. -/
def execOtpDone (bad : Word) (s : State) : Res :=
  match s.otp.cmd with
  | none => .next s
  | some c =>
    let t := s.otpTook c bad
    match c.op with
    | 1 => .next (t.otpEnd c.word (if c.data &&& bad = 0 then Code.OK else Code.OTP_FAIL))
    | 2 =>
      .next (t.otpEnd (80 + 4 * c.arg + s.arb c.arg / 16) (if s.arb c.arg = 64 then Code.ARB_FULL
        else if bad.toNat % 4 = 0 then Code.OK else Code.OTP_FAIL))
    | _ => .next (t.otpEnd 112 (if bitAt bad.toNat 0 then Code.OTP_FAIL else Code.OK))

end Sys2Proof.Machine
end

