-- ==== Sys2Proof/Machine/Facet.lean ====
section
/-! DEFINITION. The meanings of the facet commands (chapter 03). -/

namespace Sys2Proof.Machine
open Sys2Proof

/-- Cycles of one preamble symbol (R105, R113–R115); that of SUN-O-QPSK-915 is its standard's. -/
def symCycles (r : PlanProfile) : Nat :=
  match r.phy with
  | 0 => us 640
  | 1 => 2 ^ (r.sfexp + 4) * chipCycles r.rcode
  | 2 => us 16
  | _ => Config.sunSymCycles

/-- D of R587: the preamble symbols a detection takes. -/
def detectSyms (phy : Nat) : Nat := if phy ≤ 1 then 8 else 4

/-- The SFD timeout in cycles (R124): (Npre + 20) symbols for IL1 and IL2; for the 802.15.4 profiles the standard's SHR
duration (160 µs for O-QPSK-2450, R45) and 4 symbols. -/
def sfdTimeout (r : PlanProfile) : Nat :=
  match r.phy with
  | 0 => (32 + 20) * symCycles r
  | 1 => (npre r.pre + 20) * symCycles r
  | _ => shrCycles r + 4 * symCycles r

/-- May facet `f` detect a preamble now (R587): in SEARCH, the samples of the last D symbols all VALID? -/
def State.mayDetect (s : State) (f : Nat) : Bool :=
  let x := s.fct f
  let k := (s.ray x.alloc.path x.alloc.ray).par.k
  let w := detectSyms x.alloc.prof.phy * symCycles x.alloc.prof
  x.st == .search && decide (w ≤ s.clk.now) &&
    s.allValid x.alloc.path x.alloc.ray (sampleFrom k (s.clk.now - w)) (sampleAt k s.clk.now)

/-- PREAMBLE_DETECT (R587): the end of the D-th symbol; `corr` is the least correlation of the D symbols. -/
def execPreambleDetect (f : Nat) (rssi : QdB) (corr : Nat) (s : State) : Res :=
  let x := s.fct f
  if s.mayDetect f && decide (x.alloc.prof.lockthr < corr) then
    .next (s.setFct f { x with st := .sync, frame := some { det := s.clk.now, rssi := rssi,
                                                            sfdDue := s.clk.now + sfdTimeout x.alloc.prof } })
  else .next s

/-- Chip rate by RCODE in chips per second (R93). -/
def chipRate (rcode : Nat) : Nat := 100000 * loadOf rcode

/-- Does a carrier offset in hertz lie within ±FCAP of a ray (R104): 40 ppm of its centre, and B / 2 − 3 Rc / 8? -/
def fcapOk (r : RayPar) (rcode : Nat) (fofs : Int) : Bool :=
  decide (25000 * fofs.natAbs ≤ r.fr) && decide (8 * (fofs.natAbs : Int) ≤ 4 * rayB r.k - 3 * chipRate rcode)

/-- TSTAMP of R66 for a chip whose sample leaves the filter now: the trunk count at the land; a reading lies within one sample
of it. -/
def State.stampOf (s : State) (p : PathId) (n tstamp : Nat) : Nat :=
  let d := trunkAt (s.clk.now - rayDelay (s.ray p n).par.k)
  max (d - 1) (min (d + 1) tstamp) % 2 ^ 48

/-- SFD_FOUND (R100, R118, R121): a slot is taken and TSTAMP recorded, or the frame is lost with LAND_FULL; one whose carrier
offset lies outside ±FCAP is lost with SYNC_LOST (R104). -/
def execSfdFound (f tstamp : Nat) (fofs : Int) (s : State) : Res :=
  let s := s.endFlagged f
  let x := s.fct f
  match x.st, x.frame with
  | .sync, some fr =>
    let r := s.ray x.alloc.path x.alloc.ray
    if !fcapOk r.par x.alloc.prof.rcode fofs then .next (s.loseFrame f Code.SYNC_LOST (s.restSt x))
    else
      match s.takeSlot with
      | none => .next ((s.loseFrame f Code.LAND_FULL (s.restSt x)).set1 FACET_IRQ_LBFULL)
      | some (n, s) =>
        let fr' := { fr with slot := some n, first := s.clk.now - rayDelay r.par.k,
                             tstamp := s.stampOf x.alloc.path x.alloc.ray tstamp, fofs := fofs }
        .next (s.setFct f { x with st := .header, frame := some fr' })
  | _, _ => .next s

/-- SFD_TIMEOUT (R124). -/
def execSfdTimeout (f : Nat) (s : State) : Res :=
  let x := s.fct f
  match x.st, x.frame with
  | .sync, some fr =>
    let s := (s.advanceTo fr.sfdDue).endFlagged f
    if (s.fct f).st == .sync then .next (s.loseFrame f Code.SFD_TO (s.restSt x)) else .next s
  | _, _ => .next s

/-- What a PHY header gives: a status, or the length, the payload modulation and the rate (R109, R113–R115). For
SUN-O-QPSK-915 `chk` is 0 where the PHR passes its own check. -/
def headerOf (r : PlanProfile) (phr chk rate : Nat) (mdsss : Bool) : Sum Nat (Nat × Bool × Nat) :=
  match r.phy with
  | 0 => if phr = 0 || 128 ≤ phr then .inl Code.PHR_BAD else .inr (phr, false, 0)
  | 1 =>
    if crc8 phr ≠ chk then .inl Code.HDR_FAIL
    else if phr % 256 = 0 || bitsOf phr 15 9 ≠ 0 then .inl Code.PHR_BAD
    else .inr (phr % 256, bitAt phr 8, 0)
  | 2 => if phr % 128 < 5 then .inl Code.PHR_BAD else .inr (phr % 128, false, 0)
  | _ =>
    if chk ≠ 0 then .inl Code.HDR_FAIL
    else if mdsss then .inl Code.UNSUPP
    else if 127 < phr then .inl Code.PHR_BAD
    else .inr (phr, false, rate % 4)

/-- HEADER_DECODED (R100, R109): PAYLOAD, or the frame is lost. -/
def execHeaderDecoded (f phr chk rate : Nat) (mdsss : Bool) (s : State) : Res :=
  let s := s.endFlagged f
  let x := s.fct f
  match x.st, x.frame with
  | .header, some fr =>
    match headerOf x.alloc.prof phr chk rate mdsss with
    | .inl code => .next (s.loseFrame f code (s.restSt x))
    | .inr (len, qpsk, r) =>
      let k := (s.ray x.alloc.path x.alloc.ray).par.k
      let e := fr.first + frameCycles x.alloc.prof len qpsk r + rayDelay k
      .next (s.setFct f { x with st := .payload,
                                 frame := some { fr with len := len, qpsk := qpsk, rate := r, hdrOk := true, endDue := e } })
  | _, _ => .next s

/-- Octets decided at the end of the next interleaver block of an IL2 frame (R112): those whose last information bit
lies at least 48 bits before the block's last, 16 b − 6 after b blocks. -/
def nextRelease (fr : RxFrame) : Nat := min fr.len (16 * ((fr.decided + 6) / 16 + 1) - 6)

/-- How many octets a release may add: for IL2 those of the next block, else what the frame still lacks. -/
def releaseRoom (r : PlanProfile) (fr : RxFrame) : Nat :=
  if r.phy = 1 then nextRelease fr - fr.decided else fr.len - fr.decided

/-- Octets of a frame go into its slot (R112, R118). -/
def State.putOctets (s : State) (f : Nat) (octets : List Byte) : State :=
  let x := s.fct f
  match x.frame with
  | some fr =>
    match fr.slot with
    | some n =>
      (s.memPut (slotAddr n + 0x20 + fr.decided) octets).setFct f
        { x with frame := some { fr with decided := fr.decided + octets.length } }
    | none => s
  | none => s

/-- OCTET_RELEASE (R112). -/
def execOctetRelease (f : Nat) (octets : List Byte) (s : State) : Res :=
  let s := s.endFlagged f
  let x := s.fct f
  match x.st, x.frame with
  | .payload, some fr => .next (s.putOctets f (octets.take (releaseRoom x.alloc.prof fr)))
  | _, _ => .next s

/-- Does the frame check pass (R109, R113–R115)? `crc` is the check received after an IL PSDU. -/
def frameOk (r : PlanProfile) (psdu : List Byte) (crc : Nat) : Bool :=
  if r.phy ≤ 1 then decide (crc16 psdu = crc) else fcs154Ok psdu

/-- The last symbol of the frame in facet `f` is decoded (R588, R118, R120): the frame check, the descriptor, and the slot `n`
handed to the leaf MAC as landed. -/
def State.landAtEnd (s : State) (f n crc : Nat) (fr : RxFrame) (octets : List Byte) (snr : QdB) : State :=
  let s := s.putOctets f (octets.take (fr.len - fr.decided))
  let x := s.fct f
  let status := if frameOk x.alloc.prof (s.memBytes (slotAddr n + 0x20) fr.len) crc then Code.OK else Code.CRC_FAIL
  let dur := ceilDiv (frameCycles x.alloc.prof fr.len fr.qpsk fr.rate) 200000
  let s := (s.countFrame status).writeDesc n f x fr fr.endDue status fr.len dur snr
  (s.setFct f { x with st := s.restSt x, frame := none }).landFrame n f x status

/-- FRAME_END (R588). -/
def execFrameEnd (f crc : Nat) (octets : List Byte) (snr : QdB) (s : State) : Res :=
  match (s.fct f).st, (s.fct f).frame with
  | .payload, some fr =>
    let s := (s.advanceTo fr.endDue).endFlagged f
    match (s.fct f).st, fr.slot with
    | .payload, some n => .next (s.landAtEnd f n crc fr octets snr)
    | _, _ => .next s
  | _, _ => .next s

/-- FRAME_LOST_FLAG (R101): the first frozen or retuned sample of a frame in progress ends it. In SEARCH a flagged sample has no
other effect than that a detection needs D symbols after it (R587), and an erased one marks the frame's descriptor. -/
def execFrameLostFlag (f : Nat) (s : State) : Res :=
  match s.flagLoss f with
  | some (t, _) => .next ((s.advanceTo t).endFlagged f)
  | none => .next s

/-- SYNC_LOST (R104): at least 16 consecutive pilots or symbols, of which the last 16 correlate below LOCKTHR, or a frequency
estimate outside ±FCAP. -/
def execSyncLost (f : Nat) (corrs : List Nat) (fofs : Int) (s : State) : Res :=
  let s := s.endFlagged f
  let x := s.fct f
  if x.st.mid && (weakRun x.alloc.prof.lockthr corrs || !fcapOk (s.ray x.alloc.path x.alloc.ray).par x.alloc.prof.rcode fofs) then
    .next (s.loseFrame f Code.SYNC_LOST (s.restSt x))
  else .next s

/-- OLD_FACET_FINISH (R102, R103). -/
def execOldFacetFinish (f : Nat) (s : State) : Res :=
  let x := s.fct f
  if x.old && !x.st.mid then .next (s.finishOld f) else .next s

/-- DONEQ_READ (R119): the oldest posted slot with VALID, now firmware's; VALID = 0 on an empty queue. -/
def State.doneqRead (s : State) : State :=
  match s.facet.doneq with
  | [] => { s with rdata := 0 }
  | n :: t =>
    ({ s with facet := { s.facet with doneq := t, fw := s.facet.fw ++ [n] },
              rdata := BitVec.ofNat 32 (2 ^ 31 + n) }).showLb

def execDoneqRead (s : State) : Res := .next s.doneqRead

/-- LBFREE (R119): a slot firmware does not own is a reserved encoding. -/
def State.lbFree (s : State) (v : Word) : State :=
  let n := v.toNat % 2048
  if s.facet.fw.contains n then
    ({ s with facet := { s.facet with fw := s.facet.fw.erase n } }).freeSlot n
  else s.discard baseFACET

def execLbfree (v : Word) (s : State) : Res := .next (s.lbFree v)

/-- FACET_CNTCLR (R125). -/
def State.facetCntclr (s : State) : State := (List.range 14).foldl (fun s n => s.wr (FACET_CNTn n) 0) s

def execFacetCntclr (s : State) : Res := .next s.facetCntclr

end Sys2Proof.Machine
end

