-- ==== Sys2Proof/Machine/HifOps.lean ====
section
/-! DEFINITION. Slots, results and events of HIF (R525–R532) as shared operations. -/

namespace Sys2Proof.Machine
open Sys2Proof

/-- HIF_STAT follows the slots and events (R561). -/
def State.showHif (s : State) : State :=
  let s := s.setFld HIF_STAT_FREE (8 - s.hif.slots.length)
  let s := s.setFld HIF_STAT_DONE ((s.hif.slots.filter (fun e => e.2.done)).length)
  s.setFld HIF_STAT_EVHELD s.hif.events.length

/-- The port runs (R524) and serves generation `g`: 0 Gen-1, 1 Gen-2. -/
def State.hifOn (s : State) (g : Nat) : Bool :=
  s.clocked && s.flag HIF_CTRL_EN && decide (s.fld SYS_COMPAT_GEN = g)

/-- HIF_IRQ_N is low (R531, R534): under Gen-2 while a completed result is held unread or an event is held, under Gen-1
while the IRQ word is non-zero. -/
def State.hifIrqLow (s : State) : Bool :=
  if s.fld SYS_COMPAT_GEN = 1 then s.hif.slots.any (fun e => e.2.done && !e.2.read) || !s.hif.events.isEmpty
  else decide (s.hif.g1irq ≠ 0)

/-- Address of slot `j` in the region of R532. -/
def State.hifSlotAt (s : State) (j : Nat) : Nat := s.fld HIF_BUF_BASE * 4096 + 0x1000 * j

/-- Address of event ring entry `e`. -/
def State.hifEventAt (s : State) (e : Nat) : Nat := s.fld HIF_BUF_BASE * 4096 + 0x8000 + 0x40 * e

/-- Slot `j` as it stands. -/
def State.hifSlot (s : State) (j : Nat) : Option HifSlot := tblFind s.hif.slots j

/-- Replace slot `j`. -/
def State.setHifSlot (s : State) (j : Nat) (x : HifSlot) : State :=
  ({ s with hif := { s.hif with slots := tblIns s.hif.slots j x } } : State).showHif

/-- A frame with its CRC-32, little-endian (R526). -/
def withCrc (l : List Byte) : List Byte := l ++ leBytes 4 (crc32 l)

/-- Does a frame end in its CRC? -/
def crcHolds (l : List Byte) : Bool := l == withCrc (l.take (l.length - 4))

/-- What the port returns to the host. -/
def State.hifResp (s : State) (l : List Byte) : State := { s with hif := { s.hif with resp := l } }

/-- The lowest slot that holds a completed result for TAG. -/
def State.hifDone (s : State) (tag : Nat) : Option (Nat × HifSlot) :=
  s.hif.slots.find? (fun e => e.2.tag == tag && e.2.done)

/-- Result octets 1–7 and PAYLOAD are in the slot and its result is completed (R532). -/
def State.hifPost (s : State) (j : Nat) : State :=
  match s.hifSlot j with
  | some x => if x.done then s.discard baseHIF else s.setHifSlot j { x with done := true }
  | none => s.discard baseHIF

/-- The agent answers the command in slot `j` (R532, R533). -/
def State.hifAnswer (s : State) (j status : Nat) (payload : List Byte) : State :=
  match s.hifSlot j with
  | none => s
  | some x =>
    let s := s.memPut (s.hifSlotAt j + 1) (leBytes 1 status ++ leBytes 2 0 ++ leBytes 2 payload.length ++ leBytes 2 0 ++ payload)
    s.setHifSlot j { x with done := true }

/-- The agent takes the command with OP `op` from slot `j`: none where the slot holds no such uncompleted command. -/
def State.hifTake (s : State) (j op : Nat) : Option (List Byte × State) :=
  match s.hifSlot j with
  | none => none
  | some x =>
    if x.done || x.op ≠ op then none
    else some (s.memBytes (s.hifSlotAt j + 4) x.len, { s with hif := { s.hif with cmdq := s.hif.cmdq.filter (· != j) } })

end Sys2Proof.Machine
end

