-- ==== Sys2Proof/Machine/IcuOps.lean ====
section
/-! DEFINITION. Interrupt sources: their lines, when one is pending, and the latches of the always-on domain
(R359, R360, R370). -/

namespace Sys2Proof.Machine
open Sys2Proof

/-- The line of a source (R359): status and enable; the software lines and the latches have no enable there. -/
def State.line (s : State) (src : Nat) : Bool :=
  if src / 64 = 2 then
    if src % 64 < 8 then bitAt (s.fld ICU_SWISET_LINE) (src % 64)
    else decide (32 ≤ src % 64) && bitAt (s.fld ICU_ALSTAT_LATCH) (src % 64 - 32)
  else match srcRegs src with
    | none => false
    | some (a, e, n) => bitAt (s.rd a).toNat n && bitAt (s.rd e).toNat n

/-- The core a source is routed to. -/
def State.srcCore (s : State) (src : Nat) : CoreId := coreOf (s.fld (ICU_SRCn_CORE src))

/-- Is the source of the fast class? -/
def State.srcFast (s : State) (src : Nat) : Bool := s.flag (ICU_SRCn_CLASS src)

/-- Priority of a source, 0 most important. -/
def State.srcPrio (s : State) (src : Nat) : Nat := s.fld (ICU_SRCn_PRIO src)

/-- Is the source active (R363)? -/
def State.srcActive (s : State) (src : Nat) : Bool := s.icu.active.any (fun a => a.src == src)

/-- Is the source pending (R360)? -/
def State.srcPending (s : State) (src : Nat) : Bool := s.flag (ICU_SRCn_EN src) && s.line src && !s.srcActive src

/-- The pending sources routed to a core, lowest number first. -/
def State.pendingOf (s : State) (c : CoreId) : List Nat :=
  ((List.range 1536).drop 64).filter (fun n => s.srcPending n && s.srcCore n == c)

/-- The active sources of a core. -/
def State.activeOf (s : State) (c : CoreId) : List ActiveSrc := s.icu.active.filter (fun a => a.core == c)

/-- Show a core's active priorities in ICU_ACTc (R367). -/
def State.showActive (s : State) (c : CoreId) : State :=
  let normal := (s.activeOf c).filter (fun a => !a.fast)
  let prios := normal.foldl (fun x a => x ||| 2 ^ a.prio) 0
  let s1 := s.setFld (ICU_ACTc_PRIOS (coreNum c)) prios
  s1.setBool (ICU_ACTc_FACT (coreNum c)) ((s.activeOf c).any (fun a => a.fast))

/-- Is a normal source eligible on a core whose GD is 0 (R361)? -/
def State.normalEligible (s : State) (c : CoreId) (src : Nat) : Bool :=
  !s.srcFast src && decide (s.srcPrio src < s.fld (ICU_COREc_THR (coreNum c))) &&
    ((s.activeOf c).filter (fun a => !a.fast)).all (fun a => decide (s.srcPrio src < a.prio))

/-- The source of the best priority, and of the lowest number among equals. -/
def State.bestSrc (s : State) (l : List Nat) : Option Nat :=
  l.foldl (fun b n => match b with
    | none => some n
    | some m => if s.srcPrio n < s.srcPrio m then some n else some m) none

/-- The source core `c` takes at a boundary, from the state of its PSW (R361): a fast one goes first. A fast handler is never
interrupted, by a normal source either where it has cleared GD (R367). -/
def State.pickSrc (s : State) (c : CoreId) (fastBank gd : Bool) : Option Nat :=
  let p := s.pendingOf c
  let fast := if fastBank || s.flag (ICU_COREc_FDIS (coreNum c)) then [] else p.filter s.srcFast
  match s.bestSrc fast with
  | some n => some n
  | none => if gd || fastBank then none else s.bestSrc (p.filter (s.normalEligible c))

/-- A latch sets, or records the overrun (R370). -/
def State.latchSet (s : State) (n : Nat) : State :=
  if bitAt (s.fld ICU_ALSTAT_LATCH) n then s.set1 (ICU_ALOVR_LATCH.bit n) else s.set1 (ICU_ALSTAT_LATCH.bit n)

/-- Does latch `n` capture an edge to `level` (R370: 0 rising, 1 falling, 2 both)? -/
def State.latchEdge (s : State) (n : Nat) (level : Bool) : Bool :=
  let sel := if n < 16 then s.fld ⟨ICU_ALEDGE0, 2 * n + 1, 2 * n⟩ else s.fld ⟨ICU_ALEDGE1, 2 * n - 31, 2 * n - 32⟩
  bitAt (s.fld ICU_ALEN_PIN) n && (sel == 2 || (sel == 0 && level) || (sel == 1 && !level))

/-! ### General-purpose pins (R542–R545) -/

/-- The level that the device drives on GPIO pin `n`: none where it is an input, or an open-drain pin that is released. -/
def State.gpioDrives (s : State) (n : Nat) : Option Bool :=
  if !(bitAt (s.fld GPIO_DIR_DIR) n) then none
  else
    let v := if s.flag (GPIO_FUNCn_SRC n) then bitAt (s.fld GPIO_TOUT_TOUT) (s.fld (GPIO_FUNCn_UNIT n)) != s.flag (GPIO_FUNCn_INV n)
      else bitAt (s.fld GPIO_OUT_OUT) n
    if v && bitAt (s.fld GPIO_OD_OD) n then none else some v

/-- Pin `n` takes `level`, and its latch captures the edge (R370, R543). -/
def State.pinTo (s : State) (n : Nat) (level : Bool) : State :=
  if bitAt s.icu.pins n == level then s
  else
    let pins := if level then s.icu.pins + 2 ^ n else s.icu.pins - 2 ^ n
    let hit := s.latchEdge n level
    let rose := if n == 20 && level then some s.clk.now else s.icu.stillRose
    let act := if n == 22 then s.clk.now else s.mirror.actAt
    let s : State := { s with icu := { s.icu with pins := pins, stillRose := rose }, mirror := { s.mirror with actAt := act } }
    if hit then s.latchSet n else s

/-- The pins follow the GPIO registers and the unit outputs; while the core clock stands the pad latches hold them (R545). -/
def State.gpioSettle (s : State) : State :=
  if !s.clocked then s
  else (List.range 20).foldl (fun (s : State) n =>
    match s.gpioDrives n with
    | some v => s.pinTo n v
    | none => s) s

/-- Delivery of `src` on `c` commits (R363). -/
def State.deliver (s : State) (c : CoreId) (src : Nat) : State :=
  let fast := s.srcFast src
  let prio := s.srcPrio src
  let n := coreNum c
  let cur : Nat := if fast then ICU_FCURc n else ICU_CURc n
  let s1 : State := { s with icu := { s.icu with active := s.icu.active ++ [(⟨src, prio, fast, c⟩ : ActiveSrc)] } }
  let s2 := s1.wr cur (BitVec.ofNat 32 (2 ^ 31 + prio * 2 ^ 24 + src))
  (s2.inc (ICU_STATc_DELIV n)).showActive c

/-- A write of ICU_SRCn by `r` (R360). -/
def State.srcWrite (s : State) (r : Requester) (src : Nat) (v : Word) : State :=
  let core := bitsOf v.toNat 13 12
  let cls := bitsOf v.toNat 8 8
  let bad := r != .core .kc || (cls == 1 && core == 2) || ([12, 13, 23].contains (src / 64) && core != 3) ||
    (s.srcActive src && (core != s.fld (ICU_SRCn_CORE src) || cls != s.fld (ICU_SRCn_CLASS src)))
  if bad then s.discard baseICU else s.plainWrite (ICU_SRCn src) v

end Sys2Proof.Machine
end

