-- ==== Sys2Proof/Machine/Mac.lean ====
section
/-! DEFINITION. The meanings of the leaf MAC commands (chapter 06). -/

namespace Sys2Proof.Machine
open Sys2Proof

/-- The facet whose frame holds a landing slot. -/
def State.slotFacet (s : State) (n : Nat) : Option (Nat × Facet) :=
  s.facet.facets.find? (fun e => e.2.frame.any (fun r => r.slot == some n))

/-- Octets of a slot known to the MAC: those released, or all once it has landed. -/
def keyReady (phy : Nat) (b : List Byte) (decided len : Nat) : Bool :=
  decide (len ≤ decided) ||
    (if phy = 1 then decide (il2Need b ≤ decided) else decide (2 ≤ decided) && decide (mhrNeed b ≤ decided))

/-- The read of a set is uncorrectable in one of its four lines, where none is known to be, in any of them (R352). -/
def State.setEcc (s : State) (set : Nat) : State :=
  if s.mac.badSets.contains set then s
  else
    match (List.range 4).find? (fun k => s.poisoned (setAddr set + 16 * k)) with
    | some k => s.uncorrRead (setAddr set + 16 * k)
    | none => s.fresh.2.uncorrRead (setAddr set + 16 * (s.fresh.1 % 4))

/-- A lookup ended in DIR_ECC (R199, R352): the entries of the set are invalidated until it is rebuilt. -/
def State.setLost (s : State) (set : Nat) : State :=
  let s := s.setEcc set
  let s := (List.range 8).foldl (fun s w => { s with mac := { s.mac with dir := tblDel s.mac.dir (8 * set + w) } }) s
  let s := { s with mac := { s.mac with badSets := if s.mac.badSets.contains set then s.mac.badSets
                                                   else s.mac.badSets ++ [set] } }
  (s.showDir).set1 MAC_IRQ_DIRECC

/-- The verdict of a frame is fixed (R197–R199), `lat` cycles after its key was released, with `avail` of its octets there. -/
def State.fixVerdict (s : State) (n : Nat) (x : MacFrame) (len avail lat : Nat) (ecc : Bool) : State :=
  let x := s.verdictOf x n len avail ecc
  let s := { s with mac := { s.mac with frames := tblIns s.mac.frames n { x with decidedAt := s.clk.now } } }
  let s := (s.setFld MAC_LAT_LAST lat).setFld MAC_LAT_MAX (max lat (s.fld MAC_LAT_MAX))
  if x.verdict = some (.reject Code.DIR_ECC) then s.setLost (s.dirSet x.key) else s

/-- A frame on its way into slot `n` whose verdict may be fixed: its record and the octets released. -/
def State.onAir (s : State) (n : Nat) : Option (MacFrame × Nat × Nat) :=
  match s.slotFacet n, tblFind s.mac.frames n with
  | some (f, x), none =>
    let p := x.alloc.prof.phy
    match x.frame with
    | some fr =>
      if s.flag MAC_CTRL_EN && 1 ≤ p && p ≤ 3 && x.st == .payload && keyReady p (s.slotBytes n fr.decided) fr.decided fr.len then
        some ({ facet := f, phy := p, path := x.alloc.path }, fr.len, fr.decided)
      else none
    | none => none
  | _, some x => if x.verdict.isNone then some (x, x.len, x.len) else none
  | _, _ => none

/-- MAC_VERDICT (R196–R199): `lat` is the time from the release of the key octet, 31 to 50 cycles; `ecc` says that the
set read was uncorrectable. A frame that lands first, and a DIV copy, has its verdict fixed in its slot. -/
def execMacVerdict (n lat : Nat) (ecc : Bool) (s : State) : Res :=
  match s.onAir n with
  | some (x, len, avail) => if 31 ≤ lat && lat ≤ 50 then .next (s.fixVerdict n x len avail lat ecc) else .next s
  | none => .next s

/-! ### Landing -/

/-- A JOIN-path frame is delivered (R210, R220). -/
def State.deliverJoin (s : State) (n : Nat) (x : MacFrame) (rejoin : Bool) : State :=
  ((s.postFrame n x Code.OK true rejoin false).macCnt 13).set1 MAC_IRQ_JOIN

/-- A join refused (R210, R211, R213). -/
def State.refuseJoin (s : State) (n : Nat) (x : MacFrame) (code : Nat) (eui : List Byte) : State :=
  let s := s.putJresp { grp := s.groupAt (s.usOfTrunk x.tstamp), eui := eui, status := code }
  (s.set1 MAC_IRQ_REFUSE).rejectFrame n x code

/-- An IL2 JOIN request that landed OK (R210). -/
def State.landJoin (s : State) (n : Nat) (x : MacFrame) (b : List Byte) : State :=
  let eui := (b.drop 4).take 8
  if !(s.flag MAC_BCNCTL_JOINOPEN) then s.rejectFrame n x Code.JOIN_CLOSED
  else if (s.dirFind x.key 0).isSome then s.deliverJoin n x true
  else if s.fld MAC_DIRSTAT_LIVE = 262144 then s.refuseJoin n x Code.CAPACITY eui
  else if s.dirFree (s.dirSet x.key) = 0 then s.refuseJoin n x Code.SET_FULL eui
  else s.deliverJoin n x false

/-- The command identifier of an unsecured 802.15.4 MAC command frame. -/
def cmd154 (b : List Byte) (m : Mhr) : Option Nat :=
  if m.ftype = 3 && !m.sec then some (oct b m.addrEnd) else none

/-- A JOIN-path 802.15.4 frame that landed OK (R211): an Association Request at full capacity is held for. -/
def State.landJoin154 (s : State) (n : Nat) (x : MacFrame) (b : List Byte) : State :=
  let m := parseMhr b
  if m.srcMode = 3 && cmd154 b m = some 1 && s.fld MAC_DIRSTAT_LIVE = 262144 then
    let prof := (s.fct x.facet).alloc
    let h : AssocHeld := { path := x.path, profid := prof.prof.profid, ray := prof.ray, ext := m.src,
                           pan := m.srcPan.getD 0 }
    let held := s.mac.assoc ++ [h]
    let s := { s with mac := { s.mac with assoc := held.drop (held.length - 8) } }
    (s.set1 MAC_IRQ_REFUSE).rejectFrame n x Code.CAPACITY
  else s.deliverJoin n x false

/-- An Imm-Ack waits for the outcome of an 802.15.4 frame that asks for one (R208). -/
def State.awaitAck (s : State) (n : Nat) (x : MacFrame) (b : List Byte) : State :=
  if s.wantsAck x b && !x.copy then
    let m := parseMhr b
    let al := (s.fct x.facet).alloc
    let lastC := x.landAt - rayDelay (s.ray x.path al.ray).par.k
    let joinP := x.verdict == some .join
    let a : AckWait := { slot := n, facet := x.facet, path := x.path, ray := al.ray, profid := al.prof.profid,
                         tstart := s.usOfCycle (lastC + 199) + turnaround x.phy, seq := m.seq,
                         decided := if joinP then some true else none, pend := x.pend,
                         short := if joinP then none else some x.key, ext := if joinP then m.src else [],
                         dataReq := m.srcMode == 3 && cmd154 b m == some 4 }
    { s with mac := { s.mac with acks := s.mac.acks ++ [a] } }
  else s

/-- A PROCEED frame that landed OK is submitted, or parked (R200, R204, R236, R237). -/
def State.landProceed (s : State) (n : Nat) (x : MacFrame) : State :=
  let parked := (s.mac.frames.filter (fun e => e.2.phase == .parked)).length
  if x.evicted then s.rejectFrame n x Code.UNKNOWN_SRC
  else if s.flag CIPHER_STAT_HALTED then s.rejectFrame n x Code.CIPHER_DOWN
  else if s.isHot x.ctx then
    let s := (s.pgCnt 0).touch x.ctx
    { s with mac := { s.mac with frames := tblIns s.mac.frames n { x with phase := .auth } } }
  else if 512 ≤ parked then (s.pgCnt 5).rejectFrame n x Code.CTX_LATE
  else if s.pager.damaged.contains x.ctx || s.flag PAGER_STAT_STOREDOWN || s.flag PAGER_STAT_FLUSHED then
    s.rejectFrame n x Code.CTX_LATE
  else
    let s := { s with mac := { s.mac with frames := tblIns s.mac.frames n { x with phase := .parked } } }
    s.wantCtx x.ctx true

/-- The standby forwards a frame that landed OK under PROCEED or JOIN to the active member (R556): the NETTIME of its TSTAMP,
the descriptor and the PSDU. -/
def State.divForward (s : State) (n : Nat) (x : MacFrame) : State :=
  if s.pairStandby && s.flag MIRROR_CFG_DIV && decide (x.status = Code.OK) then
    let nt := (s.ntOfTrunk x.tstamp / ((2 ^ 32 : Nat) : Int)).toNat
    s.mirSend 6 (.raw (leBytes 8 nt ++ s.memBytes (slotAddr n) 32 ++ s.slotBytes n x.len)) none
  else s

/-- Does a landed 802.15.4 frame lie outside the subset of R214, now that all its octets are there? That comes before every other
verdict (R198). -/
def MacFrame.outside (x : MacFrame) (b : List Byte) : Bool := x.phy != 1 && form154Bad b (parseMhr b) x.len x.len

/-- MAC_FRAME_LAND (R198, R200, R210, R211, R220): a landed frame whose verdict is fixed goes its way. -/
def State.landed (s : State) (n : Nat) (x : MacFrame) : State :=
  let b := s.slotBytes n x.len
  match x.verdict with
  | none => s
  | some v =>
    if x.outside b then s.rejectFrame n x Code.FMT_BAD
    else
      match v with
      | .reject code => s.rejectFrame n x code
      | .join =>
        let s := s.divForward n x
        if x.phy = 1 then s.landJoin n x b else (s.awaitAck n x b).landJoin154 n x b
      | .proceed =>
        let s := s.divForward n x
        let x := if x.phy = 1 then x else { x with keyIdx := oct b ((parseMhr b).addrEnd + 5) - 1 }
        (if x.phy = 1 then s else s.awaitAck n x b).landProceed n x

def execMacFrameLand (n : Nat) (s : State) : Res :=
  match tblFind s.mac.frames n with
  | some x => if x.phase = .landed then .next (s.landed n x) else .next s
  | none => .next s

/-! ### Authentication -/

/-- What the counter rule of R201 gives for a frame whose MIC verified. -/
def fcStatus (fc rx : Nat) : Nat :=
  if fc = 0xffffffff then Code.FC_EXHAUSTED
  else if rx < fc then Code.OK
  else if fc = rx then Code.DUP
  else Code.REPLAY

/-- An accepted frame's marks on its context (R201, R225, R248); `sw` says that it switches the downlink key (R252). -/
def Ctx.accept (c : Ctx) (i fc tstamp : Nat) (sw : Bool) : Ctx :=
  let c := { c.setRxfc i fc with miss := 0, lost := false, okcnt := min (c.okcnt + 1) 0xffffffff, lastrx := tstamp }
  if sw then { c with keyuse := i, txfc := 1, txrsv := 4096 } else c

/-- Is a frame the first under the key that a REKEY wrote (R252)? -/
def State.switches (s : State) (x : MacFrame) (c : Ctx) : Bool := x.keyIdx != c.keyuse && s.pager.newKeys.contains x.ctx

/-- A frame ends OK: RX_FC advances, and the first frame under a new key switches the downlink key (R252). -/
def State.acceptCtx (s : State) (x : MacFrame) (c : Ctx) (fc : Nat) : State :=
  let sw := s.switches x c
  let s := s.modCtx x.ctx (fun c => c.accept x.keyIdx fc x.tstamp sw)
  if s.pairStandby then s
  else
    let s := s.dirMod x.key x.cls (fun e => { e with lost := false })
    if sw then
      let s := s.wantReserve x.ctx
      { s with pager := { s.pager with resvNew := s.pager.resvNew ++ [x.ctx], newKeys := s.pager.newKeys.filter (· != x.ctx) } }
    else s

/-- A frame that ends OK or DUP clears MISS and LOST (R248); a repeat changes nothing else. -/
def State.dupCtx (s : State) (x : MacFrame) (c : Ctx) : State :=
  if (c.miss = 0 && !c.lost) || s.pairStandby then s
  else (s.modCtx x.ctx (fun c => { c with miss := 0, lost := false })).dirMod x.key x.cls (fun e => { e with lost := false })

/-- A frame that verified with status OK: it is decrypted in place, credited to its group, and delivered, as
SLOT_MISMATCH where no window of its group holds it (R201, R205, R206). -/
def State.authOk (s : State) (n : Nat) (x : MacFrame) (c : Ctx) (fc ofs : Nat) (pt : List Byte) : State :=
  let t := s.usOfTrunk x.tstamp
  let s := (s.memPut (slotAddr n + 0x20 + ofs) pt).earlyGacks t c.miss
  let g := s.creditGroup c t
  let s := s.acceptCtx x c fc
  let s := match g with
    | some g => if x.cls = 0 then s.creditFrame g.1 g.2 x else s
    | none => s
  let status := if x.cls = 0 && g.isNone then Code.SLOT_MISMATCH else Code.OK
  ((s.countOutcome status).decideAck n true).postFrame n x status false false true

/-- A repeat: acknowledged, not delivered. -/
def State.authDup (s : State) (n : Nat) (x : MacFrame) (c : Ctx) : State :=
  let t := s.usOfTrunk x.tstamp
  let s := s.earlyGacks t c.miss
  let g := s.creditGroup c t
  let s := s.dupCtx x c
  let s := match g with
    | some g => if x.cls = 0 then s.creditFrame g.1 g.2 x else s
    | none => s
  s.rejectFrame n x Code.DUP

/-- The end of a MIC check (R190, R192, R201–R203, R252): the MIC check of a frame ends. -/
def State.authEnd (s : State) (n : Nat) (x : MacFrame) : State :=
  match s.hot x.ctx with
  | none => s.rejectFrame n x Code.CTX_LATE
  | some h =>
    match openFrame x (s.slotBytes n x.len) h.ctx, x.keyGone with
    | (fc, ofs, some pt), false =>
      let st := fcStatus fc (h.ctx.rxfc x.keyIdx)
      if st = Code.OK then s.authOk n x h.ctx fc ofs pt
      else if st = Code.DUP then s.authDup n x h.ctx
      else s.rejectFrame n x st
    | _, _ => s.rejectFrame n x Code.MIC_FAIL

/-- AUTH_END: while the cipher engine is halted the frame ends CIPHER_DOWN, and RX_FC does not change (R204); it waits
while the AES cores do not run for want of a seed (R445, R472). -/
def execAuthEnd (n : Nat) (s : State) : Res :=
  match tblFind s.mac.frames n with
  | some x =>
    if x.phase = .auth then
      .next (if s.flag CIPHER_STAT_HALTED then s.rejectFrame n x Code.CIPHER_DOWN
        else if !s.aesRuns then s else s.authEnd n x)
    else .next s
  | none => .next s

/-- CTX_LATE (R200, R237): 2 ms after landing. -/
def execCtxLate (n : Nat) (s : State) : Res :=
  match tblFind s.mac.frames n with
  | some x =>
    if x.phase = .parked then .next ((s.advanceTo (x.landAt + us 2000)).rejectFrame n x Code.CTX_LATE) else .next s
  | none => .next s

/-! ### Acknowledgement -/

/-- Is a kind 4 entry queued for a destination? -/
def State.rawFor (s : State) (dst : List Byte) : Bool := s.mac.dlq.any (fun d => d.kind == 4 && d.dst == dst)

/-- The address octets of a PAN ID and short address. -/
def shortDst (k : Nat) : List Byte := leBytes 2 (k / 65536) ++ leBytes 2 k

/-- The frame pending bit of an Imm-Ack (R208). -/
def State.ackPend (s : State) (a : AckWait) : Bool :=
  match a.short with
  | some k => a.pend || s.rawFor (shortDst k)
  | none => s.mac.assoc.any (fun h => h.ext == a.ext) || s.rawFor a.ext || s.flag MAC_154CFG_XPEND

/-- Ask for an Imm-Ack (R208). -/
def State.sendAck (s : State) (a : AckWait) : State :=
  let prof := s.profOf a.profid
  let lenUs := leafUs prof 5 false
  let fcf := 2 + (if s.ackPend a then 16 else 0)
  let lbt := (s.channelOf a.path (occBand prof.txKind (s.ray a.path a.ray).par.fr)).any (·.lbt)
  let aft : AfterAck := { slot := a.slot, path := a.path, ray := a.ray, profid := a.profid,
                          ackEndUs := a.tstart + lenUs, lbt := lbt, short := a.short, ext := a.ext, dataReq := a.dataReq }
  let s := { s with mac := { s.mac with after := (s.mac.after.filter (fun (x : AfterAck) => x.slot != a.slot)) ++ [aft] } }
  s.ask { kind := .immAck a.slot, path := a.path, ray := a.ray, profid := a.profid, pidx := s.rayCap a.path a.ray prof.txKind,
          tstart := a.tstart, lenUs := lenUs, psdu := withFcs (leBytes 2 fcf ++ leBytes 1 a.seq), tx := prof.txKind,
          mask := some prof.mask }

/-- IMM_ACK (R208, R209): at the cutoff the ack is asked for, not wanted, or counted ACK_MISS. -/
def execImmAck (n : Nat) (s : State) : Res :=
  match s.mac.acks.find? (fun a => a.slot == n) with
  | none => .next s
  | some a =>
    let s := s.advanceSqt (a.tstart - s.fld MAC_154CFG_ACKCUT).toNat
    let s := { s with mac := { s.mac with acks := s.mac.acks.filter (fun x => x.slot != n) } }
    match a.decided with
    | some true => .next (s.sendAck a)
    | some false => .next s
    | none => .next ((s.macCnt 18).set1 MAC_IRQ_ACKMISS)

/-- A due node was not heard (R248). -/
def State.missCtx (s : State) (i : Nat) (c : Ctx) : State :=
  let m := min 3 (c.miss + 1)
  let lost := c.lost || decide (m = 3)
  let s := if m = c.miss && lost == c.lost then s else s.modAny i (fun c => { c with miss := m, lost := lost })
  if m = 3 && !c.lost && !s.pairStandby then
    ((s.dirMod c.key c.cls (fun e => { e with lost := true })).set1 PAGER_IRQ_LOST).pgCnt 9
  else s

/-- The record of an occurrence freezes (R206): it takes its join responses (R211), MISS and LOST follow (R248), and the
prefetch pins of the cycle are released (R231). -/
def State.freezeGack (s : State) (g : GackRec) : State :=
  let j := takeJresp g.grp 8 s.mac.jresp
  let s := ({ s with mac := { s.mac with jresp := j.2 } }).showJresp
  let s := s.setGack { g with frozen := true, jrs := j.1 }
  let due := s.allCtx.filter (fun e =>
    let c := s.placedFor e.2 g.grp g.gseq
    c.due g.grp g.gseq && !(g.acks.contains c.pos))
  let s := due.foldl (fun s e => s.missCtx e.1 e.2) s
  let hot := s.pager.hot.map (fun (e : Nat × HotCtx) => (e.1, { e.2 with prefetch := e.2.prefetch.filter (· != (g.grp, g.gseq)) }))
  let cycles := s.pager.cycles.filter (fun c => !(c.1 == g.grp && c.2 == g.gseq))
  let moved := (s.pager.moved.map (fun m => { m with cycles := m.cycles.filter (· != (g.grp, g.gseq)) })).filter
    (fun m => !m.cycles.isEmpty)
  ({ s with pager := { s.pager with hot := hot, cycles := cycles, moved := moved } }).showPager

/-- GACK_FREEZE (R206, R248). -/
def execGackFreeze (recn : Nat) (s : State) : Res :=
  match s.sched recn with
  | none => .next s
  | some r =>
    match r.occ with
    | none => .next s
    | some o =>
      match s.gackOf recn o.s0 with
      | none => .next s
      | some g =>
        let t := o.s0 + r.gackAt - s.fld MAC_GACKCFG_BUILD
        if g.frozen || !s.wheelRuns || !(s.inTurn t 0 0) then .next s else .next ((s.advanceSqt t).freezeGack g)

/-- A bit map over positions; bits at and above NPOS are 0 (R187). -/
def bitMap (npos : Nat) (l : List Nat) : List Byte :=
  (List.range (ceilDiv npos 8)).map (fun o =>
    BitVec.ofNat 8 ((List.range 8).foldl (fun n b => if l.contains (8 * o + b) && decide (8 * o + b < npos) then n + 2 ^ b else n) 0))

/-- A GACK before its TAG (R187). -/
def gackBody (netid : Nat) (g : GackRec) : List Byte :=
  [0x12, BitVec.ofNat 8 g.grp] ++ leBytes 2 netid ++ leBytes 2 g.gseq ++ leBytes 2 g.npos ++ bitMap g.npos g.acks ++
    bitMap g.npos g.pends ++ [BitVec.ofNat 8 g.jrs.length] ++ g.jrs.flatMap (fun j => j.eui ++ [BitVec.ofNat 8 j.status])

/-- GACK_TX (R187, R191, R204, R207): the frozen record is sent at G, or discarded while the cipher engine is halted. -/
def execGackTx (recn : Nat) (s : State) : Res :=
  match s.sched recn with
  | none => .next s
  | some r =>
    match s.mac.gacks.find? (fun g => g.recn == recn && g.frozen && !g.asked) with
    | none => .next s
    | some g =>
      if s.flag CIPHER_STAT_HALTED then .next (s.gackLost g)
      else
        let body := gackBody (s.fld MAC_NETID_NETID) g
        let t := s.netTag body
        let s := t.2.setGack { g with asked := true }
        let prof := s.profOf r.profid
        .next (s.ask { kind := .gack recn, path := r.path, ray := r.ray, profid := r.profid, pidx := r.pidx,
                       tstart := g.s0 + r.gackAt, lenUs := leafUs prof (body.length + 8) (Config.sentQpsk 1),
                       psdu := body ++ t.1, tx := prof.txKind, mask := some prof.mask })

/-- BPAY octets of the beacon (R186). -/
def State.bpay (s : State) : List Byte :=
  ((List.range 16).flatMap (fun n => leBytes 4 (s.rd (MAC_BCNPAYn n)).toNat)).take (s.fld MAC_BCNCTL_BPLEN)

/-- A BEACON before its TAG, for a first chip at `t` µs (R186). -/
def State.beaconBody (s : State) (t : Nat) (prof : PlanProfile) : List Byte :=
  let flags := s.fld MAC_BCNCTL_JOINOPEN + (if s.fld SEQ_STAT_TSTATE = 3 then 2 else 0)
  [0x10, BitVec.ofNat 8 flags] ++ leBytes 2 (s.fld MAC_NETID_NETID) ++ leBytes 2 (s.fld MAC_NETID_CID) ++
    leBytes 2 s.mac.bsn ++ leBytes 6 ((200 * t + shrCycles prof) / 200) ++
    [0, BitVec.ofNat 8 (s.fld MAC_BCNCTL_BPLEN)] ++ s.bpay

/-- BEACON_TX (R204, R280): an occurrence of a BEACON record asks for a beacon with LATE = 0. -/
def execBeaconTx (recn : Nat) (s : State) : Res :=
  match s.sched recn with
  | none => .next s
  | some r =>
    match r.kind, r.next with
    | 1, some t =>
      if !s.wheelRuns then .next s
      else
        let prof := s.profOf r.profid
        let body := s.beaconBody t prof
        let s := s.putRec recn { (r.begin_ t).finish with endUs := some (t + leafUs prof (body.length + 8) (Config.sentQpsk 0)) }
        if s.flag CIPHER_STAT_HALTED then .next s
        else
          let g := s.netTag body
          .next (g.2.ask { kind := .beacon recn, path := r.path, ray := r.ray, profid := r.profid, pidx := r.pidx,
                           tstart := t, lenUs := leafUs prof (body.length + 8) (Config.sentQpsk 0), psdu := body ++ g.1,
                           tx := prof.txKind, mask := some prof.mask })
    | _, _ => .next s

/-- When a downlink after an Imm-Ack may start (R218). -/
def State.afterAckAt (s : State) (a : AfterAck) : Int :=
  let g := a.ackEndUs + s.fld MAC_154CFG_DLGAP
  let d := rayDelay (s.ray a.path a.ray).par.k
  if a.lbt then max g (a.ackEndUs + 26 + (ceilDiv (2 * d) 200 : Nat) + (s.profOf a.profid).lbtus) else g

/-- Take the note of an acknowledged frame. -/
def State.dropAfter (s : State) (n : Nat) : State :=
  { s with mac := { s.mac with after := s.mac.after.filter (fun a => a.slot != n) } }

/-- ASSOC_RESPONSE (R211): the standard response with status 0x01, DLGAP µs after the ack to a Data Request. Its source
address and sequence number are the collector's own, which the spec does not give. -/
def execAssocResponse (n : Nat) (s : State) : Res :=
  match s.mac.after.find? (fun a => a.slot == n) with
  | none => .next s
  | some a =>
    match a.dataReq, s.mac.assoc.find? (fun h => h.ext == a.ext) with
    | true, some h =>
      let prof := s.profOf a.profid
      let (v, s1) := s.fresh
      let psdu := withFcs (leBytes 2 (3 + 32 + 64 + 3 * 1024 + 3 * 16384) ++ leBytes 1 v ++ leBytes 2 (s.fld MAC_154ADDR_PAN) ++
        h.ext ++ leBytes 8 (v / 256) ++ [0x02, 0xff, 0xff, 0x01])
      let s2 := { s1 with mac := { s1.mac with assoc := s1.mac.assoc.erase h } }
      let r : TxReq := { path := a.path, ray := a.ray, profid := a.profid, pidx := s2.rayCap a.path a.ray prof.txKind,
                         tstart := a.ackEndUs + s.fld MAC_154CFG_DLGAP, lenUs := leafUs prof psdu.length false,
                         psdu := psdu, tx := prof.txKind, mask := some prof.mask }
      .next ((s2.dropAfter n).ask r)
    | _, _ => .next s

/-! ### Directory commands (R224) -/

/-- MAC_DIRRES and MAC_DIRCTX after a command on KEY and CLASS. -/
def State.dirResult (s : State) (key cls : Nat) : State :=
  let set := s.dirSet key
  let s := ((s.wr MAC_DIRRES 0).setFld MAC_DIRRES_SET set).setFld MAC_DIRRES_FREE (s.dirFree set)
  match s.dirFind key cls with
  | none => s.setFld MAC_DIRCTX_CTX 0
  | some i =>
    let e := s.dirAt i
    let s := ((s.set1 MAC_DIRRES_FOUND).setFld MAC_DIRRES_WAY (i % 8)).setBool MAC_DIRRES_PEND e.pend
    let s := ((s.setBool MAC_DIRRES_RES e.res).setBool MAC_DIRRES_LOST e.lost).setBool MAC_DIRRES_BLOCK e.block
    s.setFld MAC_DIRCTX_CTX e.ctx

/-- BLOCK or UNBLOCK (R226): the entry's bit, and the context with it. -/
def State.dirBlock (s : State) (key cls : Nat) (b : Bool) : State :=
  match s.dirFind key cls with
  | none => s
  | some i =>
    let c := (s.dirAt i).ctx
    (s.dirMod key cls (fun e => { e with block := b })).modAny c (fun c => { c with block := b })

/-- A write of MAC_DIRCMD (R224). -/
def State.dirCmd (s : State) (v : Word) : State :=
  let key := (s.rd MAC_DIRKEY).toNat
  let cls := bitsOf v.toNat 8 8
  match v.toNat % 4 with
  | 1 => s.dirResult key cls
  | 2 => (s.dirBlock key cls true).dirResult key cls
  | 3 => (s.dirBlock key cls false).dirResult key cls
  | _ => s.discard baseMAC

/-- DIR_LOOKUP, DIR_BLOCK, DIR_UNBLOCK: writes of MAC_DIRCMD with OP 1, 2 and 3. -/
def execDirLookup (cls : Nat) (s : State) : Res := .next (s.dirCmd (BitVec.ofNat 32 (256 * (cls % 2) + 1)))
def execDirBlock (cls : Nat) (s : State) : Res := .next (s.dirCmd (BitVec.ofNat 32 (256 * (cls % 2) + 2)))
def execDirUnblock (cls : Nat) (s : State) : Res := .next (s.dirCmd (BitVec.ofNat 32 (256 * (cls % 2) + 3)))

/-! ### Downlinks -/

/-- Is a LEN allowed for a KIND (R216)? -/
def dlLenOk (kind len : Nat) : Bool :=
  decide (1 ≤ len) &&
    (match kind with
     | 0 => decide (len ≤ 235)
     | 1 => decide (len ≤ 235)
     | 2 => decide (len ≤ 255)
     | 3 => decide (len ≤ 102)
     | 4 => decide (len ≤ 125)
     | _ => false)

/-- The enabled GROUP record of a group. -/
def State.groupRec (s : State) (grp : Nat) : Option (Nat × SchedRec) :=
  s.seq.recs.find? (fun e => e.2.kind == 2 && e.2.grp == grp)

/-- The destination of a kind 4 PSDU, whose FCS is still to come: its address octets, or none where it is not a frame of the
subset of R214 with a destination address (R217). -/
def rawDst (b : List Byte) : Option (List Byte) :=
  let m := parseMhr b
  if form154Bad b m (b.length + 2) b.length || m.dstMode = 0 then none
  else if m.dstMode = 3 then some (leBytes 8 m.dst)
  else some (leBytes 2 (m.dstPan.getD 0) ++ leBytes 2 m.dst)

/-- Does a posted entry fail with FMT_BAD (R217)? -/
def State.dlBad (s : State) (d : DlEnt) : Bool :=
  !(dlLenOk d.kind d.len) || ((d.kind == 2 || d.kind == 4) && d.key != 0) ||
    (d.kind == 2 && (s.groupRec d.grp).isNone) || (d.kind == 4 && (rawDst (s.dlData d)).isNone)

/-- Entry `i` of the downlink pool as memory holds it (R216). -/
def State.dlEntry (s : State) (i : Nat) : DlEnt :=
  let a := s.dlAddr i
  let d : DlEnt := { ent := i, kind := s.memLe (a + 1) 1, key := s.memLe (a + 4) 4, grp := s.memLe (a + 0xc) 1,
                     len := s.memLe (a + 2) 2, expiry := s.memLe (a + 8) 4 }
  { d with dst := if d.kind = 4 then (rawDst (s.dlData d)).getD [] else [] }

/-- DL_POST (R216, R217): a write of MAC_DLPOST. -/
def State.dlPost (s : State) (v : Word) : State :=
  let i := v.toNat % 512
  if s.fld MAC_DLPOOL_COUNT ≤ i || s.mac.dlq.any (fun d => d.ent == i) || s.mac.dldone.any (fun d => d.1 == i) then
    s.discard baseMAC
  else
    let d := s.dlEntry i
    if s.dlBad d then s.dlDone d Code.FMT_BAD
    else if d.ofNode && (s.dirFind d.key d.cls).isNone then s.dlDone d Code.DL_NOADDR
    else
      let s := ({ s with mac := { s.mac with dlq := s.mac.dlq ++ [d] } }).showDl
      (if d.ofNode then s.dirMod d.key d.cls (fun e => { e with pend := true }) else s).dropExhausted.pumpDl

def execDlPost (v : Word) (s : State) : Res := .next (s.dlPost v)

/-- DL_DONEQ_READ (R224): the oldest completed entry with VALID, or 0. -/
def State.dlDoneqRead (s : State) : State :=
  match s.mac.dldone with
  | [] => { s with rdata := 0 }
  | (e, st) :: t =>
    ({ s with mac := { s.mac with dldone := t }, rdata := BitVec.ofNat 32 (2 ^ 31 + 2 ^ 16 * st + e) }).showDl

def execDlDoneqRead (s : State) : Res := .next s.dlDoneqRead

/-- The directory keys of positions a GACK carried PEND for, in ascending POS (R218). -/
def State.pendKeys (s : State) (g : GackRec) : List Nat :=
  (setBits 512 (g.pends.foldl (fun n p => n ||| 2 ^ p) 0)).flatMap (fun p =>
    (s.pager.hot.filter (fun e => 
      let c := s.placedFor e.2.ctx g.grp g.gseq
      c.cls == 0 && c.grp == g.grp && c.pos == p)).map (fun e => e.2.ctx.key))

/-- DL_WINDOW_OPEN (R218, R281): at G + DLOFS, or the GACK's last chip if later. -/
def execDlWindowOpen (recn : Nat) (s : State) : Res :=
  match s.sched recn with
  | none => .next s
  | some r =>
    match r.occ with
    | none => .next s
    | some o =>
      if r.kind ≠ 2 || !s.wheelRuns || !(s.inTurn (o.s0 + r.gackAt + r.dlofs) 0 0) || s.mac.dlwins.any (fun w => w.grp == r.grp) ||
          (s.gackOf recn o.s0).any (fun g => g.asked && !g.ended) then .next s
      else
        let s := s.advanceSqt (o.s0 + r.gackAt + r.dlofs)
        let keys := match s.gackOf recn o.s0 with
          | some g => if g.okSent then s.pendKeys g else []
          | none => []
        let w : DlWin := { grp := r.grp, path := r.path, ray := r.ray, profid := r.profid, pidx := r.pidx,
                           closeUs := o.s0 + r.occLen, keys := keys }
        .next (({ s with mac := { s.mac with dlwins := s.mac.dlwins ++ [w] } }).dropExhausted.pumpWin w)

/-- May an entry follow the Imm-Ack to a frame (R218): the node's own kind 3 entry, or a kind 4 one to its address? -/
def AfterAck.takes (a : AfterAck) (d : DlEnt) : Bool :=
  !d.sending &&
    ((d.kind == 3 && a.short == some d.key) || (d.kind == 4 && (d.dst == a.ext || a.short.any (fun k => d.dst == shortDst k))))

/-- DL_154_SEND (R218): after the Imm-Ack to a frame, its node's oldest kind 3 entry or the oldest matching kind 4 one. -/
def execDl154Send (n : Nat) (s : State) : Res :=
  match s.mac.after.find? (fun a => a.slot == n) with
  | none => .next s
  | some a =>
    let s := s.dropExhausted
    let t := s.afterAckAt a
    match s.mac.dlq.find? (fun d => a.takes d && !(s.lateFor d t)) with
    | none => .next s
    | some d =>
      let s := s.dropAfter n
      let cap := s.rayCap a.path a.ray (s.profOf a.profid).txKind
      if s.flag CIPHER_STAT_HALTED && d.kind = 3 then .next s
      else if d.kind = 3 then .next ((s.sendNode d a.path a.ray a.profid cap t none).getD s)
      else .next ((s.sendRaw d a.path a.ray a.profid cap t none).getD s)

/-- DL_COMPLETE (R219): the frame of an entry has ended, with OK after its last chip or with what aborted it. -/
def execDlComplete (e : Nat) (s : State) : Res :=
  match s.txEnds.find? (fun x => (s.reqOf x.1).any (fun r => r.kind == .downlink e)) with
  | none => .next s
  | some x =>
    match s.reqOf x.1, s.mac.dlq.find? (fun d => d.ent == e) with
    | some r, some d =>
      let s := { (s.dropReq r.id) with txEnds := s.txEnds.filter (fun y => y.1 != x.1) }
      let s := s.memPutLe (s.dlAddr e + 0x14) 4 (unsignedOf 32 r.tstart)
      let s := if x.2.1 = Code.OK then s.macCnt 21 else s
      .next (s.dlDone d x.2.1).dropExhausted.pumpDl
    | _, _ => .next s

/-- DL_EXPIRE (R219): EXPIRY passes before the entry's transmission starts. -/
def execDlExpire (e : Nat) (s : State) : Res :=
  match s.mac.dlq.find? (fun d => d.ent == e) with
  | none => .next s
  | some d =>
    if d.sending then .next s
    else
      let s := s.advanceSqt (timeOf32 s.sqt d.expiry).toNat
      .next (s.dlDone d Code.DL_EXPIRED)

/-- JRESP_POST (R213, R224): a write of MAC_JRESPCMD. -/
def State.jrespPost (s : State) (v : Word) : State :=
  let st := v.toNat % 256
  if st = Code.OK || st = Code.SET_FULL || st = Code.CAPACITY || st = Code.BLOCKED then
    s.putJresp { grp := some (bitsOf v.toNat 15 8), status := st,
                 eui := leBytes 4 (s.rd MAC_JRESPLO).toNat ++ leBytes 4 (s.rd MAC_JRESPHI).toNat }
  else s.discard baseMAC

def execJrespPost (v : Word) (s : State) : Res := .next (s.jrespPost v)

/-- The directory entry of a live context. -/
def State.entryOf (s : State) (i : Nat) (c : Ctx) : DirEnt :=
  { valid := true, key := c.key, ctx := i, cls := c.cls, res := s.isHot i, lost := c.lost, block := c.block,
    pend := s.mac.dlq.any (fun d => d.ofNode && d.key == c.key && d.cls == c.cls) }

/-- DIR_SET_REBUILD (R199): every live context of the set gets its entry back, in the lowest free way; none gets a second one
(R193). -/
def execDirSetRebuild (set : Nat) (s : State) : Res :=
  if s.mac.badSets.contains set then
    let l := s.allCtx.filter (fun e => s.dirSet e.2.key == set)
    let s := ({ s with mac := { s.mac with badSets := s.mac.badSets.erase set } } : State).cureRange (setAddr set) 64
    .next (l.foldl (fun s e =>
      match s.dirFind e.2.key e.2.cls, s.dirSlot e.2.key with
      | none, some w => s.dirPut w (s.entryOf e.1 e.2)
      | _, _ => s) s)
  else .next s

/-- MAC_CNTCLR (R224). -/
def State.macCntclr (s : State) : State := ((List.range 23).foldl (fun s n => s.wr (MAC_CNTn n) 0) s).wr MAC_LAT 0

def execMacCntclr (s : State) : Res := .next s.macCntclr

end Sys2Proof.Machine
end

