-- ==== Sys2Proof/Machine/Pager.lean ====
section
/-! DEFINITION. The meanings of the pager commands and events (chapter 07). -/

namespace Sys2Proof.Machine
open Sys2Proof

/-! ### Issue of a command (R249, R253) -/

/-- The EUI-64, the schedule and the key that the argument registers hold. -/
def State.argCtx (s : State) : Ctx :=
  { key := (s.rd PAGER_KEY).toNat, eui := leBytes 4 (s.rd PAGER_EUILO).toNat ++ leBytes 4 (s.rd PAGER_EUIHI).toNat,
    grp := s.fld PAGER_SCHED_GRP, pos := s.fld PAGER_SCHED_POS, periodc := s.fld PAGER_SCHED_PERIODC,
    phasec := s.fld PAGER_SCHED_PHASEC, key0 := (List.range 4).flatMap (fun n => leBytes 4 (s.rd (PAGER_KEYWn n)).toNat) }

/-- Is the schedule argument a reserved encoding for JOIN or MOVE (R260)? -/
def schedBad (c : Ctx) (cls : Nat) : Bool :=
  (c.periodc != 0 && decide (c.periodc ≤ c.phasec)) || (cls == 1 && c.periodc != 0) || (c.periodc == 0 && c.phasec != 0)

/-- Live contexts of a key's set: its valid entries, or what the store holds while the set waits for its rebuild (R199). -/
def State.setLive (s : State) (key : Nat) : Nat :=
  if s.mac.badSets.contains (s.dirSet key) then (s.allCtx.filter (fun e => s.dirSet e.2.key == s.dirSet key)).length
  else 8 - s.dirFree (s.dirSet key)

/-- The context of a KEY and CLASS: that of the valid entry, or the live one while the set waits for its rebuild (R193, R199). -/
def State.ctxOf (s : State) (key cls : Nat) : Option Nat :=
  if s.mac.badSets.contains (s.dirSet key) then (s.allCtx.find? (fun e => e.2.key == key && e.2.cls == cls)).map (·.1)
  else (s.dirFind key cls).map (fun i => (s.dirAt i).ctx)

/-- On the standby contexts change only through the feed (R255): these commands do not change them. -/
def standbyBars (op : Nat) : Bool := op == 1 || op == 2 || op == 3 || op == 4 || op == 6

/-- The outcome a command is bound for when it is issued (R249, R250, R238, R255, R258). -/
def State.cmdStatus (s : State) (op key cls : Nat) : Nat × Nat :=
  if s.storeDown then (Code.STORE_DOWN, 0)
  else if s.pairStandby && standbyBars op then (Code.PAIR_STANDBY, 0)
  else if op = 1 then
    if (s.ctxOf key cls).isSome then (Code.JOIN_EXISTS, 0)
    else if s.fld MAC_DIRSTAT_LIVE = 262144 then (Code.CAPACITY, 0)
    else if 8 ≤ s.setLive key then (Code.SET_FULL, 0)
    else (Code.OK, freeKey s.pager.store 0)
  else if op = 7 then (Code.OK, 0)
  else
    match s.ctxOf key cls with
    | none => (Code.NO_CTX, 0)
    | some c => if op ≠ 2 && s.pager.damaged.contains c then (Code.CTX_DAMAGED, c) else (Code.OK, c)

/-- A write of PAGER_CMD with operation `op` and class `cls` (R249, R253). -/
def State.pagerIssue (s : State) (op cls : Nat) : State :=
  let a := s.argCtx
  if s.pager.cmd.isSome || !(s.flag PAGER_STAT_READY) || s.flag PAGER_STAT_FLUSHED || s.pager.flushing || op = 0 || 8 ≤ op ||
      ((op = 1 || op = 4) && schedBad a cls) then s.discard basePAGER
  else
    let st := s.cmdStatus op a.key cls
    let s := { s with pager := { s.pager with
        cmd := some { op := op, cls := cls, key := a.key, status := st.1, ctx := st.2, img := a,
                      names := if op = 7 then none else s.ctxOf a.key cls } } }
    (s.set1 PAGER_RES_BUSY).setFld PAGER_RES_OP op

/-- JOIN, EVICT, REKEY, MOVE, READ, WRITE and FLUSH (R249): the command is issued; PAGER_CMD_DONE completes it. -/
def execJoin (cls : Nat) (s : State) : Res := .next (s.pagerIssue 1 (cls % 2))
def execEvict (cls : Nat) (s : State) : Res := .next (s.pagerIssue 2 (cls % 2))
def execRekey (cls : Nat) (s : State) : Res := .next (s.pagerIssue 3 (cls % 2))
def execMove (cls : Nat) (s : State) : Res := .next (s.pagerIssue 4 (cls % 2))
def execRead (cls : Nat) (s : State) : Res := .next (s.pagerIssue 5 (cls % 2))
def execWrite (cls : Nat) (s : State) : Res := .next (s.pagerIssue 6 (cls % 2))
def execFlush (s : State) : Res := .next (s.pagerIssue 7 0)

/-! ### Residency -/

/-- A context is damaged (R238). -/
def State.damageCtx (s : State) (i : Nat) : State :=
  let s := { s with pager := { s.pager with damaged := if s.pager.damaged.contains i then s.pager.damaged
                                                       else s.pager.damaged ++ [i],
                                            wants := s.pager.wants.filter (fun (e : Nat × Bool) => e.1 != i),
                                            cold := tblDel s.pager.cold i } }
  let s := s.rejectAll Code.CTX_LATE (fun x => x.phase == .parked && x.ctx == i)
  ((s.logPut 9 Code.CTX_DAMAGED 0 i).set1 PAGER_IRQ_DAMAGED).pgCnt 10

/-- A hot slot for one more context: a free one, or that of a victim whose content is in the store (R232). -/
def State.takeHot (s : State) : Option (Nat × State) :=
  match s.freeHot with
  | some n => some (n, s)
  | none =>
    match s.pageVictim with
    | none => none
    | some v =>
      match s.hot v with
      | none => none
      | some h => if h.newer then none else some (h.slot, ((s.sweepTo v).dropHot v).pgCnt 6)

/-- Frames parked on a context resume in the cycle that RES sets (R236). -/
def State.resume (s : State) (i : Nat) : State :=
  let frames := s.mac.frames.map (fun (e : Nat × MacFrame) =>
    if e.2.phase == .parked && e.2.ctx == i then (e.1, { e.2 with phase := .auth }) else e)
  { s with mac := { s.mac with frames := frames } }

/-- The group cycles announced and not frozen in which a context is due (R234). -/
def State.dueCycles (s : State) (c : Ctx) : List (Nat × Nat) :=
  s.pager.cycles.filter (fun g => (s.placedFor c g.1 g.2).due g.1 g.2 && !c.lost)

/-- A fetched context becomes resident with its prefetch pins (R231, R234, R246). -/
def State.letIn (s : State) (i n : Nat) (c : Ctx) : State :=
  let s := s.makeHot i n c
  let s := match s.hot i with
    | some h => s.putHot i { h with prefetch := s.dueCycles c }
    | none => s
  s.resume i

/-- A fetch is no longer wanted. -/
def State.dropWant (s : State) (i : Nat) : State :=
  { s with pager := { s.pager with wants := s.pager.wants.filter (fun (e : Nat × Bool) => e.1 != i) } }

/-- One context of a fetched page (R229, R236, R238): `bad` says that its page did not read back. It is damaged where CHK fails. -/
def State.fetchOne (s : State) (i : Nat) (bad : Bool) : State :=
  if !(tblHas s.pager.store i) then s.dropWant i
  else if s.pager.zeroed.contains i then s
  else
    match s.fetched i, bad with
    | some c, false =>
      match s.takeHot with
      | none => s
      | some (n, s) => (s.dropWant i).letIn i n ((tblFind s.pager.cold i).getD c)
    | _, _ => s.damageCtx i

/-- May the pager read or write sealed pages now: awake (R257), not stopped (R243), with the cipher engine running (R457)? -/
def State.pagerRuns (s : State) : Bool := s.clocked && !(s.flag PAGER_STAT_FLUSHED) && s.aesRuns

/-- CTX_FETCH_DONE (R229, R233, R236, R238, R258, R435, R436): the page of the context wanted first has been read; `bad` are
members whose octets are damaged, `corr` and `retry` are what the read needed, `retry` 8 where it was uncorrectable. While the
store key is absent the fetch fails. -/
def execCtxFetchDone (bad : List Nat) (corr retry : Nat) (s : State) : Res :=
  match s.nextWant, s.dieReleased && s.pagerRuns with
  | none, _ => .next s
  | some _, false => .next s
  | some (i, demand), true =>
    let s := s.pgCnt (if demand then 1 else 2)
    if s.storeDown then .next ((s.dropWant i).rejectAll Code.CTX_LATE (fun x => x.phase == .parked && x.ctx == i))
    else
      match s.pageOf i with
      | some (k, p) =>
        let ms := p.members.filter (fun m => s.pager.wants.any (fun e => e.1 == m))
        let s := if 7 < retry then s.readUncorr else s.readCorrected (tblGet 0 s.nand.rowsCtx (4 * k)) corr retry
        .next (ms.foldl (fun s m => s.fetchOne m (decide (7 < retry) || bad.contains m)) s)
      | none => .next (s.fetchOne i (bad.contains i))

/-- VICTIM_WRITEBACK (R232): a context is wanted, no hot slot is free, and the victim is newer than its copy; its whole
cluster page is programmed, and its slot is reused. It waits while a reservation is being programmed. -/
def execVictimWriteback (die : DieEnd) (s : State) : Res :=
  if !s.ctxWritable || s.pager.wants.isEmpty || s.freeHot.isSome || !s.pagerRuns || s.pager.flushing || s.storeDown then .next s
  else
    match s.pageVictim with
    | none => .next s
    | some v =>
      match s.hot v with
      | none => .next s
      | some h =>
        if h.newer && !s.resvCommit then .next (((((s.sweepTo v).hwDie .ctx die).programPage v).dropHot v).pgCnt 7 |>.pgCnt 6)
        else .next s

/-! ### Completion of a command -/

/-- The octets of a context as READ copies them: KEY0, KEY1 and CHK read 0 (R225, R249). -/
def Ctx.bytes (c : Ctx) : List Byte := { c with key0 := [], key1 := [] }.octets ++ zeros 8

/-- The words PAGER_CTXn take a string of 256 bytes. -/
def State.loadCtxWords (s : State) (b : List Byte) : State :=
  (List.range 64).foldl (fun s n => s.wr (PAGER_CTXn n) (BitVec.ofNat 32 (octLe b (4 * n) 4))) s

/-- APP as PAGER_CTXn words 22–61 hold it. -/
def State.appWords (s : State) : List Byte :=
  (List.range 40).flatMap (fun n => leBytes 4 (s.rd (PAGER_CTXn (22 + n))).toNat)

/-- The context that JOIN writes (R250). -/
def State.joinCtx (s : State) (k : PagerCmd) : Ctx :=
  { k.img with key := k.key, cls := k.cls, k0 := true, ctxid := k.ctx, txfc := 1, txrsv := 4096,
               txepoch := (s.rd PAGER_EPOCH).toNat, key1 := [], app := zeros 160 }

/-- A victim's slot is freed for a command, whatever it takes (R249: a command completes within 3 ms). -/
def State.slotForCmd (s : State) : Option (Nat × State) :=
  match s.takeHot with
  | some r => some r
  | none =>
    match s.pageVictim with
    | none => none
    | some v => if s.resvCommit then none else ((s.programPage v).pgCnt 7).takeHot

/-- The first join into an empty store writes HSEED into the header page (R250). -/
def State.firstHeader (s : State) : State :=
  if s.pager.store.isEmpty then s.writeHeader (s.rd MAC_HSEED).toNat (s.rd PAGER_EPOCH).toNat else s

/-- JOIN completes (R250): page, residency, then the directory entry. -/
def State.joinDone (s : State) (k : PagerCmd) : State :=
  match s.slotForCmd, s.dirSlot k.key with
  | some (n, s), some w =>
    let c := s.joinCtx k
    let s := (s.firstHeader).place c
    let s := ((s.cureRange (hotAddr n) 256).putHot k.ctx { slot := n, ctx := c, ref := true }).programPage k.ctx
    (s.dirPut w { valid := true, key := k.key, ctx := k.ctx, cls := k.cls, res := true }).feed (.context k.ctx c false)
  | _, _ => s

/-- EVICT completes (R251). -/
def State.evictDone (s : State) (k : PagerCmd) : State :=
  let i := k.ctx
  let s := s.rejectAll Code.CTX_LATE (fun x => x.phase == .parked && x.ctx == i)
  let frames := s.mac.frames.map (fun (e : Nat × MacFrame) =>
    if e.2.ctx == i && e.2.verdict == some .proceed then (e.1, { e.2 with evicted := true }) else e)
  let s := { s with mac := { s.mac with frames := frames } }
  let s := (s.mac.dlq.filter (fun d => d.ofNode && d.key == k.key && d.cls == k.cls)).foldl
    (fun s d => s.dlDone d Code.DL_EVICTED) s
  let s := match s.dirFind k.key k.cls with
    | some w => s.dirPut w {}
    | none => s
  let s := ((s.feed (.context i { ctxid := i } true)).programDead i).dropHot i
  ({ s with pager := { s.pager with
      damaged := s.pager.damaged.filter (· != i), cold := tblDel s.pager.cold i,
      wants := s.pager.wants.filter (fun e => e.1 != i), resv := s.pager.resv.filter (· != i),
      resvNew := s.pager.resvNew.filter (· != i), newKeys := s.pager.newKeys.filter (· != i),
      moved := s.pager.moved.filter (fun m => m.ctx != i) } }).showPager

/-- The index that REKEY writes: the one KEYUSE does not name (R252). -/
def Ctx.otherKey (c : Ctx) : Nat := 1 - c.keyuse

/-- A context with a new key (R252). -/
def Ctx.rekey (c : Ctx) (key : List Byte) : Ctx :=
  if c.otherKey = 0 then { c with key0 := key, k0 := true, rxfc0 := 0 } else { c with key1 := key, k1 := true, rxfc1 := 0 }

/-- A command that changes a resident context programs its page, and feeds the context (R249, R254). -/
def State.commitCtx (s : State) (i : Nat) (f : Ctx → Ctx) : State :=
  match s.hot i with
  | none => s
  | some h =>
    let c := f h.ctx
    let s := (s.putHot i { h with ctx := c, newer := true, ref := true }).place c
    (s.programPage i).feed (.context i c false)

/-- REKEY completes (R252): frames under the overwritten index that have landed end MIC_FAIL. -/
def State.rekeyDone (s : State) (k : PagerCmd) (c : Ctx) : State :=
  let ix := c.otherKey
  let frames := s.mac.frames.map (fun (e : Nat × MacFrame) =>
    if e.2.ctx == k.ctx && e.2.keyIdx == ix && e.2.phase != .air && e.2.verdict == some .proceed then
      (e.1, { e.2 with keyGone := true }) else e)
  let s := { s with mac := { s.mac with frames := frames } }
  let s := { s with pager := { s.pager with newKeys := if s.pager.newKeys.contains k.ctx then s.pager.newKeys
                                                       else s.pager.newKeys ++ [k.ctx] } }
  (s.commitCtx k.ctx (fun c => c.rekey k.img.key0)).setFld PAGER_RES_KEYIDX ix

/-- MOVE completes (R249): cycles already announced keep the old placement. -/
def State.moveDone (s : State) (k : PagerCmd) (c : Ctx) : State :=
  let s := if s.pager.cycles.isEmpty then s
    else
      let m : MovedCtx := ⟨k.ctx, c.grp, c.pos, c.periodc, c.phasec, s.pager.cycles⟩
      { s with pager := { s.pager with moved := s.pager.moved ++ [m] } }
  s.commitCtx k.ctx (fun c => { c with grp := k.img.grp, pos := k.img.pos, periodc := k.img.periodc,
                                       phasec := k.img.phasec, miss := 0 })

/-- Snapshot of every dirty context (R226, R240): the records, and the resident contexts clean again. -/
def State.snapshot (s : State) : List JournalRec × State :=
  let recs := (s.pager.hot.filter (fun e => e.2.dirty)).map (fun e => e.2.ctx.record) ++ s.pager.cold.map (fun e => e.2.record)
  (recs, { s with pager := { s.pager with hot := s.pager.hot.map (fun e => (e.1, { e.2 with dirty := false })) } })

/-- A RESERVE record is durable: TX_RSV advances (R245, R252). -/
def State.reserved (s : State) (r : JournalRec) : State :=
  match s.hot r.ctx with
  | some h =>
    let s := s.putHot r.ctx { h with ctx := { h.ctx with txrsv := r.txv }, newer := true }
    ({ s with pager := { s.pager with resvNew := s.pager.resvNew.filter (· != r.ctx) } }).pgCnt 11
  | none => s

/-- The commit in progress is durable with its END page (R240, R241, R245, R254). -/
def State.endCommit (s : State) (c : JCommit) : State :=
  let s := s.journalPages (c.written c.pages)
  let s := { s with pager := { s.pager with commit := none, commitEnd := s.clk.now,
                                            cold := s.pager.cold.filter (fun e => !(c.recs.contains e.2.record)) } }
  let s := (c.recs.filter (·.resv)).foldl State.reserved s
  let q := (c.seq0 + c.pages) % 2 ^ 32
  ((s.wr PAGER_JSEQ (BitVec.ofNat 32 q)).pgCnt 8).feed (.commit q)

/-- FLUSH completes: every dirty context is committed. -/
def State.flushCmd (s : State) : State :=
  let r := s.snapshot
  let s := r.2.beginCommit r.1 false true r.2.clk.now (commitPages r.1)
  match s.pager.commit with
  | some c => (s.endCommit c).showPager
  | none => s

/-- A command ends (R249): PAGER_RES, CMDDONE, and the key words read 0 again. -/
def State.endCmd (s : State) (k : PagerCmd) (status ctx : Nat) : State :=
  let s := { s with pager := { s.pager with cmd := none } }
  let s := ((s.clr PAGER_RES_BUSY).setFld PAGER_RES_STATUS status).setFld PAGER_RES_CTX ctx
  let s := (List.range 4).foldl (fun s n => s.wr (PAGER_KEYWn n) 0) s
  (s.setFld PAGER_RES_OP k.op).set1 PAGER_IRQ_CMDDONE

/-- The effect of a command that is bound for OK on a context that is resident. -/
def State.cmdEffect (s : State) (k : PagerCmd) : State :=
  match k.op, s.hot k.ctx with
  | 1, _ => s.joinDone k
  | 2, _ => s.evictDone k
  | 3, some h => s.rekeyDone k h.ctx
  | 4, some h => s.moveDone k h.ctx
  | 5, some h => s.loadCtxWords h.ctx.bytes
  | 6, _ => s.commitCtx k.ctx (fun c => { c with app := s.appWords })
  | 7, _ => s.flushCmd
  | _, _ => s

/-- Must an EVICT wait: for an authentication of the context, or for a downlink in transmission (R251)? -/
def State.evictWaits (s : State) (k : PagerCmd) : Bool :=
  k.op == 2 && (s.mac.frames.any (fun e => e.2.phase == .auth && e.2.ctx == k.ctx) ||
    s.mac.dlq.any (fun d => d.ofNode && d.key == k.key && d.cls == k.cls && d.sending))

/-- Does a command work on a resident context? -/
def opOnCtx (op : Nat) : Bool := op == 3 || op == 4 || op == 5 || op == 6

/-- Must a command wait: EVICT for what R251 names; JOIN for a set being rebuilt (R199) or for a hot slot; one that programs a
page for a reservation in progress; FLUSH for the commit in progress, which holds some of what it commits; all
but FLUSH for the cipher engine while its cores do not run (R457, R472)? -/
def State.cmdWaits (s : State) (k : PagerCmd) : Bool :=
  s.evictWaits k || (k.op == 7 && s.pager.commit.isSome) || (k.op != 7 && !s.aesRuns) ||
    (k.op == 1 && (s.slotForCmd.isNone || s.mac.badSets.contains (s.dirSet k.key))) ||
    (k.op != 7 && s.resvCommit)

/-- Does a command program a page of CTX? -/
def State.cmdPrograms (s : State) (k : PagerCmd) : Bool := k.op != 5 && (k.op != 7 || commitPages s.snapshot.1 != 0)

/-- A command takes effect and ends OK; `die` is how its program ends. -/
def State.cmdRun (s : State) (k : PagerCmd) (die : DieEnd) : State :=
  (((if s.cmdPrograms k then s.hwDie .ctx die else s).cmdEffect k).endCmd k Code.OK k.ctx)

/-- PAGER_CMD_DONE (R249–R252): the command in progress ends; `bad` says that the fetch of a context that was not resident
finds its page damaged (R238). A context damaged while the command ran refuses it (R238), and so does a store key that has
gone (R258). -/
def execPagerCmdDone (bad : Bool) (die : DieEnd) (s : State) : Res :=
  match s.pager.cmd with
  | none => .next s
  | some k =>
    if k.status ≠ Code.OK then .next (s.endCmd k k.status k.ctx)
    else if s.storeDown then .next (s.endCmd k Code.STORE_DOWN k.ctx)
    else if opOnCtx k.op && s.pager.damaged.contains k.ctx then .next (s.endCmd k Code.CTX_DAMAGED k.ctx)
    else if s.cmdWaits k then .next s
    else if opOnCtx k.op && !(s.isHot k.ctx) then
      match s.fetched k.ctx, bad with
      | some c, false =>
        match s.slotForCmd with
        | some (n, s) => .next ((s.letIn k.ctx n ((tblFind s.pager.cold k.ctx).getD c)).cmdRun k die)
        | none => .next s
      | _, _ => .next ((s.damageCtx k.ctx).endCmd k Code.CTX_DAMAGED k.ctx)
    else .next (s.cmdRun k die)

/-- PAGER_CNTCLR (R260). -/
def State.pagerCntclr (s : State) : State := (List.range 12).foldl (fun s n => s.wr (PAGER_CNTn n) 0) s

def execPagerCntclr (s : State) : Res := .next s.pagerCntclr

/-! ### Prefetch (R234) -/

/-- Insert by cluster key. -/
def insByCluster (x : Nat × Ctx) : List (Nat × Ctx) → List (Nat × Ctx)
  | [] => [x]
  | y :: t => if x.2.cluster.2 ≤ y.2.cluster.2 then x :: y :: t else y :: insByCluster x t

/-- The contexts due in a group cycle and not LOST, in ascending cluster key (R234). -/
def State.dueOf (s : State) (grp gseq : Nat) : List (Nat × Ctx) :=
  (s.allCtx.filter (fun e => (s.placedFor e.2 grp gseq).due grp gseq && !e.2.lost)).foldr insByCluster []

/-- The due contexts of a cycle are pinned where they are resident, and wanted where they are not. -/
def State.wantDue (s : State) (grp gseq : Nat) : State :=
  (s.dueOf grp gseq).foldl (fun s e =>
    match s.hot e.1 with
    | some h => if h.prefetch.contains (grp, gseq) then s else s.putHot e.1 { h with prefetch := h.prefetch ++ [(grp, gseq)] }
    | none => if s.pager.damaged.contains e.1 then s else s.wantCtx e.1 false) s

/-- A group cycle is announced: its due contexts are fetched in ascending cluster key, and pinned; by a pager that a flush has
stopped, once it resumes (R243). -/
def State.announce (s : State) (grp gseq : Nat) : State :=
  let stopped := s.flag PAGER_STAT_FLUSHED || s.pager.flushing
  let s : State := { s with pager := { s.pager with cycles := s.pager.cycles ++ [(grp, gseq)] } }
  if stopped then s else s.wantDue grp gseq

/-- PREFETCH_ANNOUNCE (R234, R257, R281): LOOKAHEAD ms before a group's next uplink window, or at the wake after that. -/
def execPrefetchAnnounce (recn : Nat) (s : State) : Res :=
  match s.sched recn with
  | none => .next s
  | some r =>
    match r.kind, r.next, r.announced with
    | 2, some t, false =>
      if !s.wheelRuns || !s.clocked || !(s.inTurn (t - 1000 * s.fld PAGER_CFG_LOOKAHEAD) 4 recn) then .next s
      else
        let s := s.advanceSqt (t - 1000 * s.fld PAGER_CFG_LOOKAHEAD)
        let s := s.putRec recn { r with announced := true }
        .next (if s.flag PAGER_STAT_READY then s.announce r.grp r.gseq else s)
    | _, _, _ => .next s

/-! ### Commits (R240, R241, R245) -/

/-- May a commit start? -/
def State.mayCommit (s : State) : Bool :=
  s.ctxWritable && s.clocked && s.flag PAGER_STAT_READY && s.pager.commit.isNone && !s.pager.flushing && !(s.flag PAGER_STAT_FLUSHED)

/-- Length of a commit interval in cycles. -/
def State.commitLen (s : State) : Nat := us (100000 * s.fld PAGER_CFG_JCOMMIT)

/-- JOURNAL_COMMIT (R240, R257): the interval is over and a snapshot is taken; one that fell due in Saddle is taken at the
wake. -/
def execJournalCommit (s : State) : Res :=
  if s.mayCommit then
    let s := s.advanceTo s.pager.nextCommit
    let r := s.snapshot
    let s := r.2.beginCommit r.1 false false r.2.clk.now (commitPages r.1)
    .next ({ s with pager := { s.pager with nextCommit := s.clk.now + s.commitLen } }).showPager
  else .next s

/-- RESERVE_COMMIT (R245, R252): RESERVE records for every reservation that waits, in an immediate commit. -/
def execReserveCommit (s : State) : Res :=
  if s.mayCommit && !s.pager.resv.isEmpty then
    let recs := s.pager.resv.filterMap (fun i => (s.hot i).map (fun h => h.ctx.reserveRec (s.pager.resvNew.contains i)))
    let s := recs.foldl (fun s r => s.feed (.reserve r)) s
    let s := s.beginCommit recs false true s.clk.now (commitPages recs)
    .next ({ s with pager := { s.pager with resv := [] } }).showPager
  else .next s

/-- COMMIT_DONE (R241): 270 µs for each pair of pages. -/
def execCommitDone (die : DieEnd) (s : State) : Res :=
  match s.pager.commit with
  | none => .next s
  | some c =>
    if c.flush then .next s
    else .next ((((s.advanceTo c.endAt).hwDie .ctx (if c.pages = 0 then .good else die)).endCommit c).dropZeroed.showPager)

/-! ### Power failure (R243) -/

/-- The records of a flush: those of a commit in progress that the new snapshot does not replace, and the snapshot. -/
def mergeRecs (old new : List JournalRec) : List JournalRec :=
  old.filter (fun r => r.resv || !(new.any (fun x => x.ctx == r.ctx))) ++ new

/-- The flush starts: prefetch and new commands stop, a command that has not programmed ends CMD_ABORTED, and the
snapshot takes in a commit in progress. END and CLEAN need a page, so the flush has at least one. -/
def State.startFlush (s : State) : State :=
  if s.ctxWritable && s.flag PAGER_STAT_READY && !s.pager.flushing && !(s.flag PAGER_STAT_FLUSHED) then
    let s := match s.pager.cmd with
      | some k => s.endCmd k Code.CMD_ABORTED k.ctx
      | none => s
    let s := { s with pager := { s.pager with wants := s.pager.wants.filter (fun e => e.2) } }
    let old := (s.pager.commit.map (·.recs)).getD []
    let s := s.cutCommit true
    let r := s.snapshot
    let recs := mergeRecs old r.1
    let s := r.2.beginCommit recs true false (r.2.clk.now + us 250) (max 1 (commitPages recs))
    ({ s with pager := { s.pager with flushing := true } }).showPager
  else s

/-- POWER_FAIL_FLUSH (R243): the VIN-fail warning stands; from Saddle the wake comes first. -/
def execPowerFailFlush (s : State) : Res := if s.flag PWR_STAT_VINWARN && s.clocked then .next s.startFlush else .next s

/-- The warning is released: the pager resumes (R243), and with it the prefetch of the cycles under way (R235). -/
def State.pagerResume (s : State) : State :=
  let s := s.clr PAGER_STAT_FLUSHED
  let s := { s with pager := { s.pager with nextCommit := s.clk.now + s.commitLen } }
  s.pager.cycles.foldl (fun s g => s.wantDue g.1 g.2) s

/-- FLUSH_DONE (R243): the last page with END and CLEAN; the pager stops and parked frames end CTX_LATE. Where the
warning is released already it resumes. -/
def execFlushDone (die : DieEnd) (s : State) : Res :=
  match s.pager.commit with
  | none => .next s
  | some c =>
    if !c.flush then .next s
    else
      let s := ((s.advanceTo c.endAt).hwDie .ctx (if c.pages = 0 then .good else die)).endCommit c
      let s := { s with pager := { s.pager with flushing := false, wants := [] } }
      let s := (s.set1 PAGER_STAT_FLUSHED).set1 PAGER_IRQ_FLUSHED
      let s := (s.rejectAll Code.CTX_LATE (fun x => x.phase == .parked)).dropZeroed.showPager
      .next (if s.flag PWR_STAT_VINWARN then s else s.pagerResume)

/-! ### Start-up (R246, R247) -/

/-- The contexts that live journal records name, with the records applied. -/
def State.journalCtxs (s : State) : List (Nat × Ctx) :=
  (s.pager.store.filter (fun e => s.pager.journal.any (fun r => r.2.ctx == e.1 && s.pager.recLive r))).filterMap
    (fun e => (s.fetched e.1).map (fun c => (e.1, c)))

/-- EPOCH advances durably (R246). -/
def State.bumpEpoch (s : State) : State :=
  let e := ((s.rd PAGER_EPOCH).toNat + 1) % 2 ^ 32
  (s.wr PAGER_EPOCH (BitVec.ofNat 32 e)).writeHeader (s.rd MAC_HSEED).toNat e

/-- One live context at start-up (R229, R247): its directory entry, LOST and BLOCK as its newest record has them, or the context is
damaged. -/
def State.rebuildOne (s : State) (i : Nat) (bad : Bool) : State :=
  match s.fetched i, bad with
  | some c, false =>
    match s.dirSlot c.key with
    | some w => s.dirPut w { valid := true, key := c.key, ctx := i, cls := c.cls, lost := c.lost, block := c.block }
    | none => s
  | _, _ => s.damageCtx i

/-- A context that the journal names is made resident and dirty (R247). -/
def State.rebuildHot (s : State) (e : Nat × Ctx) : State :=
  if s.pager.damaged.contains e.1 then s
  else
    match s.freeHot with
    | some n =>
      let s := s.makeHot e.1 n e.2
      (match s.hot e.1 with
       | some h => s.putHot e.1 { h with dirty := true, newer := true }
       | none => s)
    | none => s

/-- Contexts whose other key is there and has received nothing: a REKEY that no frame has followed (R252). -/
def State.unusedKeys (s : State) : List Nat :=
  (s.allCtx.filter (fun e => (e.2.keyAt (1 - e.2.keyuse)).isSome && e.2.rxfc (1 - e.2.keyuse) == 0)).map (·.1)

/-- May the rebuild run? It reads sealed pages, so the cipher engine and, where there are any, the store key must be there. -/
def State.mayRebuild (s : State) : Bool :=
  !(s.flag PAGER_STAT_READY) && s.dieReleased && s.clocked && s.aesRuns &&
    (s.pager.store.isEmpty || !s.storeDown)

/-- PAGER_REBUILD (R229, R247): header, directory, journal, EPOCH after an unclean start, READY. `bad` are contexts whose
cluster page stays uncorrectable. -/
def execPagerRebuild (bad : List Nat) (s : State) : Res :=
  if !s.mayRebuild then .next s
  else
    let s := match s.pager.header with
      | some h => (s.wr MAC_HSEED (BitVec.ofNat 32 h.hseed)).wr PAGER_EPOCH (BitVec.ofNat 32 h.epoch)
      | none => s.wr PAGER_EPOCH 1
    let s := { s with mac := { s.mac with dir := [] } }
    let s := s.pager.store.foldl (fun s e => s.rebuildOne e.1 (bad.contains e.1)) s.showDir
    let unclean := s.pager.header.isSome && !s.pager.cleanEnd
    let s := if unclean then ((s.bumpEpoch.set1 PAGER_STAT_UNCLEAN).logPut 9 Code.CMD_ABORTED 0 0) else s
    let s := s.journalCtxs.foldl State.rebuildHot s
    let s := { s with pager := { s.pager with nextCommit := s.clk.now + s.commitLen, commitEnd := s.clk.now,
                                              newKeys := s.unusedKeys } }
    .next ((s.set1 PAGER_STAT_READY).set1 PAGER_IRQ_READY).showPager

/-- HOT_SLOT_ECC (R239, R352): a read of its slot, in any of its 16 lines, is uncorrectable: the resident context is discarded and
refetched; what changed since the last commit is lost. Its outgoing
counter goes on behind every value that may have been sent, as after a power loss (R244, R246). -/
def execHotSlotEcc (i : Nat) (s : State) : Res :=
  if s.isHot i then
    let a := hotAddr (((s.hot i).map (·.slot)).getD 0) + 16 * (s.fresh.1 % 16)
    let s := ((s.fresh.2.uncorrRead a).dropHot i).logPut 9 Code.CTX_DAMAGED 0 (2 ^ 31 + i)
    let frames := s.mac.frames.map (fun (e : Nat × MacFrame) =>
      if e.2.phase == .auth && e.2.ctx == i then (e.1, { e.2 with phase := .parked }) else e)
    let s := { s with mac := { s.mac with frames := frames },
                      pager := { s.pager with resv := s.pager.resv.filter (· != i),
                                              resvNew := s.pager.resvNew.filter (· != i) } }
    let s := if s.pairStandby then s else s.modCold i (fun c => { c with txfc := c.txrsv })
    .next (s.wantCtx i true)
  else .next s

/-- FEED_SEND (R254): the active member sends the oldest item with its sequence number; it keeps the items of its last
two commits (R255). -/
def execFeedSend (s : State) : Res :=
  match s.pager.feedOut with
  | [] => .next s
  | x :: t =>
    if s.pairActive then
      let hist := s.pager.feedHist ++ [(s.pager.feedSeq, x)]
      let commits := hist.filter (fun e =>
        match e.2 with
        | .commit _ => true
        | _ => false)
      let keepFrom := if 2 < commits.length then (commits.getD (commits.length - 3) (0, x)).1 + 1 else 0
      let s' : State := { s with pager := { s.pager with feedOut := t, feedSeq := (s.pager.feedSeq + 1) % 2 ^ 32,
                                                         feedHist := hist.filter (fun e => decide (keepFrom ≤ e.1)) } }
      .next (s'.mirSend 2 (.feed false [(s.pager.feedSeq, x)]) none)
    else .next s

end Sys2Proof.Machine
end

