-- ==== Sys2Proof/Machine/Log.lean ====
section
/-! DEFINITION. The meanings of the event log's commands (chapter 17). -/

namespace Sys2Proof.Machine
open Sys2Proof

/-- Sequence numbers count modulo 2^32 (R514). -/
def seqDiff (a b : Nat) : Nat := (a + 2 ^ 32 - b % 2 ^ 32) % 2 ^ 32

/-- HEAD, FIRST and ACK. -/
def State.logHead (s : State) : Nat := (s.rd LOG_HEAD).toNat
def State.logFirst (s : State) : Nat := (s.rd LOG_FIRST).toNat
def State.logAck (s : State) : Nat := (s.rd LOG_ACK).toNat

/-- Is the ring full? -/
def State.logFull (s : State) : Bool := decide (4096 ≤ seqDiff s.logHead s.logFirst)

/-- Would an append in STOP mode overwrite an entry at or above max(ACK, FIRST) (R516)? -/
def State.logStopped (s : State) : Bool := s.flag LOG_CFG_MODE && s.logFull && !(reached 32 s.logAck (s.logFirst + 1))

/-- Append an entry at HEAD; in a full ring the oldest gives way (R514, R516). -/
def State.logStore (s : State) (e : LogEnt) : State :=
  let h := s.logHead
  let s := if s.logFull then s.wr LOG_FIRST (BitVec.ofNat 32 (s.logFirst + 1)) else s
  let s : State := { s with log := { s.log with ring := tblIns s.log.ring (h % 4096) e } }
  let s := (s.wr LOG_HEAD (BitVec.ofNat 32 (h + 1))).set1 LOG_IRQ_NEW
  if s.fld LOG_CFG_WATER ≤ seqDiff (h + 1) s.logAck then s.set1 LOG_IRQ_WATER else s

/-- An entry is lost (R516). -/
def State.logLose (s : State) : State :=
  let s := (s.inc LOG_LOST_COUNT).set1 LOG_IRQ_LOST
  { s with log := { s.log with lostSince := s.log.lostSince + 1 } }

/-- LOG_LOST goes before the first entry appended after a loss (R516). -/
def State.logLostFirst (s : State) : State :=
  if s.log.lostSince = 0 || s.logStopped then s
  else
    let sub := min 0xffff (s.clk.now - stEdgeAt (stEdges s.clk.now))
    let e : LogEnt := ⟨s.clk.slowcnt, sub, 15, Code.LOG_LOST, 0, s.log.lostSince % 2 ^ 32⟩
    ({ s with log := { s.log with lostSince := 0 } } : State).logStore e

/-- LOG_APPEND (R516): the entry at the front of the queue is appended, one per cycle, or lost in STOP mode. -/
def execLogAppend (s : State) : Res :=
  match s.log.queue with
  | [] => .next s
  | q :: t =>
    if !s.clocked then .next s
    else
      let s := s.advance 1
      let s : State := { s with log := { s.log with queue := t } }
      let s := s.logLostFirst
      .next (if s.logStopped then s.logLose else s.logStore q.ent)

/-- A write of LOG_WDATA (R518): DATA is staged for the core that writes. -/
def State.wdataWrite (s : State) (r : Requester) (v : Word) : State :=
  match r with
  | .core c => { s with log := { s.log with wdata := tblPut 0 s.log.wdata (coreNum c) v.toNat } }
  | _ => s.discard baseLOG

/-- A write of LOG_WCMD (R518, R523). -/
def State.wcmdWrite (s : State) (r : Requester) (v : Word) : State :=
  let src := bitsOf v.toNat 4 0
  let code := bitsOf v.toNat 15 8
  match r with
  | .core c =>
    if code ≥ 0xe0 || src = 0 || src > 23 then s.discard baseLOG
    else
      let sub := min 0xffff (s.clk.now - stEdgeAt (stEdges s.clk.now))
      s.logEnqueue (32 + coreNum c)
        ⟨s.clk.slowcnt, sub, src + 32 * writerOf (some c), code, bitsOf v.toNat 31 16, tblGet 0 s.log.wdata (coreNum c)⟩
  | _ => s.discard baseLOG

/-- LOG_WCMD (R518). -/
def execLogWcmd (r : Requester) (v : Word) (s : State) : Res := .next (s.wcmdWrite r v)

/-- A write of LOG_CTRL.CLEAR (R520, R523). -/
def State.logClear (s : State) (r : Requester) : State :=
  if r != .core .kc then s.discard baseLOG
  else
    let n := seqDiff s.logHead s.logFirst
    let h := s.rd LOG_HEAD
    ((s.wr LOG_FIRST h).wr LOG_ACK h).logPut 15 Code.LOG_CLEARED 0 n

/-- LOG_CLEAR (R520). -/
def execLogClear (r : Requester) (s : State) : Res := .next (s.logClear r)

/-- Does the log hold the entry that LOG_RDSEQ names (R518)? -/
def State.logHeld (s : State) : Bool :=
  decide (seqDiff (s.rd LOG_RDSEQ).toNat s.logFirst < seqDiff s.logHead s.logFirst)

/-- The 16 bytes of an entry (R515). -/
def LogEnt.bytes (e : LogEnt) : List Byte :=
  leBytes 6 e.slow ++ leBytes 2 e.sub ++ leBytes 1 e.src ++ leBytes 1 e.code ++ leBytes 2 e.aux ++ leBytes 4 e.data

/-- LOG_RDWn as a read shows it (R518, R523): 0 where the entry is not held. -/
def State.logWord (s : State) (n : Nat) : Word :=
  if s.logHeld then
    match tblFind s.log.ring ((s.rd LOG_RDSEQ).toNat % 4096) with
    | some e => BitVec.ofNat 32 (leNat ((e.bytes.drop (4 * n)).take 4))
    | none => 0
  else 0

/-- LOG_READ (R518). -/
def execLogRead (n : Nat) (s : State) : Res := .next { s with rdata := s.logWord (n % 4) }

/-- A write of LOG_ACK (R523): outside FIRST to HEAD it is a reserved encoding. -/
def State.ackWrite (s : State) (v : Word) : State :=
  if seqDiff v.toNat s.logFirst ≤ seqDiff s.logHead s.logFirst then s.wr LOG_ACK v else s.discard baseLOG

end Sys2Proof.Machine
end

