-- ==== Sys2Proof/Machine/Nand.lean ====
section
/-! DEFINITION. The meanings of the NAND controller's commands and events (chapter 14). -/

namespace Sys2Proof.Machine
open Sys2Proof

/-! ### The launch sequence (R426–R429) -/

/-- The sequence relocks. -/
def State.seqLock (s : State) : State :=
  (({ s with nand := { s.nand with seqOwner := none } } : State).clr NAND_FSTAT_SEQ).clr NAND_FSTAT_OWNER

/-- The sequence relocks with SEQERR (R427). -/
def State.seqFail (s : State) : State := s.seqLock.set1 NAND_IRQ_SEQERR

/-- The sequence after the time that may pass between two of its writes (R427). -/
def State.seqAged (s : State) : State :=
  if s.nand.seqOwner.isSome && s.clk.now ≥ s.nand.seqAt + 10000 then s.seqFail else s

/-- Does the requester own the sequence? -/
def State.ownsSeq (s : State) (r : Requester) : Bool := s.nand.seqOwner.any (fun c => r == .core c)

/-- The owner's write was taken: the sequence is at step `n`. -/
def State.seqAtStep (s : State) (n : Nat) : State :=
  ({ s with nand := { s.nand with seqAt := s.clk.now } } : State).setFld NAND_FSTAT_SEQ n

/-- A first key by a core that may start the sequence: not while a command runs, and before RELEASE only KC (R427, R434). -/
def State.firstKey (s : State) (r : Requester) (v : Word) : State :=
  match r with
  | .core c =>
    if v.toNat % 65536 = 0x6c3e && !(s.flag NAND_FSTAT_BUSY) && (s.dieReleased || c == .kc) then
      (({ s with nand := { s.nand with seqOwner := some c } } : State).setFld NAND_FSTAT_OWNER (coreNum c)).seqAtStep 1
    else s.discard baseNAND
  | _ => s.discard baseNAND

/-- A write to NAND_FKEY (R427). -/
def State.fkeyWrite (s : State) (r : Requester) (v : Word) : State :=
  let s := s.seqAged
  if s.nand.seqOwner.isNone then s.firstKey r v
  else if !s.ownsSeq r then s.discard baseNAND
  else if s.fld NAND_FSTAT_SEQ = 1 && v.toNat % 65536 = 0x93c1 then s.seqAtStep 2
  else s.seqFail.discard baseNAND

/-- NAND_FKEY_WRITE (R427). -/
def execNandFkeyWrite (r : Requester) (v : Word) (s : State) : Res := .next (s.fkeyWrite r v)

/-- A write to NAND_FCMD (R427, R428). -/
def State.fcmdWrite (s : State) (r : Requester) (v : Word) : State :=
  let s := s.seqAged
  let op := bitsOf v.toNat 2 0
  if !s.ownsSeq r then s.discard baseNAND
  else if s.fld NAND_FSTAT_SEQ = 2 && 1 ≤ op && op ≤ 3 then
    ({ s with nand := { s.nand with seqOp := op } } : State).seqAtStep 3
  else s.seqFail.discard baseNAND

/-- A write to NAND_FADDR (R427, R428). -/
def State.faddrWrite (s : State) (r : Requester) (v : Word) : State :=
  let s := s.seqAged
  let a := bitsOf v.toNat 19 0
  if !s.ownsSeq r then s.discard baseNAND
  else if s.fld NAND_FSTAT_SEQ = 3 && !(s.nand.seqOp == 3 && a % 64 != 0) then
    ({ s with nand := { s.nand with seqAddr := a } } : State).seqAtStep 4
  else s.seqFail.discard baseNAND

/-- A buffer the core may name (R428): 16-byte aligned, in its own TCM, in KC private for KC, or in a fixed frame. -/
def State.nandBufOk (s : State) (c : CoreId) (a : Nat) : Bool := decide (a % 16 = 0) && s.coreRegion c a 4160

/-- A command ends (R430): NAND_FRES and DONE. -/
def State.nandEnd (s : State) (status corr retry time : Nat) : State :=
  let v := min time 65535 * 65536 + retry * 8192 + corr * 256 + status
  let s : State := { s with nand := { s.nand with cmd := none } }
  ((s.wr NAND_FRES (BitVec.ofNat 32 v)).clr NAND_FSTAT_BUSY).set1 NAND_IRQ_DONE

/-- 4,160 bytes of 0xFF. -/
def ffPage : List Byte := List.replicate 4160 0xff

/-- The tests at launch (R429): the status that ends the command at once. -/
def State.launchCheck (s : State) (k : NandCmd) : Option Nat :=
  if !partOk k.core k.block then some Code.PART_LOCKED
  else if k.op ≠ 1 && s.nandBad k.block then some Code.BAD_BLOCK
  else if k.op ≠ 1 && s.erasing k.block then some Code.BLK_BUSY
  else if k.op = 1 && s.erasing k.block then some Code.BLK_SUSPENDED
  else none

/-- The launch of a command (R426, R429, R433). -/
def State.nandLaunch (s : State) (k : NandCmd) : State :=
  match s.launchCheck k with
  | none => ({ s with nand := { s.nand with cmd := some k } } : State).set1 NAND_FSTAT_BUSY
  | some st =>
    let s := if st = Code.BLK_SUSPENDED then s.memPut k.buf ffPage else s
    s.nandEnd st 0 0 0

/-- A write to NAND_FBUF (R426, R427): it launches the command and relocks the sequence. -/
def State.fbufWrite (s : State) (r : Requester) (v : Word) : State :=
  let s := s.seqAged
  let a := bitsOf v.toNat 31 4 * 16
  match s.nand.seqOwner with
  | none => s.discard baseNAND
  | some c =>
    if r != .core c then s.discard baseNAND
    else
      let ok := if s.nand.seqOp = 3 then a == 0 else s.nandBufOk c a
      if s.fld NAND_FSTAT_SEQ = 4 && ok then
        s.seqLock.nandLaunch
          { op := s.nand.seqOp, block := s.nand.seqAddr / 64, page := s.nand.seqAddr % 64, buf := a, core := c }
      else s.seqFail.discard baseNAND

/-- NAND_SEQ_TIMEOUT (R427): 10,000 cycles pass between two writes of the sequence. -/
def execNandSeqTimeout (s : State) : Res :=
  if s.nand.seqOwner.isSome then .next (s.advanceTo (s.nand.seqAt + 10000)).seqFail else .next s

/-! ### The operations (R428, R430, R435–R437) -/

/-- The launched command that may take its plane: none while it runs, while an erase runs on the plane (R425, R432), or while the
VIN-fail warning holds (R442). -/
def State.nandWaiting (s : State) (op : Nat) : Option NandCmd :=
  match s.nand.cmd with
  | some k =>
    if k.op = op && !k.started && !(s.flag PWR_STAT_VINWARN) && !((s.eraseOn (planeOf k.block)).any (fun e => !e.suspended))
    then some k else none
  | none => none

/-- Is a software read or program queued on plane `p` (R432)? -/
def State.planeQueued (s : State) (p : Nat) : Bool :=
  s.nand.cmd.any (fun k => !k.started && k.op != 3 && planeOf k.block == p)

/-- The command has run on the die, with its result. -/
def State.nandRan (s : State) (k : NandCmd) : State := { s with nand := { s.nand with cmd := some k } }

/-- Zero bits of a byte. -/
def zeroBits (b : Byte) : Nat := 8 - popBits 8 b.toNat

/-- Zero bits of a list of bytes. -/
def zeroBitsOf (l : List Byte) : Nat := (l.map zeroBits).sum

/-- Does every sector hold fewer than 8 zero bits (R420, R430)? Sector 3 holds the user spare too. -/
def readsErased (b : List Byte) : Bool :=
  decide (zeroBitsOf (b.take 1024) < 8) && decide (zeroBitsOf ((b.drop 1024).take 1024) < 8) &&
    decide (zeroBitsOf ((b.drop 2048).take 1024) < 8) && decide (zeroBitsOf (b.drop 3072) < 8)

/-- What a row holds, an undefined page as fresh free bytes. -/
def State.pageBytes (s : State) (row : Nat) : List Byte × State :=
  match tblFind s.nand.pages row with
  | none => (ffPage, s)
  | some (.data b) => (b, s)
  | some .undef => s.freshBytes 4160

/-- NAND_READ (R428, R430, R435, R436): the launched READ runs. `corr` is the highest number of corrected bits in a
sector and `retry` the read-retry set that decoded; 8 says that set 7 failed too. -/
def execNandRead (corr retry : Nat) (s : State) : Res :=
  match s.nandWaiting 1 with
  | none => .next s
  | some k =>
    let row := 64 * k.block + k.page
    let s := s.inc (NAND_CNTn_COUNT 0)
    let r := s.pageBytes row
    if readsErased r.1 then
      .next ((r.2.memPut k.buf ffPage).nandRan { k with started := true, status := Code.PAGE_ERASED })
    else if 8 ≤ retry then
      let u := r.2.freshBytes 4160
      .next ((u.2.readUncorr.memPut k.buf u.1).nandRan { k with started := true, status := Code.NAND_UNCORR })
    else
      let c := min corr 24
      .next (((r.2.readCorrected row c retry).memPut k.buf r.1).nandRan
        { k with started := true, status := Code.OK, corr := c, retry := retry })

/-- Set what a row holds. -/
def State.putPage (s : State) (row : Nat) (p : NandPage) : State :=
  { s with nand := { s.nand with pages := tblIns s.nand.pages row p,
                                 nextPage := tblPut 0 s.nand.nextPage (row / 64)
                                   (max (tblGet 0 s.nand.nextPage (row / 64)) (row % 64 + 1)) } }

/-- NAND_PROGRAM (R428, R437, R440): the launched PROGRAM runs for `us` µs; `fail` is the die's program status. A page
programmed twice, or out of ascending order, is undefined. -/
def execNandProgram (fail : Bool) (us : Nat) (s : State) : Res :=
  match s.nandWaiting 2 with
  | none => .next s
  | some k =>
    let row := 64 * k.block + k.page
    let bad := fail || decide (us > 1000)
    let breach := decide (k.page < tblGet 0 s.nand.nextPage k.block)
    let s := s.inc (NAND_CNTn_COUNT 1)
    let s := s.putPage row (if bad || breach then .undef else .data (s.memBytes k.buf 4160))
    let s := s.slowBlock k.block (us > 350)
    let s := if bad then s.retireBlock k.block else s
    .next (s.nandRan { k with started := true, status := if bad then Code.PROG_FAIL else Code.OK, us := us })

/-- NAND_ERASE (R431, R437): the launched ERASE sets its plane's flag cell and runs; `fail` and the run time `us` say how
it will end. A plane that holds another erase keeps it waiting. -/
def execNandErase (fail : Bool) (us : Nat) (s : State) : Res :=
  match s.nandWaiting 3 with
  | none => .next s
  | some k =>
    let p := planeOf k.block
    if (s.eraseOn p).isSome then .next s
    else
      let s := s.inc (NAND_CNTn_COUNT 2)
      let s : State := { s with nand := { s.nand with flags := tblIns s.nand.flags p k.block } }
      let s := s.setErase p (some { block := k.block, sw := true, runAt := s.clk.now, fail := fail || decide (us > 10000),
                                    us := us })
      .next (s.nandRan { k with started := true, us := us })

/-- An erase ends (R431, R437, R440): verified, or its block retired with content undefined; the flag is cleared. -/
def State.eraseEnd (s : State) (p : Nat) (e : NandErase) : State :=
  let s := s.slowBlock e.block (e.us > 4500)
  let s := if e.fail then
      ((List.range 64).foldl (fun (s : State) n => s.putPage (64 * e.block + n) .undef) s).retireBlock e.block
    else s.erased e.block
  ({ s with nand := { s.nand with flags := tblDel s.nand.flags p } } : State).setErase p none

/-- NAND_CMD_DONE (R430): the software command that has run ends; an erase ends with it, unless it is suspended. -/
def execNandCmdDone (s : State) : Res :=
  match s.nand.cmd with
  | none => .next s
  | some k =>
    if !k.started then .next s
    else if k.op = 3 then
      let p := planeOf k.block
      match s.eraseOn p with
      | none => .next s
      | some e =>
        if e.suspended then .next s
        else .next ((s.eraseEnd p e).nandEnd (if e.fail then Code.ERASE_FAIL else Code.OK) 0 0 e.us)
    else .next (s.nandEnd k.status k.corr k.retry (if k.op = 2 then k.us else 0))

/-- ERASE_SUSPEND (R432): a read is queued on plane `p`; the erase has run for RUNMIN since it started or resumed. -/
def execEraseSuspend (p : Nat) (s : State) : Res :=
  match s.eraseOn (p % 2) with
  | none => .next s
  | some e =>
    if e.suspended then .next s
    else .next ((s.advanceTo (e.runAt + us (s.fld NAND_CFG_RUNMIN))).suspendErase (p % 2))

/-- ERASE_RESUME (R432): the plane has no queued read or program; not while the VIN-fail warning holds. -/
def execEraseResume (p : Nat) (s : State) : Res :=
  match s.eraseOn (p % 2) with
  | none => .next s
  | some e =>
    if !e.suspended || s.flag PWR_STAT_VINWARN || s.planeQueued (p % 2) then .next s
    else .next (s.setErase (p % 2) (some { e with suspended := false, runAt := s.clk.now }))

/-! ### Start-up (R434) -/

/-- One flagged block is erased again under R431. -/
def State.redoPlane (s : State) (p : Nat) (fail : Bool) : State :=
  match tblFind s.nand.flags p with
  | none => s
  | some b => s.eraseEnd p { block := b, sw := false, runAt := s.clk.now, fail := fail }

/-- NAND_REDO (R434): a write of NAND_BOOTSTAT.REDO; `fail0` and `fail1` say whether a redone erase fails. -/
def execNandRedo (r : Requester) (fail0 fail1 : Bool) (s : State) : Res :=
  if r == .core .kc then .next ((s.redoPlane 0 fail0).redoPlane 1 fail1) else .next (s.discard baseNAND)

/-- A write of NAND_BOOTSTAT.RELEASE by `r` (R434, R444): NAND_HEALTH is valid from then on. -/
def State.nandRelease (s : State) (r : Requester) : State :=
  if r == .core .kc then ((s.set1 NAND_BOOTSTAT_RELEASE).showReserve .ctx).showReserve .page else s.discard baseNAND

/-- NAND_RELEASE (R434). -/
def execNandRelease (r : Requester) (s : State) : Res := .next (s.nandRelease r)

/-- BBQ_QUERY (R444). -/
def State.bbqQuery (s : State) (v : Word) : State :=
  let b := bitsOf v.toNat 13 0
  let w := b + (if s.nandBad b then 2 ^ 31 else 0) + (if s.nand.factory.contains b then 2 ^ 30 else 0)
  s.wr NAND_BBQ (BitVec.ofNat 32 w)

def execBbqQuery (v : Word) (s : State) : Res := .next (s.bbqQuery v)

/-- NAND_CNTCLR (R444). -/
def State.nandCntclr (s : State) : State := (List.range 8).foldl (fun (s : State) n => s.wr (NAND_CNTn n) 0) s

def execNandCntclr (s : State) : Res := .next s.nandCntclr

/-! ### The hardware partitions (R437, R438, R440) -/

/-- The erase of an emptied block of a hardware partition ends. -/
def State.hwErase (s : State) (b : Nat) (die : DieEnd) : State :=
  match die with
  | .failed => s.retireBlock b
  | _ => (s.slowBlock b (die == .slow)).erased b

/-- GARBAGE_COLLECT (R438): the free blocks of partition `p` are below 32; full block `b` gives up its live pages and is
erased. -/
def execGarbageCollect (p : HwPart) (b : Nat) (die : DieEnd) (s : State) : Res :=
  if s.dieReleased && decide ((s.freeBlocks p).length < 32) && s.nand.full.contains b && hwPartOf b == some p then
    .next ((s.moveLive p b).hwErase b die)
  else .next s

/-- Rank of a block for wear levelling: slow blocks count as most worn (R437). -/
def State.wearRank (s : State) (b : Nat) : Nat := if s.nand.slow.contains b then 2 ^ 32 else s.pecOf b

/-- WEAR_LEVEL (R438): the extremes of the partition differ by more than 2,000; the least-erased full block moves onto
the free block of highest count. -/
def execWearLevel (p : HwPart) (die : DieEnd) (s : State) : Res :=
  let good := ((List.range (hwHi p)).drop (hwLo p)).filter (fun b => !(s.nandBad b))
  let mx := (good.map s.pecOf).foldl max 0
  let mn := (good.map s.pecOf).foldl min mx
  let from_ := leastBy s.wearRank (s.nand.full.filter (fun b => hwPartOf b == some p))
  let to_ := leastBy (fun b => 2 ^ 33 - s.wearRank b) (s.freeBlocks p)
  match from_, to_ with
  | some b, some f =>
    if s.dieReleased && decide (mx > mn + 2000) then
      let ids := s.liveIn p b
      let rows := (ids.zip (List.range 64)).foldl (fun r (x : Nat × Nat) => tblIns r x.1 (64 * f + x.2)) (s.hwRows p)
      let s := s.setHwRows p rows
      .next (({ s with nand := { s.nand with full := s.nand.full ++ [f] } } : State).hwErase b die)
    else .next s
  | _, _ => .next s

end Sys2Proof.Machine
end

