-- ==== Sys2Proof/Machine/UpdOps.lean ====
section
/-! DEFINITION. Image sets and where they live (R477–R483), the update agent's settings and refusal states (R489), staging
(R488, R494) and the Ridgeline messages a receiver sends (R490–R493), as shared operations. -/

namespace Sys2Proof.Machine
open Sys2Proof

/-! ### The IMAGES and BOOT partitions (R421, R482) -/

/-- The good blocks of a region: 0 set A, 1 set B, 2 staging. -/
def State.imageBlocks (s : State) (r : Nat) : List Nat :=
  ((List.range 128).map (fun i => 16 + 128 * r + i)).filter (fun b => !(s.nandBad b))

/-- The row that holds stream block `k` of a region (R482). -/
def State.imageRow (s : State) (r k : Nat) : Option Nat :=
  ((s.imageBlocks r)[k / 128]?).map (fun b => 64 * b + k % 128 / 2)

/-- Stream block `k` of a region as the die returns it. -/
def State.imageBlock (s : State) (r k : Nat) : List Byte × State :=
  match s.imageRow r k with
  | none => (List.replicate 2048 0xff, s)
  | some row =>
    let p := s.pageBytes row
    ((p.1.drop (2048 * (k % 2))).take 2048, p.2)

/-- `n` stream blocks of a region from block `k`. -/
def State.imageBytes (s : State) (r k : Nat) : Nat → List Byte × State
  | 0 => ([], s)
  | n + 1 =>
    let a := s.imageBlock r k
    let t := a.2.imageBytes r (k + 1) n
    (a.1 ++ t.1, t.2)

/-- The agent or the ROM erases a block. -/
def State.agentErase (s : State) (b : Nat) : State := (s.erased b).inc (NAND_CNTn_COUNT 2)

/-- The agent or the ROM programs a page with `l`; what it leaves out stays erased. -/
def State.agentProgram (s : State) (row : Nat) (l : List Byte) : State :=
  (s.putPage row (.data ((l ++ ffPage).take 4160))).inc (NAND_CNTn_COUNT 1)

/-- A stream is copied into a region from page `p` on. -/
def State.programStream (s : State) (r p : Nat) (l : List Byte) : Nat → State
  | 0 => s
  | n + 1 =>
    let s := match s.imageRow r (2 * p) with
      | some row => s.agentProgram row (l.take 4096)
      | none => s
    s.programStream r (p + 1) (l.drop 4096) n

/-! ### The boot control record (R483) -/

/-- The boot control record. -/
structure Bcr where
  seq : Nat := 0
  active : Nat := 0
  state : Nat := 0
  tries : Nat := 0
  genold : Nat := 0
  arbtgt : List Nat := List.replicate 8 0
  trials : Nat := 600
  setida : List Byte := zeros 8
  setidb : List Byte := zeros 8
  deriving DecidableEq, Repr

/-- The first 64 bytes of a record. -/
def Bcr.head (r : Bcr) : List Byte :=
  leBytes 4 0x52434749 ++ leBytes 4 r.seq ++ leBytes 1 r.active ++ leBytes 1 r.state ++ leBytes 1 r.tries ++ leBytes 1 0 ++
    leBytes 4 r.genold ++ r.arbtgt.flatMap (leBytes 1) ++ leBytes 2 r.trials ++ zeros 6 ++ r.setida ++ r.setidb ++ zeros 16

/-- The record with its CHECK. -/
def Bcr.bytes (r : Bcr) : List Byte := r.head ++ shake256 r.head 32

/-- All bytes zero? -/
def allZero (l : List Byte) : Bool := l.all (fun b => b == 0)

/-- A page read as a record: none where it is not intact. -/
def readBcr (l : List Byte) : Option Bcr :=
  let f := octLe l
  let arb := (List.range 8).map (fun n => f (16 + n) 1)
  let ok := f 0 4 == 0x52434749 && decide (f 8 1 < 2) && decide (f 9 1 < 2) && decide (f 10 1 ≤ 3) && f 11 1 == 0 &&
    arb.all (fun v => decide (v ≤ 64)) && decide (1 ≤ f 0x18 2) && allZero ((l.drop 0x1a).take 6) &&
    allZero ((l.drop 0x30).take 16) && (l.drop 0x40).take 32 == shake256 (l.take 0x40) 32
  if ok then
    some { seq := f 4 4, active := f 8 1, state := f 9 1, tries := f 10 1, genold := f 12 4, arbtgt := arb,
           trials := f 0x18 2, setida := (l.drop 0x20).take 8, setidb := (l.drop 0x28).take 8 }
  else none

/-- The BOOT copy of a block. -/
def bootCopy (b : Nat) : Option Nat := if b < 7 then some 0 else if 8 ≤ b && b < 15 then some 1 else none

/-- The newest intact record and the copy that holds it. -/
def State.newestBcr (s : State) : Option (Bcr × Nat) :=
  s.nand.pages.foldl (fun best e =>
    match bootCopy (e.1 / 64), e.2 with
    | some c, .data l =>
      match readBcr l, best with
      | some r, none => some (r, c)
      | some r, some x => if x.1.seq < r.seq then some (r, c) else best
      | none, _ => best
    | _, _ => best) none

/-- The record that governs (R483). -/
def State.bcr (s : State) : Bcr := (s.newestBcr.map (·.1)).getD {}

/-- The good blocks of a BOOT copy. -/
def State.bootBlocks (s : State) (c : Nat) : List Nat :=
  ((List.range 7).map (fun i => 8 * c + i)).filter (fun b => !(s.nandBad b))

/-- The whole record is written as the next page of the copy not last written, with SEQ one higher (R483). -/
def State.writeBcr (s : State) (r : Bcr) : State :=
  let c := match s.newestBcr with
    | some x => 1 - x.2
    | none => 0
  let l := ({ r with seq := (s.bcr.seq + 1) % 2 ^ 32 } : Bcr).bytes
  match (s.bootBlocks c).find? (fun b => decide (tblGet 0 s.nand.nextPage b < 64)) with
  | some b => s.agentProgram (64 * b + tblGet 0 s.nand.nextPage b) l
  | none =>
    let s := (s.bootBlocks c).foldl (fun (s : State) b => s.agentErase b) s
    match (s.bootBlocks c).head? with
    | some b => s.agentProgram (64 * b) l
    | none => s

/-- SETID installed in set `i`. -/
def Bcr.setid (r : Bcr) (i : Nat) : List Byte := if i = 0 then r.setida else r.setidb

/-- The record with a SETID for set `i`. -/
def Bcr.withSetid (r : Bcr) (i : Nat) (x : List Byte) : Bcr := if i = 0 then { r with setida := x } else { r with setidb := x }

/-! ### The manifest head (R478–R481) -/

/-- A component entry. -/
structure ImgComp where
  typ : Nat
  ctr : Nat
  arb : Nat
  first : Nat
  len : Nat
  load : Nat
  deriving DecidableEq, Repr

/-- A manifest head. -/
structure ImgHead where
  keyidx : Nat
  headlen : Nat
  setver : Nat
  arb : Nat
  nlist : Nat
  ndata : Nat
  target : Nat
  comps : List ImgComp
  deriving DecidableEq, Repr

/-- Component entry `i`. -/
def compAt (l : List Byte) (i : Nat) : ImgComp :=
  let f := fun (o n : Nat) => octLe l (0x40 + 32 * i + o) n
  { typ := f 0 1, ctr := f 1 1, arb := f 2 1, first := f 8 4, len := f 12 4, load := f 16 4 }

/-- One past the last data block of a component. -/
def ImgComp.past (c : ImgComp) : Nat := c.first + ceilDiv c.len 2048

/-- Is LOAD as R479 says for the type? -/
def ImgComp.loadOk (c : ImgComp) : Bool :=
  match c.typ with
  | 1 => decide (c.load % 256 = 0) && inRange 0x20500000 0x2052ffff c.load c.len
  | 2 => decide (c.load % 4096 = 0) && inRange 0x80000000 0xbfffffff c.load c.len
  | _ => decide (c.load = 0)

/-- Is an entry within R479? -/
def ImgComp.ok (c : ImgComp) (ndata : Nat) : Bool :=
  decide (1 ≤ c.typ) && decide (c.typ ≤ 5) && (if c.typ = 5 then decide (5 ≤ c.ctr) && decide (c.ctr ≤ 7) else c.ctr == c.typ) &&
    decide (c.arb ≤ 64) && decide (1 ≤ c.len) && c.loadOk && decide (c.past ≤ ndata)

/-- Do the entries rise in FIRST without overlap? -/
def compsRise : List ImgComp → Bool
  | a :: b :: t => decide (a.past ≤ b.first) && compsRise (b :: t)
  | _ => true

/-- Entries of a type. -/
def countTyp (l : List ImgComp) (t : Nat) : Nat := (l.filter (fun c => c.typ == t)).length

/-- The head as its fields read. -/
def headOf (l : List Byte) : ImgHead :=
  { keyidx := octLe l 5 1, headlen := octLe l 8 4, setver := octLe l 12 4, arb := octLe l 16 1, nlist := octLe l 0x12 2,
    ndata := octLe l 0x14 4, target := octLe l 0x18 4, comps := (List.range (octLe l 6 1)).map (compAt l) }

/-- Reserved bytes of an entry. -/
def compRsvd (l : List Byte) (i : Nat) : Bool :=
  octLe l (0x43 + 32 * i) 1 == 0 && allZero ((l.drop (0x54 + 32 * i)).take 12)

/-- Is every field within R478 and R479, TARGET aside? -/
def headFmt (l : List Byte) : Bool :=
  let h := headOf l
  let n := h.comps.length
  octLe l 0 4 == 0x464d4749 && octLe l 4 1 == 1 && decide (h.keyidx ≤ 3) && decide (1 ≤ n) && decide (n ≤ 16) &&
    octLe l 7 1 == 0 && h.headlen == 64 + 32 * n + 32 * h.nlist + 5261 && decide (1 ≤ h.setver) && decide (h.arb ≤ 64) &&
    octLe l 0x11 1 == 0 && decide (1 ≤ h.ndata) && decide (h.ndata ≤ 15872) && h.nlist == ceilDiv h.ndata 64 &&
    allZero ((l.drop 0x1c).take 36) && (List.range n).all (compRsvd l) && h.comps.all (fun c => c.ok h.ndata) &&
    compsRise h.comps && countTyp h.comps 1 == 1 && decide (countTyp h.comps 2 ≤ 1) && decide (countTyp h.comps 3 ≤ 1) &&
    decide (countTyp h.comps 4 ≤ 1)

/-- Head blocks by HEADLEN (R478): at least one, at most 7. -/
def headBlocks (headlen : Nat) : Nat := max 1 (min 7 (ceilDiv headlen 2048))

/-- The signed bytes of a head. -/
def signedHead (l : List Byte) : List Byte := l.take ((headOf l).headlen - 3309)

/-- SETID (R478). -/
def setidOf (l : List Byte) : List Byte := (shake256 (signedHead l) 32).take 8

/-- The checks of R481, first failure first. -/
def State.headCheck (s : State) (l : List Byte) : Nat :=
  let h := headOf l
  let sig := (l.drop (h.headlen - 3309)).take 3309
  let pk := (l.drop (h.headlen - 5261)).take 1952
  if !(headFmt l) then Code.UPD_FORMAT
  else if h.target ≠ 0x8512 then Code.UPD_TARGET
  else
    let v := s.latVerify (h.keyidx + 3) pk (signedHead l) sig
    if v ≠ Code.OK then v
    else if h.arb < s.arb 0 || h.comps.any (fun c => decide (c.arb < s.arb c.ctr)) then Code.ROLLBACK
    else Code.OK

/-- The hash that list block `i` must have. -/
def listHash (l : List Byte) (i : Nat) : List Byte := (l.drop (0x40 + 32 * (headOf l).comps.length + 32 * i)).take 32

/-- Does stream block `k` match its hash (R478, R481)? `l` is the stream from its first byte, block `k` apart. -/
def blockOk (l : List Byte) (k : Nat) (block : List Byte) : Bool :=
  let h := headOf l
  let nh := headBlocks h.headlen
  let hash := shake256 block 32
  if k < nh + h.nlist then hash == listHash l (k - nh)
  else
    let j := k - nh - h.nlist
    hash == (l.drop (2048 * (nh + j / 64) + 32 * (j % 64))).take 32

/-- The blocks of a stream from `k` on all match; `n` of them. -/
def streamOk (l : List Byte) (k : Nat) : Nat → Bool
  | 0 => true
  | n + 1 => blockOk l k ((l.drop (2048 * k)).take 2048) && streamOk l (k + 1) n

/-! ### Settings and refusal states (R489, R499) -/

/-- Is a set under trial? -/
def State.onTrial (s : State) : Bool := s.flag UPD_BOOT_TRIAL && decide (s.bcr.state = 1)

/-- The settings of a generation. -/
def State.settingsOf (s : State) (g : Nat) : UpdSettings := (tblFind s.upd.gens g).getD {}

/-- The settings in force: those that a trial set has written, else the confirmed generation. -/
def State.settings (s : State) : UpdSettings :=
  if s.onTrial && tblHas s.upd.gens (s.fld UPD_GENNEW_GEN) then s.settingsOf (s.fld UPD_GENNEW_GEN)
  else s.settingsOf s.bcr.genold

/-- Is VIN below UPD_VMIN? -/
def State.vinLow (s : State) : Bool := decide (20 * s.fld PWR_VINMON_VIN < 100 * s.settings.vmin)

/-- Has STILL been low within the hold time? -/
def State.moved (s : State) : Bool :=
  !(bitAt s.icu.pins 20) ||
    (match s.icu.stillRose with
     | some t => decide (s.clk.now < t + 200000000 * s.settings.hold)
     | none => false)

/-- A refusal state (R489). -/
def State.updRefused (s : State) : Bool := s.vinLow || s.settings.lock || s.moved

/-! ### Staging (R482, R488) -/

/-- Blocks of the stream in staging. -/
def Stage.total (g : Stage) : Nat := g.nh + g.nlist + g.ndata

/-- Is the stream complete? -/
def Stage.complete (g : Stage) : Bool := decide (g.have_ = g.total)

/-- HAVE: verified blocks held from index 0. -/
def State.have_ (s : State) : Nat := (s.upd.stage.map (·.have_)).getD 0

/-- Is the staged set complete? -/
def State.stageDone (s : State) : Bool := s.upd.stage.any Stage.complete

/-- SETVER of the installed set that a new one would replace, 0 where there is none. -/
def State.replacedVer (s : State) : Nat :=
  let r := s.bcr
  if allZero (r.setid (1 - r.active)) then 0 else octLe (s.imageBlock (1 - r.active) 0).1 12 4

/-- May a verified head take or join staging (R488, R489)? -/
def State.stageAdmit (s : State) (setid : List Byte) (setver : Nat) : Nat :=
  match s.upd.stage with
  | some g =>
    if g.setid = setid then Code.OK
    else if s.updRefused then Code.UPD_REFUSED
    else if g.setver < setver && s.replacedVer < setver then Code.OK
    else if !(g.complete) then Code.UPD_BUSY else Code.UPD_OLD
  | none =>
    if s.updRefused then Code.UPD_REFUSED
    else if s.replacedVer < setver then Code.OK else Code.UPD_OLD

/-- Verified blocks reach the pages of the staging region as soon as they fill one, or end the stream. -/
def State.stageSync (s : State) : State :=
  match s.upd.stage with
  | none => s
  | some g =>
    let n := if g.complete then ceilDiv g.total 2 else g.have_ / 2
    (List.range n).foldl (fun (s : State) p =>
      match s.imageRow 2 (2 * p) with
      | some row =>
        if tblHas s.nand.pages row then s
        else s.agentProgram row (((g.bytes.drop (4096 * p)).take 4096))
      | none => s) s

/-- Replace the stage. -/
def State.setStage (s : State) (g : Option Stage) : State := { s with upd := { s.upd with stage := g } }

/-- A verified head takes staging (R488): the previous transfer is abandoned and staging erased, and HAVE changes for every
neighbour (R491). -/
def State.takeStage (s : State) (l : List Byte) : State :=
  let h := headOf l
  let nh := headBlocks h.headlen
  let s := (s.imageBlocks 2).foldl (fun (s : State) b =>
    if tblGet 0 s.nand.nextPage b = 0 then s else s.agentErase b) s
  let g : Stage := { setid := setidOf l, setver := h.setver, nh := nh, nlist := h.nlist, ndata := h.ndata, bytes := l,
                     have_ := nh }
  (({ s with upd := { s.upd with annAt := [] } } : State).setStage (some g)).stageSync

/-- The units that the bytes complete are verified in order; one that fails is dropped with what follows it (R494). -/
def State.verifyUnits (s : State) : Nat → Nat × State
  | 0 => (Code.OK, s)
  | n + 1 =>
    match s.upd.stage with
    | none => (Code.OK, s)
    | some g =>
      let at_ := 2048 * g.have_
      if g.complete || decide (g.bytes.length < at_ + 2048) then (Code.OK, s)
      else if blockOk g.bytes g.have_ ((g.bytes.drop at_).take 2048) then
        ((s.setStage (some { g with have_ := g.have_ + 1 })).stageSync).verifyUnits n
      else (Code.UPD_HASH, s.setStage (some { g with bytes := g.bytes.take at_ }))

/-- Bytes join the stream in staging. -/
def State.stageAppend (s : State) (data : List Byte) : Nat × State :=
  match s.upd.stage with
  | none => (Code.UPD_OFFSET, s)
  | some g =>
    if 2048 * g.total < g.bytes.length + data.length then (Code.UPD_OFFSET, s)
    else (s.setStage (some { g with bytes := g.bytes ++ data })).verifyUnits (data.length / 2048 + 2)

/-- A complete head is verified and takes, joins or is refused staging (R481, R488, R494). -/
def State.headIn (s : State) (l rest : List Byte) : Nat × State :=
  let st := s.headCheck l
  if st ≠ Code.OK then (st, s)
  else
    let id := setidOf l
    let a := s.stageAdmit id (headOf l).setver
    if a ≠ Code.OK then (a, s)
    else if s.upd.stage.any (fun g => g.setid == id) then
      if s.upd.stage.any (fun g => g.bytes.length == l.length) then s.stageAppend rest else (Code.OK, s)
    else (s.takeStage l).stageAppend rest

/-- Bytes join a head that the host sends (R494). -/
def State.headAppend (s : State) (data : List Byte) : Nat × State :=
  let l := s.upd.inHead ++ data
  let n := 2048 * headBlocks (octLe l 8 4)
  if l.length < 12 || l.length < n then (Code.OK, { s with upd := { s.upd with inHead := l } })
  else ({ s with upd := { s.upd with inHead := [] } } : State).headIn (l.take n) (l.drop n)

/-- A host block (R494): its outcome. OFFSET 0 opens a new head where none is being received. -/
def State.hostBlock (s : State) (ofs : Nat) (data : List Byte) : Nat × State :=
  let u := s.upd
  if data.length = 0 || 256 < data.length then (Code.HIF_BADARG, s)
  else if u.last = some (ofs, data) then (Code.OK, s)
  else
    let r := if u.inHead ≠ [] then
        if ofs = u.inHead.length then s.headAppend data else (Code.UPD_OFFSET, s)
      else if ofs = 0 then s.headAppend data
      else if u.stage.any (fun g => ofs == g.bytes.length) then s.stageAppend data
      else (Code.UPD_OFFSET, s)
    if r.1 = Code.OK then (Code.OK, { r.2 with upd := { r.2.upd with last := some (ofs, data) } })
    else (r.1, { r.2 with upd := { r.2.upd with last := none } })

/-! ### Ridgeline messages (R490–R493) -/

/-- A message to a neighbour: to the ridge queue, or as an UPDATE packet to the Mirror partner, neighbour 32. -/
def State.rlSend (s : State) (nb : Nat) (m : List Byte) : State :=
  if nb = 32 then s.mirSend 5 (.raw m) none else { s with upd := { s.upd with out := s.upd.out ++ [(nb, m)] } }

/-- The common octets of a message (R490). -/
def rlHead (typ : Nat) (setid : List Byte) : List Byte := leBytes 1 0xa7 ++ leBytes 1 typ ++ zeros 2 ++ setid

/-- A neighbour's record. -/
def State.rlPeer (s : State) (nb : Nat) : RlPeer := tblGet {} s.upd.peers nb

/-- Set it. -/
def State.setRlPeer (s : State) (nb : Nat) (p : RlPeer) : State :=
  { s with upd := { s.upd with peers := tblPut {} s.upd.peers nb p } }

/-- Blocks of the SETID the neighbour announces that failed (R493). -/
def RlPeer.failed (p : RlPeer) : Nat := (p.fails.filter (fun x => x == p.setid)).length

/-- Is the neighbour ignored for the SETID it announces (R493)? -/
def RlPeer.shunned (p : RlPeer) : Bool := p.ignored.contains p.setid

/-- It is from now on. -/
def RlPeer.shun (p : RlPeer) : RlPeer := { p with ignored := p.setid :: p.ignored }

/-- Own HAVE for a SETID. -/
def State.haveOf (s : State) (setid : List Byte) : Nat :=
  match s.upd.stage with
  | some g => if g.setid = setid then g.have_ else 0
  | none => 0

/-- May blocks be wanted of what a neighbour announced (R488, R493)? -/
def State.rlWants (s : State) (p : RlPeer) : Bool :=
  !p.shunned && decide (s.haveOf p.setid < p.have_) &&
    (match s.upd.stage with
     | some g => g.setid == p.setid || (decide (g.setver < p.setver) && decide (s.replacedVer < p.setver))
     | none => decide (s.replacedVer < p.setver))

/-- The neighbour to request from: the highest announced HAVE, and among equals the lowest number (R493); `but` is the one
just dropped. -/
def State.rlPick (s : State) (but : Option Nat) : Option Nat :=
  let l := s.upd.peers.filter (fun e => s.rlWants e.2 && but != some e.1)
  (l.foldl (fun (b : Option (Nat × Nat)) e =>
    match b with
    | none => some (e.1, e.2.have_)
    | some x => if x.2 < e.2.have_ then some (e.1, e.2.have_) else b) none).map (·.1)

/-- Does the link to a neighbour use RL1? -/
def State.rlIsRl1 (s : State) (nb : Nat) : Bool :=
  match s.activePlan with
  | none => false
  | some q => q.neighbours.any (fun n => n.nb == nb && q.profiles.any (fun f => f.profid == n.profid && f.phy == 4))

/-- A REQUEST to a neighbour, FROM at `k` (R490, R493). The spec leaves CREDIT and FRAG to the sender: CREDIT of 7 to 64, so
that a whole head is covered, and for each link a FRAG that its frames can carry. -/
def State.rlRequest (s : State) (nb k : Nat) : State :=
  let a := s.fresh
  let b := a.2.fresh
  let p := s.rlPeer nb
  let credit := 7 + a.1 % 58
  let frag := if p.frag = 0 then 64 + b.1 % (if s.rlIsRl1 nb then 172 else 1985) else p.frag
  (b.2.setRlPeer nb { p with frag := frag }).rlSend nb (rlHead 2 p.setid ++ leBytes 4 k ++ leBytes 2 credit ++ leBytes 2 frag)

/-- Requests go to neighbour `nb` from now on, or to none. -/
def State.rlSource (s : State) (nb : Option Nat) : State :=
  let keep := s.upd.src == nb
  let s : State := { s with upd := { s.upd with src := nb, frag := none, rlHead := if keep then s.upd.rlHead else [] } }
  match nb with
  | none => s
  | some n => (s.setRlPeer n { (s.rlPeer n) with idle := 0 }).rlRequest n (s.haveOf (s.rlPeer n).setid)

/-- The next request (R493): none in a refusal state (R489) or in recovery (R487). -/
def State.rlNext (s : State) (but : Option Nat) : State :=
  if s.updRefused || s.flag UPD_BOOT_RECOV then { s with upd := { s.upd with src := none, frag := none, rlHead := [] } }
  else s.rlSource (s.rlPick but)

/-- An own turn toward a neighbour has passed (R493): after three without a fragment from the one requests go to, the next
is taken. -/
def State.rlTurn (s : State) (nb : Nat) : State :=
  if s.upd.src = some nb then
    let p := s.rlPeer nb
    if 2 ≤ p.idle then s.rlNext (some nb) else s.setRlPeer nb { p with idle := p.idle + 1 }
  else s

end Sys2Proof.Machine
end

