-- ==== Sys2Proof/Machine/MirrorOps.lean ====
section
/-! DEFINITION. Pair roles (R550–R553) and what a standby applies of the feed and of a store copy (R255, R554), as shared
operations. -/

namespace Sys2Proof.Machine
open Sys2Proof

/-- The running set's SETID and SETVER, as a heartbeat carries them. -/
def State.ownSet (s : State) : List Byte × Nat :=
  let i := s.fld UPD_BOOT_SET
  let id := s.bcr.setid i
  if allZero id then (zeros 8, 0) else (id, octLe (s.imageBlock i 0).1 12 4)

/-- SERIAL of the device (R468). -/
def State.serial (s : State) : Nat := leNat (s.otpBytes 16 8)

/-- Has this member priority over its partner: the higher SETVER, then the lower SERIAL (R551)? -/
def State.pairPrior (s : State) (x : PeerBeat) : Bool :=
  let v := s.ownSet.2
  if v = x.setver then decide (s.serial < x.serial) else decide (x.setver < v)

/-- Set the role; the time in it starts now. -/
def State.setRole (s : State) (n : Nat) : State :=
  ({ s with mirror := { s.mirror with roleAt := s.clk.now } } : State).setFld MIRROR_STAT_ROLE n

/-- PAIR_ACT driven low and PAIR_SW high, or released and low. -/
def State.pairDrive (s : State) (on : Bool) : State :=
  ({ s with mirror := { s.mirror with drives := on, sw := on } } : State).pinTo 22 (!on && s.icu.pairExt)

/-- Is PAIR_ACT high? -/
def State.pairHigh (s : State) : Bool := bitAt s.icu.pins 22

/-- Is PAIR_ACT sampled high: over 10 µs (R551)? -/
def State.pairSampled (s : State) : Bool := s.pairHigh && decide (s.mirror.actAt + us 10 ≤ s.clk.now)

/-- A path's frame loses its power amplifier and what it holds ends PAIR_STANDBY (R552). -/
def State.pairCut (s : State) (p : PathId) : State :=
  let s := match s.pst p with
    | .rxtx | .tx => s.cutTx p Code.PAIR_STANDBY
    | _ => s
  let l := (s.rf p).held
  l.foldl (fun (s : State) c => s.endTx p c Code.PAIR_STANDBY) (s.modRf p (fun x => { x with held := [], gap := false }))

/-- The member leaves ACTIVE for role `n` (R551, R552). -/
def State.leaveActive (s : State) (n : Nat) : State := (((s.setRole n).pairDrive false).pairCut .s).pairCut .g |>.drainEnds

/-- The member becomes ACTIVE (R551): PAIR_ACT low, PAIR_SW high. -/
def State.pairClaim (s : State) : State :=
  let s := (s.setRole 3).pairDrive true
  let s : State := { s with mirror := { s.mirror with kickAt := none, copy := false } }
  (s.clr PAGER_STAT_STANDBY).set1 MIRROR_IRQ_ACTIVE

/-- Takeover (R553, R256): EPOCH advances before a frame is built for any context (R246). -/
def State.pairTakeover (s : State) : State :=
  let ser := (s.mirror.peer.map (·.serial)).getD 0
  let s := (s.pairClaim.logPut 19 Code.PAIR_TAKEOVER 0 ser).bumpEpoch.renewHot
  { s with pager := { s.pager with newKeys := s.unusedKeys } }

/-- The standby asks for a store copy: FEEDLOST in its heartbeats says so (R554). -/
def State.wantCopy (s : State) : State :=
  let s : State := { s with mirror := { s.mirror with copy := true, copyNew := [] } }
  s.set1 PAGER_STAT_FEEDLOST

/-- WAIT becomes STANDBY (R551, R554). -/
def State.pairStand (s : State) : State :=
  let s := ((s.setRole 2).set1 PAGER_STAT_STANDBY).set1 MIRROR_IRQ_STANDBY
  if s.pager.store.isEmpty then s.wantCopy else s

/-- The cycle at which the KICK of the active member lapses (R550). -/
def State.kickEnd (s : State) : Nat :=
  max (s.mirror.kickAt.getD 0) s.mirror.roleAt + us 1000 * s.fld MIRROR_CFG_KICKTO

/-- KICK lapses (R550, R551). -/
def State.kickLapse (s : State) : State := s.leaveActive 1

/-- MISS shows the consecutive misses. -/
def State.setMissed (s : State) (n : Nat) : State :=
  ({ s with mirror := { s.mirror with missed := n } } : State).setFld MIRROR_STAT_MISS (min n 3)

/-- The octets of a HEARTBEAT (R550). -/
def State.beatBody (s : State) : List Byte :=
  let own := s.ownSet
  let flags := (if s.flag PAGER_STAT_FEEDLOST then 1 else 0) + (if s.flag PAGER_STAT_READY then 2 else 0)
  leBytes 1 (s.fld MIRROR_STAT_ROLE) ++ leBytes 1 flags ++ zeros 2 ++ leBytes 8 s.serial ++ own.1 ++ leBytes 4 own.2 ++
    leBytes 8 s.nettime ++ leBytes 4 (if s.pairActive then s.pager.feedSeq else s.pager.feedExp)

/-! ### The feed and the store copy on the standby (R255, R554) -/

/-- A CONTEXT item takes effect: the context is programmed, or leaves the store where it is marked dead (R254). -/
def State.applyContext (s : State) (i : Nat) (c : Ctx) (dead : Bool) : State :=
  let s : State := { s with mirror := { s.mirror with copyNew := if s.mirror.copy && !(s.mirror.copyNew.contains i)
                                                                 then s.mirror.copyNew ++ [i] else s.mirror.copyNew } }
  if dead then
    match s.durable i with
    | some old => s.evictDone { op := 2, cls := old.cls, key := old.key, status := Code.OK, ctx := i }
    | none => s
  else
    let s := s.place c
    let s := match s.hot i with
      | some h => s.putHot i { h with ctx := c, newer := true }
      | none => { s with pager := { s.pager with cold := tblIns s.pager.cold i c } }
    let s := s.programPage i
    let e : DirEnt := { valid := true, key := c.key, ctx := i, cls := c.cls, res := s.isHot i, lost := c.lost, block := c.block }
    match s.dirFind c.key c.cls with
    | some w => s.dirPut w { e with pend := (s.dirAt w).pend }
    | none =>
      match s.dirSlot c.key with
      | some w => s.dirPut w e
      | none => s

/-- A STATE or RESERVE item takes effect on its context, for the journal's next commit (R255), and on its directory entry (R226,
R248). -/
def State.applyRecord (s : State) (r : JournalRec) : State :=
  let mark := fun (s : State) (c : Ctx) => s.dirMod c.key c.cls (fun e => { e with lost := c.lost, block := c.block })
  match s.hot r.ctx with
  | some h => mark (s.putHot r.ctx { h with ctx := h.ctx.apply r, dirty := true, newer := true }) (h.ctx.apply r)
  | none =>
    match s.outside r.ctx with
    | some c => mark { s with pager := { s.pager with cold := tblIns s.pager.cold r.ctx (c.apply r) } } (c.apply r)
    | none => s

/-- An item of the feed (R254, R255). -/
def State.applyItem (s : State) (x : FeedItem) : State :=
  match x with
  | .state r => s.applyRecord r
  | .reserve r => s.applyRecord r
  | .context i c dead => s.applyContext i c dead
  | .commit _ => { s with mirror := { s.mirror with feedBase := (s.pager.feedExp + 1) % 2 ^ 32 } }

/-- An item with its feed sequence number (R255): what was applied already is passed over, and a gap asks for the items since
the last COMMIT. -/
def State.feedItem (s : State) (e : Nat × FeedItem) : State :=
  if e.1 = s.pager.feedExp then
    let s := s.applyItem e.2
    let s : State := { s with pager := { s.pager with feedExp := (e.1 + 1) % 2 ^ 32 } }
    s.clr PAGER_STAT_FEEDGAP
  else if reached 32 s.pager.feedExp e.1 then s
  else if s.flag PAGER_STAT_FEEDGAP then s
  else (s.set1 PAGER_STAT_FEEDGAP).mirSend 3 (.feedReq s.mirror.feedBase) none

/-- The items asked for are gone (R255): the feed goes on from the first item sent, and a store copy is wanted. -/
def State.feedGone (s : State) (first : Nat) : State :=
  let s := (s.set1 PAGER_IRQ_FEEDGAP).wantCopy
  let s := s.clr PAGER_STAT_FEEDGAP
  { s with pager := { s.pager with feedExp := first }, mirror := { s.mirror with feedBase := first } }

/-- The cluster pages of the active member, with the contexts their NAND copies hold (R554). -/
def State.copyPages (s : State) : List (List (Nat × Ctx)) :=
  s.pager.pages.map (fun e => e.2.members.filterMap (fun i => (tblFind s.pager.store i).map (fun c => (i, c.ctx))))

/-- The active member sends its header page and every cluster page (R554). -/
def State.sendCopy (s : State) : State :=
  let h := (s.pager.header.map (fun h => (h.hseed, h.epoch))).getD ((s.rd MAC_HSEED).toNat, (s.rd PAGER_EPOCH).toNat)
  let s := s.mirSend 4 (.header h.1 h.2 s.pager.feedSeq) none
  let l := if s.pager.pages.isEmpty then [[]] else s.copyPages
  let n := l.length
  let s := (l.zip (List.range n)).foldl (fun (s : State) (e : List (Nat × Ctx) × Nat) =>
    s.mirSend 4 (.cluster e.1 (e.2 + 1 == n)) none) s
  { s with mirror := { s.mirror with copy := true } }

end Sys2Proof.Machine
end

