-- ==== Sys2Proof/Machine/PlanImage.lean ====
section
/-! DEFINITION. The band plan image: its layout (R155–R162), its parsing, and checks 1, 2 and 5 to 20 of R172 with the
offset each reports (R173). -/

namespace Sys2Proof.Machine
open Sys2Proof

/-! ### Bytes of the image -/

/-- Byte `i` of the image. -/
def b1 (m : List Byte) (i : Nat) : Nat := (m.getD i 0).toNat

/-- Little-endian fields of two and four bytes, and their signed readings. -/
def b2 (m : List Byte) (i : Nat) : Nat := b1 m i + 256 * b1 m (i + 1)
def b4 (m : List Byte) (i : Nat) : Nat := b2 m i + 65536 * b2 m (i + 2)
def s1 (m : List Byte) (i : Nat) : Int := signedOf 8 (b1 m i)
def s2 (m : List Byte) (i : Nat) : Int := signedOf 16 (b2 m i)
def s4 (m : List Byte) (i : Nat) : Int := signedOf 32 (b4 m i)

/-- A failed check: the byte offset and the number of the check. -/
structure PlanErr where
  off : Nat
  chk : Nat
  deriving DecidableEq, Repr

/-- The failure R173 reports among those of checks that run in byte order: the lowest offset, and there the lowest
check. -/
def firstErr (l : List PlanErr) : Option PlanErr :=
  l.foldl (fun (b : Option PlanErr) e =>
    match b with
    | none => some e
    | some x => if e.off < x.off || (e.off == x.off && e.chk < x.chk) then some e else some x) none

/-- Check 7 at an offset when `c` holds, and check 8. -/
def rsv (c : Bool) (o : Nat) : List PlanErr := if c then [⟨o, 7⟩] else []
def rng (c : Bool) (o : Nat) : List PlanErr := if c then [⟨o, 8⟩] else []

/-- Check 7 for each of `n` reserved bytes from `o` that is not 0. -/
def rsvBytes (m : List Byte) (o n : Nat) : List PlanErr := (List.range n).flatMap (fun i => rsv (b1 m (o + i) != 0) (o + i))

/-- The status code of a check (R172). -/
def chkCode : Nat → Nat
  | 1 => Code.PLAN_FORMAT
  | 2 => Code.PLAN_RSVD
  | 5 => Code.PLAN_FORMAT
  | 6 => Code.PLAN_FORMAT
  | 7 => Code.PLAN_RSVD
  | _ => Code.PLAN_RULE

/-! ### Header (R155, R156) -/

/-- BODYLEN. -/
def bodyLen (m : List Byte) : Nat := b4 m 8

/-- Checks 1 and 2 on a copy of `len` bytes. -/
def headerErr (m : List Byte) (len : Nat) : Option PlanErr :=
  let n := bodyLen m
  if b4 m 0 ≠ 0x50424749 then some ⟨0, 1⟩
  else if n % 4 ≠ 0 ∨ n < 72 ∨ 32768 < n ∨ n + 3309 ≠ len then some ⟨8, 1⟩
  else firstErr ((if b1 m 4 ≠ 1 then [⟨4, 2⟩] else []) ++ (if 2 ≤ b1 m 5 then [⟨5, 2⟩] else []) ++
    (if 64 ≤ b1 m 16 then [⟨16, 2⟩] else []) ++
    (((List.range 3).map (· + 17)) ++ ((List.range 32).map (· + 32))).flatMap
      (fun o => if b1 m o ≠ 0 then [⟨o, 2⟩] else []))

/-! ### Sections (R158, R159) -/

/-- Record length, greatest COUNT and whether the section is required, by TYPE; none for a reserved TYPE. -/
def sectType : Nat → Option (Nat × Nat × Bool)
  | 1 => some (8, 32, true)
  | 2 => some (8, 32, true)
  | 3 => some (16, 512, true)
  | 4 => some (16, 32, true)
  | 5 => some (8, 512, false)
  | 6 => some (8, 160, true)
  | 7 => some (16, 128, true)
  | 8 => some (16, 32, false)
  | 9 => some (16, 32, false)
  | 10 => some (200, 8, true)
  | 11 => some (132, 8, false)
  | 12 => some (16, 32, false)
  | 13 => some (8, 2, true)
  | _ => none

/-- A section found: its TYPE, the offset of its header and its COUNT. -/
structure Sect where
  typ : Nat
  off : Nat
  count : Nat
  deriving DecidableEq, Repr

/-- Is a required TYPE absent strictly between `a` and `b`? -/
def gapMissing (a b : Nat) : Bool :=
  (List.range b).any (fun t => decide (a < t) && (match sectType t with
    | some r => r.2.2
    | none => false))

/-- Walk the sections from offset `o`: the last TYPE and the number read so far. It ends at the first section header
that check 5 fails; the sections before it are returned with the failure. -/
def walkSects (m : List Byte) : Nat → Nat → Nat → Nat → List Sect × List PlanErr
  | 0, _, _, o => ([], [⟨o, 5⟩])
  | k + 1, last, n, o =>
    if o = bodyLen m then
      ([], if n < b2 m 6 ∨ gapMissing last 14 then [⟨o, 5⟩] else [])
    else if b2 m 6 ≤ n ∨ bodyLen m < o + 8 then ([], [⟨o, 5⟩])
    else
      match sectType (b1 m o) with
      | none => ([], [⟨o, 5⟩])
      | some (rl, mx, _) =>
        let c := b2 m (o + 4)
        let raw := o + 8 + c * rl
        let fin := (raw + 3) / 4 * 4
        if b1 m o ≤ last ∨ b1 m (o + 1) ≠ 1 ∨ b2 m (o + 2) ≠ rl ∨ c = 0 ∨ mx < c ∨ bodyLen m < fin ∨
            gapMissing last (b1 m o) ∨ (List.range (fin - raw)).any (fun i => b1 m (raw + i) != 0) then ([], [⟨o, 5⟩])
        else
          let r := walkSects m k (b1 m o) (n + 1) fin
          (⟨b1 m o, o, c⟩ :: r.1, rsvBytes m (o + 6) 2 ++ r.2)

/-- Offsets of the records of a section. -/
def Sect.recs (x : Sect) : List Nat :=
  match sectType x.typ with
  | some r => (List.range x.count).map (fun i => x.off + 8 + i * r.1)
  | none => []

/-- The key of a record (R159). -/
def recKey (m : List Byte) (typ o : Nat) : Nat :=
  match typ with
  | 4 => b1 m o
  | 5 => b2 m o
  | 9 => b1 m o
  | 10 => b1 m o
  | 11 => b1 m o
  | 12 => b1 m o
  | 13 => b1 m o
  | _ => 256 * b1 m o + b1 m (o + 1)

/-- Check 6: each record key above that of the record before it. -/
def keyErrs (m : List Byte) (typ : Nat) : List Nat → List PlanErr
  | a :: b :: t => (if recKey m typ b ≤ recKey m typ a then [⟨b, 6⟩] else []) ++ keyErrs m typ (b :: t)
  | _ => []

/-! ### Records (R160, R162): checks 7 and 8 -/

/-- Is RCODE the value stated for the PHY? -/
def rcodeOk (phy rc : Nat) : Bool :=
  match phy with
  | 0 => rc == 0
  | 1 => decide (rc ≤ 3)
  | 2 => rc == 5
  | 3 => rc == 4
  | 4 => rc == 2
  | _ => rc == 0

/-- PROFILE. -/
def profileErrs (m : List Byte) (o : Nat) : List PlanErr :=
  let phy := b1 m (o + 1)
  rng (decide (31 < b1 m o)) o ++ rsv (decide (6 ≤ phy)) (o + 1) ++ rng (!(rcodeOk phy (b1 m (o + 2)))) (o + 2) ++
  rng (if phy = 1 then decide (6 < b1 m (o + 3)) else if phy = 0 then b1 m (o + 3) != 2 else b1 m (o + 3) != 0) (o + 3) ++
  rng (if phy = 1 then decide (1024 < b2 m (o + 4)) else b2 m (o + 4) != 0) (o + 4) ++
  rsv (phy == 1 && b1 m (o + 6) == 3) (o + 6) ++
  rng (if phy = 1 then decide (3 < b1 m (o + 6)) else b1 m (o + 6) != 0) (o + 6) ++
  rsv (b1 m (o + 7) == 0) (o + 7) ++ rsv (decide (8 ≤ b1 m (o + 12))) (o + 12) ++
  rsv (decide (8 ≤ b1 m (o + 13)) && decide (b1 m (o + 13) ≤ 254)) (o + 13) ++
  rng (if phy = 5 then b1 m (o + 13) == 255 else decide (b1 m (o + 13) < 8)) (o + 13) ++
  rsv (phy == 5 && b1 m (o + 14) == 3) (o + 14) ++
  rng (if phy = 5 then decide (3 < b1 m (o + 14)) else b1 m (o + 14) != 0) (o + 14) ++ rsvBytes m (o + 15) 1

/-- CHANNEL. -/
def channelErrs (m : List Byte) (o : Nat) : List PlanErr :=
  rng (decide (63 < b1 m (o + 1))) (o + 1) ++
  rsv (decide (16 ≤ b1 m (o + 2)) && decide (b1 m (o + 2) ≤ 254)) (o + 2) ++
  rng (decide (79 < b1 m (o + 3))) (o + 3) ++ rng (decide (b4 m (o + 8) ≤ b4 m (o + 4))) (o + 8) ++
  rng ((b2 m (o + 12) == 0) != (b1 m (o + 14) == 0)) (o + 14) ++ rsv (decide (2 ≤ b1 m (o + 15))) (o + 15)

/-- MASK. -/
def maskErrs (m : List Byte) (o : Nat) : List PlanErr :=
  let n := b1 m (o + 4)
  rng (decide (7 < b1 m o)) o ++ rsv (decide (3 ≤ b1 m (o + 1))) (o + 1) ++ rsv (decide (2 ≤ b1 m (o + 2))) (o + 2) ++
  rng (n == 0 || decide (16 < n)) (o + 4) ++ rsvBytes m (o + 5) 3 ++
  (List.range 16).flatMap (fun i =>
    let q := o + 8 + 12 * i
    if i < n then rng (decide (s4 m (q + 4) ≤ s4 m q)) (q + 4) ++ rsvBytes m (q + 10) 2 else rsvBytes m q 12)

/-- Checks 7 and 8 of one record. -/
def recErrs (m : List Byte) (typ o : Nat) : List PlanErr :=
  let path := rsv (decide (2 ≤ b1 m o)) o
  match typ with
  | 1 =>
    let c := b4 m (o + 4)
    path ++ rng (decide (15 < b1 m (o + 1))) (o + 1) ++ rsv (decide (4 ≤ b1 m (o + 2))) (o + 2) ++ rsvBytes m (o + 3) 1 ++
    rng (if b1 m o = 0 then decide (c < 877000) || decide (916000 < c) else decide (c < 2416000) || decide (2467500 < c))
      (o + 4)
  | 2 => path ++ rng (decide (15 < b1 m (o + 1))) (o + 1) ++ rsv (decide (3 ≤ b1 m (o + 2))) (o + 2) ++ rsvBytes m (o + 3) 1
  | 3 =>
    let f := b4 m (o + 4)
    path ++ rsv (decide (9 ≤ b1 m (o + 3))) (o + 3) ++
    rng (if b1 m o = 0 then decide (f < 863000000) || decide (930000000 < f)
      else decide (f < 2400000000) || decide (2483500000 < f)) (o + 4) ++
    rng (b2 m (o + 8) == 0) (o + 8) ++ rsv (decide (8 ≤ b1 m (o + 10))) (o + 10) ++
    rsv (decide (32 ≤ b1 m (o + 11)) && decide (b1 m (o + 11) ≤ 254)) (o + 11) ++ rsvBytes m (o + 12) 4
  | 4 => profileErrs m o
  | 5 =>
    rng (decide (511 < b2 m o)) o ++ rsv (decide (2 ≤ b1 m (o + 2))) (o + 2) ++ rsv (decide (8 ≤ b1 m (o + 5))) (o + 5) ++
    rsvBytes m (o + 6) 2
  | 6 =>
    let e := b4 m (o + 4)
    path ++ rng (decide (79 < b1 m (o + 1))) (o + 1) ++ rsvBytes m (o + 2) 2 ++
    rsv (bitsOf e 19 18 == 3 || bitsOf e 23 22 != 0) (o + 4) ++ rng (!(entryValid e) && e != 0) (o + 4)
  | 7 => path ++ channelErrs m o
  | 8 =>
    path ++ rng (decide (15 < b1 m (o + 1))) (o + 1) ++ rng (b2 m (o + 2) == 0 || decide (10000 < b2 m (o + 2))) (o + 2) ++
    rng (decide (b4 m (o + 4) < 1000) || decide (86400000 < b4 m (o + 4))) (o + 4) ++
    rng (decide (b4 m (o + 12) ≤ b4 m (o + 8))) (o + 12)
  | 9 =>
    rng (decide (31 < b1 m o)) o ++ rsv (decide (2 ≤ b1 m (o + 1))) (o + 1) ++
    rng (b2 m (o + 2) == 0 || decide (1024 < b2 m (o + 2))) (o + 2) ++
    rng (b4 m (o + 8) == 0 || decide (10000000 < b4 m (o + 8))) (o + 8) ++ rng (b2 m (o + 14) == 0) (o + 14)
  | 10 => maskErrs m o
  | 11 => rng (decide (7 < b1 m o)) o ++ rsvBytes m (o + 1) 3
  | 12 =>
    rng (decide (31 < b1 m o)) o ++ rsv (decide (2 ≤ b1 m (o + 1))) (o + 1) ++ rng (decide (79 < b1 m (o + 4))) (o + 4) ++
    rsvBytes m (o + 5) 3 ++ rsvBytes m (o + 12) 4
  | _ => path ++ (List.range 4).flatMap (fun i => rsv (decide (64 ≤ b1 m (o + 1 + i))) (o + 1 + i)) ++ rsvBytes m (o + 5) 1

/-- The failure of checks 5 to 8, if any, and the sections. -/
def sectErr (m : List Byte) : List Sect × Option PlanErr :=
  let w := walkSects m 15 0 0 64
  (w.1, firstErr (w.2 ++ w.1.flatMap (fun x => keyErrs m x.typ x.recs ++ x.recs.flatMap (recErrs m x.typ))))

/-! ### Parsing -/

/-- The offsets of the records of a TYPE. -/
def offsOf (l : List Sect) (typ : Nat) : List Nat := (l.filter (fun x => x.typ == typ)).flatMap Sect.recs

/-- A value that 0xFF marks as absent. -/
def opt255 (n : Nat) : Option Nat := if n = 255 then none else some n

def parseWindow (m : List Byte) (o : Nat) : PlanWindow :=
  ⟨pathOf (b1 m o), b1 m (o + 1), bitAt (b1 m (o + 2)) 0, bitAt (b1 m (o + 2)) 1, b4 m (o + 4)⟩

def parseBranch (m : List Byte) (o : Nat) : PlanBranch := ⟨pathOf (b1 m o), b1 m (o + 1), b1 m (o + 2), s4 m (o + 4)⟩

def parseRay (m : List Byte) (o : Nat) : PlanRay :=
  ⟨pathOf (b1 m o), b1 m (o + 1), b1 m (o + 2), b1 m (o + 3), b4 m (o + 4), b2 m (o + 8), b1 m (o + 10),
    opt255 (b1 m (o + 11))⟩

def parseProfile (m : List Byte) (o : Nat) : PlanProfile :=
  ⟨b1 m o, b1 m (o + 1), b1 m (o + 2), b1 m (o + 3), b2 m (o + 4), b1 m (o + 6), b1 m (o + 7), s2 m (o + 8),
    b2 m (o + 10), b1 m (o + 12), b1 m (o + 13), b1 m (o + 14)⟩

def parseFacet (m : List Byte) (o : Nat) : PlanFacet :=
  ⟨b2 m o, pathOf (b1 m (o + 2)), b1 m (o + 3), b1 m (o + 4), b1 m (o + 5)⟩

def parsePower (m : List Byte) (o : Nat) : PlanPower := ⟨pathOf (b1 m o), b1 m (o + 1), b4 m (o + 4)⟩

def parseChannel (m : List Byte) (o : Nat) : PlanChannel :=
  ⟨pathOf (b1 m o), b1 m (o + 1), opt255 (b1 m (o + 2)), b1 m (o + 3), b4 m (o + 4), b4 m (o + 8), b2 m (o + 12),
    b1 m (o + 14), bitAt (b1 m (o + 15)) 0⟩

def parseSubband (m : List Byte) (o : Nat) : PlanSubband :=
  ⟨pathOf (b1 m o), b1 m (o + 1), b2 m (o + 2), b4 m (o + 4), b4 m (o + 8), b4 m (o + 12)⟩

def parseHop (m : List Byte) (o : Nat) : PlanHop :=
  ⟨b1 m o, pathOf (b1 m (o + 1)), b2 m (o + 2), b4 m (o + 4), b4 m (o + 8), b2 m (o + 12), b2 m (o + 14)⟩

def parseMask (m : List Byte) (o : Nat) : PlanMask :=
  ⟨b1 m o, b1 m (o + 1), bitAt (b1 m (o + 2)) 0, b1 m (o + 3), (List.range (b1 m (o + 4))).map (fun i =>
    let q := o + 8 + 12 * i
    ⟨s4 m q, s4 m (q + 4), s1 m (q + 8), s1 m (q + 9)⟩)⟩

def parseFilter (m : List Byte) (o : Nat) : PlanFilter := ⟨b1 m o, (List.range 64).map (fun i => s2 m (o + 4 + 2 * i))⟩

def parseNeighbour (m : List Byte) (o : Nat) : PlanNeighbour :=
  ⟨b1 m o, pathOf (b1 m (o + 1)), b1 m (o + 2), b1 m (o + 3), b1 m (o + 4), b4 m (o + 8)⟩

def parseTuner (m : List Byte) (o : Nat) : PlanTuner :=
  ⟨pathOf (b1 m o), b1 m (o + 1), b1 m (o + 2), b1 m (o + 3), b1 m (o + 4), s2 m (o + 6)⟩

/-- The parsed plan. -/
def parsePlan (m : List Byte) (l : List Sect) : Plan :=
  { planid := b4 m 12, keyidx := b1 m 5, arb := b1 m 16, windows := (offsOf l 1).map (parseWindow m),
    branches := (offsOf l 2).map (parseBranch m), rays := (offsOf l 3).map (parseRay m),
    profiles := (offsOf l 4).map (parseProfile m), facets := (offsOf l 5).map (parseFacet m),
    power := (offsOf l 6).map (parsePower m), channels := (offsOf l 7).map (parseChannel m),
    subbands := (offsOf l 8).map (parseSubband m), hops := (offsOf l 9).map (parseHop m),
    masks := (offsOf l 10).map (parseMask m), filters := (offsOf l 11).map (parseFilter m),
    neighbours := (offsOf l 12).map (parseNeighbour m), tuners := (offsOf l 13).map (parseTuner m) }

/-! ### Checks 9 to 20 -/

/-- Offset of a section header: where the section is absent, where it would have begun. -/
def hdrOff (m : List Byte) (l : List Sect) (typ : Nat) : Nat :=
  match l.find? (fun x => decide (typ ≤ x.typ)) with
  | some x => x.off
  | none => bodyLen m

/-- The lowest offset whose record fails. -/
def firstOff (l : List (Nat × Bool)) : Option Nat :=
  ((l.filter (fun e => e.2)).map (·.1)).foldl (fun (b : Option Nat) o =>
    match b with
    | none => some o
    | some x => some (min o x)) none

/-- Check 9: windows and DEFAULT. -/
def check9 (q : Plan) (m : List Byte) (l : List Sect) : Option Nat :=
  firstOff ([PathId.s, PathId.g].map (fun p =>
    let ws := (offsOf l 1).filter (fun o => (parseWindow m o).path == p)
    match ws with
    | [] => (hdrOff m l 1, true)
    | o :: _ => (o, ((q.windows.filter (fun w => w.path == p && w.dflt)).length != 1))))

/-- Check 10: references to absent records. -/
def check10 (q : Plan) (m : List Byte) (l : List Sect) : Option Nat :=
  firstOff (
    (offsOf l 3).flatMap (fun o =>
      let r := parseRay m o
      [(o + 2, (q.branch r.path r.branch).isNone), (o + 11, match r.hop with
        | some h => (q.hop h).isNone
        | none => false)]) ++
    (offsOf l 4).flatMap (fun o =>
      let r := parseProfile m o
      [(o + 12, (q.mask r.mask).isNone), (o + 13, r.phy == 5 && !(q.filters.any (fun f => f.filtid == r.filter)))]) ++
    (offsOf l 5).flatMap (fun o =>
      let r := parseFacet m o
      [(o + 3, (q.ray r.path r.ray).isNone), (o + 4, (q.profile r.profid).isNone)]) ++
    (offsOf l 7).map (fun o =>
      let r := parseChannel m o
      (o + 2, match r.subband with
        | some b => (q.subband r.path b).isNone
        | none => false)) ++
    (offsOf l 12).flatMap (fun o =>
      let r := parseNeighbour m o
      [(o + 2, (q.profile r.profid).isNone), (o + 3, (q.ray r.path r.ray).isNone)]))

/-- Channel `i` of a hop sequence in Hz. -/
def PlanHop.freq (h : PlanHop) (i : Nat) : Nat := h.base + i * h.spacing

/-- Check 11: R67 in every window of the mask, for the centre and each hop channel. -/
def check11 (q : Plan) (m : List Byte) (l : List Sect) : Option Nat :=
  firstOff ((offsOf l 3).map (fun o =>
    let r := parseRay m o
    let p := q.rayPar r
    let ok := fun (f : Nat) => q.rayOk r.path p.ofsKHz p.dexp r.k f r.wmask
    (o, !(ok r.freq) || (match r.hop.bind q.hop with
      | some h => (List.range h.nch).any (fun i => !(ok (h.freq i)))
      | none => false))))

/-- The first record that takes a path's running weight over 2,048. -/
def overWeight : Nat → List (Nat × Nat) → Option Nat
  | _, [] => none
  | n, (o, w) :: t => if 2048 < n + w then some o else overWeight (n + w) t

/-- The weights of a path in image order: branches, then rays (R64, R70). -/
def planWeights (q : Plan) (m : List Byte) (l : List Sect) (p : PathId) : List (Nat × Nat) :=
  ((offsOf l 2).filter (fun o => (parseBranch m o).path == p)).map (fun o => (o, branchWeight (parseBranch m o).dexp)) ++
  ((offsOf l 3).filter (fun o => (parseRay m o).path == p)).map (fun o => (o, (q.rayPar (parseRay m o)).weight))

/-- Check 12. -/
def check12 (q : Plan) (m : List Byte) (l : List Sect) : Option Nat :=
  firstOff ([PathId.s, PathId.g].filterMap (fun p => (overWeight 0 (planWeights q m l p)).map (fun o => (o, true))))

/-- Does a profile fit a ray of a path and k (R93, R126, R150)? -/
def profileFits (r : PlanProfile) (p : PathId) (k : Nat) : Bool :=
  match r.phy with
  | 0 => decide (3 ≤ k)
  | 1 => decide (3 + r.rcode ≤ k)
  | 2 => p == .g && k == 8
  | 3 => p == .s && decide (7 ≤ k)
  | 4 => k == 6
  | _ => k == 5 + r.ncode

/-- Do two facets of one ray agree in all four points of R95? -/
def Plan.alike (q : Plan) (a b : PlanFacet) : Bool :=
  match q.profile a.profid, q.profile b.profid with
  | some x, some y => x.phy == y.phy && x.rcode == y.rcode && x.sfexp == y.sfexp && x.code == y.code
  | _, _ => false

/-- Check 13. -/
def check13 (q : Plan) (m : List Byte) (l : List Sect) : Option Nat :=
  let fits := fun (pr : Nat) (p : PathId) (ray : Nat) =>
    match q.profile pr, q.ray p ray with
    | some r, some y => profileFits r p y.k
    | _, _ => false
  let kind := fun (pr : Nat) => match q.profile pr with
    | some r => decide (4 ≤ r.phy)
    | none => false
  firstOff (
    (offsOf l 5).map (fun o =>
      let f := parseFacet m o
      (o, kind f.profid || !(fits f.profid f.path f.ray) ||
        q.facets.any (fun g => decide (g.facet < f.facet) && g.path == f.path && g.ray == f.ray && q.alike f g))) ++
    (offsOf l 12).map (fun o =>
      let r := parseNeighbour m o
      (o, !(kind r.profid) || !(fits r.profid r.path r.ray))))

/-- Check 14: placement with all 64 engines usable sheds a facet (R96). -/
def check14 (q : Plan) (m : List Byte) (l : List Sect) : Option Nat :=
  let shed := ((placeAll (fun _ => true) [] (placeOrder (q.facets.map (fun f => (f.facet, q.alloc f))))).filter
    (fun e => e.2.2.isNone)).map (·.1)
  firstOff ((offsOf l 5).map (fun o => (o, shed.contains (b2 m o))))

/-- Check 15: PRIO of a ray that carries facets (R161). -/
def check15 (q : Plan) (m : List Byte) (l : List Sect) : Option Nat :=
  firstOff ((offsOf l 3).map (fun o =>
    let r := parseRay m o
    (o, (q.rayPar r).prio != r.prio)))

/-- Check 16: the power tables (R47). -/
def check16 (q : Plan) (m : List Byte) (l : List Sect) : Option Nat :=
  let missing := [PathId.s, PathId.g].any (fun p => (List.range 80).any (fun i => (q.powerAt p i).isNone))
  firstOff ((hdrOff m l 6, missing) :: (offsOf l 6).map (fun o =>
    let e := parsePower m o
    let before := q.power.filter (fun x => x.path == e.path && decide (x.index < e.index))
    let nom := entryNom e.entry
    (o, entryValid e.entry && (before.any (fun x => !(entryValid x.entry)) ||
      before.any (fun x => entryValid x.entry && decide (nom < entryNom x.entry)) ||
      decide (nom < -20) || decide ((if e.path == .s then 54 else 40) < nom)))))

/-- Does a band lie in a channel of the path? -/
def Plan.inChannel (q : Plan) (p : PathId) (lo hi : Int) : Bool := (q.channelOf p (lo, hi)).isSome

/-- Half the largest bandwidth among the rays that name a hop sequence; 0 where none does. -/
def Plan.hopHalf (q : Plan) (h : Nat) : Int :=
  (q.rays.filter (fun r => r.hop == some h)).foldl (fun b r => max b (rayB r.k / 2)) 0

/-- Check 17: channels. -/
def check17 (q : Plan) (m : List Byte) (l : List Sect) : Option Nat :=
  firstOff (
    (offsOf l 7).map (fun o =>
      let c := parseChannel m o
      (o, (match q.powerAt c.path c.capidx with
          | some e => !(entryValid e.entry)
          | none => true) ||
        (match c.subband.bind (q.subband c.path) with
          | some b => decide (c.lo < b.lo) || decide (b.hi < c.hi)
          | none => false) ||
        q.channels.any (fun d => d.path == c.path && decide (d.chan < c.chan) && decide (d.lo < c.hi) &&
          decide (c.lo < d.hi)))) ++
    (offsOf l 9).map (fun o =>
      let h := parseHop m o
      let half := q.hopHalf h.hopid
      (o, (List.range h.nch).any (fun i => !(q.inChannel h.path ((h.freq i : Int) - half) ((h.freq i : Int) + half))))) ++
    (offsOf l 12).map (fun o =>
      let n := parseNeighbour m o
      let b := match q.profile n.profid with
        | some r => occBand r.txKind (n.fl : Int)
        | none => ((n.fl : Int), (n.fl : Int))
      (o, !(q.inChannel n.path b.1 b.2))) ++
    (offsOf l 13).map (fun o =>
      let t := parseTuner m o
      (o, (q.windows.filter (fun w => w.path == t.path)).any (fun w =>
        let f : Int := 1000 * ((w.centreKHz : Int) + t.probeKHz)
        !(q.inChannel t.path f f)))))

/-- Half the span of Loupe by LDEC, in Hz (R88). -/
def loupeHalf : Nat → Int
  | 0 => 40000000
  | 1 => 10000000
  | _ => 2500000

/-- Check 18: masks and filters. -/
def check18 (_ : Plan) (m : List Byte) (l : List Sect) : Option Nat :=
  firstOff (
    (offsOf l 10).map (fun o =>
      let k := parseMask m o
      let h := loupeHalf k.ldec
      (o, decide (k.segs.length ≤ k.refseg) || k.segs.any (fun g => decide (g.lo < -h) || decide (h < g.hi)))) ++
    (offsOf l 11).map (fun o =>
      let f := parseFilter m o
      (o, f.taps != f.taps.reverse)))

/-- Check 19: neighbours. -/
def check19 (q : Plan) (m : List Byte) (l : List Sect) : Option Nat :=
  firstOff ((offsOf l 12).map (fun o =>
    let n := parseNeighbour m o
    (o, (match q.ray n.path n.ray with
        | some r => r.freq != n.fl
        | none => true) ||
      (match q.powerAt n.path n.linkpidx with
        | some e => !(entryValid e.entry)
        | none => true))))

/-- The highest valid entry of a path with its offset: NOMPWR, by record. -/
def topEntry (m : List Byte) (l : List Sect) (p : PathId) : Option (Nat × Int) :=
  ((offsOf l 6).foldl (fun (b : Option (Nat × Int)) o =>
    let e := parsePower m o
    if e.path == p && entryValid e.entry then some (o, entryNom e.entry) else b) none)

/-- TS and TG of R416 in units of 1/256 µW, by NOMPWR in 0.5 dB. -/
def txPower (p : PathId) (nom : Int) : Nat :=
  let mw := match p with
    | .s => if nom ≤ 20 then 300 else if nom ≤ 28 then 380 else if nom ≤ 34 then 450 else if nom ≤ 40 then 600
      else if nom ≤ 48 then 900 else 1250
    | .g => if nom ≤ 20 then 150 else if nom ≤ 28 then 200 else if nom ≤ 34 then 260 else 330
  256000 * mw

/-- The cases of the power envelope in the order R172 reports ties: delivered power in 1/256 µW and the offset reported
(R416). -/
def envelope (q : Plan) (m : List Byte) (l : List Sect) : List (Nat × Nat) :=
  let us := q.pathLoad .s
  let ug := q.pathLoad .g
  let w := fun (p : PathId) => (planWeights q m l p).foldl (fun n e => n + e.2) 0
  let pr := 15625 * (w .s + w .g)
  let dig := 261120000
  let ts := topEntry m l .s
  let tg := topEntry m l .g
  let rx := (54000 * (us + ug + 20) + 89600000 + pr + dig, if q.facets.isEmpty then hdrOff m l 6 else hdrOff m l 5)
  let txs := match ts with
    | some (o, n) => [(txPower .s n + 44800000 + 54000 * (ug + 20) + pr + dig, o)]
    | none => []
  let txg := match tg with
    | some (o, n) => [(txPower .g n + 44800000 + 54000 * (us + 20) + pr + dig, o)]
    | none => []
  let both := match ts, tg with
    | some (o, n), some (_, k) => [(txPower .s n + txPower .g k + pr + dig, o)]
    | _, _ => []
  rx :: txs ++ txg ++ both

/-- Check 20: the largest case exceeds 3.24 W. -/
def check20 (q : Plan) (m : List Byte) (l : List Sect) : Option Nat :=
  let top := (envelope q m l).foldl (fun (b : Nat × Nat) e => if b.1 < e.1 then e else b) (0, 0)
  if 829440000 < top.1 then some top.2 else none

/-- Checks 9 to 20 in their order: the first that fails (R173). -/
def ruleErr (q : Plan) (m : List Byte) (l : List Sect) : Option PlanErr :=
  ([(9, check9), (10, check10), (11, check11), (12, check12), (13, check13), (14, check14), (15, check15), (16, check16),
    (17, check17), (18, check18), (19, check19), (20, check20)]).foldl (fun (b : Option PlanErr) e =>
      match b with
      | some x => some x
      | none => (e.2 q m l).map (fun o => ⟨o, e.1⟩)) none

/-- Checks 5 to 20 on an image: the parsed plan, or the failure. -/
def loadPlan (m : List Byte) : Plan × Option PlanErr :=
  let w := sectErr m
  let q := parsePlan m w.1
  match w.2 with
  | some e => (q, some e)
  | none => (q, ruleErr q m w.1)

end Sys2Proof.Machine
end

