-- ==== Sys2Proof/Machine/Prism.lean ====
section
/-! DEFINITION. The meanings of the Prism commands (chapter 02), those of the sequencer's meter and probe apart. -/

namespace Sys2Proof.Machine
open Sys2Proof

/-- The ray that PRISM_RAYSEL names. -/
def State.selPath (s : State) : PathId := pathOf (s.fld PRISM_RAYSEL_PATH)
def State.selRay (s : State) : Nat := s.fld PRISM_RAYSEL_RAY

/-- RAY_RETUNE_WRITE (R75): a value that breaks R67 in a window of the mask, or a HELD, SHED or UNUSED ray, is a
reserved encoding. -/
def State.rayTuneWrite (s : State) (v : Word) : State :=
  let p := s.selPath
  let r := s.ray p s.selRay
  if (r.st == .live || r.st == .parked) && s.tuneOk p r v.toNat then
    s.setRay p s.selRay { r with tune := some (v.toNat, s.trunkBoundary) }
  else s.discard basePRISM

def execRayRetuneWrite (v : Word) (s : State) : Res := .next (s.rayTuneWrite v)

/-- RAY_CENTRE_CHANGE (R75). -/
def execRayCentreChange (p : PathId) (n : Nat) (s : State) : Res :=
  match (s.ray p n).tune with
  | some (_, t) => .next ((s.advanceTo t).takeTune p n)
  | none => .next s

/-- The fields of the firmware meter of a path. -/
def emBusy : PathId → Fld
  | .s => PRISM_EMSTATS_BUSY
  | .g => PRISM_EMSTATG_BUSY
def emPct : PathId → Fld
  | .s => PRISM_EMSTATS_VALIDPCT
  | .g => PRISM_EMSTATG_VALIDPCT
def emPeak : PathId → Fld
  | .s => PRISM_EMSTATS_PEAK
  | .g => PRISM_EMSTATG_PEAK
def emMean : PathId → Fld
  | .s => PRISM_EMSTATS_MEAN
  | .g => PRISM_EMSTATG_MEAN
def emIrq : PathId → Fld
  | .s => PRISM_IRQ_EMDONES
  | .g => PRISM_IRQ_EMDONEG

/-- ENERGY_MEASURE_CMD (R81, R84): T0 is the write time less the group delay; DUR 0 is reserved. -/
def State.emCmd (s : State) (v : Word) : State :=
  let n := v.toNat
  let p := pathOf (bitsOf n 24 24)
  let ray := bitsOf n 23 16
  let dur := bitsOf n 15 0
  if dur = 0 then s.discard basePRISM
  else if (s.rf p).em.isSome then s.inc PRISM_CNT_COLL
  else
    let m : Meter := { ray := ray, t0 := s.clk.now - s.delayOf p ray, durUs := dur, readyAt := s.clk.now + us dur + us 2 }
    (s.modRf p (fun x => { x with em := some m })).set1 (emBusy p)

def execEnergyMeasureCmd (v : Word) (s : State) : Res := .next (s.emCmd v)

/-- ENERGY_MEASURE_DONE (R82, R84): `mean` and `peak` as measured over the samples that were VALID. -/
def execEnergyMeasureDone (p : PathId) (mean peak : QdB) (s : State) : Res :=
  match (s.rf p).em with
  | none => .next s
  | some m =>
    let s := s.advanceTo m.readyAt
    let v := s.reported p m mean peak
    let s := ((s.modRf p (fun x => { x with em := none })).clr (emBusy p)).setFld (emPct p) v.1
    let s := (s.setFld (emMean p) (unsignedOf 12 v.2.1)).setFld (emPeak p) (unsignedOf 12 v.2.2)
    .next (s.set1 (emIrq p))

/-- A probe can run on this ray: LIVE with k = 5, 6 or 7 (R86). -/
def State.probeRayOk (s : State) (p : PathId) (n : Nat) : Bool :=
  let r := s.ray p n
  r.st == .live && decide (5 ≤ r.par.k) && decide (r.par.k ≤ 7)

/-- A probe starts (R86): 2^(k − 1) bins, the first FFT complete 40 µs from now. Bins from NBINS on read 0 (R92). -/
def State.startProbe (s : State) (seqOwned : Bool) (p : PathId) (n nb avg : Nat) : State :=
  let bins := 2 ^ ((s.ray p n).par.k - 1)
  let pr : Probe := { seqOwned := seqOwned, path := p, ray := n, nb := nb, avg := avg, nbins := bins,
                      nextAt := s.clk.now + us 40 }
  let s := { s with prism := { s.prism with probe := some pr } }
  let s := ((List.range 64).filter (fun i => decide (bins ≤ i))).foldl (fun s i => s.wr (PRISM_PRBn i) 0) s
  let s := ((s.set1 PRISM_PRBSTAT_BUSY).clr PRISM_PRBSTAT_PARTIAL).clr PRISM_PRBSTAT_BADRAY
  ((s.setBool PRISM_PRBSTAT_OWNER seqOwned).setFld PRISM_PRBSTAT_NBINS bins).setFld PRISM_PRBSTAT_VALID 0

/-- PROBE_CMD (R87): ignored while the unit is busy; BADRAY for a ray that cannot carry it; AVG 0 is reserved. -/
def State.probeWrite (s : State) (v : Word) : State :=
  let n := v.toNat
  let p := pathOf (bitsOf n 24 24)
  let ray := bitsOf n 23 16
  let avg := bitsOf n 11 0
  if avg = 0 then s.discard basePRISM
  else if s.prism.probe.isSome then s.inc PRISM_CNT_COLL
  else if s.probeRayOk p ray then (s.startProbe false p ray 0 avg).clr PRISM_PRBSTAT_PREEMPT
  else s.set1 PRISM_PRBSTAT_BADRAY

def execProbeCmd (v : Word) (s : State) : Res := .next (s.probeWrite v)

/-- Has the probe reached its end (R86)? The FFT that starts as the (4 × AVG)-th still completes and counts (DESIGN CHOICE,
log entry 154: the rule ends the probe after so many starts and does not say whether the last is kept). -/
def Probe.ended (r : Probe) : Bool := decide (r.avg ≤ r.kept) || decide (4 * r.avg ≤ r.starts)

/-- PROBE_FFT (R86): every 20 µs an FFT of 2^k samples over 40 µs is complete; one with a sample not VALID is discarded. -/
def execProbeFft (s : State) : Res :=
  match s.prism.probe with
  | none => .next s
  | some r =>
    if r.ended then .next s
    else
      let s := s.advanceTo r.nextAt
      let k := (s.ray r.path r.ray).par.k
      let i := sampleFrom k (r.nextAt - us 40)
      let ok := s.allValid r.path r.ray i (i + 2 ^ k - 1)
      let r' := { r with starts := r.starts + 1, nextAt := r.nextAt + us 20, kept := if ok then r.kept + 1 else r.kept }
      .next { s with prism := { s.prism with probe := some r' } }

/-- The Loupe fields of a path. -/
def loupeFail : PathId → Fld
  | .s => PRISM_LOUPES_FAILCNT
  | .g => PRISM_LOUPEG_FAILCNT
def loupeMask : PathId → Fld
  | .s => PRISM_LOUPES_LASTMASK
  | .g => PRISM_LOUPEG_LASTMASK
def loupeSeg : PathId → Fld
  | .s => PRISM_LOUPES_LASTSEG
  | .g => PRISM_LOUPEG_LASTSEG
def loupeExcess : PathId → Fld
  | .s => PRISM_LOUPES_EXCESS
  | .g => PRISM_LOUPEG_EXCESS
def loupeIrq : PathId → Fld
  | .s => PRISM_IRQ_LOUPES
  | .g => PRISM_IRQ_LOUPEG

/-- By how much a segment's highest bin exceeds its limits (R88), in 0.5 dB: `level` and the level `ref` of the reference segment
in dBm at the transmit land. -/
def MaskSeg.excess (g : MaskSeg) (level ref : Int) : Int := max (level - (ref + g.dbc)) (level - g.abs)

/-- The segment with the greatest excess, the lowest of equals, from segment `n` on. -/
def worstSeg (ref : Int) : Nat → List (MaskSeg × Int) → Option (Nat × Int)
  | _, [] => none
  | n, (g, l) :: t =>
    match worstSeg ref (n + 1) t with
    | none => some (n, g.excess l ref)
    | some (m, e) => if e ≤ g.excess l ref then some (n, g.excess l ref) else some (m, e)

/-- The level of the reference segment of a block (R88). -/
def PlanMask.refLevel (m : PlanMask) (levels : List Int) : Int := levels.getD m.refseg 0

/-- When the block of Loupe that runs now ends, and how many FFTs are complete by then (R88). -/
def State.loupeDue (s : State) (p : PathId) : Nat := min (s.rf p).loupe.nextDue (s.rf p).due

def State.loupeFfts (s : State) (p : PathId) (m : PlanMask) : Nat :=
  let l := (s.rf p).loupe
  (s.loupeDue p + 5 * fftCycles m.ldec - l.nextDue) / fftCycles m.ldec

/-- A block fails (R89): its worst bin is recorded. -/
def State.loupeFailed (s : State) (p : PathId) (m : PlanMask) (seg : Nat) (ex : Int) : State :=
  let s := ((s.setFld (loupeMask p) m.maskid).setFld (loupeSeg p) seg).setFld (loupeExcess p) (min ex.toNat 255)
  ((s.inc (loupeFail p)).set1 (loupeIrq p)).modRf p (fun x => { x with loupe := { x.loupe with failed := true } })

/-- LOUPE_BLOCK_CHECK (R88, R89): the end of a block of 5 FFTs, or the last chip for one that holds an FFT. `levels` are the levels
of the highest bin of each segment of the mask in its order, in 0.5 dB units of dBm at the transmit land, averaged over the
block. Under an ABORT mask a failed block ends the frame with MASK_FAIL. -/
def execLoupeBlockCheck (p : PathId) (levels : List Int) (s : State) : Res :=
  let x := s.rf p
  match s.pst p, x.gap, x.loupe.mask with
  | .tx, false, some m =>
    if s.loupeFfts p m = 0 || levels.length != m.segs.length then .next s
    else
      let s := s.advanceTo (s.loupeDue p)
      let s := s.modRf p (fun x => { x with loupe := { x.loupe with blocks := x.loupe.blocks + 1,
                                                                    nextDue := x.loupe.nextDue + 5 * fftCycles m.ldec } })
      match worstSeg (m.refLevel levels) 0 (m.segs.zip levels) with
      | some (seg, ex) =>
        if 0 < ex then
          let s := s.loupeFailed p m seg ex
          if m.abort then .next (s.cutTx p Code.MASK_FAIL).drainEnds else .next s
        else .next s
      | none => .next s
  | _, _, _ => .next s

/-- HOLD_EXPIRE (R79, R103): frames still on the ray are lost with HOLD_EXP and their facets take the new allocation. -/
def execHoldExpire (p : PathId) (n : Nat) (s : State) : Res :=
  let r := s.ray p n
  if r.st == .held then
    let s := s.advanceTo r.holdAt
    let s := (s.facetsOn p n).foldl (fun s f => s.endFlagged f) s
    let l := (s.facetsOn p n).filter (fun f => (s.fct f).st.mid)
    let s := l.foldl (fun s f => ((s.loseFrame f Code.HOLD_EXP .idle).set1 FACET_IRQ_HOLDEXP)) s
    let s := ((s.inc PRISM_CNT_HOLDEXP).set1 PRISM_IRQ_HOLDEXP).releaseHeld p n
    .next (l.foldl (fun s f => if (s.fct f).old then s.finishOld f else s) s)
  else .next s

/-- HELD_RAY_RELEASE (R78): no facet mid-frame remains on the HELD ray. -/
def execHeldRayRelease (p : PathId) (n : Nat) (s : State) : Res :=
  if (s.ray p n).st == .held && !(s.rayBusy p n) then .next (s.releaseHeld p n) else .next s

/-- A RAYENG check of a path is aborted when its used weight rises above the budget less 512 (R507). -/
def State.abortRayeng (s : State) (p : PathId) : State :=
  if s.rayBudget p < s.usedWeight p + 512 then
    s.bistAbort (fun i => decide (4 + 4 * pathNum p ≤ i) && decide (i < 8 + 4 * pathNum p))
  else s

/-- RAY_START_DEFERRED (R80): waiting rays start in ascending number while their weight fits. -/
def execRayStartDeferred (p : PathId) (s : State) : Res := .next (((s.startWaiting p).showBud p).abortRayeng p)

/-- PRISM_CNTCLR (R92). -/
def State.prismCntclr (s : State) : State :=
  ((((s.wr PRISM_CNT 0).clr PRISM_LOUPES_FAILCNT).clr PRISM_LOUPES_NOVERD).clr PRISM_LOUPEG_FAILCNT).clr
    PRISM_LOUPEG_NOVERD

def execPrismCntclr (s : State) : Res := .next s.prismCntclr

end Sys2Proof.Machine
end

