-- ==== Sys2Proof/Machine/Seq.lean ====
section
/-! DEFINITION. The meanings of the sequencer commands (chapter 08), those of ridge links apart, with its meter (R83). -/

namespace Sys2Proof.Machine
open Sys2Proof

/-! ### Run, counts, time -/

/-- A write of SEQ_CTRL.RUN (R263). -/
def execSeqRunWrite (run : Bool) (s : State) : Res := .next (s.setBool SEQ_CTRL_RUN run)

/-- SEQ_CNTCLR (R302). -/
def State.seqCntclr (s : State) : State := (List.range 12).foldl (fun s n => s.wr (SEQ_CNTn n) 0) s

def execSeqCntclr (s : State) : Res := .next s.seqCntclr

/-- A write of SEQ_NTHI (R263): the high half waits for SEQ_NTLO. -/
def State.ntHiWrite (s : State) (v : Word) : State :=
  if s.flag SEQ_CTRL_RUN then s.discard baseSEQ else { s with seq := { s.seq with ntHiW := v.toNat } }

/-- NETTIME_SET (R263): a write of SEQ_NTLO. -/
def State.ntSet (s : State) (v : Word) : State :=
  if s.flag SEQ_CTRL_RUN then s.discard baseSEQ
  else
    ({ s with clk := { s.clk with nt := (2 ^ 32 * s.seq.ntHiW + v.toNat) * 2 ^ 32 },
              seq := { s.seq with hopAt := [] } }).wr SEQ_SLEW 0

def execNettimeSet (v : Word) (s : State) : Res := .next (s.ntSet v)

/-- Pending slew (R262). -/
def State.slew (s : State) : Int := signedOf 32 (s.rd SEQ_SLEW).toNat

/-- Add to the pending slew, which saturates at ±2^30 (R262). -/
def State.addSlew (s : State) (d : Int) : State :=
  let v := max (-(2 ^ 30 : Nat) : Int) (min ((2 ^ 30 : Nat) : Int) (s.slew + d))
  let s1 := s.wr SEQ_SLEW (BitVec.ofNat 32 (unsignedOf 32 v))
  if s.slew = 0 then { s1 with clk := { s1.clk with slewAt := s.clk.now + 10000 } } else s1

/-- SLEW_WRITE (R262). -/
def execSlewWrite (v : Word) (s : State) : Res := .next (s.addSlew (signedOf 32 v.toNat))

/-- SLEW_STEP (R262): one FT in each 10,000 cycles. -/
def execSlewStep (s : State) : Res :=
  if s.slew = 0 then .next s
  else
    let s := s.advanceTo s.clk.slewAt
    let up := decide (0 < s.slew)
    let nt := (if up then s.clk.nt + 2 ^ 32 else s.clk.nt + 2 ^ 96 - 2 ^ 32) % 2 ^ 96
    let s1 := s.wr SEQ_SLEW (BitVec.ofNat 32 (unsignedOf 32 (if up then s.slew - 1 else s.slew + 1)))
    .next { s1 with clk := { s1.clk with nt := nt, slewAt := s.clk.now + 10000 } }

/-- TREF_LATCH (R264): at the next SQT multiple of 1,000, unless a read holds the pair. -/
def execTrefLatch (s : State) : Res :=
  let s := s.advanceSqt ((s.sqt / 1000 + 1) * 1000)
  if s.seq.trefHold then .next s
  else .next ((s.wr SEQ_TREFTR (BitVec.ofNat 32 (trunkAt s.clk.now))).wr SEQ_TREFNT (BitVec.ofNat 32 s.nettime))

/-- R of R265 and the registers that report it. -/
def State.setRatio (s : State) (r : Nat) : State :=
  let s := { s with seq := { s.seq with ratio := r } }
  (s.wr SEQ_SLOWRI (BitVec.ofNat 32 (r / 2 ^ 32 % 2 ^ 13))).wr SEQ_SLOWRF (BitVec.ofNat 32 (r % 2 ^ 32))

/-- SLOW_RATIO_MEASURE (R265): after an awake span of at least 1,024 ST that measured `new`, a 32.32 value. -/
def execSlowRatioMeasure (new : Nat) (s : State) : Res :=
  match s.seq.spanAt with
  | none => .next s
  | some (c, _) =>
    if stEdges s.clk.now < stEdges c + 1024 then .next s
    else
      let s := s.setRatio ((3 * s.seq.ratio + new) / 4)
      .next { s with seq := { s.seq with spanAt := some (s.clk.now, s.clk.nt) } }

/-- NETTIME_RESUME (R265): at the first ST edge after SYSPLL locks on a wake. -/
def execNettimeResume (s : State) : Res :=
  match s.seq.savedNt with
  | some (e, nt) =>
    if s.clk.pll && !(s.flag SEQ_STAT_NTVALID) then
      let s := s.advanceEdge
      let w := stEdges s.clk.now
      let s1 := s.set1 SEQ_STAT_NTVALID
      .next { s1 with clk := { s1.clk with nt := (nt + (w - e) * s.seq.ratio) % 2 ^ 96 },
                      seq := { s1.seq with savedNt := none, spanAt := some (s1.clk.now, nt + (w - e) * s.seq.ratio) } }
    else .next s
  | none => .next s

/-! ### Discipline (R267–R270) -/

/-- A write of SEQ_TSRC (R267, R270): MODE 3 is reserved. -/
def State.tsrcWrite (s : State) (v : Word) : State :=
  let m := v.toNat % 4
  if m = 3 then s.discard baseSEQ
  else
    let s := s.plainWrite SEQ_TSRC v
    if m = 0 then s.setFld SEQ_STAT_TSTATE 0
    else if s.fld SEQ_STAT_TSTATE = 0 then
      { (s.setFld SEQ_STAT_TSTATE 1) with seq := { s.seq with good := 0, lastOk := none } }
    else s

def execTsrcModeWrite (v : Word) (s : State) : Res := .next (s.tsrcWrite v)

/-- The largest |RATE| (R262). -/
def rateMax : Int := 1048575

/-- A sample is applied (R269): slew, and rate with tau in seconds since the last accepted sample. -/
def State.applySample (s : State) (e : Int) : State :=
  let kp := s.fld SEQ_TLOOP_KP
  let ki := s.fld SEQ_TLOOP_KI
  let d := match s.seq.lastOk with
    | some t => max 1 (s.clk.now - t)
    | none => 200000000
  let s := s.addSlew (-(e / ((2 ^ kp : Nat) : Int)))
  let r := s.rate - (e * 4294967296) / ((d * 2 ^ ki : Nat) : Int)
  let s := s.wr SEQ_RATE (BitVec.ofNat 32 (unsignedOf 32 (max (-rateMax) (min rateMax r))))
  { (s.inc (SEQ_CNTn_COUNT 9)) with seq := { s.seq with lastOk := some s.clk.now } }

/-- A sample is rejected with PPS_REJECT. -/
def State.rejectSample (s : State) : State := (s.set1 SEQ_IRQ_PPSREJ).inc (SEQ_CNTn_COUNT 10)

/-- The lock window in FT. -/
def State.ppsWin (s : State) : Nat := 10 * s.fld SEQ_TLOOP_PPSWIN

/-- A sample `e` moves the discipline (R268–R270). -/
def State.timeSample (s : State) (e : Int) : State :=
  let s := s.setSat SEQ_TERR_E e
  let inWin := decide (e.natAbs ≤ s.ppsWin)
  if 2 ^ 31 ≤ e.natAbs then s.rejectSample
  else
    match s.fld SEQ_STAT_TSTATE with
    | 1 =>
      let s := s.applySample e
      let n := if inWin then s.seq.good + 1 else 0
      let s := { s with seq := { s.seq with good := n } }
      if s.fld SEQ_TLOOP_LOCKN ≤ n then (s.setFld SEQ_STAT_TSTATE 2).set1 SEQ_IRQ_LOCKED else s
    | 2 => if inWin then s.applySample e else s.rejectSample
    | 3 =>
      let s := (s.applySample e).setFld SEQ_STAT_TSTATE 1
      { s with seq := { s.seq with good := 0 } }
    | _ => s

/-- TIME_SAMPLE (R268–R270): the sample that a PPS edge or a ridge frame has left. -/
def execTimeSample (s : State) : Res :=
  match s.seq.sample with
  | none => .next s
  | some e => .next ({ s with seq := { s.seq with sample := none } }.timeSample e)

/-- LOCKED becomes HOLDOVER (R270). -/
def State.holdover (s : State) : State :=
  ((s.setFld SEQ_STAT_TSTATE 3).logPut 10 Code.HOLDOVER 0 0).set1 SEQ_IRQ_HOLDOVER

/-- The link of a neighbour. -/
def State.link (s : State) (n : Nat) : Link := tblGet {} s.seq.links n

def State.setLink (s : State) (n : Nat) (x : Link) : State :=
  { s with seq := { s.seq with links := tblPut {} s.seq.links n x } }

/-- HOLDOVER_ENTER (R270): 3 s after the last accepted GNSS sample, or once the parent is lost. -/
def execHoldoverEnter (s : State) : Res :=
  if s.fld SEQ_STAT_TSTATE = 2 then
    match s.fld SEQ_TSRC_MODE, s.seq.lastOk with
    | 1, some t => .next (s.advanceTo (t + us 3000000)).holdover
    | 2, _ => if (s.link (s.fld SEQ_TSRC_NB)).st = .search then .next s.holdover else .next s
    | _, _ => .next s
  else .next s

/-! ### Record commands (R274–R276) -/

/-- Are a record's fields in range, with reserved and unused fields 0 (R274–R276)? -/
def SchedRec.fieldsOk (r : SchedRec) : Bool :=
  let w := r.word
  let leaf := decide (r.pidx ≤ 79)
  let bare := r.ray == 0 && r.profid == 0 && r.pidx == 0
  let zero := fun (n : Nat) => w n == 0
  bitsOf (w 0) 31 28 == 0 && bitsOf (w 0) 7 5 == 0 && decide (w 2 < 2 ^ 31) &&
    (match r.kind with
     | 0 => true
     | 1 => leaf && zero 3 && zero 4 && zero 5 && zero 6
     | 2 => leaf && decide (1 ≤ r.npos) && decide (r.npos ≤ 512) && decide (1 ≤ r.syncs) && decide (1 ≤ r.sdrift)
     | 3 => bare && bitsOf (w 3) 7 5 == 0 && bitsOf (w 3) 15 10 == 0 && decide (8400 ≤ r.turn) && bitsOf (w 5) 31 24 == 0 &&
         decide (1 ≤ r.drift) &&
         (if r.probe then decide (100 ≤ r.quiet) && decide (r.quiet ≤ 20000) else r.quiet == 0)
     | 6 => bare && zero 3 && zero 5 && zero 6 && decide (1 ≤ r.dur) && decide (r.dur ≤ 200)
     | k => decide (k ≤ 7) && bare && zero 3 && zero 5 && zero 6)

/-- Do a record's ray, profile and neighbour exist in a plan, the profile being IL2 (R276)? -/
def SchedRec.namesOk (r : SchedRec) (q : Plan) : Bool :=
  match r.kind with
  | 1 => (q.ray r.path r.ray).isSome && (q.profile r.profid).any (fun x => x.phy == 1)
  | 2 => (q.ray r.path r.ray).isSome && (q.profile r.profid).any (fun x => x.phy == 1)
  | 3 => (q.neighbour r.nb).isSome
  | _ => true

/-- Is another record enabled for the same neighbour or group (R276)? -/
def State.recClash (s : State) (n : Nat) (r : SchedRec) : Bool :=
  s.seq.recs.any (fun e => e.1 != n && e.2.kind == r.kind &&
    ((r.kind == 2 && e.2.grp == r.grp) || (r.kind == 3 && e.2.nb == r.nb)))

/-- Is a WRITE of the staged record a reserved encoding (R276)? -/
def State.recBad (s : State) (n : Nat) (r : SchedRec) : Bool :=
  match s.activePlan with
  | none => true
  | some q =>
    !r.fieldsOk || !(r.namesOk q) || s.recClash n r ||
      ((r.kind == 2 || r.kind == 3) && r.word 2 != 0 && decide (r.word 2 < r.occLen))

/-- A record goes: a neighbour's link becomes IDLE (R288), a group's GACK record is dropped. -/
def State.clearRec (s : State) (n : Nat) : State :=
  match s.sched n with
  | none => s
  | some r =>
    let s := s.delRec n
    let s := if r.kind = 3 then s.setLink r.nb {} else s
    let turns := s.seq.turns.filter (fun (t : TurnState) => t.recn != n)
    let gacks := s.mac.gacks.filter (fun (g : GackRec) => g.recn != n)
    let wins := s.mac.dlwins.filter (fun (w : DlWin) => !(r.kind == 2 && w.grp == r.grp))
    { s with seq := { s.seq with turns := turns }, mac := { s.mac with gacks := gacks, dlwins := wins } }

/-- The record staged in SEQ_RECW0–6. -/
def State.stagedRec (s : State) : SchedRec := { words := (List.range 7).map (fun n => (s.rd (SEQ_RECWn n)).toNat) }

/-- RECORD_WRITE (R276). -/
def State.recordWrite (s : State) : State :=
  let n := s.fld SEQ_RECSEL_REC
  let r := s.stagedRec
  if s.recBad n r then s.discard baseSEQ
  else if r.kind = 0 then s.clearRec n
  else
    let s := s.clearRec n
    let s := s.putRec n { r with next := some (timeOf32 s.sqt (r.word 1)).toNat }
    if r.kind = 3 then s.setLink r.nb { st := .search } else s

def execRecordWrite (s : State) : Res := .next s.recordWrite

/-- RECORD_READ (R302): the words, with NEXT in word 7. -/
def State.recordRead (s : State) : State :=
  let r := (s.sched (s.fld SEQ_RECSEL_REC)).getD {}
  let s := (List.range 7).foldl (fun s n => s.wr (SEQ_RECWn n) (BitVec.ofNat 32 (r.word n))) s
  s.wr (SEQ_RECWn 7) (BitVec.ofNat 32 ((r.nextFrom s.sqt).getD 0))

def execRecordRead (s : State) : Res := .next s.recordRead

/-- RECORD_CLEAR (R302). -/
def State.recordClear (s : State) : State := s.clearRec (s.fld SEQ_RECSEL_REC)

def execRecordClear (s : State) : Res := .next s.recordClear

/-! ### Requests (R278, R294, R297) -/

/-- TX_REQUEST (R278, R294): the request that comes first is approved, and charged, or refused. A ridge frame within the partner's
quiet interval the modem refuses with RL_QUIET (R145). -/
def execTxRequest (s : State) : Res :=
  match nextAsk s.seq.asks with
  | none => .next s
  | some r =>
    let s := { s with seq := { s.seq with asks := s.seq.asks.filter (fun (x : TxReq) => x.id != r.id) } }
    let code := s.reqCheck r
    if s.quietBars r then .next (s.reqEnded r Code.RL_QUIET false)
    else if code ≠ Code.OK then .next (s.refuseReq r code).drainEnds
    else
      let lbt := s.needsLbt r
      let r := { r with charged := true, carrier := some (s.reqCentre r), lbtDue := if lbt then some (s.lbtT0 r) else none }
      let s := ({ s with seq := { s.seq with approved := s.seq.approved ++ [r] } }).chargeReq r
      if lbt then .next s else .next (s.sendReq r).drainEnds

/-- The approved request of a path whose listen interval comes first. -/
def State.nextLbt (s : State) (p : PathId) : Option (TxReq × Int) :=
  (s.seq.approved.filter (fun r => r.path == p && r.lbtReady.isNone)).foldl (fun b r =>
    match r.lbtDue, b with
    | none, _ => b
    | some t, none => some (r, t)
    | some t, some (q, u) => if t < u then some (r, t) else some (q, u)) none

/-- LBT_MEASURE_START (R81, R297): at T0 the sequencer meter starts on the transmission's ray; for a request of the
sequencer's own that came later, it started at T0. -/
def execLbtMeasureStart (p : PathId) (s : State) : Res :=
  match s.nextLbt p, (s.rf p).seqMeter with
  | some (r, t0), none =>
    let s := s.advanceSqt t0.toNat
    let start := s.clk.now - us (s.sqt - t0.toNat)
    let ready := start + us (s.lbtUs r) + s.delayOf p r.ray + us 2
    let m : Meter := { ray := r.ray, t0 := start, durUs := s.lbtUs r, readyAt := ready }
    .next ((s.modRf p (fun x => { x with seqMeter := some m })).modReq r.id (fun x => { x with lbtReady := some ready }))
  | _, _ => .next s

/-- The outcome of R83: OK for CLEAR, else the code that refuses. -/
def lbtOutcome (pct : Nat) (mean thr : Int) : Nat :=
  if pct < 90 then Code.LBT_INVALID else if mean ≤ thr then Code.OK else Code.LBT_BUSY

/-- LBT_MEASURE_DONE (R82, R83, R297): `mean` as measured over the samples that were VALID. -/
def execLbtMeasureDone (p : PathId) (mean : QdB) (s : State) : Res :=
  match (s.rf p).seqMeter, s.seq.approved.find? (fun r => r.path == p && r.lbtReady.isSome) with
  | some m, some r =>
    let s := s.advanceTo m.readyAt
    let v := s.reported p m mean mean
    let s := s.modRf p (fun x => { x with seqMeter := none })
    let code := lbtOutcome v.1 v.2.1 (s.profOf r.profid).lbtthr
    let s := s.modReq r.id (fun x => { x with lbtDue := none, lbtReady := none })
    if code = Code.OK then .next (s.sendReq r).drainEnds else .next ((s.releaseReq r).refuseReq r code).drainEnds
  | _, _ => .next s

/-! ### Windows (R279) -/

/-- Does an interval of a record's occurrences meet [a, b)? The occurrence that starts at `s0`, and those PERIOD apart
after it, each cover `off` to `off + len`. -/
def occMeets (s0 per off len a b : Nat) : Bool :=
  let lo := s0 + off
  if len = 0 || b ≤ lo then false
  else if per = 0 then decide (a < lo + len)
  else
    let k := (b - 1 - lo) / per
    decide (a < lo + k * per + len)

/-- The occurrences of a record from the present one on start at this time. -/
def SchedRec.from_ (r : SchedRec) : Option Nat :=
  match r.occ with
  | some o => some o.s0
  | none => r.next

/-- Does a record block a window on path `p` over [a, b): an uplink window, a partner turn, a SADDLE occurrence
(R279)? -/
def State.recBlocks (s : State) (p : PathId) (a b : Nat) (r : SchedRec) : Bool :=
  match r.from_ with
  | none => false
  | some s0 =>
    match r.kind with
    | 2 => r.path == p && occMeets s0 r.period 0 r.uplen a b
    | 3 => (s.planNb r.nb).any (fun x => x.path == p) &&
        (List.range (r.rvlen / r.turn)).any (fun j => decide (j % 2 = (if r.init then 1 else 0)) &&
          occMeets s0 r.period (j * r.turn) r.turn a b)
    | 7 => r.path == p && occMeets s0 r.period 0 r.dur a b
    | _ => false

/-- May a window be granted over [a, b) (R279)? -/
def State.windowFree (s : State) (p : PathId) (a b : Nat) : Bool :=
  !(s.seq.approved.any (fun r => r.path == p && shareUs ((a : Int), (b : Int)) (r.interval s.seq.approved))) &&
    !(s.seq.recs.any (fun e => s.recBlocks p a b e.2))

/-- A window occurrence begins in its turn (R272, R279): its record, path, start and the state with the window granted, or skipped. -/
def State.windowStart (s : State) (recn kind : Nat) (extra : State → Bool) : Option (SchedRec × State × Bool) :=
  match s.sched recn with
  | none => none
  | some r =>
    match r.next with
    | none => none
    | some t =>
      if r.kind = kind && s.wheelRuns && s.inTurn t 4 recn then
        let s := (s.advanceSqt t).putRec recn { (r.begin_ t).finish with endUs := some (t + r.dur) }
        let e := t + r.dur + 12
        if s.windowFree r.path t e && extra s then
          let gs := s.seq.grants.filter (fun (g : Grant) => decide (s.sqt < g.toUs))
          some (r, { s with seq := { s.seq with grants := gs ++ [⟨r.path, t, e⟩] } }, true)
        else some (r, s.inc (SEQ_CNTn_COUNT 8), false)
      else none

/-- CAL_WINDOW (R279, R509): a pending PATH rerun first; SYNCAL if due and DUR ≥ 150, then IRCAL if due and 120 µs remain. -/
def execCalWindow (recn : Nat) (s : State) : Res :=
  match s.windowStart recn 4 (fun _ => true) with
  | none => .next s
  | some (_, s, false) => .next s
  | some (r, s, true) =>
    let p := r.path
    let syn := s.flag (RFx_STATE_SYNDUE p) && decide (150 ≤ r.dur)
    let left := if syn then r.dur - 150 else r.dur
    let irc := s.flag (RFx_STATE_IRCDUE p) && decide (120 ≤ left)
    if s.calRerun p r.dur then .next (s.bistStart (pathItem p) .rerun)
    else if s.pst p = .rx && (s.rf p).winPend.isNone then
      if syn then .next ((s.modRf p (fun x => { x with syncReq := false, ircReq := x.ircReq || irc })).toSyncal p)
      else if irc then .next (s.toIrcal p)
      else .next s
    else .next s

/-- The tuner probe as a transmission of 352 µs on its carrier and entry (R53, R279). -/
def State.probeReq (s : State) (p : PathId) (t : Nat) : TxReq :=
  { kind := .probe p, path := p, tstart := t + 12, lenUs := 352, tx := .cw, pidx := s.probeEntry p,
    carrier := some (s.probeCarrier p).toNat }

/-- Does the probe pass R294? -/
def State.probeOk (s : State) (p : PathId) (t : Nat) : Bool := s.reqCheck (s.probeReq p t) == Code.OK

/-- TUNE_WINDOW (R279): the search of R53 if one is due and DUR ≥ 376, its probe charged 352 µs (R293). -/
def execTuneWindow (recn : Nat) (s : State) : Res :=
  match s.windowStart recn 5 (fun s => (s.sched recn).all (fun r => !(s.searchDue r.path) ||
      decide (r.dur < 376) || s.probeOk r.path s.sqt)) with
  | none => .next s
  | some (_, s, false) => .next s
  | some (r, s, true) =>
    if s.searchDue r.path && 376 ≤ r.dur then
      .next ((s.chargeReq (s.probeReq r.path s.sqt)).modRf r.path (fun x => { x with tuneUntil := some (s.sqt + r.dur) }))
    else .next s

/-- BIST_WINDOW (R279, R506): the slice is granted to self-test. -/
def execBistWindow (recn : Nat) (s : State) : Res :=
  match s.windowStart recn 6 (fun _ => true) with
  | none => .next s
  | some (_, s, false) => .next s
  | some (r, s, true) =>
    .next (({ s with bist := { s.bist with slice := some { path := r.path, endAt := s.clk.now + us r.dur } } } : State).set1
      BIST_STAT_SLICE)

/-! ### Slot groups (R281) -/

/-- UPLINK_OPEN (R205, R235, R276, R281): an occurrence opens its uplink window and its GACK record, but for a part that is already
past; due contexts not yet resident are PF_LATE. -/
def execUplinkOpen (recn : Nat) (s : State) : Res :=
  match s.sched recn with
  | none => .next s
  | some r =>
    match r.kind, r.next, r.occ with
    | 2, some t, none =>
      if !s.wheelRuns || !(s.inTurn t 4 recn) then .next s
      else
        let s := s.advanceSqt t
        let r' := r.begin_ t
        let up := decide (s.sqt < t + r.uplen)
        let s := s.putRec recn { r' with occ := r'.occ.map (fun o => { o with upOpen := up }) }
        let late := (s.allCtx.filter (fun e =>
          (s.placedFor e.2 r.grp r.gseq).due r.grp r.gseq && !e.2.lost && !(s.isHot e.1))).length
        let s := if s.sqt ≤ t + r.gackAt - s.fld MAC_GACKCFG_BUILD then s.openGack recn t r.gseq r else s
        .next (s.incBy (PAGER_CNTn_COUNT 3) late)
    | _, _, _ => .next s

/-- UPLINK_CLOSE (R281). -/
def execUplinkClose (recn : Nat) (s : State) : Res :=
  match s.sched recn with
  | none => .next s
  | some r =>
    match r.kind, r.occ with
    | 2, some o =>
      if o.upOpen && s.wheelRuns && s.inTurn (o.s0 + r.uplen) 0 0 then
        let s := s.advanceSqt (o.s0 + r.uplen)
        let s := s.putRec recn { r with occ := some { o with upOpen := false } }
        let gacks := s.mac.gacks.filter (fun (g : GackRec) => g.recn != recn || decide (o.s0 ≤ g.s0))
        .next { s with mac := { s.mac with gacks := gacks } }
      else .next s
    | _, _ => .next s

/-- DL_WINDOW_CLOSE (R281): the downlink window closes and the occurrence ends. -/
def execDlWindowClose (recn : Nat) (s : State) : Res :=
  match s.sched recn with
  | none => .next s
  | some r =>
    match r.kind, r.occ with
    | 2, some o =>
      if o.upOpen || !s.wheelRuns || !(s.inTurn (o.s0 + r.occLen) 3 recn) then .next s
      else
        let s := (s.advanceSqt (o.s0 + r.occLen)).putRec recn r.finish
        .next { s with mac := { s.mac with dlwins := s.mac.dlwins.filter (fun (w : DlWin) => w.grp != r.grp) } }
    | _, _ => .next s

/-! ### Hop sequences (R291, R292) -/

/-- HOP_RETUNE (R75, R272, R292): at the next hop boundary every ray of the sequence changes to its next channel. -/
def execHopRetune (hopid : Nat) (s : State) : Res :=
  match s.activePlan.bind (·.hop hopid) with
  | none => .next s
  | some h =>
    if !s.wheelRuns || h.hopMs = 0 || !(s.inTurn (s.hopDue h) 2 hopid) then .next s
    else
      let t := s.hopDue h
      let s := s.advanceSqt t
      let s := { s with seq := { s.seq with hopAt := tblIns s.seq.hopAt hopid t } }
      let rays := ((s.activePlan.map (·.rays)).getD []).filter (fun r => r.hop == some hopid)
      .next (rays.foldl (fun s r => s.seqTune r.path r.ray (h.centreAt s.sqt) s.clk.now) s)

end Sys2Proof.Machine
end

