-- ==== Sys2Proof/Machine/Ridge.lean ====
section
/-! DEFINITION. The meanings of the ridge-modem commands (chapter 04), of the ridge links of the sequencer (R283–R290)
and of the noise probes it starts. -/

namespace Sys2Proof.Machine
open Sys2Proof

/-! ### Loading (R139–R144) -/

/-- The neighbour that SEQ_RLNBSEL names. -/
def State.selNb (s : State) : Nat := s.fld SEQ_RLNBSEL_NB

/-- May SEQ_RLCMD address the selected neighbour: valid, and RL2? -/
def State.rlCmdOk (s : State) : Bool :=
  match s.planNb s.selNb with
  | some r => (s.profOf r.profid).phy == 5
  | none => false

/-- The loading code a margin in 0.25 dB units earns (R139). -/
def State.codeFor (s : State) (m : Int) : Nat :=
  let t := fun (f : Fld) => (4 * s.fld f : Nat)
  if (t SEQ_RLTHR_T8PSK : Int) ≤ m then 3
  else if (t SEQ_RLTHR_TQPSK : Int) ≤ m then 2
  else if (t SEQ_RLTHR_TBPSK : Int) ≤ m then 1
  else if (t SEQ_RLTHR_TTS2 : Int) ≤ m then 4
  else if (t SEQ_RLTHR_TTS4 : Int) ≤ m then 5
  else if (t SEQ_RLTHR_TTS8 : Int) ≤ m then 6
  else 0

/-- The table of R139. -/
def State.loadTable (s : State) (ncode : Nat) (sig noise : List Int) : List Nat :=
  (List.range (nSub ncode)).map (fun n =>
    if (pilots ncode).contains n then 0
    else s.codeFor (sig.getD n 0 - noise.getD n 0 - 4 * (s.fld SEQ_RLCFG_MARGIN : Nat)))

/-- Bits of SEQ_RLLSTAT of a neighbour (R154), by the field that names them. -/
def RidgeNb.stat (x : RidgeNb) (f : Fld) (v : Nat) : RidgeNb := { x with lstat := putBits x.lstat f.hi f.lo v }

/-- COMPUTE (R139): without a probe of the link's N, or without a signal estimate, nothing is built. -/
def State.compute (s : State) : State :=
  let n := s.selNb
  let x := s.nb n
  let ncode := (s.nbProf n).ncode
  let noise := x.probe.filter (fun p => p.1.length == nSub ncode)
  let y := ((x.stat SEQ_RLLSTAT_DONE 1).stat SEQ_RLLSTAT_NOEST (if x.sig.isEmpty then 1 else 0)).stat SEQ_RLLSTAT_NOPROBE
    (if noise.isNone then 1 else 0)
  let s := (s.setNb n y).set1 SEQ_RLIRQ_COMPDONE
  match noise with
  | none => s
  | some (p, at_) =>
    if x.sig.isEmpty then s
    else
      let codes := s.loadTable ncode x.sig p
      let g := tableG codes
      let y := (y.stat SEQ_RLLSTAT_G g).stat SEQ_RLLSTAT_NOLINK (if g < 8 then 1 else 0)
      s.setNb n { y.stat SEQ_RLLSTAT_AGE (min 4095 ((s.clk.now - at_) / us 1000)) with tab := codes }

/-- OFFER (R140): the last computed table goes out under the next LTID; refused for a table with NOLINK set. -/
def State.offer (s : State) : State :=
  let n := s.selNb
  let x := s.nb n
  if bitsOf x.lstat.toNat SEQ_RLLSTAT_NOLINK.hi SEQ_RLLSTAT_NOLINK.lo = 1 then s.setNb n (x.stat SEQ_RLLSTAT_REFUSED 1)
  else
    let codes := (List.range (nSub (s.nbProf n).ncode)).map (fun i => x.tab.getD i 0)
    let l := x.ltid % 15 + 1
    let y := x.stat SEQ_RLLSTAT_REFUSED 0
    s.setNb n { y with ltid := l, off := some (l, codes), queued := x.queued ++ [.load l codes] }

/-- A write of SEQ_RLCMD (R154). -/
def State.rlCmd (s : State) (op : Nat) : State :=
  if !s.rlCmdOk then s.discard baseSEQ
  else
    match op with
    | 1 => s.compute
    | 2 => s.offer
    | 3 => s.resetNb s.selNb
    | _ => s.discard baseSEQ

/-- COMPUTE, OFFER, NEIGHBOUR_RESET. -/
def execCompute (s : State) : Res := .next (s.rlCmd 1)
def execOffer (s : State) : Res := .next (s.rlCmd 2)
def execNeighbourReset (s : State) : Res := .next (s.rlCmd 3)

/-! ### Receiving (R145, R148, R149) -/

/-- Start of turn `j` of an occurrence (R283). -/
def turnAt (r : SchedRec) (o : RecOcc) (j : Nat) : Nat := o.s0 + j * r.turn

/-- The partner turn whose start lies nearest to a time: odd turns when INIT = 1. -/
def partnerTurn (r : SchedRec) (o : RecOcc) (t : Nat) : Nat :=
  let par := if r.init then 1 else 0
  let js := (List.range (r.rvlen / max 1 r.turn)).filter (fun j => j % 2 == par)
  js.foldl (fun b j => if (turnAt r o j : Int) - t |>.natAbs |> (· < ((turnAt r o b : Int) - t).natAbs) then j else b) (js.getD 0 par)

/-- Half-width h of the search for a partner turn (R286); RVMAX for a link that is DOWN (R289). -/
def State.halfWidth (s : State) (r : SchedRec) (tk : Nat) : Nat :=
  let l := s.link r.nb
  let g := r.rvbase + 2 * r.drift * (tk - l.tsync) / 10000000
  if l.st = .down then r.rvmax else min r.rvmax (2 ^ l.misses * g)

/-- Does the device listen for the neighbour of a record now (R286, R289)? -/
def State.listens (s : State) (r : SchedRec) : Bool :=
  let t := s.sqt
  let ext := 1000 * s.fld SEQ_SRCHCFG_SRCHEXT
  match r.occ.or (r.next.map (fun n => { s0 := n })) with
  | none => (s.link r.nb).st == .search && r.endUs.any (fun e => decide (t < e + ext))
  | some o =>
    let j := partnerTurn r o t
    let tk := turnAt r o j
    match (s.link r.nb).st with
    | .search => r.occ.isSome || decide (o.s0 ≤ t + ext) || r.endUs.any (fun e => decide (t < e + ext))
    | .down => decide (tk ≤ t + r.rvmax) && decide (t ≤ tk + r.rvmax)
    | .idle => false
    | _ =>
      let h := s.halfWidth r tk
      decide (tk ≤ t + h) && (decide (t ≤ tk + h) || (o.heard == some j && decide (t < tk + r.turn + h)))

/-- The span before the detection of a frame in which its start lies: S of RL2 (R131), the preamble of RL1 (R150). -/
def rlLead (phy : Nat) : Nat := if phy = 5 then us 160 else us 2560

/-- TSTAMP of R66 for the start of a frame detected now: the trunk count at the land, within a sample, and no further back than the
part that a detection takes. -/
def State.rlStamp (s : State) (p : PathId) (n phy tstamp : Nat) : Nat :=
  let c := s.clk.now - rayDelay (s.ray p n).par.k
  max (trunkAt (c - rlLead phy) - 1) (min (trunkAt c + 1) tstamp)

/-- RL_S_DETECT (R129, R148): the modem detects the start of a ridge frame on the rendezvous ray, with a carrier `cfo` hertz from the
ray's centre; beyond ±50 kHz nothing is acquired, and a frozen or retuned sample holds up the search (R101). -/
def execRlSDetect (recn tstamp : Nat) (cfo : Int) (s : State) : Res :=
  match s.sched recn with
  | none => .next s
  | some r =>
    match r.kind, s.planNb r.nb with
    | 3, some n =>
      let k := (s.ray n.path n.ray).par.k
      if (s.rlRx n.path).isNone && s.rayLive n.path n.ray && flagRank (s.flagAt n.path n.ray (sampleAt k s.clk.now)) < 2 &&
          decide (cfo.natAbs ≤ 50000) && s.listens r then
        let t := s.rlStamp n.path n.ray (s.profOf n.profid).phy tstamp
        .next (s.setRlRx n.path (some { recn := recn, nb := r.nb, tstamp := t % 2 ^ 48, at_ := s.clk.now }))
      else .next s
    | _, _ => .next s

/-- The SEQ_RLCNT register of a status (R154). -/
def rlCntOf (code : Nat) : Option Nat :=
  [(Code.OK, 0), (Code.CRC_FAIL, 1), (Code.HDR_FAIL, 2), (Code.PHR_BAD, 3), (Code.BLINDED, 4), (Code.CAL_FROZEN, 5),
   (Code.RETUNED, 6), (Code.SYNC_LOST, 7), (Code.RL_LTID, 8), (Code.RL_NOLOCK, 9), (Code.RL_RATE, 10),
   (Code.RL_RXFULL, 11)].lookup code

def State.rlCount (s : State) (code : Nat) : State :=
  match rlCntOf code with
  | some n => s.inc (SEQ_RLCNTn_COUNT n)
  | none => s

/-- When a flagged sample ends the ridge frame on a path, and with which status (R101, R148). -/
def State.rlFlagLoss (s : State) (p : PathId) (x : RidgeRx) : Option (Nat × Nat) :=
  match s.planNb x.nb with
  | none => none
  | some n => (s.lossOn p n.ray x.at_).filter (fun c => !x.hdr || decide (c.1 ≤ x.endDue))

/-- The status of a flag that has ended the frame by now. -/
def State.rlFlagged (s : State) (p : PathId) (x : RidgeRx) : Option Nat :=
  match s.rlFlagLoss p x with
  | some (t, c) => if t ≤ s.clk.now then some c else none
  | none => none

/-- A frame without a decoded header is lost with a status: it is counted and leaves nothing. -/
def State.rlDropRx (s : State) (p : PathId) (code : Nat) : State := (s.setRlRx p none).rlCount code

/-- RL_NOLOCK (R148): 400 µs after S. -/
def execRlNolock (p : PathId) (s : State) : Res :=
  match s.rlRx p with
  | some x =>
    if x.hdr then .next s
    else
      let s := s.advanceTo (x.at_ + us 400)
      .next (s.rlDropRx p ((s.rlFlagged p x).getD Code.RL_NOLOCK))
  | none => .next s

/-- The largest |ρ| in 0.01 ppm units: ±20 ppm at N = 64, else ±40 ppm (R129, R150). -/
def rhoMax (prof : PlanProfile) : Nat := if prof.phy = 5 && prof.ncode = 2 then 2000 else 4000

/-- The receive table that a header's LTID selects (R143). -/
def RidgeNb.rxTable (x : RidgeNb) (ltid : Nat) : Option (Nat × List Nat) :=
  if ltid = 0 then some (0, [])
  else if x.cur.1 = ltid then some x.cur
  else x.off.filter (fun t => t.1 == ltid)

/-- A decoded header finds the partner: the occurrence is met (R287), a search ends (R288), and the first frame of a
turn gives the parent's time sample (R268). -/
def State.rlMet (s : State) (x : RidgeRx) : State :=
  match s.sched x.recn with
  | none => s
  | some r =>
    let l := s.link x.nb
    let t := s.usOfTrunk x.tstamp
    let found := l.st == .search || l.st == .down
    let first := r.occ.any (fun o => !o.met)
    let s := if found then (s.setLink x.nb { l with st := .up, misses := 0, srchn := 0, tsync := t.toNat }).set1 SEQ_IRQ_FOUND
      else if first then s.setLink x.nb { l with tsync := t.toNat }
      else s
    match r.occ with
    | none => s
    | some o =>
      let j := partnerTurn r o t.toNat
      let s := s.putRec x.recn { r with occ := some { o with met := true, heard := some j } }
      if o.heard ≠ some j && !found && s.fld SEQ_TSRC_MODE = 2 && s.fld SEQ_TSRC_NB = x.nb then
        let e := s.ntOfTrunk x.tstamp / ((2 ^ 32 : Nat) : Int) - 200 * (turnAt r o j : Int) - s.sfld SEQ_TSRC_OFS
        { s with seq := { s.seq with sample := some e } }
      else s

/-- The ring registers of a path. -/
def rlRing : PathId → Nat
  | .s => SEQ_RLRING0
  | .g => SEQ_RLRING1
def rlRxq : PathId → Nat
  | .s => SEQ_RLRXQ0
  | .g => SEQ_RLRXQ1

def State.ringCount (s : State) (p : PathId) : Nat := s.fld ⟨rlRing p, 5, 0⟩
def State.ringHead (s : State) (p : PathId) : Nat := s.fld ⟨rlRxq p, 4, 0⟩
def State.ringTail (s : State) (p : PathId) : Nat := s.fld ⟨rlRxq p, 12, 8⟩

/-- The next entry would meet TAIL (R149). -/
def State.ringFull (s : State) (p : PathId) : Bool :=
  s.ringCount p != 0 && (s.ringHead p + 1) % s.ringCount p == s.ringTail p

/-- Duration of a received frame (R138, R150). -/
def State.rlDur (s : State) (x : RidgeRx) (prof : PlanProfile) : Nat :=
  if prof.phy = 5 then
    rl2Us prof.ncode (tableG (tableCodes prof.ncode (((s.nb x.nb).rxTable x.ltid).getD (0, [])))) x.rate x.len
  else rl1Us x.len

/-- The frame goes on with its header decoded, to the end the header describes, or is already lost with `lost`. -/
def State.rlGoOn (s : State) (p : PathId) (x : RidgeRx) (lost : Option Nat) : State :=
  let k := ((s.planNb x.nb).map (fun n => (s.ray p n.ray).par.k)).getD 0
  let c := x.at_ - rayDelay k
  let start := c - ((trunkAt c % 2 ^ 48 + 1 + 2 ^ 48 - x.tstamp) % 2 ^ 48 - 1) * 5 / 2
  s.setRlRx p (some { x with lost := lost, endDue := start + us (s.rlDur x (s.nbProf x.nb)) + rayDelay k })

/-- A frame whose header is decoded goes on, or is lost at its header: RL_LTID or RL_RXFULL (R143, R149). A full ring comes first: such
a frame neither counts as RL_LTID nor confirms an offer (DESIGN CHOICE, log entry 158: R143 and R149 both speak of the header and
give no order). -/
def State.rlTake (s : State) (p : PathId) (x : RidgeRx) : State :=
  let n := s.nb x.nb
  if s.ringFull p then (((s.setRlRx p none).rlCount Code.RL_RXFULL).set1 SEQ_RLIRQ_RXFULL)
  else
    match n.rxTable x.ltid with
    | none => ((s.rlGoOn p x (some Code.RL_LTID)).rlCount Code.RL_LTID).set1 SEQ_RLIRQ_LTIDERR
    | some t =>
      let s := s.rlGoOn p x none
      if x.ltid ≠ 0 && x.ltid ≠ n.cur.1 then (s.setNb x.nb { n with cur := t, off := none }).set1 SEQ_RLIRQ_CONFIRM else s

/-- A decoded header with a reserved value loses the frame with PHR_BAD (R132, R150): counted, and with KEEPBAD kept until its end
for its ring entry (R149). -/
def State.rlPhrBad (s : State) (p : PathId) (x : RidgeRx) : State :=
  let s := s.rlCount Code.PHR_BAD
  if s.flag SEQ_RLCFG_KEEPBAD then s.setRlRx p (some { x with lost := some Code.PHR_BAD, endDue := s.clk.now }) else s.setRlRx p none

/-- The fields of an RL2 header are reserved values (R132). -/
def rl2HdrBad (h : Nat) : Bool :=
  let len := bitsOf h 11 0
  len == 0 || decide (4064 < len) || bitsOf h 13 12 == 3 || bitsOf h 24 18 == 0 || decide (2 < bitsOf h 27 25) || bitsOf h 31 28 != 0

/-- RL_HEADER (R129, R132, R143, R148, R149, R150): the header as decoded with its check, and ρ in 0.01 ppm units. For RL1
`hdr` is the LENGTH octet. -/
def execRlHeader (p : PathId) (hdr : Word) (chk : Nat) (rho : Int) (s : State) : Res :=
  match s.rlRx p with
  | none => .next s
  | some x =>
    if x.hdr then .next s
    else
      let prof := s.nbProf x.nb
      let h := hdr.toNat
      match s.rlFlagged p x with
      | some c => .next (s.rlDropRx p c)
      | none =>
        if rhoMax prof < rho.natAbs then .next (s.rlDropRx p Code.RL_RATE)
        else if prof.phy = 5 then
          let y := { x with hdr := true, len := bitsOf h 11 0, rate := bitsOf h 13 12, ltid := bitsOf h 17 14, typ := bitsOf h 27 25 }
          if crc8x32 h ≠ chk then .next (s.rlDropRx p Code.HDR_FAIL)
          else if rl2HdrBad h then .next ((s.rlMet x).rlPhrBad p y)
          else .next ((s.rlMet x).rlTake p y)
        else if h % 256 = 0 then .next ((s.rlMet x).rlPhrBad p { x with hdr := true })
        else .next ((s.rlMet x).rlTake p { x with hdr := true, len := h % 256 })

/-- Is a LOAD payload one the receiver refuses (R141)? -/
def loadBad (ncode : Nat) (b : List Byte) : Bool :=
  let l := oct b 0
  let codes := (List.range (nSub ncode)).map (fun n => oct b (4 + n / 2) / 16 ^ (n % 2) % 16)
  decide (16 ≤ l) || b.length != (if l = 0 then 4 else 4 + nSub ncode / 2) || oct b 1 != ncode || octLe b 2 2 != 0 ||
    (l != 0 && (codes.any (fun c => decide (6 < c)) || (pilots ncode).any (fun n => codes.getD n 0 != 0) || tableG codes == 0))

/-- The table of a LOAD payload. -/
def loadOfPayload (ncode : Nat) (b : List Byte) : Nat × List Nat :=
  if oct b 0 = 0 then (0, []) else (oct b 0, (List.range (nSub ncode)).map (fun n => oct b (4 + n / 2) / 16 ^ (n % 2) % 16))

/-- A LOAD frame that passed its check (R141): refused, or adopted once its descriptor is written, which a ring of no entries leaves
out; one that repeats the LTID in use changes nothing. -/
def State.rlLoad (s : State) (p : PathId) (x : RidgeRx) (ncode : Nat) (b : List Byte) : State × Nat :=
  if loadBad ncode b then (s.set1 SEQ_RLIRQ_LOADRX, Code.RL_BADLOAD)
  else if s.ringCount p = 0 then (s, Code.OK)
  else if (s.nb x.nb).tx.1 = oct b 0 then (s.set1 SEQ_RLIRQ_LOADRX, Code.OK)
  else ((s.setNb x.nb { s.nb x.nb with tx := loadOfPayload ncode b }).set1 SEQ_RLIRQ_LOADRX, Code.OK)

/-- A ridge frame asked for, approved or held that its partner's quiet interval bars is refused with RL_QUIET (R145): nothing is
radiated, and an entry stays queued for the next turn (R285). -/
def State.refuseQuiet (s : State) (n : Nat) : State :=
  ((s.ridgeBusy n).filter (fun r => s.quietBars r)).foldl (fun s r =>
    match (s.rf r.path).held.find? (fun c => c.owner == r.id) with
    | some c => if c.started then s
      else ((s.modRf r.path (fun x => { x with held := x.held.erase c })).endTx r.path c Code.RL_QUIET).drainEnds
    | none =>
      let s := s.releaseReq r
      let s := { s with seq := { s.seq with asks := s.seq.asks.filter (fun (q : TxReq) => q.id != r.id) } }
      (s.dropReq r.id).reqEnded r Code.RL_QUIET false) s

/-- What a frame that passed its check does (R141, R145), and its status. -/
def State.rlApply (s : State) (p : PathId) (x : RidgeRx) (prof : PlanProfile) (b : List Byte) : State × Nat :=
  if prof.phy = 5 && x.typ = 1 then s.rlLoad p x prof.ncode b
  else if prof.phy = 5 && x.typ = 2 then
    let q := octLe b 0 2
    if b.length ≠ 2 || q < 100 || 20000 < q then (s, Code.PHR_BAD)
    else ((s.setNb x.nb { s.nb x.nb with quietUntil := s.clk.now + us q }).refuseQuiet x.nb, Code.OK)
  else (s, Code.OK)

/-- What the modem measured of a frame: ERAS, RSSI, SNR, carrier offset, ρ and the L-symbol estimates. -/
structure RlMeas where
  eras : Bool := false
  rssi : Int := 0
  snr : Int := 0
  fofs : Int := 0
  rho : Int := 0
  sig : List Int := []
  deriving DecidableEq, Repr

/-- A ring entry is written and HEAD advances (R149). -/
def State.rlWrite (s : State) (p : PathId) (x : RidgeRx) (phy status : Nat) (durUs : Nat) (m : RlMeas)
    (b : List Byte) : State :=
  if s.ringCount p = 0 || s.ringFull p then s
  else
    let a := (s.rd (rlRing p)).toNat / 4096 * 4096 + 4096 * s.ringHead p
    let s := s.memPut a (leBytes 1 status ++ leBytes 1 ((if phy = 5 then 1 else 0) + (if m.eras then 2 else 0)) ++
      leBytes 2 b.length ++ leBytes 1 x.nb ++ leBytes 1 x.typ ++ leBytes 1 x.ltid ++ leBytes 1 x.rate ++ leBytes 6 x.tstamp ++
      leBytes 2 durUs ++ leBytes 2 (unsignedOf 16 m.rssi) ++ leBytes 2 (unsignedOf 16 m.snr) ++
      leBytes 4 (unsignedOf 32 m.fofs) ++ leBytes 2 (unsignedOf 16 m.rho) ++ zeros 6 ++ b)
    let s := s.setFld ⟨rlRxq p, 4, 0⟩ ((s.ringHead p + 1) % s.ringCount p)
    match p with
    | .s => s.set1 SEQ_RLIRQ_RXS
    | .g => s.set1 SEQ_RLIRQ_RXG

/-- A frame ends with a status: counted, and written to the ring, a lost frame only when KEEPBAD = 1. A keepalive is
written to no ring (R284). A LOAD refused with RL_BADLOAD counts as received and is written whatever KEEPBAD is, and a frame that ends
with CRC_FAIL counts as lost (DESIGN CHOICE, log entries 159 and 160: R149 says 'lost frames' and not which these are). -/
def State.rlEnd (s : State) (p : PathId) (x : RidgeRx) (prof : PlanProfile) (status : Nat) (m : RlMeas) (b : List Byte) :
    State :=
  let s := s.rlCount status
  let keep := status == Code.OK || status == Code.RL_BADLOAD || s.flag SEQ_RLCFG_KEEPBAD
  if keep && !(status == Code.OK && x.typ == 0 && b == [0]) then s.rlWrite p x prof.phy status (s.rlDur x prof) m b else s

/-- A frame that was lost before its end, with status `c` (R149): its entry under KEEPBAD holds what was demodulated. -/
def State.rlLostEnd (s : State) (p : PathId) (x : RidgeRx) (prof : PlanProfile) (c : Nat) (m : RlMeas) (b : List Byte) : State :=
  if s.flag SEQ_RLCFG_KEEPBAD then s.rlWrite p x prof.phy c (s.rlDur x prof) m (if c = Code.RAY_LOST then b else []) else s

/-- A frame whose last symbol has left the ray filter (R129, R134, R141, R145): its check, what it does, and its end. -/
def State.rlLand (s : State) (p : PathId) (x : RidgeRx) (prof : PlanProfile) (crc : Nat) (m : RlMeas) (b : List Byte) : State :=
  if b.length ≠ x.len || (if prof.phy = 5 then crc32 b else crc16 b) ≠ crc then s.rlEnd p x prof Code.CRC_FAIL m b
  else
    let r := s.rlApply p x prof b
    let s := if r.2 = Code.PHR_BAD then r.1 else r.1.setNb x.nb { r.1.nb x.nb with fofs := m.fofs }
    s.rlEnd p x prof r.2 m b

/-- RL_FRAME_END (R129, R139, R141, R145, R148, R149): `corrs` are the correlations of the latest pilots or symbols, which end a frame
with SYNC_LOST before its last symbol; `psdu` and `crc` are what was received. A flagged sample ends it first. -/
def execRlFrameEnd (p : PathId) (corrs : List Nat) (psdu : List Byte) (crc : Nat) (rssi snr fofs rho : Int)
    (sig : List Int) (s : State) : Res :=
  match s.rlRx p with
  | none => .next s
  | some x =>
    let prof := s.nbProf x.nb
    let weak := weakRun prof.lockthr corrs
    if !x.hdr then
      match s.rlFlagged p x with
      | some c => .next (s.rlDropRx p c)
      | none => if weak then .next (s.rlDropRx p Code.SYNC_LOST) else .next s
    else
      let s := if weak || x.lost.isSome then s else s.advanceTo x.endDue
      let ray := ((s.planNb x.nb).map (·.ray)).getD 0
      let m : RlMeas := ⟨s.erasedOn p ray x.at_ (min s.clk.now x.endDue), rssi, snr, fofs, rho, sig⟩
      let flagged := s.rlFlagged p x
      let s := s.setRlRx p none
      let s := if sig.isEmpty then s else s.setNb x.nb { s.nb x.nb with sig := sig }
      let b := psdu.take x.len
      match x.lost, flagged with
      | some c, _ => .next (s.rlLostEnd p x prof c m b)
      | none, some c => .next (s.rlEnd p x prof c m b)
      | none, none => if weak then .next (s.rlEnd p x prof Code.SYNC_LOST m b) else .next (s.rlLand p x prof crc m b)

/-- QUIET_END (R145). -/
def execQuietEnd (n : Nat) (s : State) : Res :=
  let x := s.nb n
  if x.quietUntil = 0 then .next s
  else .next ((s.advanceTo x.quietUntil).setNb n { x with quietUntil := 0 })

/-- RL_RING_TAIL (R149, R154): a TAIL at or above COUNT is a reserved encoding. -/
def State.rlTail (s : State) (p : PathId) (tail : Nat) : State :=
  if s.ringCount p ≤ tail % 32 then s.discard baseSEQ else s.setFld ⟨rlRxq p, 12, 8⟩ (tail % 32)

def execRlRingTail (p : PathId) (tail : Nat) (s : State) : Res := .next (s.rlTail p tail)

/-- RL_CNTCLR (R154). -/
def State.rlCntclr (s : State) : State := (List.range 12).foldl (fun s n => s.wr (SEQ_RLCNTn n) 0) s

def execRlCntclr (s : State) : Res := .next s.rlCntclr

/-! ### Rendezvous (R283–R290) -/

/-- RVZ_RETUNE (R129, R283, R286): 1,000 µs before a rendezvous its ray is centred on fl plus the stored offset. -/
def execRvzRetune (recn : Nat) (s : State) : Res :=
  match s.sched recn with
  | none => .next s
  | some r =>
    match r.kind, r.next, r.occ, s.planNb r.nb with
    | 3, some t, none, some n =>
      if !s.wheelRuns || !(s.inTurn (t - 1000) 0 0) then .next s
      else
        let s := s.advanceSqt (t - 1000)
        let s := s.seqTune n.path n.ray ((n.fl : Int) + (s.nb r.nb).fofs).toNat s.clk.now
        let r' := r.begin_ t
        let s := s.putRec recn { r' with occ := some { s0 := t, turn := if r.init then 0 else 1 } }
        let h := s.halfWidth r (t + (if r.init then r.turn else 0))
        .next (s.setLink r.nb { s.link r.nb with h := h })
    | _, _, _, _ => .next s

/-- TURN_START (R276, R283, R284, R286, R290): the next own turn is filled, or skipped where its start is already past; the first of
an occurrence with PROBE opens with a QUIET frame. The half-width is that of the partner turn that follows. A Ridgeline transfer
counts the turns of its neighbour (R493). -/
def execTurnStart (recn : Nat) (s : State) : Res :=
  match s.sched recn with
  | none => .next s
  | some r =>
    match r.kind, r.occ, s.planNb r.nb with
    | 3, some o, some n =>
      let tk := turnAt r o o.turn
      if r.rvlen < (o.turn + 1) * r.turn || !s.wheelRuns then .next s
      else if tk < s.sqt then .next (s.putRec recn { r with occ := some { o with turn := o.turn + 2 } })
      else
        let s := if (o.turn + 2) * r.turn ≤ r.rvlen then
            s.setLink r.nb { s.link r.nb with h := s.halfWidth r (turnAt r o (o.turn + 1)) }
          else s
        let x := s.nb r.nb
        let s := if r.probe && o.turn < 2 && (s.profOf n.profid).phy = 5 then
            s.setNb r.nb { x with queued := .quiet r.quiet true :: x.queued }
          else s
        let s := s.putRec recn { r with occ := some { o with turn := o.turn + 2 } }
        let t : TurnState := { recn := recn, nb := r.nb, path := n.path, endUs := (tk : Int) + r.turn - r.rvbase, nextUs := tk }
        let ts := s.seq.turns.filter (fun (y : TurnState) => y.recn != recn)
        .next (({ s with seq := { s.seq with turns := ts ++ [t] } }.pumpTurns).pumpTurns.rlTurn r.nb)
    | _, _, _ => .next s

/-- A link misses an occurrence (R288). -/
def State.linkMiss (s : State) (n : Nat) : State :=
  let l := { s.link n with misses := (s.link n).misses + 1 }
  match l.st with
  | .up => s.setLink n { l with st := .miss1 }
  | .miss1 => s.setLink n { l with st := .miss2 }
  | .miss2 =>
    let parent := decide (s.fld SEQ_TSRC_MODE = 2) && decide (s.fld SEQ_TSRC_NB = n)
    let s := (s.setLink n { l with st := .search, srchn := 0 }).resetNb n
    if parent then (s.logPut 10 Code.PARENT_LOST 0 n).set1 SEQ_IRQ_PARENTLOST
    else (s.logPut 10 Code.PARTNER_LOST 0 n).set1 SEQ_IRQ_PARTLOST
  | .search =>
    let k := l.srchn + 1
    if s.fld SEQ_SRCHCFG_SRCHMAX ≤ k then (s.setLink n { l with st := .down, srchn := k }).set1 SEQ_IRQ_LINKDOWN
    else s.setLink n { l with srchn := k }
  | .down => s.setLink n l
  | .idle => s

/-- RVZ_OCC_END (R287, R288). -/
def execRvzOccEnd (recn : Nat) (s : State) : Res :=
  match s.sched recn with
  | none => .next s
  | some r =>
    match r.kind, r.occ with
    | 3, some o =>
      if !s.wheelRuns || !(s.inTurn (o.s0 + r.rvlen) 3 recn) then .next s
      else
      let s := (s.advanceSqt (o.s0 + r.rvlen)).putRec recn { r.finish with endUs := some (o.s0 + r.rvlen) }
      let s := { s with seq := { s.seq with turns := s.seq.turns.filter (fun (y : TurnState) => y.recn != recn) } }
      if o.met then .next ((s.setLink r.nb { s.link r.nb with st := .up, misses := 0 }).inc (SEQ_CNTn_COUNT 6))
      else .next ((s.linkMiss r.nb).inc (SEQ_CNTn_COUNT 7))
    | _, _ => .next s

/-! ### Ridge transmit entries (R285) -/

/-- Does a posted entry fail with FMT_BAD (R285)? -/
def State.ridgeBad (s : State) (a : Nat) (phy : Nat) : Bool :=
  let rate := s.memLe (a + 2) 1
  let len := s.memLe (a + 4) 2
  s.memLe (a + 3) 1 != 0 || s.memLe (a + 6) 2 != 0 || decide (31 < s.memLe (a + 1) 1) || len == 0 ||
    (if phy = 4 then rate != 0 || decide (255 < len) else decide (2 < rate) || decide (4064 < len))

/-- RIDGE_TX_POST (R285, R302). -/
def State.ridgePost (s : State) (v : Word) : State :=
  let i := v.toNat % 64
  if s.fld SEQ_TXPOOL_COUNT ≤ i || s.seq.ridgeq.any (fun x => x.ent == i) || s.seq.ridgeDone.any (fun x => x.1 == i) then
    s.discard baseSEQ
  else
    let a := s.ridgeAddr i
    let n := s.memLe (a + 1) 1
    if s.ridgeBad a (s.nbProf n).phy then s.ridgeDone i Code.FMT_BAD
    else if (s.planNb n).isNone then s.ridgeDone i Code.NB_GONE
    else
      let e : RidgeEnt := { ent := i, nb := n, rate := s.memLe (a + 2) 1, len := s.memLe (a + 4) 2, expiry := s.memLe (a + 8) 4 }
      { s with seq := { s.seq with ridgeq := s.seq.ridgeq ++ [e] } }

def execRidgeTxPost (v : Word) (s : State) : Res := .next (s.ridgePost v)

/-- RIDGE_TXDONEQ_READ (R302). -/
def State.txDoneqRead (s : State) : State :=
  match s.seq.ridgeDone with
  | [] => { s with rdata := 0 }
  | (e, st) :: t => { s with seq := { s.seq with ridgeDone := t }, rdata := BitVec.ofNat 32 (2 ^ 31 + 2 ^ 16 * st + e) }

def execRidgeTxdoneqRead (s : State) : Res := .next s.txDoneqRead

/-- RL_ENTRY_EXPIRE (R285): EXPIRY passes before the entry starts. -/
def execRlEntryExpire (e : Nat) (s : State) : Res :=
  match s.seq.ridgeq.find? (fun x => x.ent == e) with
  | none => .next s
  | some x =>
    if x.sending then .next s
    else .next ((s.advanceSqt (timeOf32 s.sqt x.expiry).toNat).ridgeDone e Code.RL_EXPIRED)

/-! ### Noise probes of a rendezvous (R86, R87, R290) -/

/-- Does a probe over [a, b) meet a SADDLE occurrence or an approved request on the path (R290)? -/
def State.probeBlocked (s : State) (p : PathId) (a b : Nat) : Bool :=
  s.seq.approved.any (fun r => r.path == p && shareUs ((a : Int), (b : Int)) (r.interval s.seq.approved)) ||
    s.seq.recs.any (fun e => e.2.kind == 7 && e.2.from_.any (fun s0 => occMeets s0 e.2.period 0 e.2.dur a b))

/-- SEQ_PROBE_START (R87, R290): after the QUIET frame's last chip and the group delay; it pre-empts a firmware probe,
or is skipped. -/
def execSeqProbeStart (recn : Nat) (s : State) : Res :=
  match s.sched recn with
  | none => .next s
  | some r =>
    match r.occ, s.planNb r.nb with
    | some o, some n =>
      match o.quietAt with
      | none => .next s
      | some q =>
        let d := rayDelay (s.ray n.path n.ray).par.k
        let s := (s.advanceSqt q).advance d
        let s := s.putRec recn { r with occ := some { o with quietAt := none } }
        let avg := (200 * r.quiet - d) / us 20 - 1
        let busy := s.prism.probe.any (·.seqOwned)
        if avg < 1 || busy || !(s.probeRayOk n.path n.ray) || s.probeBlocked n.path s.sqt (s.sqt + 20 * (avg + 1)) then
          .next (s.inc (SEQ_CNTn_COUNT 8))
        else
          let pre := s.prism.probe.isSome
          let s := s.startProbe true n.path n.ray r.nb avg
          .next (if pre then s.set1 PRISM_PRBSTAT_PREEMPT else s)
    | _, _ => .next s

/-- PROBE_DONE (R86, R139, R290): the bins in 0.25 dB units; the modem keeps the latest probe of a neighbour's ray. -/
def execProbeDone (bins : List Int) (s : State) : Res :=
  match s.prism.probe with
  | none => .next s
  | some r =>
    if !r.ended then .next s
    else
      let b := (List.range r.nbins).map (fun i => bins.getD i 0)
      let s := (List.range 64).foldl (fun s i => s.wr (PRISM_PRBn i) (BitVec.ofNat 32 (unsignedOf 12 (b.getD i 0)))) s
      let s := ((s.clr PRISM_PRBSTAT_BUSY).setBool PRISM_PRBSTAT_PARTIAL (decide (r.kept < r.avg))).setFld PRISM_PRBSTAT_VALID r.kept
      let s := { (s.set1 PRISM_IRQ_PRBDONE) with prism := { s.prism with probe := none } }
      let nbs := ((s.activePlan.map (·.neighbours)).getD []).filter (fun n => n.path == r.path && n.ray == r.ray)
      let s := nbs.foldl (fun s n => s.setNb n.nb { s.nb n.nb with probe := some (b, s.clk.now) }) s
      .next (if r.seqOwned then s.set1 SEQ_IRQ_PROBEDONE else s)

end Sys2Proof.Machine
end

