-- ==== Sys2Proof/Machine/PlanLoad.lean ====
section
/-! DEFINITION. The meanings of the plan loader's commands and events and the plan swap (chapter 05, R277, R298). -/

namespace Sys2Proof.Machine
open Sys2Proof

/-! ### Outcomes -/

/-- A load or a plan command ends with a status, a check and an offset (R173, R181). -/
def State.planReject (s : State) (status chk off : Nat) : State :=
  let s := (s.setFld SEQ_PLANSTAT_STATUS status).setFld SEQ_PLANSTAT_CHECK chk
  let s := s.wr SEQ_PLANERR (BitVec.ofNat 32 off)
  (s.set1 SEQ_PLANIRQ_REJECT).inc SEQ_PLANCNT_REJECTS

/-- A command refused with PLAN_STATE (R168, R171, R176). -/
def State.planRefuse (s : State) : State := s.planReject Code.PLAN_STATE 0 0

/-- A load ends rejected: the standby slot stays invalid (R170). -/
def State.loadFail (s : State) (status chk off : Nat) : State :=
  let s := { s with plan := { s.plan with phase := .idle, staging := [], stagingKey := [] } }
  (s.clr SEQ_PLANSTAT_BUSY).planReject status chk off

/-- Is a swap finishing: FINISH is set (R168, R180)? -/
def State.finishing (s : State) : Bool := s.flag SEQ_PLANSTAT_FINISH

/-! ### Loading -/

/-- May the image lie there (R167)? -/
def planRegion (a n : Nat) : Bool :=
  inRange 0x10000000 0x1007ffff a n || inRange 0x10080000 0x100fffff a n || inRange 0x20500000 0x2052ffff a n

/-- PLAN_LOAD (R167–R169): refused, ended at once, or the image and its key are copied and checks 1 and 2 run. -/
def State.planLoad (s : State) : State :=
  if s.plan.phase ≠ .idle ∨ s.flag SEQ_PLANSTAT_ARMED ∨ s.finishing then s.planRefuse
  else
    let a := (s.rd SEQ_PLANADDR).toNat
    let n := s.fld SEQ_PLANLEN_LEN
    let s := (s.setSlot s.standbyNum none).set1 SEQ_PLANSTAT_BUSY
    if n < 3381 ∨ 36077 < n ∨ !(planRegion a n) then s.loadFail Code.PLAN_FORMAT 1 0
    else
      let m := s.memBytes a n
      let pk := if b1 m 5 = 0 then (s.rd SEQ_PLANPK0).toNat else (s.rd SEQ_PLANPK1).toNat
      let key := if pk = 0 then [] else s.memBytes pk 1952
      match headerErr m n with
      | some e => s.loadFail (chkCode e.chk) e.chk e.off
      | none =>
        let s := { s with plan := { s.plan with phase := .waitLattice, staging := m, stagingKey := key } }
        s.latIssue { op := 1, args := [], pkh := b1 m 5 + 1, loader := true }

def execPlanLoad (s : State) : Res := .next s.planLoad

/-- PLAN_SIG_CHECK (R157, R172 check 3): the lattice engine serves the loader. -/
def execPlanSigCheck (s : State) : Res :=
  match s.lat.cur with
  | none => .next s
  | some o =>
    if !o.loader then .next s
    else
      let m := s.plan.staging
      let body := m.take (bodyLen m)
      let st := if s.plan.stagingKey.isEmpty then Code.KEY_EMPTY
        else s.latVerify o.pkh s.plan.stagingKey body (m.drop (bodyLen m))
      let s := s.latFree
      if st = Code.OK then .next { s with plan := { s.plan with phase := .checking } }
      else .next (s.loadFail st 3 (bodyLen m))

/-- The first plan becomes active at once (R170, R19, R46, R50): windows, power table, tuner codes, rays, facets and
accounts. -/
def State.activate (s : State) (q : Plan) : State :=
  let s := [PathId.s, PathId.g].foldl (fun (s : State) p =>
    let s := match q.dfltWindow p with
      | some w => s.setFld (RFx_STATE_WIN p) w.index
      | none => s
    (s.loadPower q p).loadTuner q p) s
  let s := (s.raysOfPlan q).placePlan q
  { s with acct := q.accounts }

/-- PLAN_LOAD_END (R169, R170, R172): checks 4 to 20, and the outcome. -/
def execPlanLoadEnd (s : State) : Res :=
  if s.plan.phase ≠ .checking then .next s
  else
    let m := s.plan.staging
    if b1 m 16 < s.arb 4 then .next (s.loadFail Code.ROLLBACK 4 16)
    else
      let r := loadPlan m
      match r.2 with
      | some e => .next (s.loadFail (chkCode e.chk) e.chk e.off)
      | none =>
        let n := s.standbyNum
        let first := s.activePlan.isNone
        let s := { s with plan := { s.plan with phase := .idle, staging := [], stagingKey := [] } }
        let s := (s.clr SEQ_PLANSTAT_BUSY).setSlot n (some r.1)
        let s := (s.setFld SEQ_PLANSTAT_STATUS Code.OK).clr SEQ_PLANSTAT_CHECK
        let s := (s.set1 SEQ_PLANIRQ_LOADDONE).inc SEQ_PLANCNT_LOADS
        if first then .next ((s.setFld SEQ_PLANSTAT_ACTIVE n).activate r.1) else .next s

/-! ### Arming and discarding -/

/-- The boundary of an armed swap (R176, R273): the first slot boundary at or after SEQ_PLANAT that has not passed; the
present microsecond counts. -/
def State.swapTime (s : State) : Nat :=
  let t := (timeOf32 s.sqt (s.rd SEQ_PLANAT).toNat).toNat
  ceilDiv (max t s.sqt) (s.fld SEQ_SLOT_LEN) * s.fld SEQ_SLOT_LEN

/-- PLAN_ARM (R176). -/
def State.planArm (s : State) : State :=
  if (s.planSlot s.standbyNum).isNone ∨ s.activePlan.isNone ∨ s.plan.phase ≠ .idle ∨ s.flag SEQ_PLANSTAT_ARMED ∨
      s.finishing then s.planRefuse
  else
    let s := { s with plan := { s.plan with swapAt := s.swapTime } }
    ((s.set1 SEQ_PLANSTAT_ARMED).setFld SEQ_PLANSTAT_STATUS Code.OK).clr SEQ_PLANSTAT_CHECK

def execPlanArm (s : State) : Res := .next s.planArm

/-- PLAN_DISCARD (R171): refused during a load and in the microsecond of a swap boundary, before the swap and after it. -/
def State.planDiscard (s : State) : State :=
  if s.plan.phase ≠ .idle ∨ (s.flag SEQ_PLANSTAT_ARMED ∧ s.sqt = s.swapDue) ∨ s.plan.swapRan = some s.sqt then s.planRefuse
  else
    let s := (s.setSlot s.standbyNum none).clr SEQ_PLANSTAT_ARMED
    (s.setFld SEQ_PLANSTAT_STATUS Code.OK).clr SEQ_PLANSTAT_CHECK

def execPlanDiscard (s : State) : Res := .next s.planDiscard

/-- PLAN_CNTCLR (R181). -/
def execPlanCntclr (s : State) : Res := .next (s.wr SEQ_PLANCNT 0)

/-! ### The swap (R177–R179) -/

/-- Does the path's current window survive in the new plan (R178)? -/
def Plan.keepsWindow (new old : Plan) (p : PathId) (w : Nat) : Bool :=
  match new.window p w, old.window p w with
  | some a, some b => a.centreKHz == b.centreKHz && a.ifside == b.ifside
  | _, _ => false

/-- The RF blocks take the new plan (R177 order 2): power table, and tuner codes where the TUNER record differs. -/
def State.swapRf (s : State) (old new : Plan) (p : PathId) : State :=
  let s := s.loadPower new p
  if new.tuner p == old.tuner p then s else s.loadTuner new p

/-- The window of a path that does not survive moves to the new DEFAULT window; in OFF and FAULT the rays and facets
change at once (R19, R178). -/
def State.swapWindow (s : State) (new : Plan) (p : PathId) (keeps : Bool) : State :=
  if keeps then s
  else
    let s := match p with
      | .s => { s with plan := { s.plan with moveS := true } }
      | .g => { s with plan := { s.plan with moveG := true } }
    let w := ((new.dfltWindow p).map (·.index)).getD 0
    let s := s.requestMove p w
    match s.pst p with
    | .off | .fault => s.movePlan p
    | _ => s

/-- Does record `r` still name what the new plan holds (R277)? -/
def SchedRec.survives (r : SchedRec) (q : Plan) : Bool :=
  match r.kind with
  | 1 => (q.ray r.path r.ray).isSome && (q.profile r.profid).isSome
  | 2 => (q.ray r.path r.ray).isSome && (q.profile r.profid).isSome
  | 3 => (q.neighbour r.nb).isSome
  | _ => true

/-- Records that name what is gone are disabled: RECOFF, and an entry with the record number (R277). -/
def State.swapRecs (s : State) (q : Plan) : State :=
  s.seq.recs.foldl (fun (s : State) e =>
    if e.2.survives q then s
    else ((s.clearRec e.1).set1 SEQ_IRQ_RECOFF).logPut 10 Code.SEQ_CONFLICT 0 e.1) s

/-- Neighbour records are replaced (R179, R277): a changed one is reset, and the entries of one that is gone complete
with NB_GONE. -/
def State.swapNbs (s : State) (old new : Plan) : State :=
  (List.range 32).foldl (fun (s : State) n =>
    match old.neighbour n, new.neighbour n with
    | none, _ => s
    | some _, none =>
      let ents := (s.seq.ridgeq.filter (fun (x : RidgeEnt) => x.nb == n)).map (·.ent)
      let s := ents.foldl (fun (s : State) e => s.ridgeDone e Code.NB_GONE) s
      { s with ridge := { s.ridge with nbs := tblDel s.ridge.nbs n } }
    | some a, some b =>
      if a.path == b.path && a.profid == b.profid && a.ray == b.ray && a.fl == b.fl then s else s.resetNb n) s

/-- The swap at its boundary, block by block in the order of R177. -/
def State.planSwap (s : State) (old new : Plan) : State :=
  let s := (s.facet.facets.map (·.1)).foldl (fun s f => s.endFlagged f) s
  let keeps := fun (p : PathId) => new.keepsWindow old p (s.win p)
  let kS := keeps .s
  let kG := keeps .g
  let kept := fun (p : PathId) => match p with
    | .s => kS
    | .g => kG
  let s := (s.setFld SEQ_PLANSTAT_ACTIVE (1 - s.fld SEQ_PLANSTAT_ACTIVE)).clr SEQ_PLANSTAT_ARMED
  let s := ((s.set1 SEQ_PLANIRQ_SWAPPED).inc SEQ_PLANCNT_SWAPS).set1 SEQ_PLANSTAT_FINISH
  let s := (s.swapRf old new .s).swapRf old new .g
  let s := if kS then s.swapRays new .s else s
  let s := if kG then s.swapRays new .g else s
  let s := s.swapFacets new kept
  let s := (s.swapWindow new .s kS).swapWindow new .g kG
  let s := (s.swapRecs new).swapNbs old new
  { s with acct := carryAcct old s.acct new s.sqt, plan := { s.plan with swapRan := some s.sqt }, seq := { s.seq with hopAt := [] } }

/-- Does a self-test check end in this microsecond or before it, and may still mark a resource (R98)? -/
def State.markFirst (s : State) : Bool :=
  s.bist.check.any (fun c => decide (c.endAt < s.clk.now + us 1)) || s.bist.reint.any (fun c => decide (c.endAt < s.clk.now + us 1))

/-- PLAN_SWAP (R176, R177, R180): an armed swap reaches its boundary, or after Saddle the first boundary since the
wake, in its turn (R272). A self-test check that ends in the same microsecond goes first (R98). -/
def execPlanSwap (s : State) : Res :=
  if !(s.flag SEQ_PLANSTAT_ARMED) || !s.clocked || !(s.inTurn s.swapDue 1 0) then .next s
  else
    let t := s.advanceSqt s.swapDue
    match t.activePlan, t.planSlot t.standbyNum with
    | some old, some new => .next (if t.markFirst then s else t.planSwap old new)
    | _, _ => .next t

/-- SWAP_FINISHED (R180). -/
def execSwapFinished (s : State) : Res :=
  let held := s.prism.raysS.any (fun e => e.2.st == .held) || s.prism.raysG.any (fun e => e.2.st == .held)
  let old := s.facet.facets.any (fun e => e.2.old)
  if s.finishing && !held && !old then .next ((s.clr SEQ_PLANSTAT_FINISH).set1 SEQ_PLANIRQ_FINISHED) else .next s

end Sys2Proof.Machine
end

