-- ==== Sys2Proof/Machine/MmuOps.lean ====
section
/-! DEFINITION. Memory management (chapter 10): the map of R330, access times (R331), the pool (R332, R337, R338), page
tables and their checks (R333–R336), page tags (R340) and the symbol code (R352, R353). -/

namespace Sys2Proof.Machine
open Sys2Proof

/-! ### The map (R330) -/

/-- A region of the map. -/
inductive Region where
  | rom | tcm (core : Nat) | sram | landing | kcPriv | plan | edir | ehot | periph | paged | hole
  deriving DecidableEq, Repr

/-- The region an address lies in. -/
def regionOf (a : Nat) : Region :=
  if a ≤ 0xffff then .rom
  else if inRange 0x10000000 0x1007ffff a 1 then .tcm 0
  else if inRange 0x10080000 0x100fffff a 1 then .tcm 1
  else if inRange 0x20000000 0x203fffff a 1 then .sram
  else if inRange 0x20400000 0x204bffff a 1 then .landing
  else if inRange 0x20500000 0x2052ffff a 1 then .kcPriv
  else if inRange 0x20530000 0x2053ffff a 1 then .plan
  else if inRange 0x30000000 0x303fffff a 1 then .edir
  else if inRange 0x30400000 0x307fffff a 1 then .ehot
  else if inRange 0x40000000 0x4016ffff a 1 then .periph
  else if inRange 0x80000000 0xbfffffff a 1 then .paged
  else .hole

/-- What an access is for. -/
inductive Acc where
  | fetch | load | store
  deriving DecidableEq, Repr

/-- An address in a fixed frame? -/
def State.fixedAddr (s : State) (a : Nat) : Bool := decide ((a - 0x20000000) / 4096 < s.fld MMU_POOL_FIRST)

/-- Exceptions of memory by number (R324). -/
def vecBus : Nat := 5
def vecAbsent : Nat := 6
def vecProt : Nat := 7
def vecEcc : Nat := 8

/-- The kernel and fast bank column of R330 for core `c`: the exception an access raises, or none. -/
def State.kernelColumn (s : State) (c : CoreId) (k : Acc) (a : Nat) : Option Nat :=
  match regionOf a with
  | .rom => if c = .kc && k != .store then none else some vecProt
  | .tcm _ | .landing | .periph | .paged => none
  | .sram => if s.fixedAddr a then none else some vecProt
  | .kcPriv => if c = .kc then none else some vecProt
  | .edir => if k = .store then some vecProt else none
  | .plan | .ehot | .hole => some vecBus

/-- The task bank column of R330. -/
def taskColumn (a : Nat) : Option Nat :=
  match regionOf a with
  | .paged => none
  | .plan | .ehot | .hole => some vecBus
  | _ => some vecProt

/-- Does a channel count as KC's (R351)? -/
def State.dmaOwner (s : State) (ch : Nat) : CoreId := coreOf (s.fld (DMA_CHnCFG_OWNER ch))

/-- The DMA column of R330 for an incrementing side, and for a PHYS page. -/
def State.dmaColumn (s : State) (ch : Nat) (a : Nat) : Option Nat :=
  match regionOf a with
  | .tcm _ | .landing | .paged => none
  | .sram => if s.fixedAddr a then none else some vecProt
  | .kcPriv => if s.dmaOwner ch = .kc then none else some vecProt
  | _ => some vecBus

/-- Cycles of one access by core `c` to physical address `a` (R331). -/
def accessTime (c : CoreId) (a : Nat) : Nat :=
  match regionOf a with
  | .rom => 2
  | .tcm k => if k = coreNum c then 1 else 4
  | .kcPriv => if c = .kc then 1 else 3
  | .periph => 6
  | .edir => 8
  | _ => 3

/-- May tables and TCBs lie at `a` (R333, R341)? -/
def State.tableMem (s : State) (a n : Nat) : Bool :=
  inRange 0x10000000 0x1007ffff a n || inRange 0x10080000 0x100fffff a n || inRange 0x20500000 0x2052ffff a n ||
    s.inFixedFrame a n

/-! ### The pool (R332, R338) -/

/-- Frame `f` as a physical address. -/
def frameBase (f : Nat) : Nat := 0x20000000 + 4096 * f

/-- The free pool frames. -/
def State.freeFrames (s : State) : List Nat :=
  ((List.range 1024).drop (s.fld MMU_POOL_FIRST)).filter (fun f => !(tblHas s.mmu.frames f) &&
    !(s.mmu.removed.contains f) && !(s.mmu.fetches.any (fun x => x.frame == some f)))

/-- A free frame: which one the spec leaves open. -/
def State.takeFrame (s : State) : Option Nat × State :=
  match s.freeFrames with
  | [] => (none, s)
  | f :: t => let r := s.fresh; (some ((f :: t).getD (r.1 % (t.length + 1)) f), r.2)

/-- The PTE at an address. -/
def State.pteRd (s : State) (a : Nat) : Nat := s.memLe a 4

/-- The page engine writes a PTE and invalidates every TLB copy in the same cycle (R336). -/
def State.pteWr (s : State) (a v : Nat) : State :=
  let s := s.memPutLe a 4 v
  { s with mmu := { s.mmu with tlb := s.mmu.tlb.filter (fun e => e.pteAt != a) } }

/-- A PTE as fields (R334). -/
def pteNum (v : Nat) : Nat := bitsOf v 31 12
def pteTyp (v : Nat) : Nat := v % 4
def pteA (v : Nat) : Bool := bitAt v 5
def pteD (v : Nat) : Bool := bitAt v 6
def pteZ (v : Nat) : Bool := bitAt v 7

/-- A PTE with NUM, TYPE, D and A set and its U, X, W kept. -/
def pteMake (old num typ : Nat) (d a z : Bool) : Nat :=
  num % 2 ^ 20 * 4096 + (if z then 0x80 else 0) + (if d then 0x40 else 0) + (if a then 0x20 else 0) +
    bitsOf old 4 2 * 4 + typ

/-- Is a resident frame dirty? -/
def State.frameDirty (s : State) (f : PoolFrame) : Bool := pteD (s.pteRd f.pte)

/-- Is a resident frame pinned (R338)? -/
def State.framePinned (s : State) (n : Nat) (f : PoolFrame) : Bool :=
  s.mmu.pins.contains f.pte || tblHas s.mmu.writebacks n

/-- MMU_PSTAT as a read shows it. -/
def State.pstatWord (s : State) : Word :=
  BitVec.ofNat 32 ((s.mmu.frames.filter (fun e => s.frameDirty e.2)).length * 65536 + s.freeFrames.length)

/-- A resident page is clean again in the store only: its PTE returns to TYPE 1 and the frame is free. -/
def State.dropFrame (s : State) (n : Nat) : State :=
  match tblFind s.mmu.frames n with
  | none => s
  | some f =>
    let s := s.pteWr f.pte (pteMake (s.pteRd f.pte) f.bidx 1 false false false)
    { s with mmu := { s.mmu with frames := tblDel s.mmu.frames n } }

/-- An EVICT that waited for a page ends (R357). -/
def State.evictEnd (s : State) (pte status : Nat) : State :=
  if s.mmu.evict = some pte then
    let s : State := { s with mmu := { s.mmu with evict := none } }
    (s.setFld MMU_PCMD_STATUS status).clr MMU_PCMD_BUSY
  else s

/-- May the page engine program PAGE (R434, R441)? -/
def State.pageWritable (s : State) : Bool := s.dieReleased && !(s.flag NAND_HEALTH_PAGERO)

/-- A victim leaves its frame: at once where it is clean, through a program where it is dirty (R338). -/
def State.pageOut (s : State) (n : Nat) (f : PoolFrame) : State :=
  if s.frameDirty f then
    { s with mmu := { s.mmu with writebacks := tblIns s.mmu.writebacks n f } }
  else s.dropFrame n

/-- The tag of a page under the page key (R340): free where the slot holds no key. -/
def State.pageTag (s : State) (bytes : List Byte) (bidx : Nat) : List Byte × State :=
  match (s.keySlot (s.fld MMU_KEYSLOT_SLOT)).key with
  | some k => ((cmac k (bytes ++ leBytes 4 bidx)).take 8, s)
  | none => s.freshBytes 8

/-- The resident frame with the clock hand next to it: frames from the hand up, then from the start. -/
def State.clockOrder (s : State) : List (Nat × PoolFrame) :=
  s.mmu.frames.filter (fun e => decide (s.mmu.hand ≤ e.1)) ++ s.mmu.frames.filter (fun e => decide (e.1 < s.mmu.hand))

/-- The clock passes frames with A = 1, clearing A, up to the first unpinned one with A = 0 (R338). -/
def sweepOver : List (Nat × PoolFrame) → State → Option (Nat × PoolFrame) × State
  | [], s => (none, s)
  | (n, f) :: t, s =>
    if s.framePinned n f then sweepOver t s
    else
      let v := s.pteRd f.pte
      if pteA v then sweepOver t (s.pteWr f.pte (v - 0x20))
      else (some (n, f), s)

/-! ### Translation (R333–R336) -/

/-- The outcome of a translation: a physical address, an exception with the CAUSE of MMU_FSTATc, or a miss on a PTE. -/
inductive Xlat where
  | ok (pa : Nat)
  | bad (vec cause : Nat)
  | miss (pte : Nat)
  deriving DecidableEq, Repr

/-- The walk of R333: the level-2 entry's address, or the exception. -/
def State.walk (s : State) (l1 va : Nat) : Xlat :=
  let a1 := l1 + 4 * bitsOf va 29 22
  if !(s.tableMem a1 4) then .bad vecProt 3
  else
    let e := s.memLe a1 4
    if e % 2 = 0 then .bad vecAbsent 0
    else
      let a2 := bitsOf e 31 12 * 4096 + 4 * bitsOf va 21 12
      if !(s.tableMem a2 4) then .bad vecProt 3 else .ok a2

/-- Put a translation into a TLB of 32 entries, first in first out. -/
def tlbPut (e : TlbEnt) (l : List TlbEnt) : List TlbEnt :=
  let l := l.filter (fun x => !(x.owner == e.owner && x.asid == e.asid && x.vpn == e.vpn))
  let mine := l.filter (fun x => x.owner == e.owner)
  (if mine.length < 32 then l else match mine with
    | [] => l
    | o :: _ => l.filter (fun x => x != o)) ++ [e]

/-- A translation with the entry it used, or the outcome without one. -/
def State.tlbLookup (s : State) (owner asid l1 va : Nat) : Option TlbEnt × Xlat :=
  match s.mmu.tlb.find? (fun e => e.owner == owner && e.asid == asid && e.vpn == va / 4096) with
  | some e => (some e, .ok e.pteAt)
  | none =>
    match s.walk l1 va with
    | .ok a => (some { owner := owner, asid := asid, vpn := va / 4096, pteAt := a, pte := s.pteRd a }, .ok a)
    | x => (none, x)

/-- The checks of R334 and R335 on the entry, then the physical address. `task` says that U binds, `col` is the column of
R330 for a PHYS page. -/
def State.checkPte (s : State) (task : Bool) (k : Acc) (col : Nat → Option Nat) (e : TlbEnt) (va : Nat) : Xlat :=
  let v := e.pte
  let pa := pteNum v * 4096 + va % 4096
  if pteTyp v = 0 then .bad vecAbsent 0
  else if bitsOf v 11 8 ≠ 0 then .bad vecProt 2
  else if (task && !(bitAt v 4)) || (k == .fetch && !(bitAt v 3)) || (k == .store && !(bitAt v 2)) then .bad vecProt 1
  else if pteTyp v = 3 then
    if !(s.tableMem (pteNum v * 4096) 4096) then .bad vecProt 3
    else match col pa with
      | some x => .bad x 7
      | none => .ok pa
  else if pteTyp v = 1 then
    if 229376 ≤ pteNum v then .bad vecProt 4
    else if s.mmu.frames.any (fun f => f.2.bidx == pteNum v && f.2.pte != e.pteAt) then .bad vecProt 5
    else match s.mmu.failed.find? (fun x => x.1 == e.pteAt) with
      | some x => .bad vecEcc x.2
      | none => .miss e.pteAt
  else .ok (frameBase (pteNum v) + va % 4096)

/-- After a translation: A and D are set by hardware (R334), and the TLB holds the entry. -/
def State.usePte (s : State) (k : Acc) (e : TlbEnt) : State :=
  let v := e.pte
  let want := v ||| 0x20 ||| (if k = .store then 0x40 else 0)
  let (s, v) := if pteTyp v = 2 && want != v then (s.pteWr e.pteAt want, want) else (s, v)
  { s with mmu := { s.mmu with tlb := tlbPut { e with pte := v } s.mmu.tlb } }

/-- Translate `va` for `owner` (core 0–3, DMA 4) under `asid`, with the level-1 table at `l1`. A failed fetch is reported
once (R340, R352). -/
def State.translate (s : State) (owner asid l1 : Nat) (task : Bool) (k : Acc) (col : Nat → Option Nat) (va : Nat) :
    Xlat × State :=
  match s.tlbLookup owner asid l1 va with
  | (none, x) => (x, s)
  | (some e, _) =>
    match s.checkPte task k col e va with
    | .ok pa => (.ok pa, s.usePte k e)
    | .bad v c =>
      if v = vecEcc then
        let bads := s.mmu.failed
        (.bad v c, { s with mmu := { s.mmu with failed := bads.eraseP (fun x => x.1 == e.pteAt) } })
      else (.bad v c, s)
    | .miss a => (.miss a, s)

/-- Did the translation of `va` hit the TLB? -/
def State.tlbHit (s : State) (owner asid va : Nat) : Bool :=
  s.mmu.tlb.any (fun e => e.owner == owner && e.asid == asid && e.vpn == va / 4096)

/-- A miss starts the fetch of the page, or joins it (R337). -/
def State.wantPage (s : State) (pte : Nat) (kern : Bool) : State :=
  match s.mmu.fetches.find? (fun f => f.pte == pte) with
  | some _ =>
    { s with mmu := { s.mmu with fetches := s.mmu.fetches.map (fun f =>
        if f.pte == pte then { f with kern := f.kern || kern } else f) } }
  | none =>
    let v := s.pteRd pte
    let r := s.takeFrame
    { r.2 with mmu := { r.2.mmu with fetches := r.2.mmu.fetches ++
        [({ pte := pte, bidx := pteNum v, zero := pteZ v, kern := kern, frame := r.1 } : PageFetch)] } }

/-! ### The symbol code (R352, R353) -/

/-- The pool frame `a` lies in. -/
def State.poolFrameOf (s : State) (a : Nat) : Option Nat :=
  if regionOf a = .sram && !(s.fixedAddr a) then some ((a - 0x20000000) / 4096) else none

/-- The memory of R353 that `a` lies in, with its spare regions; a pool frame takes none. -/
def State.spareOf (s : State) (a : Nat) : Option (SpareMem × Nat) :=
  match regionOf a with
  | .tcm 0 => some (.lc0, 2)
  | .tcm _ => some (.lc1, 2)
  | .kcPriv => some (.kc, 2)
  | .landing => some (.landing, 2)
  | .sram => if s.fixedAddr a then some (.fixed, 4) else none
  | .edir => some (.edir, 8)
  | .ehot => some (.ehot, 8)
  | _ => none

/-- A resident page moves to a free frame, and its old frame leaves the pool for good (R353). -/
def State.removeFrame (s : State) (n : Nat) : State :=
  let s := match tblFind s.mmu.frames n with
    | none => s
    | some f =>
      match s.takeFrame with
      | (none, s) => s
      | (some m, s) =>
        let s := s.memPut (frameBase m) (s.memBytes (frameBase n) 4096)
        let s := s.pteWr f.pte (s.pteRd f.pte % 4096 + m * 4096)
        { s with mmu := { s.mmu with frames := tblIns (tblDel s.mmu.frames n) m f } }
  { s with mmu := { s.mmu with removed := s.mmu.removed ++ [n] } }

/-- Retirement of the 4 KiB region that holds `a` (R353). -/
def State.retireRegion (s : State) (a : Nat) : State :=
  match s.poolFrameOf a with
  | some n => ((s.removeFrame n).inc MMU_ECCSTAT_RETIRED).set1 MMU_IRQ_RETIRED |>.logPut 22 Code.MEM_RETIRED 0
      (a / 4096 * 4096)
  | none =>
    match s.spareOf a with
    | none => s
    | some (m, k) =>
      if (s.mmu.retired.filter (fun e => e.1 == m)).length < k then
        let s : State := { s with mmu := { s.mmu with retired := s.mmu.retired ++ [(m, a / 4096)] } }
        ((s.inc MMU_ECCSTAT_RETIRED).set1 MMU_IRQ_RETIRED).logPut 22 Code.MEM_RETIRED 0 (a / 4096 * 4096)
      else (s.set1 MMU_IRQ_NOSPARE).logPut 22 Code.MEM_NOSPARE 0 (a / 4096 * 4096)

/-- A corrected read of the line of `a` (R352). -/
def State.corrected (s : State) (a : Nat) (lasting : Bool) : State :=
  let s := s.setFld MMU_ECCADDR_LINE (a / 16)
  if lasting then s.retireRegion a else s.inc MMU_ECCSTAT_CORR

end Sys2Proof.Machine
end

