-- ==== Sys2Proof/Machine/TaskOps.lean ====
section
/-! DEFINITION. Cores and their task slots (R341–R346): the task control block, switches, selection, and the moves between
slot states. -/

namespace Sys2Proof.Machine
open Sys2Proof

/-! ### Cores -/

def State.core (s : State) : CoreId → Core
  | .lc0 => s.lc0
  | .lc1 => s.lc1
  | .sc => s.sc
  | .kc => s.kc

def State.setCore (s : State) (c : CoreId) (x : Core) : State :=
  match c with
  | .lc0 => { s with lc0 := x }
  | .lc1 => { s with lc1 := x }
  | .sc => { s with sc := x }
  | .kc => { s with kc := x }

def State.modCore (s : State) (c : CoreId) (f : Core → Core) : State := s.setCore c (f (s.core c))

/-- All cores. -/
def allCores : List CoreId := [.lc0, .lc1, .sc, .kc]

/-- PSW.BANK. -/
def Core.bankNo (x : Core) : Nat := bitsOf x.psw.toNat 9 8

/-- The bank in use (R303). -/
def Core.bank (x : Core) : Bank :=
  match x.bankNo with
  | 0 => x.task
  | 1 => x.kernel
  | _ => x.fast

/-- Replace the bank in use. -/
def Core.setBank (x : Core) (b : Bank) : Core :=
  match x.bankNo with
  | 0 => { x with task := b }
  | 1 => { x with kernel := b }
  | _ => { x with fast := b }

/-- `n` more cycles before the core's next instruction can start. -/
def State.busy (s : State) (c : CoreId) (n : Nat) : State :=
  s.modCore c (fun x => { x with ready := max x.ready s.clk.now + n })

/-! ### Slots (R342) -/

/-- The slot states by number. -/
def slotEmpty : Nat := 0
def slotReady : Nat := 1
def slotRun : Nat := 2
def slotWaitPage : Nat := 3
def slotSleep : Nat := 4
def slotStopped : Nat := 5

/-- The scheduler of a core. -/
def State.tasksOf (s : State) (c : CoreId) : Sched := tblGet {} s.tasks (coreNum c)

/-- Slot `n` of a scheduler. -/
def Sched.slot (t : Sched) (n : Nat) : TaskSlot := tblGet {} t.slots n

/-- Show the slots in MMU_TSTATc (R342, R357). -/
def State.showTasks (s : State) (c : CoreId) : State :=
  let t := s.tasksOf c
  let states := (List.range 8).foldl (fun x n => x + (t.slot n).st * 8 ^ n) 0
  let head := match t.cur with
    | none => 2 ^ 27
    | some n => n * 2 ^ 24
  s.wr (MMU_TSTATc (coreNum c)) (BitVec.ofNat 32 (head + states))

/-- Replace the scheduler of a core. -/
def State.setTasks (s : State) (c : CoreId) (t : Sched) : State :=
  ({ s with tasks := tblPut {} s.tasks (coreNum c) t } : State).showTasks c

/-- Replace a slot. -/
def State.setTask (s : State) (c : CoreId) (n : Nat) (x : TaskSlot) : State :=
  let t := s.tasksOf c
  s.setTasks c { t with slots := tblPut {} t.slots n x }

/-- A slot becomes READY, behind those that wait already. -/
def State.makeReady (s : State) (c : CoreId) (n : Nat) : State :=
  let t := s.tasksOf c
  s.setTasks c { t with slots := tblPut {} t.slots n { t.slot n with st := slotReady, order := t.stamp },
                        stamp := t.stamp + 1 }

/-- Is slot `a` to run rather than `b` (R344)? -/
def TaskSlot.before (a b : TaskSlot) : Bool := a.prio < b.prio || (a.prio == b.prio && a.order < b.order)

/-- The slot to select: READY, most important, longest waiting (R344). A slot still in the task bank is none of these. -/
def Sched.best (t : Sched) : Option Nat :=
  (List.range 8).foldl (fun b n =>
    if (t.slot n).st != slotReady || t.cur == some n then b
    else match b with
      | none => some n
      | some m => if (t.slot n).before (t.slot m) then some n else some m) none

/-! ### Switches (R341, R346) -/

/-- Address of a slot's TCB. -/
def State.tcbAt (s : State) (c : CoreId) (n : Nat) : Nat := s.fld (MMU_TCBc_BASE (coreNum c)) * 2048 + 256 * n

/-- Cycles of a switch with `words` cache entries (R346). -/
def State.switchCost (s : State) (c : CoreId) (n words : Nat) : Nat :=
  6 + (if regionOf (s.tcbAt c n) = .sram then 3 else 1) * words

/-- Store a word. -/
def State.memPutW (s : State) (a : Nat) (w : Word) : State := s.memPutLe a 4 w.toNat

/-- Store words from `a` up. -/
def State.memPutWs (s : State) (a : Nat) : List Word → State
  | [] => s
  | w :: t => (s.memPutW a w).memPutWs (a + 4) t

/-- Load a word. -/
def State.memW (s : State) (a : Nat) : Word := BitVec.ofNat 32 (s.memLe a 4)

/-- `n` words from `a` up. -/
def State.memWs (s : State) (a n : Nat) : List Word := (List.range n).map (fun i => s.memW (a + 4 * i))

/-- The scheduler writes PC, PSW and the task bank into the slot's TCB (R341). -/
def State.saveTcb (s : State) (c : CoreId) (n : Nat) : State :=
  let x := s.core c
  let b := x.task
  let counts := (if b.lv then 1 else 0) + 256 * b.d.cache.length + 65536 * b.r.cache.length
  let s := s.memPutWs (s.tcbAt c n) [x.pc, x.psw, b.a, b.b, b.rc, b.la, BitVec.ofNat 32 counts, b.d.ptr, b.d.base, b.d.lim,
    b.r.ptr, b.r.base, b.r.lim]
  let s := (s.memPutW (s.tcbAt c n + 0x3c) 0).memPutWs (s.tcbAt c n + 0x40) b.d.cache
  s.memPutWs (s.tcbAt c n + 0x80) b.r.cache

/-- The task bank, PC and PSW from the slot's TCB: of the PSW only C and RPT are taken (R341). -/
def State.loadTcb (s : State) (c : CoreId) (n : Nat) : State :=
  let a := s.tcbAt c n
  let counts := s.memLe (a + 0x18) 4
  let dn := min 16 (bitsOf counts 12 8)
  let rn := min 8 (bitsOf counts 19 16)
  let b : Bank :=
    { d := { cache := s.memWs (a + 0x40) dn, ptr := s.memW (a + 0x1c), base := s.memW (a + 0x20), lim := s.memW (a + 0x24) },
      r := { cache := s.memWs (a + 0x80) rn, ptr := s.memW (a + 0x28), base := s.memW (a + 0x2c), lim := s.memW (a + 0x30) },
      a := s.memW (a + 8), b := s.memW (a + 12), rc := s.memW (a + 16), la := s.memW (a + 20),
      lv := decide (counts % 2 = 1) }
  s.modCore c (fun x => { x with task := b, pc := s.memW a, psw := s.memW (a + 4) &&& 5, st := .run })

/-- The slot in the task bank is switched out into state `st`; one that a STOP or SLEEP takes out keeps the state that
gave it. -/
def State.switchOut (s : State) (c : CoreId) (st : Nat) : State :=
  let t := s.tasksOf c
  match t.cur with
  | none => s
  | some n =>
    let b := (s.core c).task
    let s := s.saveTcb c n
    let s := s.busy c (s.switchCost c n (b.d.cache.length + b.r.cache.length))
    let s := s.inc (MMU_TSWc_SWITCHES (coreNum c))
    let sl := t.slot n
    let s := s.setTasks c { t with cur := none }
    if sl.leaving then s.setTask c n { sl with leaving := false }
    else if st = slotReady then s.makeReady c n
    else s.setTask c n { sl with st := st }

/-- With no slot in the task bank the scheduler selects one, or the core idles (R344, R345). -/
def State.selectSlot (s : State) (c : CoreId) : State :=
  let t := s.tasksOf c
  match t.best with
  | none => (s.modCore c (fun x => { x with st := .idle, pc := 0, psw := 0 })).showTasks c
  | some n =>
    let s := s.loadTcb c n
    let b := (s.core c).task
    let s := s.busy c (s.switchCost c n (b.d.cache.length + b.r.cache.length))
    s.setTasks c { t with cur := some n,
                          slots := tblPut {} t.slots n { t.slot n with st := slotRun, since := (s.core c).ready } }

/-- A core that idles runs a slot as soon as one is READY. -/
def State.wakeIdle (s : State) (c : CoreId) : State :=
  if (s.core c).st = .idle && (s.tasksOf c).best.isSome then s.selectSlot c else s

/-- Does the scheduler switch at this boundary: to a more important slot, or at the end of the quantum (R344)? -/
def State.preempts (s : State) (c : CoreId) : Bool :=
  let t := s.tasksOf c
  match t.cur, t.best with
  | some n, some m => (t.slot m).prio < (t.slot n).prio
  | _, _ => false

/-- Has the running slot used its quantum while another READY slot has its priority (R344)? -/
def State.quantumDue (s : State) (c : CoreId) (at_ : Nat) : Bool :=
  let t := s.tasksOf c
  let q := s.fld (MMU_TQUANTc_QUANT (coreNum c))
  match t.cur with
  | some n => decide (q ≠ 0) && decide ((t.slot n).since + q ≤ at_) &&
      (List.range 8).any (fun m => m != n && (t.slot m).st == slotReady && (t.slot m).prio == (t.slot n).prio)
  | none => false

/-- The slot in the task bank gives way. -/
def State.switchTo (s : State) (c : CoreId) (st : Nat) : State := (s.switchOut c st).selectSlot c

/-- Entry into the task bank by ERET (R344, R345): a stopped or sleeping slot is switched out, a pre-empted one too, and
an empty task bank is filled. -/
def State.enterTask (s : State) (c : CoreId) : State :=
  let t := s.tasksOf c
  match t.cur with
  | none => s.selectSlot c
  | some n =>
    if (t.slot n).leaving then s.switchTo c slotReady
    else if s.preempts c || s.quantumDue c (max s.clk.now (s.core c).ready) then s.switchTo c slotReady
    else s

/-- The running slot parks on the miss of a page (R343, R347): PARKVA is written. -/
def State.park (s : State) (c : CoreId) (va pte : Nat) : State :=
  let t := s.tasksOf c
  match t.cur with
  | none => s
  | some n =>
    let s := s.setTask c n { t.slot n with waitPte := pte }
    let s := (s.switchOut c slotWaitPage).inc (MMU_TSWc_PARKS (coreNum c))
    (s.memPutW (s.tcbAt c n + 0x38) (BitVec.ofNat 32 va)).selectSlot c

/-- The slots of a core that wait for a page. -/
def State.waiters (s : State) (c : CoreId) (pte : Nat) : List Nat :=
  (List.range 8).filter (fun n => let x := (s.tasksOf c).slot n; x.st == slotWaitPage && x.waitPte == pte)

/-- Every slot that waits for a page becomes READY, and an idle core runs one. -/
def State.resumeSlots (s : State) (pte : Nat) : State :=
  allCores.foldl (fun (s : State) c => ((s.waiters c pte).foldl (fun (s : State) n => s.makeReady c n) s).wakeIdle c) s

/-! ### Slot commands (R343, R357) -/

/-- May `r` write the registers of core `c` (R357, R371)? -/
def mayWriteSet (r : Requester) (c : CoreId) : Bool := r == .core c || r == .core .kc

/-- A TCMD that the table of R343 does not list for the slot's state. -/
def State.tcmdBad (s : State) : State := s.inc (CFGSTAT_CFG_ERR baseMMU)

def State.tcmdStart (s : State) (c : CoreId) (n prio : Nat) : State :=
  let x := (s.tasksOf c).slot n
  if x.st = slotEmpty || x.st = slotStopped then
    ((s.setTask c n { x with prio := prio }).makeReady c n).wakeIdle c
  else s.tcmdBad

/-- STOP and SLEEP: a slot in the task bank is switched out at the next entry into it. -/
def State.tcmdLeave (s : State) (c : CoreId) (n st : Nat) : State :=
  let t := s.tasksOf c
  let x := t.slot n
  if x.st = slotEmpty then s.tcmdBad
  else s.setTask c n { x with st := st, leaving := x.leaving || t.cur == some n }

def State.tcmdWake (s : State) (c : CoreId) (n : Nat) : State :=
  if ((s.tasksOf c).slot n).st = slotSleep then (s.makeReady c n).wakeIdle c else s.tcmdBad

def State.tcmdPrio (s : State) (c : CoreId) (n prio : Nat) : State :=
  let x := (s.tasksOf c).slot n
  if x.st = slotEmpty then s.tcmdBad else s.setTask c n { x with prio := prio }

def State.tcmdFree (s : State) (c : CoreId) (n : Nat) : State :=
  let x := (s.tasksOf c).slot n
  if x.st = slotStopped then s.setTask c n { x with st := slotEmpty } else s.tcmdBad

/-- A write of MMU_TCMDc by `r`. -/
def State.tcmdWrite (s : State) (r : Requester) (c : CoreId) (op n prio : Nat) : State :=
  if !(mayWriteSet r c) || 8 ≤ n || 8 ≤ prio then s.discard baseMMU
  else match op with
    | 1 => s.tcmdStart c n prio
    | 2 => s.tcmdLeave c n slotStopped
    | 3 => s.tcmdLeave c n slotSleep
    | 4 => s.tcmdWake c n
    | 5 => s.tcmdPrio c n prio
    | 6 => s.tcmdFree c n
    | _ => s.discard baseMMU

end Sys2Proof.Machine
end

