-- ==== Sys2Proof/Machine/Tmr.lean ====
section
/-! DEFINITION. Timers, captures, the PPS capture and the SLOWCNT compares (chapter 12): operations and the meanings
of their commands. -/

namespace Sys2Proof.Machine
open Sys2Proof

/-! ### Counters (R376, R378) -/

/-- The present count of counter `n`: a running CLK 3 counter reads SQT while NETTIME is valid (R376). -/
def State.tmrNow (s : State) (n : Nat) : Nat :=
  if s.fld (TMR_CFGn_CLK n) = 3 && s.tmrRuns n && s.flag SEQ_STAT_NTVALID then s.sqt % 2 ^ 32
  else s.fld (TMR_CNTn_COUNT n)

/-- Start counter `n`: its divider phase is reset (R378). -/
def State.tmrStart (s : State) (n : Nat) : State :=
  let s := s.setTmrPhase n 0
  { s with tmr := { s.tmr with started := tblPut 0 s.tmr.started n s.clk.now } }

/-- Stop counter `n`: a CLK 3 counter keeps what it last read. -/
def State.tmrStop (s : State) (n : Nat) : State := s.setFld (TMR_CNTn_COUNT n) (s.tmrNow n)

/-- A write of TMR_RUN (R378). -/
def State.tmrRunWrite (s : State) (v : Word) : State :=
  let new := bitsOf v.toNat 7 0
  let old := s.fld TMR_RUN_RUN
  let s := (setBits 8 (old &&& (255 - new))).foldl (fun (s : State) n => s.tmrStop n) s
  let s := (setBits 8 (new &&& (255 - old))).foldl (fun (s : State) n => s.tmrStart n) s
  s.setFld TMR_RUN_RUN new

/-- TMR_RUN_WRITE (R378). -/
def execTmrRunWrite (v : Word) (s : State) : Res := .next (s.tmrRunWrite v)

/-- TMR_CNTCLR (R395). -/
def State.tmrCntclr (s : State) : State :=
  let s := (s.clr TMR_PPSSTAT_DROP).clr TMR_PPSSTAT_GLITCH
  (List.range 32).foldl (fun (s : State) u => s.clr (TMR_UuSTAT_OVR u)) (s.clr TMR_PPSSTAT_OVR)

def execTmrCntclr (s : State) : Res := .next s.tmrCntclr

/-- Cycles until the `k`-th next tick of counter `n`; none while it does not run or its clock is absent (R376). -/
def State.tickIn (s : State) (n k : Nat) : Option Nat :=
  if !s.tmrRuns n then none
  else
    let units := k * s.tmrPeriod n - s.tmrPhase n
    match s.fld (TMR_CFGn_CLK n) with
    | 0 => if s.clk.pll && s.railOn then some units else none
    | 1 => if s.flag PWR_STAT_XREFOK && s.railOn then some units else none
    | 2 => if s.clk.slowOn && s.railOn then some (stEdgeAt (stEdges s.clk.now + units) - s.clk.now) else none
    | _ => if s.flag SEQ_STAT_NTVALID && s.clk.pll then some (s.cyclesToFt (200 * (s.sqt + k))) else none

/-- The clock at the `k`-th next tick of counter `n`, where it has one. -/
def State.atTick (s : State) (n k : Nat) : Option State :=
  if k = 0 then some s else (s.tickIn n k).map (fun d => s.advance d)

/-- COUNTER_WRAP (R376): counter `n` runs to its wrap from 0xFFFF_FFFF to 0, which sets OVFn. -/
def execCounterWrap (n : Nat) (s : State) : Res :=
  if 8 ≤ n then .next s
  else match s.atTick n (2 ^ 32 - s.tmrNow n) with
    | none => .next s
    | some s => .next s

/-- A write of TMR_CFGn (R376, R378). -/
def State.tmrCfgWrite (s : State) (n : Nat) (v : Word) : State :=
  let clk := bitsOf v.toNat 2 0
  if s.tmrRuns n || clk > 3 || (clk == 3 && bitsOf v.toNat 11 8 != 0) then s.discard baseTMR
  else s.plainWrite (TMR_CFGn n) v

/-- A write of TMR_CNTn (R378). -/
def State.tmrCntWrite (s : State) (n : Nat) (v : Word) : State :=
  if s.tmrRuns n || s.fld (TMR_CFGn_CLK n) == 3 then s.discard baseTMR else s.plainWrite (TMR_CNTn n) v

/-! ### Units (R373–R387) -/

/-- The counter of a unit. -/
def State.unitCnt (s : State) (u : Nat) : Nat := s.fld (TMR_UuCFG_CNT u)

/-- Forget a unit's pending firings. -/
def State.unitForget (s : State) (u : Nat) : State :=
  { s with tmr := { s.tmr with lateNext := tblDel s.tmr.lateNext u, lateTick := s.tmr.lateTick.filter (· != u) } }

/-- A write of TMR_UuVAL (R374, R375, R385): it arms a compare unit, and in capture mode is a reserved encoding. -/
def State.valWrite (s : State) (u : Nat) (v : Word) : State :=
  match s.fld (TMR_UuCFG_MODE u) with
  | 2 => s.discard baseTMR
  | 1 =>
    let cnt := s.tmrNow (s.unitCnt u)
    let s := ((s.unitForget u).wr (TMR_UuVAL u) v).clr (TMR_UuSTAT_FIRED u)
    let s := s.set1 (TMR_UuSTAT_ARMED u)
    if reached 32 cnt v.toNat then
      { s with tmr := { s.tmr with lateNext := tblIns s.tmr.lateNext u (s.clk.now + 1, cnt != v.toNat) } }
    else s
  | _ => s.wr (TMR_UuVAL u) v

/-- COMPARE_ARM (R374, R375). -/
def execCompareArm (u : Nat) (v : Word) (s : State) : Res := if 32 ≤ u then .next s else .next (s.valWrite u v)

/-- The OUT action of a unit (R380, R381). -/
def State.unitOut (s : State) (u : Nat) : State :=
  let f := GPIO_TOUT_TOUT.bit u
  let act := s.fld (TMR_UuCFG_OUT u)
  if act = 0 then s
  else
    let s := s.setBool f (act == 1 || (act == 3 && !s.flag f))
    ({ s with tmr := { s.tmr with outAt := tblPut 0 s.tmr.outAt u s.clk.now } } : State).gpioSettle

/-- A compare unit fires (R380, R382). -/
def State.unitFire (s : State) (u : Nat) (late : Bool) : State :=
  let s := s.unitForget u
  let s := (s.set1 (TMR_IRQ0_U.bit u)).set1 (TMR_UuSTAT_FIRED u)
  let s := (s.setBool (TMR_UuSTAT_LATE u) late).unitOut u
  if s.flag (TMR_UuCFG_RELOAD u) then
    let v := ((s.rd (TMR_UuVAL u)).toNat + (s.rd (TMR_UuPER u)).toNat) % 2 ^ 32
    let s := s.wr (TMR_UuVAL u) (BitVec.ofNat 32 v)
    if reached 32 (s.tmrNow (s.unitCnt u)) v then
      { s with tmr := { s.tmr with lateTick := s.tmr.lateTick ++ [u] } }
    else s
  else s.clr (TMR_UuSTAT_ARMED u)

/-- COMPARE_FIRE (R374, R380, R382): an armed unit fires, at once where its value was already reached, at the next
tick where a reload left it behind, else at the tick at which R373 holds. -/
def execCompareFire (u : Nat) (s : State) : Res :=
  if 32 ≤ u || !(s.fld (TMR_UuCFG_MODE u) == 1 && s.flag (TMR_UuSTAT_ARMED u)) then .next s
  else match tblFind s.tmr.lateNext u with
    | some (t, late) => .next ((s.advanceTo t).unitFire u late)
    | none =>
      let n := s.unitCnt u
      let v := (s.rd (TMR_UuVAL u)).toNat
      let behind := s.tmr.lateTick.contains u
      let k := if behind then 1 else if reached 32 (s.tmrNow n) v then 0 else (v + 2 ^ 32 - s.tmrNow n) % 2 ^ 32
      match s.atTick n k with
      | none => .next s
      | some s => .next (s.unitFire u behind)

/-- Is the word one TMR_UuCFG takes (R379, R382, R383)? -/
def State.unitCfgBad (s : State) (u : Nat) (v : Word) : Bool :=
  let x := v.toNat
  let insel := bitsOf x 20 16
  let per := (s.rd (TMR_UuPER u)).toNat
  bitsOf x 1 0 == 3 || bitsOf x 22 21 == 3 || insel > 25 || (insel > 22 && bitsOf x 27 24 != 0) ||
    (bitAt x 8 && (per == 0 || per ≥ 2 ^ 31))

/-- Every field of TMR_UuCFG but MODE. -/
def unitFields (x : Nat) : Nat := x &&& 0x7f7f0770

/-- A write of TMR_UuCFG (R379). -/
def State.unitCfgWrite (s : State) (u : Nat) (v : Word) : State :=
  let old := (s.rd (TMR_UuCFG u)).toNat
  if bitsOf old 1 0 ≠ 0 then
    if bitsOf v.toNat 1 0 = 0 && unitFields v.toNat = unitFields old then
      (((s.unitForget u).clr (TMR_UuSTAT_ARMED u)).clr (TMR_UuSTAT_PRECNT u)).plainWrite (TMR_UuCFG u) v
    else s.discard baseTMR
  else if s.unitCfgBad u v then s.discard baseTMR
  else s.plainWrite (TMR_UuCFG u) v

/-- UNIT_CFG_WRITE (R379). -/
def execUnitCfgWrite (u : Nat) (v : Word) (s : State) : Res := if 32 ≤ u then .next s else .next (s.unitCfgWrite u v)

/-- A write of TMR_UuPER (R382). -/
def State.perWrite (s : State) (u : Nat) (v : Word) : State :=
  if s.flag (TMR_UuCFG_RELOAD u) && (v.toNat == 0 || v.toNat ≥ 2 ^ 31) then s.discard baseTMR
  else s.wr (TMR_UuPER u) v

/-- The count of counter `n` as it was `d` cycles ago, no further back than its start (R384). -/
def State.countAgo (s : State) (n d : Nat) : Nat :=
  let d := min d (s.clk.now - tblGet 0 s.tmr.started n)
  let e := stEdges s.clk.now - stEdges (s.clk.now - d)
  if s.fld (TMR_CFGn_CLK n) = 3 then
    if s.tmrRuns n && s.flag SEQ_STAT_NTVALID then
      (s.clk.nt - ((d : Int) * ((2 ^ 32 : Nat) + s.rate)).toNat) / 2 ^ 32 / 200 % 2 ^ 32
    else s.tmrNow n
  else if s.tmrRuns n then
    (((2 ^ 32 + s.fld (TMR_CNTn_COUNT n)) * s.tmrPeriod n + s.tmrPhase n - s.tmrUnits n d e) / s.tmrPeriod n) % 2 ^ 32
  else s.tmrNow n

/-- Cycles from the first sample of a pin change to its edge (R383). -/
def filterDelay (filt : Nat) : Nat := if filt = 0 then 2 else 2 + 2 ^ filt

/-- Store a capture (R385, R387). -/
def State.unitCapture (s : State) (u v : Nat) : State :=
  let s := (s.wr (TMR_UuVAL u) (BitVec.ofNat 32 v)).clr (TMR_UuSTAT_PRECNT u)
  let s := if s.flag (TMR_UuSTAT_CAPNEW u) then (s.inc (TMR_UuSTAT_OVR u)).set1 TMR_IRQ1_CAPOVR else s
  (s.set1 (TMR_UuSTAT_CAPNEW u)).set1 (TMR_IRQ0_U.bit u)

/-- CAPTURE (R384, R385, R387): capture unit `u` counts an edge of the kind it selects. -/
def execCapture (u : Nat) (s : State) : Res :=
  if 32 ≤ u || s.fld (TMR_UuCFG_MODE u) ≠ 2 || !s.clocked then .next s
  else
    let k := s.fld (TMR_UuSTAT_PRECNT u) + 1
    if k < 2 ^ s.fld (TMR_UuCFG_PRE u) then .next (s.setFld (TMR_UuSTAT_PRECNT u) k)
    else
      let d := if s.fld (TMR_UuCFG_INSEL u) > 22 then 0 else filterDelay (s.fld (TMR_UuCFG_FILT u))
      .next (s.unitCapture u (s.countAgo (s.unitCnt u) d))

/-- A read of TMR_UuVAL (R385). -/
def State.valRead (s : State) (u : Nat) : Word × State :=
  let v := s.rd (TMR_UuVAL u)
  (v, if s.fld (TMR_UuCFG_MODE u) = 2 then s.clr (TMR_UuSTAT_CAPNEW u) else s)

/-- CAPTURE_READ (R385). -/
def execCaptureRead (u : Nat) (s : State) : Res :=
  if 32 ≤ u then .next s else .next { (s.valRead u).2 with rdata := (s.valRead u).1 }

/-! ### PPS (R388–R390) -/

/-- PPS_EDGE (R388, R389): an edge of the PPS input as EDGE selects it, after synchroniser and filter. -/
def execPpsEdge (s : State) : Res :=
  if !(s.flag TMR_PPSCFG_EN && s.clocked) then .next s
  else
    let guard := s.fld TMR_PPSCFG_GUARD
    let inside := match s.tmr.ppsLast with
      | none => false
      | some t => decide (s.clk.now < t + guard * 200000)
    if guard ≠ 0 && inside then .next ((s.inc TMR_PPSSTAT_GLITCH).set1 TMR_IRQ1_PPSGLITCH)
    else
      let valid := s.flag SEQ_STAT_NTVALID
      let back := if valid then ((filterDelay (s.fld TMR_PPSCFG_FILT) : Int) * ((2 ^ 32 : Nat) + s.rate)).toNat else 0
      let nt := (s.clk.nt - back) / 2 ^ 32 % 2 ^ 64
      let s : State := if s.flag TMR_PPSSTAT_CAPNEW then (s.inc TMR_PPSSTAT_OVR).set1 TMR_IRQ1_CAPOVR else s
      let s := (s.wr TMR_PPSNTLO (BitVec.ofNat 32 nt)).set1 TMR_PPSSTAT_CAPNEW
      let s : State := { s with tmr := { s.tmr with ppsLast := some s.clk.now, ppsHi := nt / 2 ^ 32 } }
      if !valid then .next ((s.inc TMR_PPSSTAT_DROP).set1 TMR_IRQ1_PPSDROP)
      else
        let s := s.set1 TMR_IRQ1_PPS
        if s.fld SEQ_TSRC_MODE = 1 then
          let want := (s.fld SEQ_GNSSSEC_SEC : Int) * 200000000 + s.sfld SEQ_TSRC_OFS
          let s := s.setFld SEQ_GNSSSEC_SEC ((s.fld SEQ_GNSSSEC_SEC + 1) % 2 ^ 32)
          .next { s with seq := { s.seq with sample := some ((nt : Int) - want) } }
        else .next s

/-- A read of TMR_PPSNTLO (R388): it latches the matching high half. -/
def State.ppsRead (s : State) : Word × State :=
  (s.rd TMR_PPSNTLO, (s.wr TMR_PPSNTHI (BitVec.ofNat 32 s.tmr.ppsHi)).clr TMR_PPSSTAT_CAPNEW)

/-- PPS_READ (R388). -/
def execPpsRead (s : State) : Res := .next { s.ppsRead.2 with rdata := s.ppsRead.1 }

/-! ### SLOWCNT (R391–R393) -/

/-- A read of TMR_SLOWLO (R391). -/
def State.slowRead (s : State) : Word × State :=
  (BitVec.ofNat 32 s.clk.slowcnt, s.wr TMR_SLOWHI (BitVec.ofNat 32 (s.clk.slowcnt / 2 ^ 32)))

/-- SLOWCNT_READ (R391). -/
def execSlowcntRead (s : State) : Res := .next { s.slowRead.2 with rdata := s.slowRead.1 }

/-- SLOWCNT compare `n`. -/
def State.scmp (s : State) (n : Nat) : SlowCmp := tblGet {} s.tmr.scmp n

/-- Set SLOWCNT compare `n` and show whether it is armed. -/
def State.setScmp (s : State) (n : Nat) (c : SlowCmp) : State :=
  ({ s with tmr := { s.tmr with scmp := tblPut {} s.tmr.scmp n c } } : State).setBool (TMR_SCMPCTL_ARMED.bit n) c.armed

/-- Arm SLOWCNT compare `n` at `v` (R392). -/
def State.scmpArm (s : State) (n v : Nat) : State :=
  let s := s.wr (TMR_SCMPnLO n) (BitVec.ofNat 32 v)
  s.setScmp n ⟨true, v⟩

/-- A write of TMR_SCMPnHI is staged (R392); compare 0 is the sequencer's (R393). -/
def State.scmpHiWrite (s : State) (n : Nat) (v : Word) : State :=
  if n = 0 then s.discard baseTMR else s.wr (TMR_SCMPnHI n) (BitVec.ofNat 32 (v.toNat % 2 ^ 16))

/-- A write of TMR_SCMPnLO arms the compare with the staged high part (R392). -/
def State.scmpLoWrite (s : State) (n : Nat) (v : Word) : State :=
  if n = 0 then s.discard baseTMR else s.scmpArm n ((s.rd (TMR_SCMPnHI n)).toNat % 2 ^ 16 * 2 ^ 32 + v.toNat)

/-- SLOW_COMPARE_ARM (R392, R393). -/
def execSlowCompareArm (n : Nat) (v : Word) (s : State) : Res := if 4 ≤ n then .next s else .next (s.scmpLoWrite n v)

/-- Is SLOWCNT compare `n` enabled (R393)? -/
def State.scmpOn (s : State) (n : Nat) : Bool :=
  if n = 0 then s.flag TMR_SCMPCTL_EN0 else bitAt (s.rd TMR_SCMPCTL).toNat n

/-- SLOWCNT compare `n` fires (R393). -/
def State.scmpFire (s : State) (n : Nat) : State :=
  let s := (s.set1 (TMR_SCMPCTL_FIRED.bit n)).set1 (TMR_IRQ1_SCMP.bit n)
  let s := s.setScmp n { (s.scmp n) with armed := false }
  if s.flag ICU_ALEN_SLOWCMP then s.latchSet 27 else s

/-- SLOW_COMPARE_FIRE (R392, R393): an armed and enabled compare fires at the ST edge at which R373 holds, or at once. -/
def execSlowCompareFire (n : Nat) (s : State) : Res :=
  if 4 ≤ n || !((s.scmp n).armed && s.scmpOn n) then .next s
  else
    let v := (s.scmp n).v
    if reached 48 s.clk.slowcnt v then .next (s.scmpFire n)
    else if s.clk.slowOn then .next ((s.advanceEdges ((v + 2 ^ 48 - s.clk.slowcnt) % 2 ^ 48)).scmpFire n)
    else .next s

/-- A write of TMR_PPSCFG (R388): EDGE 2 and 3 are reserved. -/
def State.ppsCfgWrite (s : State) (v : Word) : State :=
  if bitsOf v.toNat 2 1 > 1 then s.discard baseTMR else s.plainWrite TMR_PPSCFG v

end Sys2Proof.Machine
end

