-- ==== Sys2Proof/Machine/Reset.lean ====
section
/-! DEFINITION. Resets (R397–R401, R412) as shared operations: what each kind keeps, the cores at release, and FATAL
(R326). -/

namespace Sys2Proof.Machine
open Sys2Proof

/-! ### Banks (R412) -/

/-- The retention bank of an address, if it lies in SRAM. -/
def bankOf (a : Nat) : Option Nat :=
  if inRange 0x10000000 0x100fffff a 1 then some ((a - 0x10000000) / 0x40000)
  else if inRange 0x20000000 0x203fffff a 1 then some (4 + (a - 0x20000000) / 0x40000)
  else if inRange 0x20400000 0x204bffff a 1 then some (20 + (a - 0x20400000) / 0x40000)
  else if inRange 0x20500000 0x2053ffff a 1 then some 23
  else none

/-- Is a bank retained? Bank 23 always is, and the landing buffer never (R412). -/
def State.bankKept (s : State) (b : Nat) : Bool :=
  b == 23 || (decide (b < 20) && bitAt (s.fld PWR_RETAIN_BANK) b)

/-- Does memory at `a` keep its content without the core rail? -/
def State.kept (s : State) (a : Nat) : Bool :=
  match bankOf a with
  | some b => s.bankKept b
  | none => false

/-- The contents of banks that are not retained are lost: they read as memory that nothing has written. -/
def State.loseBanks (s : State) : State := { s with mem := s.mem.filter (fun (c : Nat × Byte) => s.kept c.1) }

/-- Every TYPE 2 PTE whose frame lies outside a retained bank returns to TYPE 1, and all TLBs are invalidated (R355). -/
def State.losePages (s : State) : State :=
  let s := s.mmu.frames.foldl (fun (s : State) e => if s.kept (frameBase e.1) then s else s.dropFrame e.1) s
  { s with mmu := { s.mmu with tlb := [] } }

/-! ### Cores (R329, R401) -/

/-- A core at release: every architectural state at its reset value, PC and VBASE under R329. -/
def State.freshCore (s : State) (c : CoreId) : Core :=
  let base : Word := match c with
    | .lc0 => 0x10000000
    | .lc1 => 0x10080000
    | .sc => BitVec.ofNat 32 (s.fld PWR_SCPC_ADDR * 256)
    | .kc => 0
  { st := .run, pc := base, vbase := base, ready := s.clk.now, cyc0 := s.clk.now }

/-- The active sources of a core end (R401). -/
def State.endActive (s : State) (c : CoreId) : State :=
  ({ s with icu := { s.icu with active := s.icu.active.filter (fun a => a.core != c) } } : State).showActive c

/-- A core is released: its task slots are EMPTY, its active sources end. -/
def State.releaseCore (s : State) (c : CoreId) : State :=
  let s := (s.setCore c (s.freshCore c)).endActive c
  let s : State := { s with tasks := tblDel s.tasks (coreNum c) }
  s.wr (MMU_TSTATc (coreNum c)) 0

/-- A core is held in reset. -/
def State.holdCore (s : State) (c : CoreId) : State := s.setCore c { st := .held }

/-- State of a core as PWR_CORESTAT shows it. -/
def CoreSt.num : CoreSt → Nat
  | .held => 0
  | .run => 1
  | .wait | .idle => 2
  | .fatal => 3

/-- PWR_CORESTAT as a read shows it. -/
def State.coreStat (s : State) : Word :=
  BitVec.ofNat 32 (allCores.foldl (fun n c => n + (s.core c).st.num * 4 ^ coreNum c) 0)

/-! ### What a reset keeps (R400) -/

/-- The new state with the registers that `keep` names as the old one has them. -/
def State.keepRegs (old new : State) (keep : Nat → Bool) : State :=
  let own := new.regs.filter (fun (e : Nat × Word) => !(keep e.1))
  let kept := old.regs.filter (fun (e : Nat × Word) => keep e.1)
  { new with regs := kept.foldl (fun l e => tblIns l e.1 e.2) own }

/-- Registers that a system reset keeps: the SLOWCNT compares, the power configuration, the log's HEAD, FIRST, ACK and
LOST, and SEQ_PLAN. -/
def keptAddr (a : Nat) : Bool :=
  [PWR_SADDLECFG, PWR_WAKEEN, PWR_RETAIN, PWR_CLKCFG, LOG_HEAD, LOG_FIRST, LOG_ACK, LOG_LOST, TMR_SCMPCTL].contains a ||
    (List.range 4).any (fun n => a == TMR_SCMPnLO n || a == TMR_SCMPnHI n) ||
    (decide (SEQ_PLANCMD ≤ a) && decide (a ≤ SEQ_PLANPK1))

/-- Registers that hold the log store's state (R514), kept by WAKE_FAIL too. -/
def logAddr (a : Nat) : Bool := [LOG_HEAD, LOG_FIRST, LOG_ACK, LOG_LOST].contains a

/-- The die and its tables, which no reset clears (R434): a program cut off by power loss leaves its page undefined, and
an erase is abandoned with its flag cell set. -/
def State.nandKept (s : State) (powerLost : Bool) : NandState :=
  let n := s.nand
  let pages := match n.cmd with
    | some k => if powerLost && k.started && k.op == 2 then tblIns n.pages (64 * k.block + k.page) .undef else n.pages
    | none => n.pages
  let gone := n.erases.map (fun e => e.2.block)
  let pages := pages.map (fun e => if gone.contains (e.1 / 64) then (e.1, NandPage.undef) else e)
  { n with pages := pages, erases := [], cmd := none, seqOwner := none, seqAt := 0, seqOp := 0, seqAddr := 0 }

/-- What the pager keeps in NAND: cluster copies, journal, header page. -/
def PagerState.durablePart (p : PagerState) : PagerState :=
  { store := p.store, pages := p.pages, jpages := p.jpages, headers := p.headers, storeSeq := p.storeSeq }

/-- What the update agent keeps in NAND: staging, of which whole verified blocks are programmed, and the settings by
generation. -/
def UpdState.durablePart (u : UpdState) : UpdState :=
  { stage := u.stage.map (fun g => { g with bytes := g.bytes.take (2048 * g.have_) }), gens := u.gens }

/-- The pins and supplies outside the device, and what the power controller knows of them. -/
def PwrState.outside (p : PwrState) : PwrState :=
  { nrstLow := p.nrstLow, vioLow := p.vioLow, vioRange33 := p.vioRange33, strapCompat := p.strapCompat,
    strapBoot := p.strapBoot, vinAt := p.vinAt, failDetail := p.failDetail }

/-- The pins as a reset leaves them: PAIR_ACT is released (R551). -/
def IcuState.outside (x : IcuState) : IcuState :=
  { pins := x.pins - (if bitAt x.pins 22 then 2 ^ 22 else 0) + (if x.pairExt then 2 ^ 22 else 0),
    stillRose := x.stillRose, pairExt := x.pairExt }

/-- The state every reset starts from: reset values, NAND and fuses, and the world outside. Of a commit in progress the pages
programmed by then stay; a program in progress completes unless power is lost (R240, R434); an OTP command leaves the bits
that had taken (R471). -/
def State.base (s : State) (powerLost : Bool) : State :=
  let s := (s.cutCommit (!powerLost)).otpCut
  { free := s.free, clk := { now := s.clk.now }, pwr := s.pwr.outside, icu := s.icu.outside,
    pager := s.pager.durablePart, nand := s.nandKept powerLost, otp := { words := s.otp.words },
    mmu := { store := s.mmu.store }, upd := s.upd.durablePart, facet := { free := List.range 2048 },
    kc := {}, pending := s.pending }

/-! ### The end of a reset -/

/-- The straps as sampled show in SYS_COMPAT (R398, R536). -/
def State.showStraps (s : State) : State :=
  s.wr SYS_COMPAT (BitVec.ofNat 32 ((if s.pwr.strapCompat then 3 else 0) + 16 * (s.pwr.strapBoot % 4)))

/-- The flag cells as NAND_BOOTSTAT shows them from the end of a power-on reset on (R434). -/
def State.showFlags (s : State) : State :=
  let f0 := tblFind s.nand.flags 0
  let f1 := tblFind s.nand.flags 1
  let s := (s.setBool NAND_BOOTSTAT_FLAG0 f0.isSome).setBool NAND_BOOTSTAT_FLAG1 f1.isSome
  s.setFld NAND_BOOTSTAT_LASTBLK (f1.getD (f0.getD 0))

/-- A reset ends: KC fetches from 0 on FRC, the TRNG runs its start-up test, and the log takes RESET with the cause, then
WAKE_FAIL, then what the AON queue holds (R397, R400, R456, R517). -/
def State.bootUp (s : State) : State :=
  let s : State := { s with pwr := { s.pwr with phase := .awake } }
  let cause := s.fld PWR_RSTCAUSE_CAUSE
  let s := (if cause < 4 then s.showFlags else s).trngTest.releaseCore .kc
  let held := s.log.aon
  let s : State := { s with log := { s.log with aon := [] } }
  let s := s.logPut 1 Code.RESET 0 cause
  let s := if cause = 3 then s.logPut 1 Code.WAKE_FAIL 0 s.pwr.failDetail else s
  held.foldl (fun (s : State) e => s.logEnqueue 1 e) s

/-- The Prism, the pool and the paths take the active plan as at a wake (R46, R91, R122). -/
def State.buildPlan (s : State) : State :=
  match s.activePlan with
  | none => s
  | some q => (((s.loadPower q .s).loadPower q .g).raysOfPlan q).placePlan q

/-! ### Power-on reset (R400) -/

/-- A power-on reset with its cause (R399): VIN below the UVLO threshold leaves the device off; after a brownout or a
failed wake the rails start again. -/
def State.powerOnReset (s : State) (cause : Nat) : State :=
  let s0 := s.base true
  let s1 : State := if cause = 3 then
      let t := State.keepRegs s s0 logAddr
      { t with log := { ring := s.log.ring, aon := s.log.aon, lostSince := s.log.lostSince } }
    else s0
  let s1 : State := { s1 with pwr := { s1.pwr with phase := if cause = 1 then .off else .softStart,
                                                   vinAt := s.clk.now } }
  s1.setFld PWR_RSTCAUSE_CAUSE cause

/-! ### System reset (R398, R400) -/

/-- Every queued entry is appended: the queue drains within 16 cycles (R516). -/
def State.logDrain (s : State) : State :=
  s.log.queue.foldl (fun (s : State) q =>
    let s := s.logLostFirst
    if s.logStopped then s.logLose else s.logStore q.ent) { s with log := { s.log with queue := [] } }

/-- What a system reset keeps. The packet last put on the Mirror link has been sent. -/
def State.systemKept (s : State) : State :=
  let s := s.logDrain
  let s0 := State.keepRegs s (s.base false) keptAddr
  let plan := { s.plan with phase := .idle, staging := [], stagingKey := [], moveS := false, moveG := false }
  let s0 : State := { s0 with
    clk := { s0.clk with slowOn := s.clk.slowOn, slowcnt := s.clk.slowcnt },
    tmr := { scmp := s.tmr.scmp },
    log := { ring := s.log.ring, aon := s.log.aon, lostSince := s.log.lostSince },
    plan := plan, acct := s.acct, mem := s.mem, mirror := { wire := s.mirror.wire } }
  let s0 := (s0.loseBanks).clr SEQ_PLANSTAT_BUSY
  let s0 := (s0.setFld PWR_VINMON_WARN (s.fld PWR_VINMON_WARN)).setFld PWR_VINMON_VIN (s.fld PWR_VINMON_VIN)
  let s0 := (s0.setBool PWR_STAT_SLOWOK s.clk.slowOn).setBool PWR_STAT_VINWARN (s.flag PWR_STAT_VINWARN)
  let s0 := (s0.setFld PWR_STAT_TEMP (s.fld PWR_STAT_TEMP)).setFld PWR_STAT_REFINT (s.fld PWR_STAT_REFINT)
  s0.setBool PWR_STAT_XREFOK (s.flag PWR_STAT_XREFOK)

/-- After a system reset the active plan that was kept is in force again: the paths take its DEFAULT windows. -/
def State.replan (s : State) : State :=
  match s.activePlan with
  | none => s
  | some q => let acct := s.acct; { s.activate q with acct := acct }

/-- A system reset with its cause (R399). While NRST is low, or VIO below 1.5 V, the device stays in reset. -/
def State.systemReset (s : State) (cause : Nat) : State :=
  let s1 := s.systemKept
  let s1 := (s1.setFld PWR_RSTCAUSE_CAUSE cause).showStraps
  let s1 : State := { s1 with pwr := { s1.pwr with
    xrefAt := if s.pwr.phase = .saddle || s.pwr.phase = .wake then s.clk.now + 2000 * s.fld PWR_CLKCFG_XSTAB else s.pwr.xrefAt,
    pllAt := s.clk.now, phase := .inReset } }
  let s1 := s1.replan
  if s1.pwr.nrstLow || s1.pwr.vioLow then s1 else s1.bootUp

/-! ### FATAL (R326, R401) -/

/-- A core takes FATAL: it stops fetching; FPC, ECAUSE and the log say why. On KC this is a system reset. -/
def State.coreFatal (s : State) (c : CoreId) (pc : Word) (vec : Nat) : State :=
  let x := s.core c
  let cause := BitVec.ofNat 32 (vec * 65536 + x.bankNo * 256 + 15)
  let s := s.setCore c { x with st := .fatal, fpc := pc, ecause := cause }
  let s := s.logPut 1 Code.CORE_FATAL (coreNum c + 256 * vec) pc.toNat
  if c = .kc then s.systemReset 7 else s

end Sys2Proof.Machine
end

