-- ==== Sys2Proof/Machine/Upd.lean ====
section
/-! DEFINITION. The meanings of the commands of firmware update, Ridgeline and fallback (chapter 16). -/

namespace Sys2Proof.Machine
open Sys2Proof

/-- A log entry of the update agent or the ROM: source 1 (R503). -/
def State.updLog (s : State) (code data : Nat) : State := s.logPut 1 code 0 data

/-! ### Boot image selection (R484–R487, R537) -/

/-- The UPD registers that the ROM writes before its jump (R485). -/
def State.bootRegs (s : State) (r : Bcr) (set_ status : Nat) : State :=
  let s := (s.setBool UPD_BOOT_TRIAL (r.state == 1)).setFld UPD_BOOT_TRIES r.tries
  let s := (s.setFld UPD_BOOT_SET set_).setFld UPD_BOOT_STATUS status
  (s.setFld UPD_GENOLD_GEN r.genold).setFld UPD_GENNEW_GEN (if r.state = 1 then (r.genold + 1) % 2 ^ 32 else 0)

/-- The KC component of a head. -/
def ImgHead.kc (h : ImgHead) : Option ImgComp := h.comps.find? (fun c => c.typ == 1)

/-- What boot(s) finds of set `i` (R485): its status and, where it may boot, the stream's bytes. -/
def State.bootCheck (s : State) (i : Nat) : Nat × List Byte × State :=
  let f := s.imageBytes i 0 7
  let h := headOf f.1
  let nh := headBlocks h.headlen
  let l := f.1.take (2048 * nh)
  let st := f.2.headCheck l
  if st ≠ Code.OK then (st, [], f.2)
  else
    let n := nh + h.nlist + ((h.kc.map ImgComp.past).getD 0)
    let b := f.2.imageBytes i 0 n
    let from_ := nh + h.nlist + ((h.kc.map (·.first)).getD 0)
    if streamOk b.1 nh h.nlist && streamOk b.1 from_ (n - from_) then (Code.OK, b.1, b.2) else (Code.UPD_HASH, [], b.2)

/-- Anti-rollback counter `n` is raised to `level` (R470, R485, R497). -/
def State.raiseArb (s : State) (n level : Nat) : State :=
  (List.range 64).foldl (fun (s : State) i =>
    if i < level && !(s.pairBlown n i) then s.otpBlow (80 + 4 * n + i / 16) (BitVec.ofNat 32 (3 * 4 ^ (i % 16))) else s) s

/-- Every counter is raised to its ARBTGT. -/
def State.raiseAll (s : State) (r : Bcr) : State :=
  (List.range 8).foldl (fun (s : State) n => s.raiseArb n (r.arbtgt.getD n 0)) s

/-- Set `i` boots (R485): measurements, counters of a confirmed boot, the UPD registers, and the jump to LOAD. -/
def State.bootJump (s : State) (r : Bcr) (i : Nat) (l : List Byte) (status : Nat) : State :=
  let h := headOf l
  match h.kc with
  | none => s
  | some c =>
    let img := (l.drop (2048 * (headBlocks h.headlen + h.nlist + c.first))).take c.len
    let s := s.memPut c.load img
    let s := (s.extend 0 (shake256 (signedHead l) 32)).extend 0 (shake256 img 32)
    let s := if r.state = 0 then s.raiseAll r else s
    let s := s.bootRegs r i status
    let s := if s.pwr.strapBoot = 2 then s.setFld SYS_DBGCTL_LEVEL 1 else s
    { s with kc := { s.kc with pc := BitVec.ofNat 32 c.load } }

/-- A trial is reverted (R484). -/
def State.bootRevert (s : State) (r : Bcr) (data : Nat) : Bcr × State :=
  let r := { r with state := 0 }
  (r, (s.writeBcr r).updLog Code.UPD_REVERTED data)

/-- The trial timer is armed (R496). -/
def State.armTrial (s : State) (secs : Nat) : State :=
  let s := (s.setFld UPD_TRIAL_SECS secs).set1 UPD_TRIAL_RUN
  { s with upd := { s.upd with expireAt := some ((s.clk.slowcnt + 32768 * secs) % 2 ^ 48) } }

/-- Recovery (R487, R537): NO_IMAGE, RECOV, and HIF on. -/
def State.enterRecovery (s : State) (r : Bcr) (status : Nat) : State :=
  let s := (s.bootRegs r (s.fld UPD_BOOT_SET) status).set1 UPD_BOOT_RECOV
  (s.updLog Code.NO_IMAGE 0).set1 HIF_CTRL_EN

/-- The set to fall back to: the confirmed one after a failed trial, else the other (R484). -/
def State.bootFallback (s : State) (r : Bcr) (status : Nat) : State :=
  if r.state = 1 then
    let v := s.bootRevert r 3
    let b := v.2.bootCheck v.1.active
    if b.1 = Code.OK then b.2.2.bootJump v.1 v.1.active b.2.1 status else b.2.2.enterRecovery v.1 b.1
  else
    let i := 1 - r.active
    let b := s.bootCheck i
    if b.1 = Code.OK then
      let r := { r with active := i }
      (b.2.2.writeBcr r).bootJump r i b.2.1 status
    else b.2.2.enterRecovery r b.1

/-- The first set tried (R484). -/
def State.bootFirst (s : State) (r : Bcr) : State :=
  let i := if r.state = 1 then 1 - r.active else r.active
  let b := s.bootCheck i
  if b.1 = Code.OK then b.2.2.bootJump r i b.2.1 Code.OK else b.2.2.bootFallback r b.1

/-- Boot image selection (R484). -/
def State.bootSelect (s : State) : State :=
  let r := s.bcr
  if r.state = 1 then
    if s.flag UPD_BOOT_TEXP then
      let v := s.bootRevert r 1
      v.2.bootFirst v.1
    else if 3 ≤ r.tries then
      let v := s.bootRevert r 2
      v.2.bootFirst v.1
    else
      let r := { r with tries := r.tries + 1 }
      ((s.writeBcr r).armTrial r.trials).bootFirst r
  else s.bootFirst r

/-- Is KC in the boot ROM? -/
def State.inRom (s : State) : Bool := !(s.flag UPD_BOOT_ROMEXIT) && s.kc.st == .run && s.clocked

/-- BOOT_SELECT (R484, R485, R537): the ROM selects and starts a set; the strap RECOVERY leaves it to that command, and 3 is
taken as NORMAL and logged. -/
def execBootSelect (s : State) : Res :=
  if s.inRom && !(s.flag UPD_BOOT_RECOV) && s.pwr.strapBoot != 1 then
    .next (if s.pwr.strapBoot = 3 then s.updLog Code.BOOTSEL_RSVD 0 else s).bootSelect
  else .next s

/-- RECOVERY (R487, R537): the strap asks for it. -/
def execRecovery (s : State) : Res :=
  if s.inRom && !(s.flag UPD_BOOT_RECOV) && s.pwr.strapBoot == 1 then .next (s.enterRecovery s.bcr Code.OK) else .next s

/-! ### Activation (R495) -/

/-- Is this the status of a NAND operation that failed: a code of the pager's and NAND's range (R15)? -/
def nandFails (die : Nat) : Bool := decide (0x40 ≤ die) && decide (die ≤ 0x5f)

/-- A code that is never emitted: one received marks a corrupted item, which is discarded whole (R15, R17). -/
def codeCorrupt (code : Nat) : Bool := decide (0xe0 ≤ code)

/-- Does the PLAN component's own ARB field (R156) equal its entry's (R479)? `l` is the stream. -/
def planArbOk (l : List Byte) : Bool :=
  let h := headOf l
  let data := headBlocks h.headlen + h.nlist
  h.comps.all (fun c => c.typ != 4 || octLe l (2048 * (data + c.first) + 16) 1 == c.arb)

/-- The steps of ACTIVATE up to the BCR write: refusal states, erase, copy with every block verified as read from staging;
`die` is what a failing NAND operation ends with. A stream that is not complete is refused. -/
def State.install (s : State) (die : Nat) : Nat × State :=
  match s.upd.stage with
  | none => (Code.UPD_REFUSED, s)
  | some g =>
    if s.updRefused || !(g.complete) then (Code.UPD_REFUSED, s)
    else
      let to_ := 1 - s.bcr.active
      let s := (s.imageBlocks to_).foldl (fun (s : State) b =>
        if tblGet 0 s.nand.nextPage b = 0 then s else s.agentErase b) s
      let b := s.imageBytes 2 0 g.total
      let h := b.2.headCheck (b.1.take (2048 * g.nh))
      if nandFails die then (die, b.2)
      else if h ≠ Code.OK then (h, b.2)
      else if !(streamOk b.1 g.nh (g.nlist + g.ndata)) then (Code.UPD_HASH, b.2)
      else if !(planArbOk b.1) then (Code.UPD_FORMAT, b.2)
      else (Code.OK, b.2.programStream to_ 0 b.1 (ceilDiv g.total 2))

/-- The TRIAL record is written and the device resets (R495). -/
def State.startTrial (s : State) : State :=
  let r := s.bcr
  let id := (s.upd.stage.map (·.setid)).getD (zeros 8)
  let r := ({ r with state := 1, tries := 0, trials := s.settings.trials } : Bcr).withSetid (1 - r.active) id
  (s.writeBcr r).systemReset 5

/-- ACTIVATE: its refusal code, or the trial begins (R495). -/
def State.activateSet (s : State) (die : Nat) : Nat × State :=
  let r := s.install die
  if r.1 = Code.OK then (Code.OK, r.2.startTrial) else r

/-- ACTIVATE (R495) as the agent runs it; `die` is the status of a NAND operation that fails, OK where none does. -/
def execActivate (die : Nat) (s : State) : Res := .next (s.activateSet die).2

/-- A host block by either generation (R494); in recovery a complete stream is activated at once (R487). -/
def State.updBlock (s : State) (ofs : Nat) (data : List Byte) (die : Nat) : Nat × State :=
  let r := s.hostBlock ofs data
  if r.1 = Code.OK && r.2.flag UPD_BOOT_RECOV && r.2.stageDone then r.2.activateSet die else r

/-! ### The trial (R496–R498) -/

/-- The trial timer stops. -/
def State.trialStop (s : State) : State :=
  (({ s with upd := { s.upd with expireAt := none } } : State).clr UPD_TRIAL_RUN).clr UPD_TRIAL_SECS

/-- A lockstep message (R555). -/
def State.pairMsg (s : State) (msg : Nat) (setid rest : List Byte) : State :=
  s.mirSend 5 (.raw (leBytes 1 msg ++ setid ++ rest)) none

/-- SETID of the set under trial. -/
def State.trialSetid (s : State) : List Byte := s.bcr.setid (1 - s.bcr.active)

/-- A trial expiry: a system reset of its own that sets TEXP (R496, R504); in a pair the partner is told (R501). -/
def State.trialExpire (s : State) : State :=
  ((if s.onTrial then s.pairMsg 8 s.trialSetid [] else s).systemReset 5).set1 UPD_BOOT_TEXP

/-- A write of UPD_TRIAL.SECS by `r` (R496, R504). -/
def State.trialArm (s : State) (r : Requester) (secs : Nat) : State :=
  if r != .core .kc || s.flag UPD_BOOT_ROMEXIT || secs = 0 || 65535 < secs then s.discard baseSYS else s.armTrial secs

/-- TRIAL_ARM (R496). -/
def execTrialArm (r : Requester) (secs : Nat) (s : State) : Res := .next (s.trialArm r secs)

/-- A write of UPD_TRIAL.STOP by `r` (R496): an expiry at the same ST edge wins. -/
def State.trialStopWrite (s : State) (r : Requester) : State :=
  if r != .core .kc then s.discard baseSYS
  else match s.upd.expireAt with
    | none => s
    | some v => if reached 48 s.clk.slowcnt v then s.trialExpire else s.trialStop

/-- TRIAL_STOP (R496). -/
def execTrialStop (r : Requester) (s : State) : Res := .next (s.trialStopWrite r)

/-- TRIAL_EXPIRE (R496): SECS × 32,768 ST have passed, in Saddle too. -/
def execTrialExpire (s : State) : Res :=
  match s.upd.expireAt with
  | none => .next s
  | some v =>
    if reached 48 s.clk.slowcnt v then .next s.trialExpire
    else if s.clk.slowOn then .next (s.advanceEdges ((v + 2 ^ 48 - s.clk.slowcnt) % 2 ^ 48)).trialExpire
    else .next s

/-- Does each core released under R401 run? -/
def State.coresRun (s : State) : Bool := allCores.all (fun c => (s.core c).st != .fatal)

/-- Is the trial set healthy (R497)? `plansOk` says that every PLAN component was loaded with OK, `migrated` that the settings
were migrated. -/
def State.trialHealthy (s : State) (plansOk migrated : Bool) : Bool :=
  s.onTrial && s.coresRun && plansOk && s.flag PAGER_STAT_READY && migrated

/-- The levels of a set's counters (R480). -/
def headLevels (h : ImgHead) : List Nat :=
  (List.range 8).map (fun n =>
    if n = 0 then h.arb else (h.comps.filter (fun c => c.ctr == n)).foldl (fun m c => max m c.arb) 0)

/-- The steps of CONFIRM in their order (R497). -/
def State.confirmSet (s : State) : State :=
  let r := s.bcr
  let new := (r.genold + 1) % 2 ^ 32
  let s : State := { s with upd := { s.upd with gens := tblIns s.upd.gens new s.settings } }
  let i := 1 - r.active
  let lv := headLevels (headOf (s.imageBytes i 0 7).1)
  let r := { r with active := i, state := 0, genold := new,
                    arbtgt := (List.range 8).map (fun n => max (r.arbtgt.getD n 0) (lv.getD n 0)) }
  (((s.writeBcr r).raiseAll r).trialStop).updLog Code.UPD_CONFIRMED 0

/-- Does a partner confirm with this member in lockstep (R501)? A survivor completes its trial alone. -/
def State.inLockstep (s : State) : Bool := s.pairStandby || (s.pairActive && s.mirror.peer.any (fun x => x.role == 2))

/-- CONFIRM where the trial set is healthy; it waits while VIN is below UPD_VMIN (R489, R497), and in a pair for the partner
(R501). -/
def State.confirmIf (s : State) (plansOk migrated : Bool) : State :=
  if s.trialHealthy plansOk migrated && !s.vinLow && !s.inLockstep then s.confirmSet else s

/-- CONFIRM (R497). -/
def execConfirm (plansOk migrated : Bool) (s : State) : Res := .next (s.confirmIf plansOk migrated)

/-- DECLINE (R498). -/
def State.declineSet (s : State) : State :=
  if s.onTrial then ((s.writeBcr { s.bcr with state := 0 }).updLog Code.UPD_DECLINED 0).systemReset 5 else s

/-- DECLINE (R498); in a pair the partner is told (R501). -/
def execDecline (s : State) : Res :=
  if s.onTrial then .next (s.pairMsg 8 s.trialSetid []).declineSet else .next s

/-! ### Ridgeline (R490–R493) -/

/-- A message outside its format is dropped and counted (R490). -/
def State.rlDrop (s : State) : State := { s with upd := { s.upd with dropped := s.upd.dropped + 1 } }

/-- Is a message of type `typ` within R490, as far as its common octets and its length say? -/
def rlFmt (m : List Byte) (typ : Nat) : Bool :=
  let n := if typ = 1 then 24 else if typ = 2 then 20 else if typ = 3 then 20 + octLe m 18 2 else 16
  octLe m 0 1 == 0xa7 && octLe m 1 1 == typ && octLe m 2 2 == 0 && m.length == n

/-- SETID of a message. -/
def rlSetid (m : List Byte) : List Byte := (m.drop 4).take 8

/-- The fragments of a block from octet `o` on (R490). -/
def rlFrags (setid : List Byte) (idx frag : Nat) (block : List Byte) (o : Nat) : Nat → List (List Byte)
  | 0 => []
  | n + 1 =>
    let d := (block.drop o).take frag
    if d.isEmpty then []
    else (rlHead 3 setid ++ leBytes 4 idx ++ leBytes 2 o ++ leBytes 2 d.length ++ d) :: rlFrags setid idx frag block (o + frag) n

/-- A held REQUEST is served (R492): the blocks asked for below HAVE in ascending order, at most CREDIT of them. -/
def State.rlServe (s : State) (nb : Nat) : State :=
  match tblFind s.upd.reqs nb, s.upd.stage with
  | some q, some g =>
    let n := if q.setid = g.setid then min q.credit (g.have_ - q.from_) else 0
    let s := (List.range n).foldl (fun (s : State) i =>
      let k := q.from_ + i
      (rlFrags g.setid k q.frag ((g.bytes.drop (2048 * k)).take 2048) 0 33).foldl (fun (s : State) f => s.rlSend nb f) s) s
    let left := q.credit - n
    { s with upd := { s.upd with reqs := if left = 0 then tblDel s.upd.reqs nb
                                         else tblIns s.upd.reqs nb { q with from_ := q.from_ + n, credit := left } } }
  | _, _ => s

/-- Every held REQUEST is served as far as HAVE goes. -/
def State.rlServeAll (s : State) : State := (s.upd.reqs.map (·.1)).foldl (fun (s : State) nb => s.rlServe nb) s

/-- The held set as an ANNOUNCE tells it (R490, R491). -/
def State.announceMsg (s : State) : List Byte :=
  match s.upd.stage with
  | some g => rlHead 1 g.setid ++ leBytes 4 g.setver ++ leBytes 4 g.total ++ leBytes 4 g.have_
  | none => rlHead 1 (zeros 8) ++ zeros 12

/-- RIDGELINE_ANNOUNCE_SEND (R491): an own turn toward neighbour `nb`, after a change of HAVE or 60 s. -/
def execRidgelineAnnounceSend (nb : Nat) (s : State) : Res :=
  let due := match tblFind s.upd.annAt nb with
    | none => true
    | some t => t.2 != s.have_ || decide (t.1 + 60 * 200000000 ≤ s.clk.now)
  if due && !(s.flag UPD_BOOT_RECOV) && decide (nb ≤ 32) then
    .next (({ s with upd := { s.upd with annAt := tblIns s.upd.annAt nb (s.clk.now, s.have_) } } : State).rlSend nb s.announceMsg)
  else .next s

/-- A received ANNOUNCE (R490, R493). -/
def State.rlAnnounce (s : State) (nb : Nat) (m : List Byte) : State :=
  if !(rlFmt m 1) then s.rlDrop
  else
    let p := s.rlPeer nb
    let q : RlPeer := if p.setid = rlSetid m then p else { p with setid := rlSetid m, idle := 0 }
    let s := s.setRlPeer nb { q with setver := octLe m 12 4, ntotal := octLe m 16 4, have_ := octLe m 20 4 }
    if s.upd.src.isNone then s.rlNext none else s

/-- A received REQUEST (R490, R492, R493). -/
def State.rlAsked (s : State) (nb : Nat) (m : List Byte) : State :=
  let credit := octLe m 16 2
  let frag := octLe m 18 2
  if !(rlFmt m 2) || credit = 0 || 64 < credit || frag < 64 || 2048 < frag then s.rlDrop
  else
    let serves := s.upd.stage.any (fun g => g.setid == rlSetid m && decide (octLe m 12 4 < g.have_))
    if s.updRefused && !serves then s.rlSend nb (rlHead 4 (rlSetid m) ++ leBytes 1 Code.UPD_REFUSED ++ zeros 3)
    else
      ({ s with upd := { s.upd with reqs := tblIns s.upd.reqs nb ⟨rlSetid m, octLe m 12 4, credit, frag⟩ } } : State).rlServe nb

/-- A block from neighbour `nb` failed (R493): the third failure for its SETID ends requests to it. -/
def State.rlFail (s : State) (nb : Nat) : State :=
  let p := s.rlPeer nb
  let q := { p with fails := p.setid :: p.fails }
  let s := s.setRlPeer nb (if 2 ≤ p.failed then q.shun else q)
  if 2 ≤ p.failed then
    let s := s.rlSend nb (rlHead 4 p.setid ++ leBytes 1 Code.UPD_BADPEER ++ zeros 3)
    (s.updLog Code.UPD_BADPEER nb).rlNext none
  else s.rlNext none

/-- The index of the next block wanted of neighbour `nb`: past the blocks of an unverified head held from it. -/
def State.rlNextIdx (s : State) (nb : Nat) : Nat := s.haveOf (s.rlPeer nb).setid + s.upd.rlHead.length / 2048

/-- A block of a head that is not verified yet; the last one brings it before R481 and R488. In a refusal state nothing more is
requested (R489). -/
def State.rlHeadBlock (s : State) (nb : Nat) (b : List Byte) : State :=
  let l := s.upd.rlHead ++ b
  if l.length < 2048 * headBlocks (octLe l 8 4) then { s with upd := { s.upd with rlHead := l } }
  else
    let s : State := { s with upd := { s.upd with rlHead := [] } }
    if setidOf l ≠ (s.rlPeer nb).setid then s.rlFail nb
    else
      let r := s.headIn l []
      if r.1 = Code.OK then r.2.rlServeAll.rlNext none
      else if r.1 = Code.UPD_REFUSED then r.2.rlNext none
      else r.2.rlFail nb

/-- A whole block of neighbour `nb` (R492, R493). -/
def State.rlBlockIn (s : State) (nb : Nat) (b : List Byte) : State :=
  match s.upd.stage with
  | some g =>
    if g.setid ≠ (s.rlPeer nb).setid then s.rlHeadBlock nb b
    else if blockOk g.bytes g.have_ b then
      let s := s.setStage (some { g with bytes := g.bytes.take (2048 * g.have_) ++ b, have_ := g.have_ + 1 })
      s.stageSync.rlServeAll.rlNext none
    else s.rlFail nb
  | none => s.rlHeadBlock nb b

/-- A received BLOCK fragment (R490, R492): of LEN 1 to the FRAG asked for, in order, from the neighbour asked, of the block
wanted. -/
def State.rlBlock (s : State) (nb : Nat) (m : List Byte) : State :=
  let idx := octLe m 12 4
  let ofs := octLe m 16 2
  let len := octLe m 18 2
  let frag := (s.rlPeer nb).frag
  if !(rlFmt m 3) || len = 0 || 2048 < ofs + len || (frag ≠ 0 && frag < len) then s.rlDrop
  else if s.upd.src ≠ some nb || rlSetid m ≠ (s.rlPeer nb).setid || idx ≠ s.rlNextIdx nb then s
  else
    let s := s.setRlPeer nb { (s.rlPeer nb) with idle := 0 }
    let held := match s.upd.frag with
      | some f => if f.1 = idx then f.2 else []
      | none => []
    if ofs ≠ held.length then s
    else
      let b := held ++ m.drop 20
      if b.length < 2048 then { s with upd := { s.upd with frag := some (idx, b) } }
      else ({ s with upd := { s.upd with frag := none } } : State).rlBlockIn nb b

/-- A received REFUSE (R493): no more requests to that neighbour for its SETID. A CODE that is never emitted marks a corrupted
message (R17). -/
def State.rlRefused (s : State) (nb : Nat) (m : List Byte) : State :=
  if !(rlFmt m 4) || octLe m 13 3 != 0 || codeCorrupt (octLe m 12 1) then s.rlDrop
  else if rlSetid m ≠ (s.rlPeer nb).setid then s
  else
    let s := s.setRlPeer nb (s.rlPeer nb).shun
    if s.upd.src = some nb then s.rlNext (some nb) else s

/-- Does Ridgeline run, and is the neighbour one of the 32 or the Mirror partner (R487)? -/
def State.rlOn (s : State) (nb : Nat) : Bool := !(s.flag UPD_BOOT_RECOV) && decide (nb ≤ 32)

/-- ANNOUNCE, REQUEST, BLOCK and REFUSE (R490–R493): message `m` from neighbour `nb`. -/
def execAnnounce (nb : Nat) (m : List Byte) (s : State) : Res := .next (if s.rlOn nb then s.rlAnnounce nb m else s)
def execRequest (nb : Nat) (m : List Byte) (s : State) : Res := .next (if s.rlOn nb then s.rlAsked nb m else s)
def execBlock (nb : Nat) (m : List Byte) (s : State) : Res := .next (if s.rlOn nb then s.rlBlock nb m else s)
def execRefuse (nb : Nat) (m : List Byte) (s : State) : Res := .next (if s.rlOn nb then s.rlRefused nb m else s)

/-- A Ridgeline message by its TYPE (R490); a reserved TYPE is dropped and counted. -/
def State.rlMessage (s : State) (nb : Nat) (m : List Byte) : State :=
  match octLe m 1 1 with
  | 1 => s.rlAnnounce nb m
  | 2 => s.rlAsked nb m
  | 3 => s.rlBlock nb m
  | 4 => s.rlRefused nb m
  | _ => s.rlDrop

/-! ### The pair in lockstep (R501, R555) -/

/-- Replace the lockstep sequence. -/
def State.setLock (s : State) (l : Option Lockstep) : State := { s with upd := { s.upd with lock := l } }

/-- A member prepares (R501): R489 and R495 up to the BCR write, for the SETID that it must hold verified. -/
def State.pairInstall (s : State) (setid : List Byte) (die : Nat) : Nat × State :=
  if s.upd.stage.any (fun g => g.setid == setid) then s.install die else (Code.UPD_REFUSED, s)

/-- PREPARE (R501): the active, `own`, sends it at least 1 s ahead of T, whose low 32 bits are `t`; the standby that receives
it answers READY or REFUSE. -/
def State.pairPrepare (s : State) (own : Bool) (setid : List Byte) (t die : Nat) : State :=
  let at_ := (timeOf32 s.sqt t).toNat
  if own then
    if !s.pairActive || decide (at_ < s.sqt + 1000000) then s
    else
      let s := s.pairMsg 1 setid (leBytes 4 t)
      let r := s.pairInstall setid die
      if r.1 = Code.OK then r.2.setLock (some { setid := setid, t := at_, own := true, ready := true })
      else r.2.pairMsg 4 setid []
  else if !s.pairStandby then s
  else
    let r := s.pairInstall setid die
    if r.1 = Code.OK then
      (r.2.setLock (some { setid := setid, t := at_, own := false, ready := true, peerReady := true })).pairMsg 2 setid []
    else r.2.pairMsg 3 setid (leBytes 1 r.1)

/-- PREPARE (R501). -/
def execPrepare (own : Bool) (setid : List Byte) (t die : Nat) (s : State) : Res :=
  if setid.length = 8 then .next (s.pairPrepare own setid t die) else .next s

/-- The lockstep sequence of a SETID, if it is the one that runs. -/
def State.lockOf (s : State) (setid : List Byte) : Option Lockstep :=
  s.upd.lock.bind (fun l => if l.setid = setid then some l else none)

/-- The sequence ends in ABORT: staging is kept, nothing changed (R501). -/
def State.pairAbort (s : State) (tell : Bool) : State :=
  match s.upd.lock with
  | none => s
  | some l => (if tell then s.pairMsg 4 l.setid [] else s).setLock none

/-- READY (R501, R555): one that comes later than T − 100 ms ends the sequence. -/
def State.pairReady (s : State) (setid : List Byte) : State :=
  match s.lockOf setid with
  | some l =>
    if l.own && !l.peerReady && decide (l.t < s.sqt + 100000) then s.pairAbort true
    else s.setLock (some { l with peerReady := true })
  | none => s

def execReady (setid : List Byte) (s : State) : Res := .next (s.pairReady setid)

/-- PAIR_REFUSE (R17, R501, R555). -/
def State.pairRefuse (s : State) (setid : List Byte) : State :=
  if (s.lockOf setid).isSome then s.pairAbort true else s

def execPairRefuse (setid : List Byte) (code : Nat) (s : State) : Res :=
  if codeCorrupt code then .next s else .next (s.pairRefuse setid)

/-- ABORT (R501). -/
def State.pairAborted (s : State) (setid : List Byte) : State :=
  if (s.lockOf setid).isSome then s.pairAbort false else s

def execAbort (setid : List Byte) (s : State) : Res := .next (s.pairAborted setid)

/-- READY_DEADLINE (R501): no READY by T − 100 ms. -/
def execReadyDeadline (s : State) : Res :=
  match s.upd.lock with
  | some l => if l.own && !l.peerReady && !l.trial then .next ((s.advanceSqt (l.t - 100000)).pairAbort true) else .next s
  | none => .next s

/-- PAIR_RESET_TIME (R501): at T both READY members write the BCR and reset; otherwise ABORT. -/
def execPairResetTime (s : State) : Res :=
  match s.upd.lock with
  | some l =>
    if l.trial then .next s
    else
      let s := s.advanceSqt l.t
      if l.ready && l.peerReady then .next s.startTrial else .next (s.pairAbort true)
  | none => .next s

/-- The lockstep state of a trial. -/
def State.trialLock (s : State) : Lockstep :=
  match s.upd.lock with
  | some l => if l.trial then l else { setid := s.trialSetid, t := 0, own := s.pairActive, trial := true }
  | none => { setid := s.trialSetid, t := 0, own := s.pairActive, trial := true }

/-- The active sends COMMIT once both are HEALTHY (R501). -/
def State.pairCommit (s : State) (l : Lockstep) : State :=
  let s := s.setLock (some l)
  if s.pairActive && l.healthy && l.peerHealthy then s.pairMsg 6 l.setid [] else s

/-- HEALTHY received (R501). -/
def State.pairHealthy (s : State) (setid : List Byte) : State :=
  if s.onTrial && s.trialSetid = setid then s.pairCommit { s.trialLock with peerHealthy := true } else s

/-- HEALTHY (R501, R555): this member, `own`, meets R497 and says so, or its partner does. -/
def execHealthy (own : Bool) (setid : List Byte) (plansOk migrated : Bool) (s : State) : Res :=
  if own then
    if s.trialHealthy plansOk migrated && s.trialSetid = setid then
      .next ((s.pairMsg 5 setid []).pairCommit { s.trialLock with healthy := true })
    else .next s
  else .next (s.pairHealthy setid)

/-- COMMIT (R501): the standby confirms and replies CONFIRMED. -/
def State.pairCommitted (s : State) (setid : List Byte) : State :=
  if s.onTrial && s.trialSetid = setid && s.trialLock.healthy && !s.vinLow then (s.confirmSet.pairMsg 7 setid []).setLock none
  else s

def execCommit (setid : List Byte) (s : State) : Res := .next (s.pairCommitted setid)

/-- CONFIRMED (R501): the active confirms. -/
def State.pairConfirmed (s : State) (setid : List Byte) : State :=
  if s.onTrial && s.trialSetid = setid && s.trialLock.healthy && !s.vinLow then s.confirmSet.setLock none else s

def execConfirmed (setid : List Byte) (s : State) : Res := .next (s.pairConfirmed setid)

/-- PAIR_DECLINE (R501): the partner declined, or its timer expired; this member declines at once. -/
def State.pairDeclined (s : State) (setid : List Byte) : State := if s.trialSetid = setid then s.declineSet else s

def execPairDecline (setid : List Byte) (s : State) : Res := .next (s.pairDeclined setid)

/-- An UPDATE message of the partner (R555): Ridgeline from neighbour 32, or a lockstep message; `die` as for ACTIVATE. -/
def State.pairUpdate (s : State) (m : List Byte) (die : Nat) : State :=
  let id := (m.drop 1).take 8
  match octLe m 0 1, m.length with
  | 0xa7, _ => if s.rlOn 32 then s.rlMessage 32 m else s
  | 1, 13 => s.pairPrepare false id (octLe m 9 4) die
  | 2, 9 => s.pairReady id
  | 3, 10 => if codeCorrupt (octLe m 9 1) then s.rlDrop else s.pairRefuse id
  | 4, 9 => s.pairAborted id
  | 5, 9 => s.pairHealthy id
  | 6, 9 => s.pairCommitted id
  | 7, 9 => s.pairConfirmed id
  | 8, 9 => s.pairDeclined id
  | _, _ => s.rlDrop

end Sys2Proof.Machine
end

