-- ==== Sys2Proof/Machine/Hif.lean ====
section
/-! DEFINITION. The meanings of the HIF commands (chapter 18, R524–R536, R561). -/

namespace Sys2Proof.Machine
open Sys2Proof

/-! ### Gen-2 (R525–R530) -/

/-- STAT (R525). -/
def execStat (s : State) : Res :=
  if s.hifOn 1 then
    let unread := (s.hif.slots.filter (fun e => e.2.done && !e.2.read)).length
    let done := (s.hif.slots.filter (fun e => e.2.done)).length
    .next (s.hifResp ([2, 8 - s.hif.slots.length, done, unread, s.hif.events.length, 0, s.fld HIF_CNT_FRMERR,
      s.fld HIF_CNT_DROPPED].flatMap (leBytes 1)))
  else .next s

/-- OP values that no one serves (R533), those that recovery leaves out among them (R537). -/
def State.opRsvd (s : State) (op : Nat) : Bool :=
  if s.flag UPD_BOOT_RECOV then !(0x12 ≤ op && op ≤ 0x14) else !((0x10 ≤ op && op ≤ 0x14) || 0x80 ≤ op)

/-- A command frame is accepted into slot `j` (R527, R532). -/
def State.hifAccept (s : State) (j : Nat) (frame : List Byte) : State :=
  let tag := octLe frame 0 1
  let op := octLe frame 1 1
  let dup := s.hif.slots.any (fun e => e.2.tag == tag)
  let x : HifSlot := { tag := tag, op := op, len := octLe frame 2 2 }
  if dup then s.setHifSlot j { x with hw := some Code.HIF_TAGDUP, done := true }
  else if s.opRsvd op then s.setHifSlot j { x with hw := some Code.HIF_BADOP, done := true }
  else
    let s := (s.memPut (s.hifSlotAt j) (frame.take (frame.length - 4))).setHifSlot j x
    ({ s with hif := { s.hif with cmdq := s.hif.cmdq ++ [j] } } : State).set1 HIF_IRQ_CMD

/-- CMD (R527): a command frame with its CRC. -/
def execCmd (frame : List Byte) (s : State) : Res :=
  if !(s.hifOn 1) then .next s
  else if octLe frame 0 1 = 0 || 4088 < octLe frame 2 2 || frame.length ≠ 8 + octLe frame 2 2 || !(crcHolds frame) then
    .next (s.inc HIF_CNT_FRMERR)
  else match lowestFree (fun j => tblHas s.hif.slots j) 8 0 with
    | none => .next (s.inc HIF_CNT_DROPPED)
    | some j => .next (s.hifAccept j frame)

/-- A result frame of eight octets without payload. -/
def shortResult (tag status flags : Nat) : List Byte :=
  withCrc (leBytes 1 tag ++ leBytes 1 status ++ leBytes 1 flags ++ leBytes 5 0)

/-- The result frame of a completed slot (R526, R528, R532): HIF writes FLAGS and the CRC. -/
def State.resultFrame (s : State) (j : Nat) (x : HifSlot) : List Byte :=
  let flags := if x.read then 1 else 0
  match x.hw with
  | some st => shortResult x.tag st flags
  | none =>
    let b := s.memBytes (s.hifSlotAt j) (8 + min 4088 (s.memLe (s.hifSlotAt j + 4) 2))
    withCrc (b.take 2 ++ leBytes 1 flags ++ b.drop 3)

/-- RES (R528). -/
def execRes (tag : Nat) (s : State) : Res :=
  if !(s.hifOn 1) then .next s
  else match s.hifDone tag with
    | some (j, x) => .next ((s.hifResp (s.resultFrame j x)).setHifSlot j { x with read := true })
    | none =>
      let held := s.hif.slots.any (fun e => e.2.tag == tag)
      .next (s.hifResp (shortResult tag (if held then Code.NOT_READY else Code.HIF_NOTAG) 0))

/-- ACK (R529). -/
def execAck (tag : Nat) (s : State) : Res :=
  if !(s.hifOn 1) then .next s
  else match s.hifDone tag with
    | some (j, _) =>
      .next ((({ s with hif := { s.hif with slots := tblDel s.hif.slots j } } : State).showHif).set1 HIF_IRQ_ACK)
    | none => .next (s.inc HIF_CNT_BADACK)

/-- The frame of a held event (R526, R530). -/
def State.eventFrame (s : State) (e : HifEvent) : List Byte :=
  let b := s.memBytes (s.hifEventAt e.ent) 62
  let n := min 56 (octLe b 2 1)
  let flags := (if e.read then 1 else 0) + (if e.lost then 2 else 0)
  withCrc (leBytes 2 e.seq ++ b.take 1 ++ leBytes 1 flags ++ (b.drop 2).take (4 + n))

/-- EVT (R530). -/
def execEvt (s : State) : Res :=
  if !(s.hifOn 1) then .next s
  else match s.hif.events with
    | [] => .next (s.hifResp (withCrc (leBytes 2 0 ++ leBytes 1 Code.NOT_READY ++ leBytes 5 0)))
    | e :: t =>
      let s := s.hifResp (s.eventFrame e)
      .next { s with hif := { s.hif with events := { e with read := true } :: t } }

/-- EVACK (R530): every held event up to SEQ is retired. -/
def execEvack (seq : Nat) (s : State) : Res :=
  if !(s.hifOn 1) then .next s
  else if s.hif.events.any (fun e => e.seq == seq) then
    let left := s.hif.events.filter (fun e => !(reached 16 seq e.seq))
    .next (({ s with hif := { s.hif with events := left } } : State).showHif.set1 HIF_IRQ_EVACK)
  else .next (s.inc HIF_CNT_BADACK)

/-- HIF_RESERVED_OPCODE (R525): every opcode but 0x01 to 0x06, bit 6 aside. -/
def execHifReservedOpcode (op : Nat) (s : State) : Res :=
  let x := op % 256 - (if bitAt op 6 then 64 else 0)
  if s.hifOn 1 && !(1 ≤ x && x ≤ 6) then .next (s.inc HIF_CNT_FRMERR) else .next s

/-! ### Firmware's side (R532, R561) -/

/-- A read of HIF_CMDQ. -/
def State.cmdqRead (s : State) : Word × State :=
  match s.hif.cmdq with
  | [] => (0, s)
  | j :: t => (BitVec.ofNat 32 (2 ^ 31 + j), { s with hif := { s.hif with cmdq := t } })

/-- HIF_CMDQ_READ (R532). -/
def execHifCmdqRead (s : State) : Res := .next { s.cmdqRead.2 with rdata := s.cmdqRead.1 }

/-- HIF_POST_RESULT (R532): a write of HIF_POST with EV = 0. -/
def execHifPostResult (j : Nat) (s : State) : Res := .next (s.hifPost (j % 8))

/-- A write of HIF_POST with EV = 1 (R530). -/
def State.hifEvent (s : State) : State :=
  if 64 ≤ s.hif.events.length then
    ({ s with hif := { s.hif with lost := true } } : State).inc HIF_CNT_EVLOST
  else
    let h := s.fld HIF_STAT_EVHEAD
    let e : HifEvent := { seq := s.hif.nextSeq, ent := h, lost := s.hif.lost }
    let s : State := { s with hif := { s.hif with events := s.hif.events ++ [e], lost := false,
                                                  nextSeq := (s.hif.nextSeq + 1) % 65536 } }
    (s.setFld HIF_STAT_EVHEAD ((h + 1) % 64)).showHif

/-- HIF_POST_EVENT (R530). -/
def execHifPostEvent (s : State) : Res := .next s.hifEvent

/-- HIF_CNTCLR (R561). -/
def State.hifCntclr (s : State) : State := s.wr HIF_CNT 0

def execHifCntclr (s : State) : Res := .next s.hifCntclr

/-! ### The operations of the update agent (R533) -/

/-- The settings as SET_WRITE's payload gives them, where it is in range. -/
def readSettings (b : List Byte) : Option UpdSettings :=
  let vmin := octLe b 0 2
  let lock := octLe b 2 1
  let hold := octLe b 4 2
  let trials := octLe b 6 2
  if b.length = 8 && 90 ≤ vmin && vmin ≤ 600 && lock ≤ 1 && octLe b 3 1 = 0 && hold ≤ 3600 && 1 ≤ trials then
    some { vmin := vmin, lock := lock == 1, hold := hold, trials := trials }
  else none

/-- The octets of the settings. -/
def UpdSettings.octets (x : UpdSettings) : List Byte :=
  leBytes 2 x.vmin ++ leBytes 1 (if x.lock then 1 else 0) ++ leBytes 1 0 ++ leBytes 2 x.hold ++ leBytes 2 x.trials

/-- Settings are written to the current generation (R499): a trial writes GENOLD + 1, and a confirmed set first erases
generations above its own. -/
def State.putSettings (s : State) (x : UpdSettings) : State :=
  if s.onTrial then { s with upd := { s.upd with gens := tblIns s.upd.gens (s.fld UPD_GENNEW_GEN) x } }
  else
    let g := s.bcr.genold
    { s with upd := { s.upd with gens := tblIns (s.upd.gens.filter (fun e => decide (e.1 ≤ g))) g x } }

/-- SET_WRITE (R533) in slot `j`. -/
def execSetWrite (j : Nat) (s : State) : Res :=
  match s.hifTake j 0x10 with
  | none => .next s
  | some (b, s) =>
    match readSettings b with
    | some x => .next ((s.putSettings x).hifAnswer j Code.OK [])
    | none => .next (s.hifAnswer j Code.HIF_BADARG [])

/-- SET_READ (R533). -/
def execSetRead (j : Nat) (s : State) : Res :=
  match s.hifTake j 0x11 with
  | none => .next s
  | some (_, s) => .next (s.hifAnswer j Code.OK s.settings.octets)

/-- UPD_BLOCK (R494, R533); `die` is the status of a NAND operation that fails in recovery's activation. -/
def execUpdBlock (j die : Nat) (s : State) : Res :=
  match s.hifTake j 0x12 with
  | none => .next s
  | some (b, s) =>
    if b.length < 5 then .next (s.hifAnswer j Code.HIF_BADARG [])
    else
      let r := s.updBlock (octLe b 0 4) (b.drop 4) die
      .next (r.2.hifAnswer j r.1 [])

/-- UPD_ACTIVATE (R495, R533): one that succeeds resets the device, and the slot is gone. -/
def execUpdActivate (j die : Nat) (s : State) : Res :=
  match s.hifTake j 0x13 with
  | none => .next s
  | some (_, s) =>
    let r := s.activateSet die
    .next (r.2.hifAnswer j r.1 [])

/-- UPD_STATUS (R533): of a head that is being received, the bytes received are its own. -/
def execUpdStatus (j : Nat) (s : State) : Res :=
  match s.hifTake j 0x14 with
  | none => .next s
  | some (_, s) =>
    let g := s.upd.stage.getD { setid := zeros 8 }
    let n := if s.upd.inHead.isEmpty then g.bytes.length else s.upd.inHead.length
    .next (s.hifAnswer j Code.OK (g.setid ++ leBytes 4 n ++ leBytes 4 g.setver ++ leBytes 4 (s.rd UPD_BOOT).toNat))

/-- FIRMWARE_OP (R533): firmware answers the command of OP 0x80–0xFF in slot `j`. -/
def execFirmwareOp (j status : Nat) (payload : List Byte) (s : State) : Res :=
  match s.hifSlot j with
  | none => .next s
  | some x =>
    if x.op < 0x80 || codeCorrupt status || 4088 < payload.length then .next s
    else match s.hifTake j x.op with
      | none => .next s
      | some (_, s) => .next (s.hifAnswer j status payload)

/-! ### Gen-1 (R534, R535) -/

/-- A mailbox word. -/
def State.g1Box (s : State) (a : Nat) : Nat :=
  if a % 2 = 0 then s.fld (HIF_G1WINn_LO (a / 2)) else s.fld (HIF_G1WINn_HI (a / 2))

/-- The value of a window address, RXFIFO's pop apart. -/
def State.g1Value (s : State) (a : Nat) : Nat :=
  match a with
  | 0x00 => 0x6128
  | 0x01 => 0x8512
  | 0x10 => s.hif.g1rx.headD 0
  | 0x11 => 0
  | 0x12 => min 255 s.hif.g1rx.length * 256 + min 255 (512 - s.hif.g1tx.length)
  | 0x20 => s.hif.g1ofs % 65536
  | 0x21 => s.hif.g1ofs / 65536
  | 0x22 => s.hif.g1len
  | 0x23 => 0
  | 0x24 => (match s.hif.g1done with
    | some st => 0x8000 + st
    | none => 0)
  | 0x3e => s.hif.g1irq
  | 0x3f => 1
  | _ => s.g1Box a

/-- The address after one word (R534). -/
def g1Next (a : Nat) : Nat := if a = 0x10 || a = 0x11 then a else (a + 1) % 64

/-- In recovery only addresses 0x00–0x24 are served (R537). -/
def State.g1Serves (s : State) (a : Nat) : Bool := !(s.flag UPD_BOOT_RECOV) || decide (a ≤ 0x24)

/-- `n` words are read from address `a`. -/
def State.g1Read (s : State) (a : Nat) : Nat → List Nat × State
  | 0 => ([], s)
  | n + 1 =>
    let v := if s.g1Serves a then s.g1Value a else 0
    let s := if a = 0x10 then { s with hif := { s.hif with g1rx := s.hif.g1rx.drop 1 } } else s
    let r := s.g1Read (g1Next a) n
    (v :: r.1, r.2)

/-- G1_READ (R534): command word `cmd`, then `n` words; a reserved bit set makes it ignored and counted. -/
def execG1Read (cmd n : Nat) (s : State) : Res :=
  if !(s.hifOn 0) || !(bitAt cmd 15) then .next s
  else if bitsOf cmd 14 6 ≠ 0 then .next (s.inc HIF_CNT_FRMERR)
  else
    let r := s.g1Read (cmd % 64) n
    .next (r.2.hifResp (r.1.flatMap (fun w => leBytes 1 (w / 256) ++ leBytes 1 w)))

/-- The host block that the update registers describe (R535): LEN octets from TXFIFO words, high byte first. -/
def State.g1Block (s : State) (die : Nat) : State :=
  let len := s.hif.g1len
  let k := ceilDiv len 2
  if len = 0 || 256 < len || s.hif.g1tx.length < k then
    { s with hif := { s.hif with g1done := some Code.HIF_BADARG } }
  else
    let b := ((s.hif.g1tx.take k).flatMap (fun w => leBytes 1 (w / 256) ++ leBytes 1 w)).take len
    let s : State := { s with hif := { s.hif with g1tx := s.hif.g1tx.drop k } }
    let r := s.updBlock s.hif.g1ofs b die
    { r.2 with hif := { r.2.hif with g1done := some r.1 } }

/-- ACTIVATE through the window (R535). -/
def State.g1Activate (s : State) (die : Nat) : State :=
  let r := s.activateSet die
  if r.1 = Code.OK then r.2 else { r.2 with hif := { r.2.hif with g1done := some r.1 } }

/-- G1_UPDATE_BLOCK (R535). -/
def execG1UpdateBlock (die : Nat) (s : State) : Res := if s.hifOn 0 then .next (s.g1Block die) else .next s

/-- G1_UPDATE_ACTIVATE (R535). -/
def execG1UpdateActivate (die : Nat) (s : State) : Res := if s.hifOn 0 then .next (s.g1Activate die) else .next s

/-- A request for generation `g`: PENDING follows, and the present generation cancels it (R536). -/
def State.compatReq (s : State) (g : Nat) : State :=
  let s := s.setFld SYS_COMPAT_REQ g
  s.setBool SYS_COMPAT_PENDING (s.fld SYS_COMPAT_REQ != s.fld SYS_COMPAT_GEN)

/-- A mailbox word is written by the host (R534). -/
def State.g1PutBox (s : State) (a w : Nat) : State :=
  let s := s.setFld (if a % 2 = 0 then HIF_G1WINn_LO (a / 2) else HIF_G1WINn_HI (a / 2)) w
  (s.set1 HIF_IRQ_G1WR).setFld HIF_STAT_G1ADDR a

/-- One word is written to address `a` (R534, R535). -/
def State.g1WriteWord (s : State) (a w die : Nat) : State :=
  if !(s.g1Serves a) then s
  else match a with
    | 0x00 | 0x01 | 0x10 | 0x12 | 0x24 => s
    | 0x11 =>
      if 512 ≤ s.hif.g1tx.length then s.inc HIF_CNT_DROPPED
      else { s with hif := { s.hif with g1tx := s.hif.g1tx ++ [w] } }
    | 0x20 => { s with hif := { s.hif with g1ofs := s.hif.g1ofs / 65536 * 65536 + w } }
    | 0x21 => { s with hif := { s.hif with g1ofs := s.hif.g1ofs % 65536 + 65536 * w } }
    | 0x22 => { s with hif := { s.hif with g1len := w } }
    | 0x23 => if w = 1 then s.g1Block die else if w = 2 then s.g1Activate die else s
    | 0x3e => { s with hif := { s.hif with g1irq := s.hif.g1irq - (s.hif.g1irq &&& w) } }
    | 0x3f => if w = 2 then s.compatReq 1 else s
    | _ => s.g1PutBox a w

/-- Words are written from address `a` on. -/
def State.g1Write (s : State) (a die : Nat) : List Nat → State
  | [] => s
  | w :: t => (s.g1WriteWord a (w % 65536) die).g1Write (g1Next a) die t

/-- G1_WRITE (R534). -/
def execG1Write (cmd : Nat) (words : List Nat) (die : Nat) (s : State) : Res :=
  if !(s.hifOn 0) || bitAt cmd 15 then .next s
  else if bitsOf cmd 14 6 ≠ 0 then .next (s.inc HIF_CNT_FRMERR)
  else .next (s.g1Write (cmd % 64) die words)

/-! ### Changing generation (R536) -/

/-- COMPAT_REQUEST (R536). -/
def execCompatRequest (g : Nat) (s : State) : Res := .next (s.compatReq (g % 2))

/-- Has the port drained (R536)? -/
def State.hifDrained (s : State) : Bool :=
  bitAt s.icu.pins 23 &&
    (if s.fld SYS_COMPAT_GEN = 1 then s.hif.slots.isEmpty else s.hif.g1rx.isEmpty && s.hif.g1tx.isEmpty)

/-- COMPAT_SWITCH (R536). -/
def execCompatSwitch (s : State) : Res :=
  if s.clocked && s.flag SYS_COMPAT_PENDING && s.hifDrained then
    let g := s.fld SYS_COMPAT_REQ
    let s := (s.setFld SYS_COMPAT_GEN g).clr SYS_COMPAT_PENDING
    let s : State := { s with hif := { s.hif with events := [] } }
    let s := (List.range 32).foldl (fun (s : State) n => s.wr (HIF_G1WINn n) 0) s.showHif
    .next ((s.set1 HIF_IRQ_SWITCHED).logPut 16 Code.COMPAT_SWITCH 0 g)
  else .next s

end Sys2Proof.Machine
end

