-- ==== Sys2Proof/Machine/Mirror.lean ====
section
/-! DEFINITION. The meanings of the MIRROR commands (chapter 18, R547–R558, R563). -/

namespace Sys2Proof.Machine
open Sys2Proof

/-- A MIRROR log entry: source 19, the partner's SERIAL low word as DATA (R519, R559). -/
def State.mirLog (s : State) (code : Nat) : State := s.logPut 19 code 0 ((s.mirror.peer.map (·.serial)).getD 0)

/-! ### Control (R550, R551, R563) -/

/-- EN is written 1 (R551): WAIT, PAIR_ACT released, PAIR_SW low, training. -/
def State.mirEnable (s : State) : State :=
  if s.flag MIRROR_CTRL_EN then s
  else
    let a := s.fresh
    let s : State := { a.2 with mirror := { rxFree := [8, 9, 10, 11, 12, 13, 14, 15], beatAt := s.clk.now + us 1000,
                                            actAt := s.mirror.actAt,
                                            solo := us 1000 * (s.fld MIRROR_CFG_SOLO + a.1 % 16) } }
    (((s.set1 MIRROR_CTRL_EN).setRole 1).pairDrive false).setFld MIRROR_STAT_LINK 1

/-- MIRROR_ENABLE (R551). -/
def execMirrorEnable (s : State) : Res := .next s.mirEnable

/-- EN is written 0 (R551): OFF, the pins released, PAIR_SW low; what the link held is gone. -/
def State.mirDisable (s : State) : State :=
  if s.flag MIRROR_CTRL_EN then
    let s := if s.pairActive then s.leaveActive 0 else s.pairDrive false
    let s : State := { s with mirror := { actAt := s.mirror.actAt } }
    (((s.clr MIRROR_CTRL_EN).wr MIRROR_STAT 0).clr PAGER_STAT_STANDBY).clr MIRROR_FWPOST_BUSY
  else s

/-- MIRROR_DISABLE (R551). -/
def execMirrorDisable (s : State) : Res := .next s.mirDisable

/-- MIRROR_CNTCLR (R563). -/
def State.mirCntclr (s : State) : State := s.wr MIRROR_CNT 0

def execMirrorCntclr (s : State) : Res := .next s.mirCntclr

/-- A write of KICK (R550). -/
def State.mirKick (s : State) : State := { s with mirror := { s.mirror with kickAt := some s.clk.now } }

/-- KICK (R550). -/
def execKick (s : State) : Res := .next s.mirKick

/-- KICK_LAPSE (R550, R551): KICKTO ms after the last KICK, or after the role was taken without one. -/
def execKickLapse (s : State) : Res :=
  if s.pairActive then .next (s.advanceTo s.kickEnd).kickLapse else .next s

/-- A write of RELEASE (R551): taken while the partner is STANDBY with FEEDLOST = 0. -/
def State.mirRelease (s : State) : State :=
  if s.pairActive && s.mirror.peer.any (fun x => x.role == 2 && !x.feedLost) then
    (s.leaveActive 1).mirLog Code.PAIR_HANDOVER
  else s

/-- RELEASE (R551). -/
def execRelease (s : State) : Res := .next s.mirRelease

/-! ### The link (R547–R549) -/

/-- LINK_UP (R547–R549): 16 consecutive aligned pairs; sequence numbers start again and the session value is drawn. -/
def execLinkUp (s : State) : Res :=
  if s.flag MIRROR_CTRL_EN && decide (s.fld MIRROR_STAT_LINK = 1) then
    let s : State := { s with mirror := { s.mirror with txSeq := 0, rxSeq := 0, unacked := [] } }
    .next ((s.newSession.setFld MIRROR_STAT_LINK 2).set1 MIRROR_IRQ_LINKUP)
  else .next s

/-- LINK_DOWN (R547, R548): the link falls to DOWN and retrains; unacknowledged packets are discarded and firmware buffers
among them released undelivered. -/
def execLinkDown (s : State) : Res :=
  if s.linkUp then
    let s : State := { s with mirror := { s.mirror with unacked := [], wire := none } }
    .next (((s.setFld MIRROR_STAT_LINK 1).set1 MIRROR_IRQ_LINKDOWN).clr MIRROR_FWPOST_BUSY)
  else .next s

/-- The ACK of what has been received in order (R548). -/
def State.mirAck (s : State) : State := s.mirWire ⟨7, 0, .raw (leBytes 4 s.mirror.rxSeq), none⟩

/-- A sequenced packet arrives (R548): one whose CRC or tag fails is discarded and counted; the next in order is taken by
`f`, any other only acknowledged again. -/
def State.mirTake (s : State) (seq : Nat) (ok : Bool) (f : State → State) : State :=
  if !s.linkUp then s
  else if !ok then s.inc MIRROR_CNT_CRCERR
  else if seq = s.mirror.rxSeq % (2 ^ 32 - 1) + 1 then
    (f { s with mirror := { s.mirror with rxSeq := seq } }).mirAck
  else s.mirAck

/-- A firmware packet is acknowledged: its buffer is free again (R548, R563). -/
def State.fwAcked (s : State) (b : Nat) : State := (s.clr (MIRROR_FWPOST_BUSY.bit b)).set1 MIRROR_IRQ_FWTX

/-- MIRROR_ACK (R548): every packet up to `seq` is acknowledged, and as many of those that waited behind 64 are sent. -/
def execMirrorAck (seq : Nat) (ok : Bool) (s : State) : Res :=
  if !s.linkUp then .next s
  else if !ok then .next (s.inc MIRROR_CNT_CRCERR)
  else
    let done := s.mirror.unacked.filter (fun k => reached 32 seq k.seq)
    let left := s.mirror.unacked.filter (fun k => !(reached 32 seq k.seq))
    let s := done.foldl (fun (s : State) k =>
      match k.buf with
      | some b => s.fwAcked b
      | none => s) s
    let at_ := if done.isEmpty then s.mirror.oldestAt else s.clk.now
    let sent := (left.drop (64 - done.length)).take done.length
    let wire := if sent.isEmpty then s.mirror.wire else sent.getLast?
    .next { s with mirror := { s.mirror with unacked := left, oldestAt := at_, wire := wire } }

/-- RETRANSMIT_TIMEOUT (R548): no ACK covers the oldest packet within 100 µs. -/
def execRetransmitTimeout (s : State) : Res :=
  match s.mirror.unacked with
  | [] => .next s
  | k :: _ =>
    if s.linkUp then
      let s := s.advanceTo (s.mirror.oldestAt + us 100)
      let s : State := { s with mirror := { s.mirror with oldestAt := s.clk.now } }
      .next ((s.mirWire k).inc MIRROR_CNT_RETX)
    else .next s

/-! ### Heartbeats and roles (R550–R553) -/

/-- HEARTBEAT_SEND (R550): every 1,000 µs; from an ACTIVE member only while KICK holds. -/
def execHeartbeatSend (s : State) : Res :=
  if s.flag MIRROR_CTRL_EN then
    let s := s.advanceTo s.mirror.beatAt
    let s : State := { s with mirror := { s.mirror with beatAt := s.clk.now + us 1000 } }
    if s.linkUp && (!s.pairActive || decide (s.clk.now < s.kickEnd)) then .next (s.mirWire ⟨1, 0, .raw s.beatBody, none⟩)
    else .next s
  else .next s

/-- What a heartbeat tells of the partner (R550). -/
def State.beatSeen (s : State) (x : PeerBeat) (nettime : Nat) : State :=
  let s : State := { s with mirror := { s.mirror with heardAt := some s.clk.now, peer := some x } }
  let s := (s.setMissed 0).setBool MIRROR_STAT_PEERACT (x.role == 3)
  s.setSat MIRROR_TOFS_OFS ((nettime : Int) + 40 - s.nettime)

/-- What a heartbeat does to the role (R551), and to a store copy (R554). -/
def State.beatRole (s : State) (x : PeerBeat) : State :=
  match s.fld MIRROR_STAT_ROLE with
  | 1 => if x.role = 1 && s.pairPrior x then s.pairClaim else s
  | 3 =>
    if x.role = 3 && !(s.pairPrior x) then ((s.leaveActive 1).mirLog Code.PAIR_DUAL).set1 MIRROR_IRQ_DUAL
    else if x.role = 2 && x.feedLost then (if s.mirror.copy then s else s.sendCopy)
    else { s with mirror := { s.mirror with copy := false } }
  | _ => s

/-- Does the heartbeat first show that the members came up on different sets, this one the older (R502)? -/
def State.pairMismatch (s : State) (x : PeerBeat) : Bool :=
  let own := s.ownSet
  own.1 != x.setid && decide (own.2 < x.setver) && decide (s.fld MIRROR_STAT_ROLE = 1) && s.mirror.peer.isNone

/-- HEARTBEAT (R550, R551): a valid heartbeat of the partner with its fields; `ok` says that its CRC holds. -/
def execHeartbeat (ok : Bool) (role flags serial : Nat) (setid : List Byte) (setver nettime feed : Nat) (s : State) : Res :=
  if !(s.flag MIRROR_CTRL_EN && s.linkUp) then .next s
  else if !ok then .next (s.inc MIRROR_CNT_CRCERR)
  else
    let x : PeerBeat := { role := role % 4, feedLost := bitAt flags 0, ready := bitAt flags 1, serial := serial,
                          setid := setid, setver := setver, feed := feed }
    let differ := s.pairMismatch x
    let s := s.beatSeen x nettime
    .next ((if differ then s.updLog Code.PAIR_MISMATCH 0 else s).beatRole x)

/-- HEARTBEAT_MISS (R550, R551): the next heartbeat has not come by due + 50 µs; the third miss in a row takes over, where
PAIR_ACT is sampled high. -/
def execHeartbeatMiss (s : State) : Res :=
  match s.mirror.heardAt with
  | none => .next s
  | some t =>
    if s.flag MIRROR_CTRL_EN then
      let n := s.mirror.missed + 1
      let s := s.advanceTo (t + us (1000 * n + 50))
      let s := ((s.setMissed n).set1 MIRROR_IRQ_HBMISS).inc MIRROR_CNT_HBMISS
      if n = 3 && s.fld MIRROR_STAT_ROLE = 2 then
        .next (if s.pairSampled then s.pairTakeover else s.mirLog Code.PAIR_LINKLOST)
      else .next s
    else .next s

/-- PAIR_ACT_TIMER (R551): 1,000 µs of PAIR_ACT low in WAIT, or high in STANDBY. -/
def execPairActTimer (s : State) : Res :=
  let t := max s.mirror.actAt s.mirror.roleAt + us 1000
  match s.fld MIRROR_STAT_ROLE with
  | 1 => if s.pairHigh then .next s else .next (s.advanceTo t).pairStand
  | 2 => if s.pairHigh then .next (s.advanceTo (s.mirror.actAt + us 1000)).pairTakeover else .next s
  | _ => .next s

/-- SOLO_TIMEOUT (R551): SOLO ms and the drawn delay pass in WAIT with no partner heartbeat, PAIR_ACT high. -/
def execSoloTimeout (s : State) : Res :=
  if s.fld MIRROR_STAT_ROLE = 1 && s.pairHigh then
    .next (s.advanceTo (max s.mirror.roleAt (s.mirror.heardAt.getD 0) + s.mirror.solo)).pairClaim
  else .next s

/-- TAKEOVER (R551, R553): where one of its causes holds. -/
def execTakeover (s : State) : Res :=
  if s.fld MIRROR_STAT_ROLE = 2 && s.pairSampled && (decide (s.mirror.actAt + us 1000 ≤ s.clk.now) || decide (3 ≤ s.mirror.missed))
  then .next s.pairTakeover
  else .next s

/-! ### Feed and store copy (R254, R255, R554) -/

/-- FEED (R255, R554): items of the active; `gone` says that those asked for are no longer kept. -/
def execFeed (seq : Nat) (ok gone : Bool) (items : List (Nat × FeedItem)) (s : State) : Res :=
  .next (s.mirTake seq ok (fun (s : State) =>
    if s.pairStandby then
      let s := if gone then s.feedGone ((items.map (·.1)).headD s.pager.feedExp) else s
      items.foldl (fun (s : State) e => s.feedItem e) s
    else s))

/-- FEEDREQ (R255): the items kept since `first` are sent again; where they are gone, what is kept, so marked. -/
def State.feedAgain (s : State) (first : Nat) : State :=
  let l := s.pager.feedHist.filter (fun e => reached 32 e.1 first)
  let have_ := first == s.pager.feedSeq || l.any (fun e => e.1 == first)
  s.mirSend 2 (.feed (!have_) l) none

def execFeedreq (seq : Nat) (ok : Bool) (first : Nat) (s : State) : Res :=
  .next (s.mirTake seq ok (fun (s : State) => if s.pairActive then s.feedAgain first else s))

/-- A cluster page of the copy is programmed; contexts that the feed changed since the copy began stay (R554). -/
def State.copyPage (s : State) (l : List (Nat × Ctx)) : State :=
  (l.filter (fun e => !(s.mirror.copyNew.contains e.1))).foldl (fun (s : State) e => s.applyContext e.1 e.2 false) s

/-- STORECOPY (R554): a header page (`head` with its seed and EPOCH) or a cluster page; the last ends the copy. -/
def execStorecopy (seq : Nat) (ok : Bool) (head : Option (Nat × Nat)) (ctxs : List (Nat × Ctx)) (last : Bool) (s : State) : Res :=
  .next (s.mirTake seq ok (fun (s : State) =>
    if s.pairStandby && s.mirror.copy then
      let s := match head with
        | some h =>
          let s := (s.wr MAC_HSEED (BitVec.ofNat 32 h.1)).wr PAGER_EPOCH (BitVec.ofNat 32 h.2)
          s.writeHeader h.1 h.2
        | none => s
      let new := s.mirror.copyNew
      let s := s.copyPage ctxs
      let s : State := { s with mirror := { s.mirror with copyNew := new } }
      if last then
        ({ s with mirror := { s.mirror with copy := false, copyNew := [] } } : State).clr PAGER_STAT_FEEDLOST
      else s
    else s))

/-- UPDATE (R555): a Ridgeline or lockstep message of the partner, which the agent takes. -/
def execUpdate (seq : Nat) (ok : Bool) (m : List Byte) (die : Nat) (s : State) : Res :=
  .next (s.mirTake seq ok (fun (s : State) => s.pairUpdate m die))

/-! ### Firmware packets (R548, R563) -/

/-- FIRMWARE_PACKET (R548): a packet of TYPE 0x80–0xFF goes into a free receive buffer, TYPE first; with none free it is not
taken, and the sender repeats it. -/
def execFirmwarePacket (seq : Nat) (ok : Bool) (typ : Nat) (body : List Byte) (s : State) : Res :=
  if typ < 0x80 || 0xff < typ || 4095 < body.length then .next s
  else
    match s.mirror.rxFree with
    | [] => if s.linkUp && ok && seq = s.mirror.rxSeq % (2 ^ 32 - 1) + 1 then .next s else .next (s.mirTake seq ok id)
    | b :: t =>
      .next (s.mirTake seq ok (fun (s : State) =>
        let s := s.memPut (s.fld MIRROR_FWBUF_BASE * 65536 + 4096 * b) (BitVec.ofNat 8 typ :: body)
        ({ s with mirror := { s.mirror with rxFree := t, rxq := s.mirror.rxq ++ [(b, body.length + 1)] } } : State).set1
          MIRROR_IRQ_FWRX))

/-- A write of MIRROR_FWPOST (R548, R563): while the link is not UP the buffer is released undelivered. -/
def State.fwPost (s : State) (v : Word) : State :=
  let b := bitsOf v.toNat 2 0
  let len := bitsOf v.toNat 20 8
  let a := s.fld MIRROR_FWBUF_BASE * 65536 + 4096 * b
  let typ := (s.memRd a).toNat
  if bitAt (s.fld MIRROR_FWPOST_BUSY) b || len = 0 || 4096 < len || !(typ == 5 || decide (0x80 ≤ typ)) then
    s.discard baseMIRROR
  else if s.linkUp then (s.set1 (MIRROR_FWPOST_BUSY.bit b)).mirSend typ (.raw (s.memBytes (a + 1) (len - 1))) (some b)
  else s

/-- FWPOST (R563). -/
def execFwpost (v : Word) (s : State) : Res := .next (s.fwPost v)

/-- A read of MIRROR_FWRXQ (R563). -/
def State.fwRead (s : State) : Word × State :=
  match s.mirror.rxq with
  | [] => (0, s)
  | e :: t => (BitVec.ofNat 32 (2 ^ 31 + e.2 * 65536 + e.1),
      { s with mirror := { s.mirror with rxq := t, rxFw := s.mirror.rxFw ++ [e.1] } })

/-- FWRXQ_READ (R563). -/
def execFwrxqRead (s : State) : Res := .next { s.fwRead.2 with rdata := s.fwRead.1 }

/-- A write of MIRROR_FWRXQ (R563): a buffer that firmware does not own is a reserved encoding. -/
def State.fwReturn (s : State) (v : Word) : State :=
  let b := bitsOf v.toNat 3 0
  if s.mirror.rxFw.contains b then
    { s with mirror := { s.mirror with rxFw := s.mirror.rxFw.erase b, rxFree := s.mirror.rxFree ++ [b] } }
  else s.discard baseMIRROR

/-- FWRXQ_RETURN (R563). -/
def execFwrxqReturn (v : Word) (s : State) : Res := .next (s.fwReturn v)

/-! ### Diversity (R556) -/

/-- The trunk sample count of a NETTIME (R264): the inverse of `ntOfTrunk`. -/
def State.trunkOfNt (s : State) (nt : Nat) : Nat :=
  let back : Int := (s.clk.nt : Int) - ((nt * 2 ^ 32 : Nat) : Int)
  (((s.clk.now : Int) - back / ((2 ^ 32 : Nat) + s.rate)) * 2 / 5).toNat

/-- The active takes the copy of a frame that its partner received: into a landing slot, and before its MAC as landed OK. -/
def State.divTake (s : State) (nt : Nat) (desc psdu : List Byte) : State :=
  match s.takeSlot with
  | none => s.inc MIRROR_CNT_DIVDROP
  | some (n, s) =>
    let a := slotAddr n
    let s := (s.memPut a (desc.take 32)).memPut (a + 32) psdu
    let s := (s.memPutLe (a + 2) 2 psdu.length).memPutLe (a + 8) 6 (s.trunkOfNt nt)
    let src := octLe desc 4 2
    let m : MacFrame := { facet := src % 512, phy := src / 1024 % 8, path := pathOf (src / 512 % 2), phase := .landed,
                          status := Code.OK, len := psdu.length, landAt := s.clk.now, tstamp := s.memLe (a + 8) 6,
                          copy := true }
    { s with mac := { s.mac with frames := tblIns s.mac.frames n m } }

/-- DIV_PACKET (R556). -/
def execDivPacket (seq : Nat) (ok : Bool) (nt : Nat) (desc psdu : List Byte) (s : State) : Res :=
  if desc.length = 32 && psdu.length ≤ 352 then
    .next (s.mirTake seq ok (fun (s : State) => if s.pairActive then s.divTake nt desc psdu else s))
  else .next s

end Sys2Proof.Machine
end

