-- ==== Sys2Proof/Machine/Net.lean ====
section
/-! DEFINITION. The meanings of the NET, UART and GPIO commands (chapter 18, R539–R546, R562). -/

namespace Sys2Proof.Machine
open Sys2Proof

/-! ### NET (R539, R540, R562) -/

/-- Octets in the RX FIFO. -/
def State.netUsed (s : State) : Nat := (s.net.rx.map (fun e => e.2.length)).sum + s.net.rxOut.length

/-- The NET_OVF entry of a second that has passed (R519). -/
def State.netFlush (s : State) : State :=
  match s.net.ovfAt with
  | some t =>
    if t + 200000000 ≤ s.clk.now then
      ({ s with net := { s.net with ovfAt := none, ovfN := 0 } } : State).logPut 17 Code.NET_OVF 0 s.net.ovfN
    else s
  | none => s

/-- A frame is dropped with NET_OVF. -/
def State.netDrop (s : State) : State :=
  let s := (s.inc NET_CNT_OVF).setFld NET_IRQ_IRQ (s.fld NET_IRQ_IRQ ||| 2)
  { s with net := { s.net with ovfAt := some (s.net.ovfAt.getD s.clk.now), ovfN := s.net.ovfN + 1 } }

/-- Is the frame addressed to this device, or to all (R539)? -/
def State.netMine (s : State) (frame : List Byte) : Bool :=
  let own := leBytes 4 (s.rd NET_MACLO).toNat ++ leBytes 2 (s.rd NET_MACHI).toNat
  s.flag NET_CTRL_PROMISC || frame.take 6 == own || frame.take 6 == List.replicate 6 0xff

/-- NET_RX_FRAME (R539): a frame without its FCS, and whether the FCS held. -/
def execNetRxFrame (frame : List Byte) (fcsOk : Bool) (s : State) : Res :=
  if !(s.flag NET_CTRL_EN && s.clocked) || 1518 < frame.length || !(s.netMine frame) then .next s
  else
    let s := s.netFlush
    if 8192 < s.netUsed + 1522 then .next s.netDrop
    else
      let s := if fcsOk then s else s.inc NET_CNT_FCS
      let e := (if fcsOk then Code.OK else Code.NET_FCS, frame)
      .next (({ s with net := { s.net with rx := s.net.rx ++ [e] } } : State).setFld NET_IRQ_IRQ (s.fld NET_IRQ_IRQ ||| 1))

/-- Octets padded with zeros to whole words. -/
def padWords (l : List Byte) : List Byte := l ++ List.replicate ((4 - l.length % 4) % 4) 0

/-- A read of NET_RXQ (R562): DMA reads the frame's octets next. -/
def State.rxqRead (s : State) : Word × State :=
  match s.net.rx with
  | [] => (0, s)
  | e :: t => (BitVec.ofNat 32 (2 ^ 31 + e.1 * 65536 + e.2.length),
      { s with net := { s.net with rx := t, rxOut := s.net.rxOut ++ padWords e.2 } })

/-- NET_RXQ_READ (R562). -/
def execNetRxqRead (s : State) : Res := .next { s.rxqRead.2 with rdata := s.rxqRead.1 }

/-- A write of NET_TXLEN (R562). -/
def State.txlenWrite (s : State) (v : Word) : State :=
  let n := bitsOf v.toNat 10 0
  if n = 0 || 1518 < n then s.discard baseNET else { s with net := { s.net with txLens := s.net.txLens ++ [n] } }

/-- NET_TXLEN_WRITE (R539). -/
def execNetTxlenWrite (v : Word) (s : State) : Res := .next (s.txlenWrite v)

/-- The 32 bits of a number in reverse order. -/
def rev32 (x : Nat) : Nat := (List.range 32).foldl (fun n i => 2 * n + (if x.testBit i then 1 else 0)) 0

/-- The frame check sequence of IEEE 802.3. -/
def fcs8023 (l : List Byte) : List Byte := leBytes 4 (rev32 (crc32 l ^^^ 0xffffffff))

/-- NET_TX_FRAME (R539): the whole frame is in the TX FIFO; padded to 60 octets and with its FCS it is sent. -/
def execNetTxFrame (s : State) : Res :=
  match s.net.txLens with
  | [] => .next s
  | n :: t =>
    let k := (n + 3) / 4 * 4
    if s.flag NET_CTRL_EN && s.clocked && decide (k ≤ s.net.tx.length) then
      let b := s.net.tx.take n ++ List.replicate (60 - n) 0
      .next (({ s with net := { s.net with txLens := t, tx := s.net.tx.drop k, sent := b ++ fcs8023 b } } : State).setFld
        NET_IRQ_IRQ (s.fld NET_IRQ_IRQ ||| 4))
    else .next s

/-- NET_CNTCLR (R562). -/
def State.netCntclr (s : State) : State := s.wr NET_CNT 0

def execNetCntclr (s : State) : Res := .next s.netCntclr

/-- A write of NET_MDIO (R562). -/
def State.mdioWrite (s : State) (v : Word) : State :=
  let op := bitsOf v.toNat 27 26
  if s.flag NET_MDIO_BUSY || op = 0 || op = 3 then s.discard baseNET
  else
    let s := (s.setFld NET_MDIO_DATA (bitsOf v.toNat 15 0)).set1 NET_MDIO_BUSY
    { s with net := { s.net with mdio := some (op == 2, s.clk.now + 5120) } }

/-- MDIO_ACCESS (R539). -/
def execMdioAccess (v : Word) (s : State) : Res := .next (s.mdioWrite v)

/-- MDIO_DONE (R539): 25.6 µs after its start; `data` is what a read returns. -/
def execMdioDone (data : Nat) (s : State) : Res :=
  match s.net.mdio with
  | none => .next s
  | some (rd, t) =>
    let s := ({ (s.advanceTo t) with net := { s.net with mdio := none } } : State).clr NET_MDIO_BUSY
    .next (if rd then s.setFld NET_MDIO_DATA data else s)

/-! ### UARTs (R541, R562) -/

/-- The octets of UART `u`. -/
def State.uart (s : State) (u : Nat) : UartState := if u = 0 then s.uart0 else s.uart1

/-- Replace them; the levels follow. -/
def State.setUart (s : State) (u : Nat) (x : UartState) : State :=
  let s : State := if u = 0 then { s with uart0 := x } else { s with uart1 := x }
  (s.setFld (UART_STATn_RXLVL u) x.rx.length).setFld (UART_STATn_TXLVL u) x.tx.length

/-- Set interrupt bit `b` of UART `u`. -/
def State.uartIrq (s : State) (u b : Nat) : State := s.setFld UART_IRQ_IRQ (s.fld UART_IRQ_IRQ ||| 2 ^ (4 * u + b))

/-- Does UART `u` run? Its line timing waits for SYSPLL. -/
def State.uartOn (s : State) (u : Nat) : Bool := decide (u < 2) && s.flag (UART_CFGn_EN u) && s.clk.pll && s.clocked

/-- UART_RX_OCTET (R541): an octet with its parity and framing errors. -/
def execUartRxOctet (u octet : Nat) (perr ferr : Bool) (s : State) : Res :=
  if !(s.uartOn u) then .next s
  else
    let x := s.uart u
    if 64 ≤ x.rx.length then .next ((s.inc (UART_STATn_OVR u)).uartIrq u 2)
    else
      let p := perr && s.fld (UART_CFGn_PARITY u) != 0
      let w := octet % 256 + (if p then 256 else 0) + (if ferr then 512 else 0)
      let s := (s.setUart u { x with rx := x.rx ++ [w] }).uartIrq u 0
      .next (if p || ferr then s.uartIrq u 3 else s)

/-- A read of UART_DATAn (R562). -/
def State.uartRead (s : State) (u : Nat) : Word × State :=
  let x := s.uart u
  match x.rx with
  | [] => (0, s)
  | w :: t => (BitVec.ofNat 32 (2 ^ 31 + w), s.setUart u { x with rx := t })

/-- UART_DATA_READ (R562). -/
def execUartDataRead (u : Nat) (s : State) : Res :=
  if u < 2 then .next { (s.uartRead u).2 with rdata := (s.uartRead u).1 } else .next s

/-- A write of UART_DATAn (R562). -/
def State.uartWrite (s : State) (u : Nat) (v : Word) : State :=
  let x := s.uart u
  if 64 ≤ x.tx.length then s.discard baseUART
  else
    let s := s.setUart u { x with tx := x.tx ++ [bitsOf v.toNat 7 0] }
    if s.flag (UART_CFGn_EN u) then s.set1 (UART_STATn_TXBUSY u) else s

/-- UART_DATA_WRITE (R562). -/
def execUartDataWrite (u : Nat) (v : Word) (s : State) : Res := if u < 2 then .next (s.uartWrite u v) else .next s

/-- Cycles of one octet on the line (R541): start, eight bits, parity, stop bits of DIV / 16 cycles each. -/
def State.uartCycles (s : State) (u : Nat) : Nat :=
  let bits := 10 + (if s.fld (UART_CFGn_PARITY u) = 0 then 0 else 1) + s.fld (UART_CFGn_STOP2 u)
  bits * s.fld (UART_CFGn_DIV u) / 16

/-- UART_TX_OCTET (R541): the oldest octet has been shifted out, or waits for CTS under flow control. -/
def execUartTxOctet (u : Nat) (cts : Bool) (s : State) : Res :=
  if !(s.uartOn u) then .next s
  else
    let s := s.setBool (UART_STATn_CTS u) cts
    let x := s.uart u
    match x.tx with
    | [] => .next s
    | _ :: t =>
      if s.flag (UART_CFGn_FLOW u) && !cts then .next s
      else
        let s := (s.advance (s.uartCycles u)).setUart u { x with tx := t }
        .next (if t.isEmpty then (s.clr (UART_STATn_TXBUSY u)).uartIrq u 1 else s.set1 (UART_STATn_TXBUSY u))

/-! ### GPIO (R544, R381) -/

/-- A write of GPIO_OUT. -/
def State.gpioOut (s : State) (n : Nat) : State := (s.setFld GPIO_OUT_OUT n).gpioSettle

/-- Writes of GPIO_SET and GPIO_CLR. -/
def State.gpioSet (s : State) (v : Word) : State := s.gpioOut (s.fld GPIO_OUT_OUT ||| bitsOf v.toNat 19 0)
def State.gpioClr (s : State) (v : Word) : State :=
  s.gpioOut (s.fld GPIO_OUT_OUT - (s.fld GPIO_OUT_OUT &&& bitsOf v.toNat 19 0))

/-- GPIO_SET (R544). -/
def execGpioSet (v : Word) (s : State) : Res := .next (s.gpioSet v)

/-- GPIO_CLR (R544). -/
def execGpioClr (v : Word) (s : State) : Res := .next (s.gpioClr v)

/-- The bits of a GPIO_TOUTSET or GPIO_TOUTCLR write that take effect: an OUT action of the same cycle wins (R381). -/
def State.toutBits (s : State) (v : Word) : Nat :=
  (setBits 32 v.toNat).foldl (fun n u => if tblFind s.tmr.outAt u = some s.clk.now then n else n + 2 ^ u) 0

/-- Writes of GPIO_TOUTSET and GPIO_TOUTCLR. -/
def State.toutSet (s : State) (v : Word) : State :=
  (s.setFld GPIO_TOUT_TOUT (s.fld GPIO_TOUT_TOUT ||| s.toutBits v)).gpioSettle
def State.toutClr (s : State) (v : Word) : State :=
  (s.setFld GPIO_TOUT_TOUT (s.fld GPIO_TOUT_TOUT - (s.fld GPIO_TOUT_TOUT &&& s.toutBits v))).gpioSettle

/-- GPIO_TOUTSET (R381, R544). -/
def execGpioToutset (v : Word) (s : State) : Res := .next (s.toutSet v)

/-- GPIO_TOUTCLR (R381, R544). -/
def execGpioToutclr (v : Word) (s : State) : Res := .next (s.toutClr v)

end Sys2Proof.Machine
end

