-- ==== Sys2Proof/Machine/PwrOps.lean ====
section
/-! DEFINITION. Operations of the power controller (chapter 13): refusal votes (R405), the sequencer's wake compare (R300),
and the steps of Saddle entry and of a wake, block by block (R406–R410). -/

namespace Sys2Proof.Machine
open Sys2Proof

/-! ### The sequencer's next wake (R299, R300) -/

/-- The start of a record's next occurrence and its prefetch announcement, in sequencer microseconds. -/
def State.recWakes (s : State) (r : SchedRec) : List Nat :=
  match r.nextFrom s.sqt with
  | none => []
  | some t => if r.kind = 2 && !r.announced then [t, t - 1000 * s.fld PAGER_CFG_LOOKAHEAD] else [t]

/-- The next hop boundary of each sequence that a LIVE ray follows. -/
def State.hopWakes (s : State) : List Nat :=
  match s.activePlan with
  | none => []
  | some q => (q.rays.filter (fun r => (s.ray r.path r.ray).st == .live)).filterMap (fun r =>
      (r.hop.bind q.hop).bind (fun h =>
        if h.hopMs = 0 then none else some ((s.sqt / (1000 * h.hopMs) + 1) * (1000 * h.hopMs))))

/-- The LBT measurements still to start. -/
def State.lbtWakes (s : State) : List Nat := s.seq.approved.filterMap (fun r => r.lbtDue.map Int.toNat)

/-- The earliest of the events of R300, in sequencer microseconds. -/
def State.nextEvent (s : State) : Option Nat :=
  if s.flag SEQ_CTRL_RUN then
    ((s.seq.recs.flatMap (fun e => s.recWakes e.2)) ++ s.hopWakes ++ s.lbtWakes).foldl (fun b t =>
      match b with
      | none => some t
      | some u => some (min t u)) none
  else none

/-- SLOWCNT of the last ST edge at or before sequencer microsecond `t`, mapped through R (R265), from the last edge. -/
def State.slowAt (s : State) (t : Nat) : Int :=
  let ahead : Int := ((200 * t * 2 ^ 32 : Nat) : Int) - s.clk.nt
  s.clk.slowcnt + ahead / (s.seq.ratio : Int)

/-- The wake compare of R300, if anything is due. -/
def State.wakeSlow (s : State) : Option Nat :=
  s.nextEvent.map (fun t => unsignedOf 48 (s.slowAt t - s.fld SEQ_WAKECFG_LEAD))

/-- The sequencer arms SLOWCNT compare 0 and shows it in SEQ_WAKE (R300, R393). -/
def State.armWake (s : State) : State :=
  match s.wakeSlow with
  | none => s
  | some v =>
    let s := ((s.wr SEQ_WAKE (BitVec.ofNat 32 v)).wr (TMR_SCMPnHI 0) (BitVec.ofNat 32 (v / 2 ^ 32))).scmpArm 0 v
    s.set1 TMR_SCMPCTL_EN0

/-! ### Refusal votes (R405) -/

/-- Vote of a core (R345, R371). -/
def State.coreVote (s : State) (c : CoreId) : Bool :=
  let x := s.core c
  if x.st = .held || x.st = .fatal then false
  else (x.st == .run && x.bankNo != 0) || !(s.pendingOf c).isEmpty ||
    ((s.tasksOf c).slots.any (fun e => e.2.st == slotReady || e.2.st == slotRun || e.2.st == slotWaitPage))

/-- Vote of DMA (R351), with the firmware jobs and lattice operations of R472 and the OTP command of R471. -/
def State.dmaVote (s : State) : Bool :=
  (List.range 16).any (fun n => let st := s.fld (DMA_CHnSTAT_STATE n); st == 1 || st == 2) ||
    s.cipher.jobs.any (fun j => j.run.isSome) || s.lat.cur.isSome || !s.lat.wait.isEmpty || s.otp.cmd.isSome

/-- Vote of the pager and the page engine (R257, R355). -/
def State.pagerVote (s : State) : Bool :=
  !s.pager.wants.isEmpty || s.pager.commit.isSome || s.pager.cmd.isSome ||
    s.mac.frames.any (fun e => e.2.phase == .parked) || !s.mmu.fetches.isEmpty || !s.mmu.writebacks.isEmpty ||
    (s.quiet && s.mmu.frames.any (fun e => !(s.kept (frameBase e.1)) && s.frameDirty e.2))

/-- Vote of NAND (R442). -/
def State.nandVote (s : State) : Bool := s.nand.cmd.isSome || !s.nand.erases.isEmpty || s.fld NAND_FSTAT_SEQ != 0

/-- Is a ridge frame being received or sent (R154)? -/
def State.ridgeOnAir (s : State) : Bool :=
  s.ridge.rxS.isSome || s.ridge.rxG.isSome ||
    s.seq.approved.any (fun r => match r.kind with
      | .ridge _ _ _ => true
      | _ => false)

/-- Vote of SEQ (R299, R154, R169). -/
def State.seqVote (s : State) : Bool :=
  s.seq.recs.any (fun e => e.2.kind != 7 && (e.2.occ.isSome || e.2.endUs.any (fun t => decide (s.sqt < t)))) || s.rfS.seqMeter.isSome || s.rfG.seqMeter.isSome ||
    s.prism.probe.any (fun p => p.seqOwned) || s.ridgeOnAir || decide (s.plan.phase ≠ .idle) ||
    (match s.wakeSlow with
     | none => false
     | some v => decide (signedOf 48 ((v + 2 ^ 48 - s.clk.slowcnt) % 2 ^ 48) < s.fld SEQ_WAKECFG_MINSLEEP))

/-- Vote of FACET (R122). -/
def State.facetVote (s : State) : Bool :=
  s.facet.facets.any (fun e => e.2.st.mid) || decide (s.facet.free.length ≠ 2048)

/-- Vote of the RF paths (R37). -/
def State.txVote (s : State) : Bool :=
  [PathId.s, PathId.g].any (fun p => s.pst p != .rx && s.pst p != .off)

/-- Vote of NET (R540). -/
def State.netVote (s : State) : Bool :=
  s.flag NET_CTRL_STAY || !s.net.rx.isEmpty || !s.net.rxOut.isEmpty || !s.net.txLens.isEmpty || !s.net.tx.isEmpty

/-- The live votes by index (R405). -/
def State.votes (s : State) : List Bool :=
  [s.coreVote .lc0, s.coreVote .lc1, s.coreVote .sc, s.coreVote .kc, s.dmaVote, s.pagerVote, s.nandVote, s.seqVote,
   s.facetVote, s.txVote, !s.hif.slots.isEmpty || !(bitAt s.icu.pins 23), s.netVote,
   decide (s.fld MIRROR_STAT_ROLE = 2) || decide (s.fld MIRROR_STAT_ROLE = 3),
   s.flag SYS_DBGCTL_CONN, s.bist.check.isSome || s.bist.reint.isSome]

/-- PWR_VOTE as a read shows it. -/
def State.voteWord (s : State) : Word :=
  BitVec.ofNat 32 (s.votes.foldr (fun b n => 2 * n + (if b then 1 else 0)) 0)

/-- Count a refusal of refuser `i`. -/
def State.countRefuser (s : State) (i : Nat) : State :=
  s.inc (if i % 2 = 0 then PWR_REFUSEn_CNTA (i / 2) else PWR_REFUSEn_CNTB (i / 2))

/-! ### The steps of entry (R406) -/

/-- A path saves its calibration record and goes to OFF (R37). -/
def State.savePath (s : State) (p : PathId) : State :=
  if s.pst p = .rx then
    let r : CalRec := { iqcorr := s.rd (RFx_IQCORR p), tuntx := s.rd (RFx_TUNTX p), tunrx := s.rd (RFx_TUNRX p),
                        tunstat := s.rd (RFx_TUNSTAT p), backoff := s.flag (RFx_STATE_BACKOFF p),
                        calstat := s.rd (RFx_CALSTAT p) }
    (s.modRf p (fun x => { x with calRec := some r })).goOff p
  else s

/-- Registers of a window whose offset lies below `n` take their reset values, but for those that `keep` names. -/
def State.resetWindow (s : State) (base n : Nat) (keep : Nat → Bool) : State :=
  { s with regs := s.regs.filter (fun (e : Nat × Word) => keep e.1 || decide (e.1 < base) || decide (base + n ≤ e.1)) }

/-- The Prism in Saddle keeps only the marks of its ray engines (R91). -/
def State.stopPrism (s : State) : State :=
  let okS := s.fld PRISM_BUDS_ENGOK
  let okG := s.fld PRISM_BUDG_ENGOK
  let s : State := { s with prism := {} }
  let s := s.modRf .s (fun x => { x with em := none, seqMeter := none, loupe := {} })
  let s := s.modRf .g (fun x => { x with em := none, seqMeter := none, loupe := {} })
  let s := s.resetWindow basePRISM 0x10000 (fun _ => false)
  let s := (s.setFld PRISM_BUDS_ENGOK okS).setFld PRISM_BUDG_ENGOK okG
  (s.setFld PRISM_BUDS_BUDGET (s.rayBudget .s)).setFld PRISM_BUDG_BUDGET (s.rayBudget .g)

/-- Every facet becomes UNUSED; the FACET registers keep only the marks of BIST (R122). -/
def State.stopFacets (s : State) : State :=
  let s : State := { s with facet := { free := List.range 2048 } }
  s.resetWindow baseFACET 0x10000 (fun a => a == FACET_ENGOK0 || a == FACET_ENGOK1)

/-- 0 to 4 µs of entry: the paths go to OFF, Prism and facet pool stop. -/
def State.entryRf (s : State) : State := ((s.savePath .s).savePath .g).stopPrism.stopFacets

/-- 4 to 10 µs of entry: pages and banks that are not retained are lost. -/
def State.entryMem (s : State) : State := s.losePages.loseBanks

/-- A CLK 3 counter holds what it last read while NETTIME is not valid (R376). -/
def State.holdSqt (s : State) : State :=
  (setBits 8 (s.fld TMR_RUN_RUN)).foldl (fun (s : State) n =>
    if s.fld (TMR_CFGn_CLK n) = 3 then s.setFld (TMR_CNTn_COUNT n) (s.tmrNow n) else s) s

/-- Edge E: the pair of R265 and the CLK 2 counters of R377 are saved. -/
def State.entryTime (s : State) : State :=
  let k := stEdges s.clk.now
  let two := (setBits 8 (s.fld TMR_RUN_RUN)).filter (fun n => s.fld (TMR_CFGn_CLK n) == 2)
  let s : State := { s with
    seq := { s.seq with savedNt := if s.flag SEQ_STAT_NTVALID then some (k, s.clk.nt) else s.seq.savedNt, spanAt := none },
    tmr := { s.tmr with saved := two.map (fun n => (n, k)) } }
  s.holdSqt.clr SEQ_STAT_NTVALID

/-- What the core rail takes with it when it goes off: GACK records and held association responses (R222), the modem's
counts (R154), HIF's slots, events and counts (R561), UART and NET octets, what self-test ran, and the mask expanders'
seeds (R472). -/
def State.railOff (s : State) : State :=
  let s : State := { s with
    mac := { s.mac with gacks := [], assoc := [], acks := [], after := [], frames := [] },
    hif := { nextSeq := s.hif.nextSeq, g1done := s.hif.g1done, g1irq := s.hif.g1irq, g1ofs := s.hif.g1ofs,
             g1len := s.hif.g1len },
    net := {}, uart0 := {}, uart1 := {},
    cipher := { s.cipher with testEnd := none, seeded := false },
    clk := { s.clk with pll := false } }
  let s := (List.range 12).foldl (fun (s : State) n => s.wr (SEQ_RLCNTn n) 0) s
  ((s.wr HIF_CNT 0).clr PWR_STAT_CLK).showHif

/-! ### The steps of a wake (R408, R410) -/

/-- Each core resumes after its WAIT, or dispatches from idle under R345. -/
def State.resumeCores (s : State) : State :=
  allCores.foldl (fun (s : State) c =>
    let x := s.core c
    let s := s.setCore c { x with st := if x.st = .wait then .run else x.st, ready := max x.ready s.clk.now }
    s.wakeIdle c) s

/-- CLK 2 counter `n` takes the ST edges since edge `e`, and what fell due in it fires now with LATE (R377). -/
def State.addEdges (s : State) (n e : Nat) : State :=
  let before := s.fld (TMR_CNTn_COUNT n)
  let s := s.tmrCount n (stEdges s.clk.now - e)
  let units := (List.range 32).filter (fun u => s.fld (TMR_UuCFG_MODE u) == 1 && s.flag (TMR_UuSTAT_ARMED u) &&
    s.fld (TMR_UuCFG_CNT u) == n && reached 32 (s.fld (TMR_CNTn_COUNT n)) (s.rd (TMR_UuVAL u)).toNat &&
    !(reached 32 before (s.rd (TMR_UuVAL u)).toNat))
  { s with tmr := { s.tmr with lateNext := units.foldl (fun l u => tblIns l u (s.clk.now, true)) s.tmr.lateNext } }

/-- The CLK 2 counters that Saddle stopped (R377). -/
def State.restoreTmr (s : State) : State :=
  let l := s.tmr.saved
  let s : State := { s with tmr := { s.tmr with saved := [] } }
  l.foldl (fun (s : State) e => s.addEdges e.1 e.2) s

/-- Each path with EN = 1 enters STARTUP (R35, R410). -/
def State.startPaths (s : State) : State :=
  [PathId.s, PathId.g].foldl (fun (s : State) p =>
    if s.flag (RFx_CTRL_EN p) then s.startPath p (s.rf p).calRec.isSome else s) s

/-- The fabric switches to SYSPLL (R410): NETTIME counts and the paths start; after a wake the TRNG runs its start-up test, and
the Prism and the pool build the active plan while the paths start (R91, R122, R265, R472). -/
def State.toPll (s : State) : State :=
  let waking := s.pwr.waking
  let s : State := { s with clk := { s.clk with pll := true }, pwr := { s.pwr with waking := false } }
  let s := (s.set1 PWR_STAT_CLK).restoreTmr
  let s := if s.seq.savedNt.isNone then
      ({ s with seq := { s.seq with spanAt := some (s.clk.now, s.clk.nt) } } : State).set1 SEQ_STAT_NTVALID
    else s
  (if waking then s.trngTest.buildPlan else s).startPaths

/-- The device runs again after a wake or an aborted entry: the cores resume, and the AON queue goes to the log (R407, R408,
R517). -/
def State.wakeUp (s : State) : State :=
  let s : State := { s with pwr := { s.pwr with phase := .awake, alarmAt := none } }
  let s := (s.setFld PWR_STAT_PHASE 0).gpioSettle
  let held := s.log.aon
  let s : State := { s with log := { s.log with aon := [] } }
  let s := held.foldl (fun (s : State) e => s.logEnqueue 1 e) s
  s.resumeCores

/-- XREF starts at cycle `t` (R410). -/
def State.startXref (s : State) (t : Nat) : State :=
  if s.flag PWR_STAT_XREFOK then { s with pwr := { s.pwr with xrefAt := t, pllAt := t } }
  else { s with pwr := { s.pwr with xrefAt := t + 2000 * s.fld PWR_CLKCFG_XSTAB } }

/-- The latches that end Saddle (R405, R407): those set and enabled in PWR_WAKEEN, and latch 26 (R402). -/
def State.wakeLatches (s : State) : Nat := ((s.rd PWR_WAKEEN).toNat ||| 2 ^ 26) &&& s.fld ICU_ALSTAT_LATCH

end Sys2Proof.Machine
end

