-- ==== Sys2Proof/Machine/Pwr.lean ====
section
/-! DEFINITION. The meanings of the power controller's commands (chapter 13). -/

namespace Sys2Proof.Machine
open Sys2Proof

/-- The straps and the pad range as sampled at a release (R398, R571). -/
def State.sample (s : State) (compat : Bool) (boot : Nat) (vio33 : Bool) : State :=
  { s with pwr := { s.pwr with strapCompat := compat, strapBoot := boot % 4, vioRange33 := vio33 } }

/-- VIN_RISE (R397): VIN rises through the UVLO threshold and the converter starts. -/
def execVinRise (s : State) : Res :=
  if s.pwr.phase = .off then .next { s with pwr := { s.pwr with phase := .softStart, vinAt := s.clk.now } } else .next s

/-- POR_END (R397, R398): the rails were good `rails` cycles after VIN rose, 3 ms at most, and the FRC ready `frc` cycles
after that, 20 µs at most; NRST is high. -/
def execPorEnd (rails frc : Nat) (compat : Bool) (boot : Nat) (vio33 : Bool) (s : State) : Res :=
  if s.pwr.phase = .softStart && !s.pwr.nrstLow && !s.pwr.vioLow && decide (rails ≤ us 3000) && decide (frc ≤ us 20) then
    let good := s.pwr.vinAt + rails
    let s := (s.advanceTo (good + frc)).startXref good
    .next ((s.sample compat boot vio33).showStraps).bootUp
  else .next s

/-- XREF_STABLE (R397, R410). -/
def execXrefStable (s : State) : Res :=
  match s.pwr.phase with
  | .off | .softStart | .saddle => .next s
  | _ =>
    if s.flag PWR_STAT_XREFOK then .next s
    else
      let s := (s.advanceTo s.pwr.xrefAt).set1 PWR_STAT_XREFOK
      .next { s with pwr := { s.pwr with pllAt := s.clk.now } }

/-- SYSPLL_LOCK (R410): the lock comes `d` cycles after SYSPLL started, within 100 µs. -/
def execSyspllLock (d : Nat) (s : State) : Res :=
  if s.pwr.phase = .awake && s.flag PWR_STAT_XREFOK && !s.clk.pll && decide (d ≤ us 100) then
    let s := s.advanceTo (s.pwr.pllAt + d)
    let s : State := { s with pwr := { s.pwr with xrefFailed := false } }
    .next s.toPll
  else .next s

/-- XREF_FAIL (R410): no lock after 100 µs; the device stays on FRC and the controller tries again every 1 ms. -/
def execXrefFail (s : State) : Res :=
  if s.pwr.phase = .awake && s.flag PWR_STAT_XREFOK && !s.clk.pll then
    let t := s.pwr.pllAt
    let s := s.advanceTo (t + us 100)
    let s := if s.pwr.xrefFailed then s else (s.set1 PWR_IRQ_XREFFAIL).logPut 1 Code.XREF_FAIL 0 0
    .next { s with pwr := { s.pwr with xrefFailed := true, pllAt := t + us 1000 } }
  else .next s

/-- XSLOW_STABLE (R397): SLOWCNT counts from the next ST edge. -/
def execXslowStable (s : State) : Res :=
  match s.pwr.phase with
  | .off | .softStart => .next s
  | _ =>
    if s.clk.slowOn then .next s
    else
      let s : State := { s with clk := { s.clk with slowOn := true }, pwr := { s.pwr with idle := stEdges s.clk.now } }
      .next ((s.set1 PWR_STAT_SLOWOK).set1 PWR_IRQ_SLOWOK)

/-- A system reset from outside: the device may be in any state with its rails up. -/
def State.pinReset (s : State) (cause : Nat) : State :=
  match s.pwr.phase with
  | .off | .softStart => s
  | _ => s.systemReset cause

/-- NRST_ASSERT (R398): NRST has been low for 1 µs. -/
def execNrstAssert (s : State) : Res :=
  if s.pwr.nrstLow then .next s
  else
    let s := s.advance (us 1)
    .next (({ s with pwr := { s.pwr with nrstLow := true } } : State).pinReset 4)

/-- The end of a reset that a pin held. -/
def State.pinRelease (s : State) : State :=
  if s.pwr.phase = .inReset && !s.pwr.nrstLow && !s.pwr.vioLow then s.showStraps.bootUp else s

/-- NRST_RELEASE (R398). -/
def execNrstRelease (compat : Bool) (boot : Nat) (vio33 : Bool) (s : State) : Res :=
  if s.pwr.nrstLow then
    .next (({ s with pwr := { s.pwr with nrstLow := false } } : State).sample compat boot vio33).pinRelease
  else .next s

/-- VIO_LOW (R571): VIO has been below 1.5 V for 1 µs, which acts as NRST held low. -/
def execVioLow (s : State) : Res :=
  if s.pwr.vioLow then .next s
  else
    let s := s.advance (us 1)
    .next (({ s with pwr := { s.pwr with vioLow := true } } : State).pinReset 4)

/-- VIO_RESTORE (R571). -/
def execVioRestore (compat : Bool) (boot : Nat) (vio33 : Bool) (s : State) : Res :=
  if s.pwr.vioLow then
    .next (({ s with pwr := { s.pwr with vioLow := false } } : State).sample compat boot vio33).pinRelease
  else .next s

/-- POWER_ON_RESET (R399, R400): VIN below 7.5 V, or a rail out of regulation that was good. -/
def execPowerOnReset (brownout : Bool) (s : State) : Res :=
  if brownout && (s.pwr.phase == .off || s.pwr.phase == .softStart) then .next s
  else .next (s.powerOnReset (if brownout then 2 else 1))

/-- SYSTEM_RESET (R399, R400), with its cause: 4 NRST, 5 SOFT, 6 DEBUG, 7 KC_FATAL. -/
def execSystemReset (cause : Nat) (s : State) : Res :=
  if 4 ≤ cause && cause ≤ 7 then .next (s.pinReset cause) else .next s

/-- A write of PWR_CMD.SYSRST by `r` (R418). -/
def State.sysrst (s : State) (r : Requester) : State :=
  if r == .core .kc then s.systemReset 5 else s.discard baseSYS

/-- SYSRST (R399, R418). -/
def execSysrst (r : Requester) (s : State) : Res := .next (s.sysrst r)

/-- A write of PWR_CMD.ENTER (R404). -/
def State.enterSaddle (s : State) : State :=
  if s.pwr.phase = .entry || s.pwr.phase = .wake then s.inc PWR_SADCNT2_IGNORED
  else { s with pwr := { s.pwr with enterReq := true } }

/-- ENTER (R404). -/
def execEnter (s : State) : Res := .next s.enterSaddle

/-- A write of PWR_CMD.CNTCLR (R418). -/
def State.pwrCntclr (s : State) : State :=
  (((List.range 8).foldl (fun (s : State) n => s.wr (PWR_REFUSEn n) 0) s).wr PWR_SADCNT 0).wr PWR_SADCNT2 0

/-- PWR_CNTCLR (R418). -/
def execPwrCntclr (s : State) : Res := .next s.pwrCntclr

/-- The RUN bit of a core other than KC. -/
def coreRun : CoreId → Option Fld
  | .lc0 => some PWR_CORECTL_LC0
  | .lc1 => some PWR_CORECTL_LC1
  | .sc => some PWR_CORECTL_SC
  | .kc => none

/-- A write of a RUN bit as 1: it releases a core whose bit was 0 (R401). -/
def State.coreRelease (s : State) (c : CoreId) : State :=
  match coreRun c with
  | none => s
  | some f => if s.flag f then s else (s.set1 f).releaseCore c

/-- A write of a RUN bit as 0 (R401). -/
def State.coreHold (s : State) (c : CoreId) : State :=
  match coreRun c with
  | none => s
  | some f => (s.clr f).holdCore c

/-- CORE_RELEASE (R401, R418). -/
def execCoreRelease (r : Requester) (c : CoreId) (s : State) : Res :=
  if r == .core .kc then .next (s.coreRelease c) else .next (s.discard baseSYS)

/-- CORE_HOLD (R401, R418). -/
def execCoreHold (r : Requester) (c : CoreId) (s : State) : Res :=
  if r == .core .kc then .next (s.coreHold c) else .next (s.discard baseSYS)

/-! ### VIN monitor (R402) -/

/-- Is the AON domain up, and with it the monitor? -/
def State.up (s : State) : Bool :=
  match s.pwr.phase with
  | .off | .softStart => false
  | _ => true

/-- VIN_WARN (R402, R432, R243): VIN, in 20 mV units, has fallen below WARN; every erase is suspended at once. The flush starts, in
Saddle only after the wake that latch 26 brings (POWER_FAIL_FLUSH). -/
def execVinWarn (vin : Nat) (s : State) : Res :=
  if s.up && !(s.flag PWR_STAT_VINWARN) && decide (20 * vin < 100 * s.fld PWR_VINMON_WARN) then
    let s := ((s.setFld PWR_VINMON_VIN vin).set1 PWR_STAT_VINWARN).set1 PWR_IRQ_VINWARN
    let s := (s.suspendErase 0).suspendErase 1
    let s := (s.latchSet 26).logPut 1 Code.VIN_WARN 0 0
    .next (if s.clocked then s.startFlush else s)
  else .next s

/-- VIN_OK (R402): VIN has stayed above WARN + 0.5 V for 10 ms. -/
def execVinOk (vin : Nat) (s : State) : Res :=
  if s.up && s.flag PWR_STAT_VINWARN && decide (100 * s.fld PWR_VINMON_WARN + 500 < 20 * vin) then
    let s := ((s.setFld PWR_VINMON_VIN vin).clr PWR_STAT_VINWARN).set1 PWR_IRQ_VINOK
    .next (s.logPut 1 Code.VIN_OK 0 0).pagerResume
  else .next s

/-! ### Saddle (R403–R409) -/

/-- The ST edge at which the idle timer expires (R403, R404). -/
def State.expiryEdge (s : State) : Nat :=
  let from_ := max s.pwr.idle s.pwr.holdUntil
  let next := stEdges s.clk.now + 1
  if s.pwr.enterReq then max next (from_ + 1) else max next (from_ + s.fld PWR_SADDLECFG_SADDLE_IDLE)

/-- The expiry (R405): WAKE_RACE, refusal, or entry. -/
def State.expire (s : State) : State :=
  let k := stEdges s.clk.now
  let s : State := { s with pwr := { s.pwr with idle := k, enterReq := false } }
  let v := s.votes
  if s.wakeLatches ≠ 0 then s.countRefuser 15
  else if v.any id then
    let s := (List.range 15).foldl (fun (s : State) i => if v.getD i false then s.countRefuser i else s) s
    s.inc PWR_SADCNT2_REFUSED
  else
    let s := s.armWake
    ({ s with pwr := { s.pwr with phase := .entry, xAt := s.clk.now } } : State).setFld PWR_STAT_PHASE 1

/-- IDLE_EXPIRY (R403–R405). -/
def execIdleExpiry (s : State) : Res :=
  if s.pwr.phase = .awake && s.clk.slowOn && s.quiet && s.flag PWR_SADDLECFG_SADDLE_EN then
    .next (s.advanceTo (stEdgeAt s.expiryEdge)).expire
  else .next s

/-- SADDLE_ENTRY (R406): the entry runs from X to the point of no return; a wake latch set meanwhile aborts it instead. -/
def execSaddleEntry (s : State) : Res :=
  if s.pwr.phase = .entry && s.wakeLatches == 0 then
    let s := s.entryRf.entryMem
    let s := (s.advanceTo (stEdgeAt (stEdges s.pwr.xAt + 1))).entryTime
    let s := (s.advance (us 1)).railOff
    let s := if s.flag PWR_CLKCFG_XGATE then s.clr PWR_STAT_XREFOK else s
    .next (({ s with pwr := { s.pwr with phase := .saddle } } : State).inc PWR_SADCNT_ENTRIES)
  else .next s

/-- A choice the spec leaves open: true or false. -/
def State.freshBool (s : State) : Bool × State := let r := s.fresh; (r.1 % 2 == 1, r.2)

/-- ENTRY_ABORT (R407): a wake event `d` cycles after X, before the point of no return. Steps whose interval has passed
were taken, steps whose interval has not begun were not, and one in its interval may have been. -/
def execEntryAbort (d : Nat) (s : State) : Res :=
  let ponr := stEdgeAt (stEdges s.pwr.xAt + 1) + us 1
  if s.pwr.phase = .entry && s.wakeLatches ≠ 0 && decide (s.pwr.xAt + d < ponr) then
    let s := s.advanceTo (s.pwr.xAt + d)
    let a := s.freshBool
    let stopped := a.1 || decide (us 4 ≤ d)
    let s := if stopped then a.2.entryRf else a.2
    let b := s.freshBool
    let s := if decide (us 10 ≤ d) || (b.1 && decide (us 4 ≤ d)) then b.2.entryMem else b.2
    let s := (s.advance (us 1)).inc PWR_SADCNT_ABORTS
    let s := s.wakeUp
    .next (if stopped && s.clk.pll then s.buildPlan.startPaths else { s with pwr := { s.pwr with waking := stopped } })
  else .next s

/-- The wake edge W (R408): the present cycle where it is an ST edge, else the next edge. -/
def State.wakeEdge (s : State) : Nat :=
  let k := stEdges s.clk.now
  if stEdgeAt k = s.clk.now then k else k + 1

/-- Does something end Saddle (R408)? -/
def State.wakeDue (s : State) : Bool := decide (s.wakeLatches ≠ 0) || s.pwr.alarmAt.isSome

/-- The cycle of W: the edge at which a latch is set, or the first edge after an alarm (R408). -/
def State.wakeCycle (s : State) : Nat :=
  let k := s.wakeEdge
  match s.pwr.alarmAt with
  | some a => stEdgeAt (if s.wakeLatches = 0 then max k (stEdges a + 1) else k)
  | none => stEdgeAt k

/-- SADDLE_WAKE (R408, R409): the rail is good `rail` cycles after W and the FRC ready `frc` cycles later, both within
their limits; the first fetch comes 1 ST after W, or at the first later edge at which both are ready. -/
def execSaddleWake (rail frc : Nat) (s : State) : Res :=
  let again := s.pwr.phase == .wake
  if (again || (s.pwr.phase == .saddle && s.wakeDue)) && decide (rail ≤ us 100) && decide (frc ≤ us 20) then
    let w := if again then s.pwr.wAt else s.wakeCycle
    let s := (s.advanceTo w).startXref w
    let first := stEdgeAt (stEdges w + 1)
    let s := if w + rail + frc ≤ first then s.advanceTo first
      else
        let k := stEdges (w + rail + frc)
        let t := if stEdgeAt k = w + rail + frc then k else k + 1
        (s.advanceTo (stEdgeAt t)).inc PWR_SADCNT2_SLOWWAKE
    let s := if again then
        ((s.inc PWR_SADCNT2_RETRIES).set1 PWR_IRQ_WAKERETRY).logPut 1 Code.WAKE_RETRY 0 s.pwr.failDetail
      else s
    let hold := stEdges s.clk.now + s.fld PWR_SADDLECFG_SADDLE_MINAWAKE
    .next ({ s with pwr := { s.pwr with wAt := w, holdUntil := hold, waking := true } } : State).wakeUp
  else .next s

/-- WAKE_FAIL (R409): the rail was not good 100 µs after W, or the FRC not ready 20 µs after the rail, which was good `rail`
cycles after W. The first failure makes the next ST edge the new W; the second takes a power-on reset. -/
def execWakeFail (frcLate : Bool) (rail : Nat) (s : State) : Res :=
  let again := s.pwr.phase == .wake
  if (again || (s.pwr.phase == .saddle && s.wakeDue)) && decide (rail ≤ us 100) then
    let w := if again then s.pwr.wAt else s.wakeCycle
    let s := s.advanceTo (if frcLate then w + rail + us 20 else w + us 100)
    let s : State := { s with pwr := { s.pwr with failDetail := if frcLate then 2 else 1 } }
    if again then .next (s.powerOnReset 3)
    else
      let s := s.setFld PWR_STAT_PHASE 2
      .next { s with pwr := { s.pwr with phase := .wake, wAt := stEdgeAt (stEdges s.clk.now + 1) } }
  else .next s

/-! ### Refresh (R413) -/

/-- The refresh interval of a temperature: 0 4 ms, 1 2 ms, 2 1 ms, 3 0.5 ms. -/
def refLevel (t : Int) : Nat := if t ≤ 45 then 0 else if t ≤ 65 then 1 else if t ≤ 85 then 2 else 3

/-- REFRESH_TEMP_SAMPLE (R413): every 32 ST. The interval shortens at once and lengthens 2 °C below the threshold. -/
def execRefreshTempSample (temp : Int) (s : State) : Res :=
  if !s.clk.slowOn then .next s
  else
    let s := s.advanceTo (stEdgeAt ((stEdges s.clk.now / 32 + 1) * 32))
    let cur := s.fld PWR_STAT_REFINT
    let lvl := if cur ≤ refLevel temp then refLevel temp else min cur (refLevel (temp + 2))
    .next ((s.setFld PWR_STAT_TEMP (unsignedOf 8 temp)).setFld PWR_STAT_REFINT lvl)

end Sys2Proof.Machine
end

