-- ==== Sys2Proof/Machine/BusView.lean ====
section
/-! DEFINITION. What a read of a register returns (R5, R6, R7, R10): the stored word, or for a register that shows state
held elsewhere the view of it, and the side effects of the reads that have one. -/

namespace Sys2Proof.Machine
open Sys2Proof

/-- Ray states as PRISM_RAYCFG.STATE numbers them (R77). -/
def RaySt.num : RaySt → Nat
  | .unused => 0
  | .parked => 1
  | .live => 2
  | .held => 3
  | .shed => 4

/-- Facet states as FACET_INFO.STATE numbers them (R99). -/
def FacetSt.num : FacetSt → Nat
  | .unused => 0
  | .idle => 1
  | .search => 2
  | .sync => 3
  | .header => 4
  | .payload => 5
  | .shed => 6

/-- Link states as SEQ_LINK.STATE numbers them (R288). -/
def LinkSt.num : LinkSt → Nat
  | .idle => 0
  | .up => 1
  | .miss1 => 2
  | .miss2 => 3
  | .search => 4
  | .down => 5

def boolNat (b : Bool) : Nat := if b then 1 else 0

/-- PRISM_RAYCFG (R92). -/
def State.rayCfgWord (s : State) : Nat :=
  let r := s.ray s.selPath s.selRay
  if r.st = .unused then 0
  else r.par.wmask % 65536 * 65536 + r.par.prio * 4096 + r.par.branch * 256 + r.par.k * 16 + r.st.num

/-- PRISM_RAYFREQ (R92). -/
def State.rayFreqWord (s : State) : Nat :=
  let r := s.ray s.selPath s.selRay
  if r.st = .unused then 0 else r.par.fr

/-- FACET_INFO, FACET_PHY and FACET_PLACE of the selected facet (R125). -/
def State.facetInfoWord (s : State) : Nat :=
  let x := s.fct (s.fld FACET_SEL_FACET)
  if x.st = .unused then 0
  else x.alloc.prio * 65536 + x.alloc.ray * 256 + pathNum x.alloc.path * 128 + x.alloc.prof.phy * 16 + boolNat x.old * 8 +
    x.st.num

def State.facetPhyWord (s : State) : Nat :=
  let x := s.fct (s.fld FACET_SEL_FACET)
  let r := x.alloc.prof
  if x.st = .unused then 0
  else match r.phy with
    | 0 => 2 * 16 + r.rcode
    | 1 => r.code * 65536 + r.pre * 256 + r.sfexp * 16 + r.rcode
    | _ => r.rcode

def State.facetPlaceWord (s : State) : Nat :=
  let x := s.fct (s.fld FACET_SEL_FACET)
  if x.st = .unused then 0
  else x.alloc.load * 65536 + (match x.place with
    | none => 0
    | some (e, c) => 512 + c * 64 + e)

/-- SEQ_LINK of the neighbour in SEQ_RLNBSEL (R302). -/
def State.linkWord (s : State) : Nat :=
  let l := s.link s.selNb
  min 65535 l.h * 65536 + min 255 l.srchn * 256 + l.st.num

/-- SEQ_RLNB (R154). -/
def State.rlnbWord (s : State) : Nat :=
  match s.planNb s.selNb with
  | none => 0
  | some r =>
    let x := s.nb s.selNb
    let prof := s.nbProf s.selNb
    x.tx.1 * 65536 + (x.off.getD (0, [])).1 * 4096 + x.cur.1 * 256 + prof.ncode * 8 + pathNum r.path * 4 +
      boolNat (prof.phy == 5) * 2 + 1

/-- The account SEQ_ACCSEL names, with its use and limit in µs (R296). -/
def State.accRecord (s : State) : Option (AcctRec × Nat) :=
  let p := pathOf (s.fld SEQ_ACCSEL_PATH)
  let sub := s.flag SEQ_ACCSEL_KIND
  let n := s.fld SEQ_ACCSEL_INDEX
  match s.activePlan, s.acct.find? (fun a => a.path == p && a.sub == sub && a.num == n) with
  | some q, some a =>
    if sub then (q.subband p n).map (fun b => (a, b.duty * b.periodMs / 10))
    else (q.channels.find? (fun c => c.path == p && c.chan == n)).map (fun c => (a, 1000 * c.dwellMs))
  | _, _ => none

def State.accUseWord (s : State) : Nat :=
  match s.accRecord with
  | none => 0
  | some (a, _) => a.sum65 (s.sqt / a.binUs)

def State.accLimWord (s : State) : Nat :=
  match s.accRecord with
  | none => 0
  | some (_, l) => l

/-- OTP_WORDn (R468): secrets and reserved words read 0. -/
def State.otpShow (s : State) (n : Nat) : Word := if n < 16 || 113 ≤ n then 0 else s.otpWord n

/-- Four anti-rollback counters from `n` up (R476). -/
def State.arbShow (s : State) (n : Nat) : Nat :=
  s.arb n + s.arb (n + 1) * 256 + s.arb (n + 2) * 65536 + s.arb (n + 3) * 2 ^ 24

/-- PWR_STAT with the idle timer (R403, R418). -/
def State.pwrStatWord (s : State) : Nat :=
  let k := stEdges s.clk.now - max s.pwr.idle s.pwr.holdUntil
  putBits (s.rd PWR_STAT) 23 16 (min 255 k) |>.toNat

/-- UPD_TLEFT (R504). -/
def State.tleftWord (s : State) : Nat :=
  match s.upd.expireAt with
  | none => 0
  | some e => (e + 2 ^ 48 - s.clk.slowcnt) % 2 ^ 48

/-- ICU_SRCn with PEND, ACT and LINE (R372). -/
def State.srcShow (s : State) (n : Nat) : Nat :=
  let x := (s.rd (ICU_SRCn n)).toNat
  let x := (putBits (BitVec.ofNat 32 x) (ICU_SRCn_PEND n).hi (ICU_SRCn_PEND n).lo (boolNat (s.srcPending n))).toNat
  let x := (putBits (BitVec.ofNat 32 x) (ICU_SRCn_ACT n).hi (ICU_SRCn_ACT n).lo (boolNat (s.srcActive n))).toNat
  (putBits (BitVec.ofNat 32 x) (ICU_SRCn_LINE n).hi (ICU_SRCn_LINE n).lo (boolNat (s.line n))).toNat

/-- PAGER_JSTAT with the age of the last commit (R260). -/
def State.jstatWord (s : State) : Nat :=
  (putBits (s.rd PAGER_JSTAT) 31 16 (min 65535 ((s.clk.now - s.pager.commitEnd) / us 1000))).toNat

/-- The index of the register at `a` among like ones from `b` up, `n` of them `stride` bytes apart. -/
def regIdx (b n stride a : Nat) : Option Nat :=
  if b ≤ a && (a - b) % stride == 0 && decide ((a - b) / stride < n) then some ((a - b) / stride) else none

/-- The stored word with the bits that do not read back as 0: WO fields (R5). -/
def State.plainRead (s : State) (a : Nat) : Word :=
  match findRow a with
  | none => 0
  | some r => s.rd a &&& BitVec.ofNat 32 (ones 32 - r.wo % 2 ^ 32)

/-- SEQ_RLTABn: eight codes of a table, the lowest sub-carrier in bits 3:0 (R154). -/
def codesWord (codes : List Nat) (n : Nat) : Nat :=
  (List.range 8).foldl (fun v i => v + codes.getD (8 * n + i) 0 % 16 * 16 ^ i) 0

/-- Views of the RF, Prism, facet and sequencer registers. -/
def State.viewRadio (s : State) (a : Nat) : Option Nat :=
  if a = RFx_BLINDUS .s then some (s.blindUs .s)
  else if a = RFx_BLINDUS .g then some (s.blindUs .g)
  else if a = PRISM_RAYCFG then some s.rayCfgWord
  else if a = PRISM_RAYFREQ then some s.rayFreqWord
  else if a = FACET_INFO then some s.facetInfoWord
  else if a = FACET_PHY then some s.facetPhyWord
  else if a = FACET_PLACE then some s.facetPlaceWord
  else if a = SEQ_RLNB then some s.rlnbWord
  else if a = SEQ_RLFOFS then some (unsignedOf 32 (s.nb s.selNb).fofs)
  else if a = SEQ_RLLSTAT then some (s.nb s.selNb).lstat.toNat
  else if a = SEQ_STAT then some (putBits (s.rd SEQ_STAT) 12 0 (min 4096 s.poolUsed)).toNat
  else if a = SEQ_LINK then some s.linkWord
  else if a = SEQ_ACCUSE then some s.accUseWord
  else if a = SEQ_ACCLIM then some s.accLimWord
  else if a = SEQ_NTHI then some s.seq.ntHi
  else if a = PAGER_JSTAT then some s.jstatWord
  else (regIdx (SEQ_RLTABn 0) 8 4 a).map (fun i => codesWord (s.nb s.selNb).tab i)

/-- Views of the system's registers. -/
def State.viewSystem (s : State) (a : Nat) : Option Nat :=
  if a = PWR_VOTE then some s.voteWord.toNat
  else if a = PWR_STAT then some s.pwrStatWord
  else if a = PWR_CORESTAT then some s.coreStat.toNat
  else if a = UPD_TLEFT then some s.tleftWord
  else if a = ICU_SWICLR then some (s.rd ICU_SWISET).toNat
  else if a = ICU_ALPIN then some s.icu.pins
  else if a = NAND_WEAR then some s.wearWord.toNat
  else if a = OTP_ARB0 then some (s.arbShow 0)
  else if a = OTP_ARB1 then some (s.arbShow 4)
  else if a = OTP_FLAGS then some ((s.otpWord 112).toNat % 8)
  else if a = BIST_STAT then some s.bistStatWord.toNat
  else if a = BIST_ITEM then some s.itemWord.toNat
  else if a = LOG_RDSTAT then some (boolNat s.logHeld)
  else if a = GPIO_SET || a = GPIO_CLR then some (s.rd GPIO_OUT).toNat
  else if a = GPIO_TOUTSET || a = GPIO_TOUTCLR then some (s.rd GPIO_TOUT).toNat
  else if a = GPIO_IN then some (s.icu.pins % 2 ^ 20)
  else if a = MMU_PSTAT then some s.pstatWord.toNat
  else if a = MIRROR_STAT then
    some (putBits (s.rd MIRROR_STAT) MIRROR_STAT_PAIRACT.hi MIRROR_STAT_PAIRACT.lo (boolNat (!(bitAt s.icu.pins 22)))).toNat
  else none

/-- Views of numbered registers. -/
def State.viewNumbered (s : State) (a : Nat) : Option Nat :=
  match regIdx (ICU_SRCn 0) 1536 4 a with
  | some n => some (s.srcShow n)
  | none => match regIdx (TMR_CNTn 0) 8 4 a with
    | some n => some (s.tmrNow n)
    | none => match regIdx (LOG_RDWn 0) 4 4 a with
      | some n => some (s.logWord n).toNat
      | none => match regIdx (OTP_WORDn 0) 256 4 a with
        | some n => some (s.otpShow n).toNat
        | none => match regIdx (HIF_G1WINn 0) 32 4 a with
          | some n => some (s.g1Value (2 * n + 1) * 65536 + s.g1Value (2 * n))
          | none => none

/-- What the register at `a` shows, side effects apart. -/
def State.regWord (s : State) (a : Nat) : Word :=
  if (findRow a).isNone then 0
  else match s.viewRadio a with
    | some n => BitVec.ofNat 32 n
    | none => match s.viewSystem a with
      | some n => BitVec.ofNat 32 n
      | none => match s.viewNumbered a with
        | some n => BitVec.ofNat 32 n
        | none => s.plainRead a

/-- The value a meaning left in `rdata`, with `rdata` as it was before. -/
def State.taking (old s : State) : Word × State := (s.rdata, { s with rdata := old.rdata })

/-- The state a meaning answers; one that answers none keeps the old. -/
def resState (d : State) : Res → State
  | .next s => s
  | _ => d

/-- A read of the register at `a` with its side effects (R5, R10). -/
def State.regRead (s : State) (a : Nat) : Word × State :=
  if a = FACET_DONEQ then s.taking s.doneqRead
  else if a = MAC_DLDONEQ then s.taking s.dlDoneqRead
  else if a = SEQ_TXDONEQ then s.taking s.txDoneqRead
  else if a = CIPHER_DONEQ then s.taking (resState s (execCipherDoneqRead s))
  else if a = CIPHER_RNG then s.taking (resState s (execRngRead s))
  else if a = SEQ_NTLO then
    (BitVec.ofNat 32 s.nettime, { s with seq := { s.seq with ntHi := s.nettime / 2 ^ 32 } })
  else if a = SEQ_TREFTR then (s.rd a, { s with seq := { s.seq with trefHold := true } })
  else if a = SEQ_TREFNT then (s.rd a, { s with seq := { s.seq with trefHold := false } })
  else if a = TMR_SLOWLO then s.slowRead
  else if a = TMR_PPSNTLO then s.ppsRead
  else if a = HIF_CMDQ then s.cmdqRead
  else if a = NET_RXQ then s.rxqRead
  else if a = MIRROR_FWRXQ then s.fwRead
  else if a = UART_DATAn 0 then s.uartRead 0
  else if a = UART_DATAn 1 then s.uartRead 1
  else match regIdx (TMR_UuVAL 0) 32 16 a with
    | some u => s.valRead u
    | none => (s.regWord a, s)

end Sys2Proof.Machine
end

