-- ==== Sys2Proof/Machine/Mmu.lean ====
section
/-! DEFINITION. The meanings of the page engine's, the scheduler's and the memory code's commands (chapter 10), DMA
apart. -/

namespace Sys2Proof.Machine
open Sys2Proof

/-! ### Misses and fetches (R337, R343, R350) -/

/-- The level-1 table of slot `n` of core `c`: TTB of its TCB (R341). -/
def State.slotTtb (s : State) (c : CoreId) (n : Nat) : Nat := s.memLe (s.tcbAt c n + 0x34) 4 / 1024 * 1024

/-- The table of ASID `asid` of core `c`: none where the kernel's is not enabled (R336). -/
def State.tableOf (s : State) (c : CoreId) (asid : Nat) : Option Nat :=
  if asid = 8 then
    if s.flag (MMU_KTTBc_EN (coreNum c)) then some (1024 * s.fld (MMU_KTTBc_L1 (coreNum c))) else none
  else some (s.slotTtb c asid)

/-- The ASID that the bank in use of a core translates under; none for a task bank without a slot. -/
def State.asidOf (s : State) (c : CoreId) : Option Nat :=
  if (s.core c).bankNo = 0 then (s.tasksOf c).cur else some 8

/-- The bytes a channel holds (R350). -/
def State.dmaHeld (s : State) (ch : Nat) : List Byte := tblGet [] s.dma.held ch

/-- Address of the source side: an incrementing one moves with the bytes. -/
def State.dmaSrc (s : State) (ch : Nat) : Nat :=
  let a := (s.rd (DMA_CHnSRC ch)).toNat
  if s.flag (DMA_CHnCFG_SRCINC ch) then (a + s.fld (DMA_CHnDONE_DONE ch) + (s.dmaHeld ch).length) % 2 ^ 32 else a

/-- Channel `ch` waits for a page (R350). -/
def State.dmaWaitPage (s : State) (ch pte : Nat) : State :=
  let s := s.wantPage pte false
  ({ s with dma := { s.dma with wait := tblIns s.dma.wait ch pte } } : State).setFld (DMA_CHnSTAT_STATE ch) 2

/-- A core's translation of `va` finds TYPE 1 (R347): the slot parks, the kernel bank stalls, the fast bank takes FATAL. -/
def State.coreMiss (s : State) (c : CoreId) (va pte : Nat) : State :=
  match (s.core c).bankNo with
  | 0 => (s.wantPage pte false).park c va pte
  | 1 => s.wantPage pte true
  | _ => s.coreFatal c (s.core c).pc 0

/-- PAGE_MISS (R337, R347): core `c`, or channel `ch`, translates `va`. -/
def execPageMiss (r : Requester) (va : Nat) (s : State) : Res :=
  match r with
  | .core c =>
    if (s.core c).st != .run || !s.clocked then .next s
    else match s.asidOf c with
      | none => .next s
      | some a => match s.tableOf c a with
        | none => .next s
        | some l1 =>
          match (s.translate (coreNum c) a l1 (a != 8) .load (fun _ => none) va).1 with
          | .miss pte => .next ((s.advanceTo (s.core c).ready).coreMiss c va pte)
          | _ => .next s
  | .dma ch =>
    if 16 ≤ ch || s.fld (DMA_CHnSTAT_STATE ch) ≠ 1 then .next s
    else match (s.translate 4 ch (1024 * s.fld (DMA_CHnTTB_L1 ch)) false .load (fun _ => none) va).1 with
      | .miss pte => .next (s.dmaWaitPage ch pte)
      | _ => .next s
  | .debug => .next s

/-- Does channel `ch` wait for the page at `pte` on its destination side? Bytes held, or a source side that does not miss on it, say so. -/
def State.dmaWaitsDst (s : State) (ch pte : Nat) : Bool :=
  !(s.dmaHeld ch).isEmpty || !(s.flag (DMA_CHnCFG_SRCV ch)) ||
    (s.translate 4 ch (1024 * s.fld (DMA_CHnTTB_L1 ch)) false .load (s.dmaColumn ch) (s.dmaSrc ch)).1 != .miss pte

/-- Channels that wait for a page run again (R350), or fault where it could not be read. -/
def State.dmaResume (s : State) (pte : Nat) (ok : Bool) : State :=
  (s.dma.wait.filter (fun e => e.2 == pte)).foldl (fun (s : State) e =>
    let dst := s.dmaWaitsDst e.1 pte
    let s : State := { s with dma := { s.dma with wait := tblDel s.dma.wait e.1 } }
    if ok then s.setFld (DMA_CHnSTAT_STATE e.1) 1
    else (((s.setFld (DMA_CHnSTAT_STATE e.1) 4).setFld (DMA_CHnSTAT_STATUS e.1) Code.MEM_UNCORR).setBool
      (DMA_CHnSTAT_SIDE e.1) dst).set1 (DMA_IRQ_FAULT.bit e.1)) s

/-- A fetch ends. -/
def State.fetchEnd (s : State) (pte : Nat) : State :=
  { s with mmu := { s.mmu with fetches := s.mmu.fetches.filter (fun f => f.pte != pte) } }

/-- A fetch fails: the page could not be read, or its tag failed, `cause` 6 (R340, R352). -/
def State.fetchFail (s : State) (f : PageFetch) (n cause : Nat) : State :=
  let s := s.fetchEnd f.pte
  let s := ((s.inc MMU_ECCSTAT_UNCORR).setFld MMU_ECCADDR_LINE (frameBase n / 16)).set1 MMU_IRQ_UNCORR
  let s := s.logPut 22 Code.MEM_UNCORR 0 (frameBase n)
  let s := if cause = 6 then s.set1 MMU_IRQ_BADTAG else s
  let waits := allCores.foldl (fun k c => k + (s.waiters c f.pte).length) 0
  let k := waits + (if f.kern then 1 else 0)
  let s : State := { s with mmu := { s.mmu with failed := s.mmu.failed ++ List.replicate k (f.pte, cause) } }
  (s.resumeSlots f.pte).dmaResume f.pte false

/-- A fetched page becomes resident in frame `n` (R337). -/
def State.fetchOk (s : State) (f : PageFetch) (n : Nat) (b : List Byte) : State :=
  let s := ((s.fetchEnd f.pte).memPut (frameBase n) b).cureRange (frameBase n) 4096
  let s := s.pteWr f.pte (pteMake (s.pteRd f.pte) n 2 f.zero false false)
  let s : State := { s with mmu := { s.mmu with frames := tblIns s.mmu.frames n ⟨f.pte, f.bidx⟩ } }
  (s.resumeSlots f.pte).dmaResume f.pte true

/-- Is the backing page of a fetch resident through another PTE by now (R335)? Nothing is fetched, and who waits finds the alias. -/
def State.fetchAliased (s : State) (f : PageFetch) : Bool := s.mmu.frames.any (fun e => e.2.bidx == f.bidx && e.2.pte != f.pte)

/-- The frame of a fetch, or a free one now. -/
def State.fetchFrame (s : State) (f : PageFetch) : Option Nat × State :=
  match f.frame with
  | some n => (some n, s)
  | none => s.takeFrame

/-- PAGE_FETCH_DONE (R335, R337, R340, R436, R457): the fetch for the PTE at `pte` ends; `corr` and `retry` are what the NAND read
needed, `retry` 8 where it was uncorrectable. -/
def execPageFetchDone (pte corr retry : Nat) (s : State) : Res :=
  match s.mmu.fetches.find? (fun f => f.pte == pte) with
  | none => .next s
  | some f =>
    if s.fetchAliased f then .next (((s.fetchEnd pte).resumeSlots pte).dmaResume pte true)
    else match s.fetchFrame f with
    | (none, _) => .next s
    | (some n, s1) =>
      if f.zero then .next (s1.fetchOk f n (zeros 4096))
      else if !s1.dieReleased || s1.pager.flushing || !s1.aesRuns then .next s
      else
        let row := tblGet 0 s1.nand.rowsPage f.bidx
        let s1 := if 7 < retry then s1.readUncorr else s1.readCorrected row corr retry
        match tblFind s1.mmu.store f.bidx with
        | none => .next (s1.fetchFail f n 6)
        | some p =>
          if 7 < retry then .next (s1.fetchFail f n 0)
          else
            let t := s1.pageTag p.bytes f.bidx
            if t.1 == p.tag then .next (t.2.fetchOk f n p.bytes) else .next (t.2.fetchFail f n 6)

/-! ### Write-backs (R338) -/

/-- CLOCK_SWEEP (R338): with fewer than FREEMIN frames free the clock chooses a victim. -/
def execClockSweep (s : State) : Res :=
  if s.fld MMU_POOL_FREEMIN ≤ s.freeFrames.length then .next s
  else match sweepOver (s.clockOrder ++ s.clockOrder) s with
    | (none, s) => .next s
    | (some (n, f), s) =>
      let s : State := { s with mmu := { s.mmu with hand := n + 1 } }
      if s.frameDirty f && !s.pageWritable then .next s else .next (s.pageOut n f)

/-- PAGE_WRITEBACK_DONE (R338, R340, R457): the page of frame `n` is in PAGE with a new tag; its frame is free. -/
def execPageWritebackDone (n : Nat) (die : DieEnd) (s : State) : Res :=
  match tblFind s.mmu.writebacks n with
  | none => .next s
  | some f =>
    if !s.dieReleased || s.pager.flushing || !s.aesRuns then .next s
    else
      let b := s.memBytes (frameBase n) 4096
      let t := s.pageTag b f.bidx
      let s := (t.2.hwDie .page die).hwProgram .page f.bidx
      let s : State := { s with mmu := { s.mmu with store := tblIns s.mmu.store f.bidx ⟨b, t.1⟩,
                                                    writebacks := tblDel s.mmu.writebacks n } }
      .next ((s.dropFrame n).evictEnd f.pte Code.OK)

/-! ### Page commands (R357) -/

/-- A page command ends at once. -/
def State.pcmdEnd (s : State) (status : Nat) : State := (s.setFld MMU_PCMD_STATUS status).clr MMU_PCMD_BUSY

/-- The PTE of MMU_PADDR's page in the table of (core, ASID). -/
def State.pcmdPte (s : State) (c : CoreId) (asid : Nat) : Option Nat :=
  match s.tableOf c asid with
  | none => none
  | some l1 => match s.walk l1 (4096 * s.fld MMU_PADDR_VPN) with
    | .ok a => some a
    | _ => none

/-- The resident frame of a PTE. -/
def State.frameOf (s : State) (pte : Nat) : Option (Nat × PoolFrame) := s.mmu.frames.find? (fun e => e.2.pte == pte)

/-- May MMU_PCMD be written (R357)? -/
def State.pcmdBad (s : State) (asid : Nat) : Bool := s.flag MMU_PCMD_BUSY || decide (8 < asid)

/-- EVICT. -/
def State.pageEvict (s : State) (c : CoreId) (asid : Nat) : State :=
  match (s.pcmdPte c asid).bind s.frameOf with
  | none => s.pcmdEnd Code.DMA_ABSENT
  | some (n, f) =>
    let s : State := { s with mmu := { s.mmu with pins := s.mmu.pins.filter (fun p => p != f.pte) } }
    if tblHas s.mmu.writebacks n || s.frameDirty f then
      if !(tblHas s.mmu.writebacks n) && !s.pageWritable then s.pcmdEnd Code.STORE_READONLY
      else
        let s := if tblHas s.mmu.writebacks n then s else s.pageOut n f
        ({ s with mmu := { s.mmu with evict := some f.pte } } : State).set1 MMU_PCMD_BUSY
    else (s.dropFrame n).pcmdEnd Code.OK

/-- PIN. -/
def State.pagePin (s : State) (c : CoreId) (asid : Nat) : State :=
  match (s.pcmdPte c asid).bind s.frameOf with
  | none => s.pcmdEnd Code.DMA_ABSENT
  | some (_, f) =>
    ({ s with mmu := { s.mmu with pins := if s.mmu.pins.contains f.pte then s.mmu.pins else s.mmu.pins ++ [f.pte] } } :
      State).pcmdEnd Code.OK

/-- UNPIN. -/
def State.pageUnpin (s : State) (c : CoreId) (asid : Nat) : State :=
  match s.pcmdPte c asid with
  | none => s.pcmdEnd Code.DMA_ABSENT
  | some a => ({ s with mmu := { s.mmu with pins := s.mmu.pins.filter (fun p => p != a) } } : State).pcmdEnd Code.OK

/-- TLBINV: all entries of every TLB. -/
def State.tlbInv (s : State) : State := ({ s with mmu := { s.mmu with tlb := [] } } : State).pcmdEnd Code.OK

/-- A write of MMU_PCMD. -/
def State.pcmdWrite (s : State) (v : Word) : State :=
  let c := coreOf (bitsOf v.toNat 9 8)
  let asid := bitsOf v.toNat 7 4
  if s.pcmdBad asid then s.discard baseMMU
  else match bitsOf v.toNat 2 0 with
    | 1 => s.pageEvict c asid
    | 2 => s.pagePin c asid
    | 3 => s.pageUnpin c asid
    | 4 => s.tlbInv
    | _ => s.discard baseMMU

/-- PAGE_EVICT (R338, R357). -/
def execPageEvict (c : CoreId) (asid : Nat) (s : State) : Res :=
  .next (if s.pcmdBad asid then s.discard baseMMU else s.pageEvict c asid)

/-- PAGE_PIN (R338, R357). -/
def execPagePin (c : CoreId) (asid : Nat) (s : State) : Res :=
  .next (if s.pcmdBad asid then s.discard baseMMU else s.pagePin c asid)

/-- PAGE_UNPIN (R338, R357). -/
def execPageUnpin (c : CoreId) (asid : Nat) (s : State) : Res :=
  .next (if s.pcmdBad asid then s.discard baseMMU else s.pageUnpin c asid)

/-- TLBINV (R336, R357). -/
def execTlbinv (s : State) : Res := .next (if s.pcmdBad 0 then s.discard baseMMU else s.tlbInv)

/-- MMU_CNTCLR (R357). -/
def State.mmuCntclr (s : State) : State :=
  (List.range 4).foldl (fun (s : State) n => s.wr (MMU_TSWc n) 0) (s.wr MMU_ECCSTAT 0)

def execMmuCntclr (s : State) : Res := .next s.mmuCntclr

/-- A write of MMU_POOL (R332, R357). -/
def State.poolWrite (s : State) (v : Word) : State :=
  let first := bitsOf v.toNat 9 0
  let fm := bitsOf v.toNat 25 16
  if !s.mmu.frames.isEmpty || !s.mmu.fetches.isEmpty || 1008 < first || fm = 0 || 255 < fm then s.discard baseMMU
  else s.plainWrite MMU_POOL v

/-- A write of MMU_TCBc (R341, R357). -/
def State.tcbWrite (s : State) (c : CoreId) (v : Word) : State :=
  let base := v.toNat / 2048 * 2048
  if !(s.tableMem base 2048) || ((s.tasksOf c).slots.any (fun e => e.2.st != slotEmpty)) then s.discard baseMMU
  else s.plainWrite (MMU_TCBc (coreNum c)) v

/-! ### Task slots (R343, R344) -/

/-- TASK_START, TASK_STOP, TASK_SLEEP, TASK_WAKE, TASK_PRIO and TASK_FREE (R343): `r` writes MMU_TCMDc. -/
def execTaskStart (r : Requester) (c : CoreId) (n prio : Nat) (s : State) : Res := .next (s.tcmdWrite r c 1 n prio)
def execTaskStop (r : Requester) (c : CoreId) (n : Nat) (s : State) : Res := .next (s.tcmdWrite r c 2 n 0)
def execTaskSleep (r : Requester) (c : CoreId) (n : Nat) (s : State) : Res := .next (s.tcmdWrite r c 3 n 0)
def execTaskWake (r : Requester) (c : CoreId) (n : Nat) (s : State) : Res := .next (s.tcmdWrite r c 4 n 0)
def execTaskPrio (r : Requester) (c : CoreId) (n prio : Nat) (s : State) : Res := .next (s.tcmdWrite r c 5 n prio)
def execTaskFree (r : Requester) (c : CoreId) (n : Nat) (s : State) : Res := .next (s.tcmdWrite r c 6 n 0)

/-- Does core `c` execute in its task bank? -/
def State.inTask (s : State) (c : CoreId) : Bool :=
  let x := s.core c
  x.st == .run && x.bankNo == 0 && !x.dbgHalt && s.clocked

/-- TASK_SWITCH (R344): at a boundary in the task bank a more important slot takes over. -/
def execTaskSwitch (c : CoreId) (s : State) : Res :=
  if s.inTask c && s.preempts c then .next ((s.advanceTo (s.core c).ready).switchTo c slotReady) else .next s

/-- QUANTUM_EXPIRE (R344): the running slot has run QUANT cycles, and another of its priority is READY. -/
def execQuantumExpire (c : CoreId) (s : State) : Res :=
  let t := s.tasksOf c
  match t.cur with
  | none => .next s
  | some n =>
    let at_ := (t.slot n).since + s.fld (MMU_TQUANTc_QUANT (coreNum c))
    if s.inTask c && s.quantumDue c at_ then
      .next ((s.advanceTo (max at_ (s.core c).ready)).switchTo c slotReady)
    else .next s

/-! ### The symbol code (R352–R354) -/

/-- Does the code guard `a`: SRAM and eDRAM? -/
def eccMem (a : Nat) : Bool :=
  match regionOf a with
  | .tcm _ | .sram | .landing | .kcPriv | .plan | .edir | .ehot => true
  | _ => false

/-- ECC_CORRECTED (R352): a read of the line of `a` was corrected; `lasting` where the reread shows an error again. -/
def execEccCorrected (a : Nat) (lasting : Bool) (s : State) : Res :=
  if eccMem a && !(s.poisoned a) then .next (s.corrected a lasting) else .next s

/-- The lines the scrubber reads, in address order. -/
def scrubAddr (i : Nat) : Nat :=
  let a := 16 * i
  if a < 0x100000 then 0x10000000 + a
  else if a < 0x500000 then 0x20000000 + (a - 0x100000)
  else if a < 0x5c0000 then 0x20400000 + (a - 0x500000)
  else if a < 0x600000 then 0x20500000 + (a - 0x5c0000)
  else 0x30000000 + (a - 0x600000)

/-- Lines of SRAM and eDRAM: 14 MiB. -/
def scrubLines : Nat := 0xe0000

/-- The clean resident page that `a` lies in. -/
def State.cleanPage (s : State) (a : Nat) : Option Nat :=
  match s.poolFrameOf a with
  | none => none
  | some n => match tblFind s.mmu.frames n with
    | some f => if s.frameDirty f then none else some n
    | none => none

/-- What a read of the next line shows. -/
inductive ScrubRead where
  | clean | transient | lasting | uncorr
  deriving DecidableEq, Repr

/-- SCRUB_READ (R354): the scrubber reads its next line; a poisoned one is uncorrectable. -/
def execScrubRead (outcome : Nat) (s : State) : Res :=
  if !(s.flag MMU_SCRUB_EN && s.clocked) then .next s
  else
    let a := scrubAddr s.mmu.scrub
    let s : State := { s with mmu := { s.mmu with scrub := (s.mmu.scrub + 1) % scrubLines } }
    match (if s.poisoned a then ScrubRead.uncorr else match outcome with
      | 0 => .clean
      | 1 => .transient
      | 2 => .lasting
      | _ => .uncorr) with
    | .clean => .next s
    | .transient => .next (s.corrected a false)
    | .lasting => .next (s.corrected a true)
    | .uncorr => match s.cleanPage a with
      | some n => .next ((s.uncorrRead a).dropFrame n |>.cureLine a)
      | none => .next (s.uncorrRead a)

end Sys2Proof.Machine
end

