-- ==== Sys2Proof/Machine/Dma.lean ====
section
/-! DEFINITION. DMA (chapter 10, R347–R351, R358): channels, bursts, request elements, and the meanings of its
commands. -/

namespace Sys2Proof.Machine
open Sys2Proof

/-! ### Channel states (DMA_CHnSTAT.STATE) -/

def dmaIdle : Nat := 0
def dmaRun : Nat := 1
def dmaWaitPg : Nat := 2
def dmaWaitReq : Nat := 3
def dmaFault : Nat := 4
def dmaDone : Nat := 5

/-- State of channel `ch`. -/
def State.dmaSt (s : State) (ch : Nat) : Nat := s.fld (DMA_CHnSTAT_STATE ch)

/-- Put channel `ch` into a state. -/
def State.setDmaSt (s : State) (ch st : Nat) : State := s.setFld (DMA_CHnSTAT_STATE ch) st

/-- Replace them. -/
def State.setDmaHeld (s : State) (ch : Nat) (b : List Byte) : State :=
  ({ s with dma := { s.dma with held := tblPut [] s.dma.held ch b } } : State).setFld (DMA_CHnSTAT_HELD ch) b.length

/-- A channel faults (R350): `dst` names the side. -/
def State.dmaFail (s : State) (ch status : Nat) (dst : Bool) : State :=
  (((s.setDmaSt ch dmaFault).setFld (DMA_CHnSTAT_STATUS ch) status).setBool (DMA_CHnSTAT_SIDE ch) dst).set1
    (DMA_IRQ_FAULT.bit ch)

/-- Bytes delivered (R350): the channel ends with the last, and a request channel waits for the next request. -/
def State.dmaCount (s : State) (ch n : Nat) : State :=
  let done := s.fld (DMA_CHnDONE_DONE ch) + n
  let s := s.setFld (DMA_CHnDONE_DONE ch) done
  if s.fld (DMA_CHnLEN_LEN ch) ≤ done then
    let s := (s.setDmaSt ch dmaDone).setFld (DMA_CHnSTAT_STATUS ch) Code.OK
    if s.flag (DMA_CHnCFG_IRQDONE ch) then s.set1 (DMA_IRQ_DONE.bit ch) else s
  else if s.fld (DMA_CHnCFG_REQ ch) ≠ 0 then s.setDmaSt ch dmaWaitReq
  else s

/-- Element width of a fixed side in bytes. -/
def State.dmaWidth (s : State) (ch : Nat) : Nat := 2 ^ s.fld (DMA_CHnCFG_WIDTH ch)

/-! ### Data registers (R348, R534, R539, R541) -/

/-- The FIFO behind a fixed side: a UART, the Gen-1 window's, or NET's. -/
inductive DmaPort where
  | uart (u : Nat) | hif | net
  deriving DecidableEq, Repr

/-- The data register at an address. -/
def portOf (a : Nat) : Option DmaPort :=
  if a = UART_DATAn 0 then some (.uart 0)
  else if a = UART_DATAn 1 then some (.uart 1)
  else if blockBase a = baseHIF then some .hif
  else if blockBase a = baseNET then some .net
  else none

/-- Take one element of `w` bytes. -/
def State.portTake (s : State) (p : DmaPort) (w : Nat) : List Byte × State :=
  match p with
  | .uart u => (leBytes w (s.uartRead u).1.toNat, (s.uartRead u).2)
  | .hif => (leBytes w (s.hif.g1tx.headD 0), { s with hif := { s.hif with g1tx := s.hif.g1tx.drop 1 } })
  | .net => ((s.net.rxOut ++ List.replicate w 0).take w, { s with net := { s.net with rxOut := s.net.rxOut.drop w } })

/-- Deliver one element. -/
def State.portGive (s : State) (p : DmaPort) (b : List Byte) : State :=
  match p with
  | .uart u => s.uartWrite u (BitVec.ofNat 32 (leNat b))
  | .hif => if 512 ≤ s.hif.g1rx.length then s
      else { s with hif := { s.hif with g1rx := s.hif.g1rx ++ [leNat b % 65536] } }
  | .net => if 4096 < s.net.tx.length + b.length then s else { s with net := { s.net with tx := s.net.tx ++ b } }

/-- Does the named block make a request (R348)? -/
def State.dmaAsked (s : State) (ch : Nat) : Bool :=
  let w := s.dmaWidth ch
  match s.fld (DMA_CHnCFG_REQ ch) with
  | 1 => !s.uart0.rx.isEmpty
  | 2 => decide (s.uart0.tx.length < 64)
  | 3 => !s.uart1.rx.isEmpty
  | 4 => decide (s.uart1.tx.length < 64)
  | 5 => !s.hif.g1tx.isEmpty
  | 6 => decide (s.hif.g1rx.length < 512)
  | 7 => decide (w ≤ s.net.rxOut.length)
  | 8 => decide (s.net.tx.length + w ≤ 4096)
  | _ => false

/-! ### One burst or element (R349, R350) -/

/-- What a side of a transfer resolves to. -/
inductive DmaSide where
  | mem (pa : Nat)
  | port (p : DmaPort)
  | bad (status : Nat)
  | miss (pte : Nat)
  deriving DecidableEq, Repr

/-- The status of an exception (R350). -/
def dmaStatus (vec : Nat) : Nat :=
  if vec = vecAbsent then Code.DMA_ABSENT
  else if vec = vecProt then Code.DMA_PROT
  else if vec = vecEcc then Code.MEM_UNCORR
  else Code.DMA_BUSERR

/-- Resolve a side of channel `ch`: its address, whether it increments and is virtual, and the access. -/
def State.dmaSide (s : State) (ch a : Nat) (inc virt : Bool) (k : Acc) : DmaSide × State :=
  if !inc then
    (match portOf a with
     | some p => .port p
     | none => .bad Code.DMA_BUSERR, s)
  else if virt then
    if regionOf a ≠ .paged then (.bad Code.DMA_BUSERR, s)
    else match s.translate 4 ch (1024 * s.fld (DMA_CHnTTB_L1 ch)) false k (s.dmaColumn ch) a with
      | (.ok pa, s) => (.mem pa, s)
      | (.bad v _, s) => (.bad (dmaStatus v), s)
      | (.miss p, s) => (.miss p, s)
  else if regionOf a = .paged then (.bad Code.DMA_BUSERR, s)
  else match s.dmaColumn ch a with
    | some v => (.bad (dmaStatus v), s)
    | none => (.mem a, s)

/-- A channel meets a poisoned line (R352): a clean page of the pool is fetched again, any other read is a fault. -/
def State.dmaPoison (s : State) (ch a : Nat) (dst : Bool) : State :=
  let s := s.uncorrRead a
  match s.cleanPage a with
  | some n => match tblFind s.mmu.frames n with
    | some f => ((s.dropFrame n).cureLine a).dmaWaitPage ch f.pte
    | none => s.dmaFail ch Code.MEM_UNCORR dst
  | none => s.dmaFail ch Code.MEM_UNCORR dst

/-- Write `b` at physical `pa`: a whole line ends its poison. -/
def State.dmaStore (s : State) (pa : Nat) (b : List Byte) : State :=
  let s := s.memPut pa b
  if b.length = 16 then s.cureLine pa else s

/-- Address of the destination side: an incrementing one moves with the bytes. -/
def State.dmaDst (s : State) (ch : Nat) : Nat :=
  let a := (s.rd (DMA_CHnDST ch)).toNat
  if s.flag (DMA_CHnCFG_DSTINC ch) then (a + s.fld (DMA_CHnDONE_DONE ch)) % 2 ^ 32 else a

/-- Bytes of the next burst (R349): up to 16, within a 16-byte line on both sides; a fixed side moves WIDTH. -/
def State.dmaLen (s : State) (ch : Nat) : Nat :=
  let left := s.fld (DMA_CHnLEN_LEN ch) - s.fld (DMA_CHnDONE_DONE ch)
  if s.flag (DMA_CHnCFG_SRCINC ch) && s.flag (DMA_CHnCFG_DSTINC ch) then
    min left (min (16 - s.dmaSrc ch % 16) (16 - s.dmaDst ch % 16))
  else s.dmaWidth ch

/-- Deliver `b` to a resolved destination. -/
def State.dmaDeliver (s : State) (ch : Nat) (d : DmaSide) (b : List Byte) : State :=
  match d with
  | .mem pa => (s.dmaStore pa b).dmaCount ch b.length
  | .port p => (s.portGive p b).dmaCount ch b.length
  | _ => s

/-- The destination of `n` bytes: fault, wait, or deliver what `f` takes from the source. -/
def State.dmaTo (s : State) (ch n : Nat) (f : State → List Byte × State) : State :=
  match s.dmaSide ch (s.dmaDst ch) (s.flag (DMA_CHnCFG_DSTINC ch)) (s.flag (DMA_CHnCFG_DSTV ch)) .store with
  | (.bad st, s) => s.dmaFail ch st true
  | (.miss p, s) => s.dmaWaitPage ch p
  | (.mem pa, s) =>
    if s.poisoned pa && n ≠ 16 then s.dmaPoison ch pa true
    else ((f s).2.setDmaHeld ch []).dmaDeliver ch (.mem pa) (f s).1
  | (.port p, s) => ((f s).2.setDmaHeld ch []).dmaDeliver ch (.port p) (f s).1

/-- One burst or element of a running channel (R350): held bytes first; both translations are checked before any byte
moves, but an element of a request source is taken first and held. -/
def State.dmaMove (s : State) (ch : Nat) : State :=
  let n := s.dmaLen ch
  let held := s.dmaHeld ch
  if !held.isEmpty then s.dmaTo ch held.length (fun s => (held, s))
  else
    match s.dmaSide ch (s.dmaSrc ch) (s.flag (DMA_CHnCFG_SRCINC ch)) (s.flag (DMA_CHnCFG_SRCV ch)) .load with
    | (.bad st, s) => s.dmaFail ch st false
    | (.miss p, s) => s.dmaWaitPage ch p
    | (.mem pa, s) =>
      if s.poisoned pa then s.dmaPoison ch pa false
      else s.dmaTo ch n (fun s => (s.memBytes pa n, s))
    | (.port p, s) =>
      let t := s.portTake p n
      (t.2.setDmaHeld ch t.1).dmaTo ch n (fun s => (t.1, s))

/-! ### Arbitration (R349) -/

/-- The channels in RUN. -/
def State.dmaRunning (s : State) : List Nat := (List.range 16).filter (fun n => s.dmaSt n == dmaRun)

/-- The channel granted next: most important PRIO, round-robin within it. -/
def State.dmaGrant (s : State) : Option Nat :=
  let prio (n : Nat) : Nat := s.fld (DMA_CHnCFG_PRIO n)
  match s.dmaRunning with
  | [] => none
  | a :: t =>
    let best := t.foldl (fun m n => min m (prio n)) (prio a)
    let l := (a :: t).filter (fun n => prio n == best)
    let last := tblGet 0 s.dma.last best
    match l.filter (fun n => decide (last ≤ n)) with
    | n :: _ => some n
    | [] => l.head?

/-- DMA_BURST (R349, R350): the arbiter grants one burst; in shared SRAM it takes 3 cycles. -/
def execDmaBurst (s : State) : Res :=
  if !s.clocked then .next s
  else match s.dmaGrant with
    | none => .next s
    | some ch =>
      let prio := s.fld (DMA_CHnCFG_PRIO ch)
      let s : State := { s with dma := { s.dma with last := tblPut 0 s.dma.last prio (ch + 1) } }
      if s.fld (DMA_CHnLEN_LEN ch) ≤ s.fld (DMA_CHnDONE_DONE ch) then .next (s.dmaCount ch 0)
      else if s.fld (DMA_CHnCFG_REQ ch) ≠ 0 && (s.dmaHeld ch).isEmpty && !(s.dmaAsked ch) then
        .next (s.setDmaSt ch dmaWaitReq)
      else .next ((s.dmaMove ch).advance 3)

/-- DMA_REQUEST (R348): the named block requests, and a waiting channel moves one element. -/
def execDmaRequest (ch : Nat) (s : State) : Res :=
  if 16 ≤ ch || s.dmaSt ch ≠ dmaWaitReq || !(s.dmaAsked ch) || !s.clocked then .next s
  else .next ((s.setDmaSt ch dmaRun).dmaMove ch)

/-! ### Commands (R350, R358) -/

/-- Is a fixed side out of line with WIDTH, or LEN no multiple of it? -/
def State.dmaMisfit (s : State) (ch : Nat) : Bool :=
  let w := s.dmaWidth ch
  let fs := !(s.flag (DMA_CHnCFG_SRCINC ch))
  let fd := !(s.flag (DMA_CHnCFG_DSTINC ch))
  (fs && (s.rd (DMA_CHnSRC ch)).toNat % w != 0) || (fd && (s.rd (DMA_CHnDST ch)).toNat % w != 0) ||
    ((fs || fd) && s.fld (DMA_CHnLEN_LEN ch) % w != 0)

/-- A write of DMA_CHnCMD. -/
def State.dmaCmd (s : State) (ch op : Nat) : State :=
  let st := s.dmaSt ch
  match op with
  | 1 =>
    if (st == dmaIdle || st == dmaDone) && !(s.dmaMisfit ch) then
      ((s.setFld (DMA_CHnDONE_DONE ch) 0).setDmaHeld ch []).setDmaSt ch
        (if s.fld (DMA_CHnCFG_REQ ch) = 0 then dmaRun else dmaWaitReq)
    else s.discard baseDMA
  | 2 => if st == dmaFault then s.setDmaSt ch dmaRun else s.discard baseDMA
  | 3 =>
    if st == dmaRun || st == dmaWaitPg || st == dmaWaitReq || st == dmaFault then
      let s : State := { s with dma := { s.dma with wait := tblDel s.dma.wait ch } }
      ((s.setDmaHeld ch []).setDmaSt ch dmaIdle).setFld (DMA_CHnSTAT_STATUS ch) Code.DMA_ABORTED
    else s.discard baseDMA
  | _ => s.discard baseDMA

/-- DMA_START, DMA_RESUME and DMA_ABORT (R350, R358). -/
def execDmaStart (ch : Nat) (s : State) : Res := if ch < 16 then .next (s.dmaCmd ch 1) else .next s
def execDmaResume (ch : Nat) (s : State) : Res := if ch < 16 then .next (s.dmaCmd ch 2) else .next s
def execDmaAbort (ch : Nat) (s : State) : Res := if ch < 16 then .next (s.dmaCmd ch 3) else .next s

/-- Is the channel in a state in which its registers may not change (R351)? -/
def State.dmaLocked (s : State) (ch : Nat) : Bool :=
  let st := s.dmaSt ch
  st == dmaRun || st == dmaWaitPg || st == dmaWaitReq

/-- A reserved DMA_CHnCFG (R348, R358). -/
def dmaCfgBad (v : Nat) : Bool :=
  let si := bitAt v 2
  let di := bitAt v 3
  bitsOf v 5 4 == 3 || decide (9 ≤ bitsOf v 11 8) || (bitAt v 0 && !si) || (bitAt v 1 && !di) ||
    (bitsOf v 11 8 != 0 && si && di)

/-- A write of DMA_CHnCFG by `r`: OWNER names the core (R351). -/
def State.dmaCfgWrite (s : State) (r : Requester) (ch : Nat) (v : Word) : State :=
  if s.dmaLocked ch || dmaCfgBad v.toNat then s.discard baseDMA
  else
    let s := s.plainWrite (DMA_CHnCFG ch) v
    match r with
    | .core c => s.setFld (DMA_CHnCFG_OWNER ch) (coreNum c)
    | _ => s

/-- A write to a channel's register at `o` within its eight (R358). -/
def State.dmaRegWrite (s : State) (r : Requester) (ch o : Nat) (v : Word) : State :=
  match o with
  | 0x0c => s.dmaCfgWrite r ch v
  | 0x14 => s.dmaCmd ch (bitsOf v.toNat 1 0)
  | 0x08 => if s.dmaLocked ch || bitsOf v.toNat 23 0 = 0 then s.discard baseDMA else s.plainWrite (DMA_CHnLEN ch) v
  | 0x00 => if s.dmaLocked ch then s.discard baseDMA else s.plainWrite (DMA_CHnSRC ch) v
  | 0x04 => if s.dmaLocked ch then s.discard baseDMA else s.plainWrite (DMA_CHnDST ch) v
  | 0x10 => if s.dmaLocked ch then s.discard baseDMA else s.plainWrite (DMA_CHnTTB ch) v
  | _ => s

end Sys2Proof.Machine
end

