-- ==== Sys2Proof/Machine/Icu.lean ====
section
/-! DEFINITION. The meanings of the interrupt controller's commands (chapter 11), but for INTERRUPT_ENTRY, which
enters a bank of a core. -/

namespace Sys2Proof.Machine
open Sys2Proof

/-- EOI (R366): ends the source if it is active and routed to the requesting core; any other is counted. -/
def State.eoi (s : State) (r : Requester) (v : Word) : State :=
  let src := bitsOf v.toNat 10 0
  match s.icu.active.find? (fun a => a.src == src && r == .core a.core) with
  | some a =>
    let s1 : State := { s with icu := { s.icu with active := s.icu.active.filter (fun x => x.src != src) } }
    s1.showActive a.core
  | none => (s.setFld ICU_BADEOI_LAST src).inc ICU_BADEOI_COUNT

def execEoi (r : Requester) (v : Word) (s : State) : Res := .next (s.eoi r v)

/-- SWI_SET (R372). -/
def State.swiSet (s : State) (v : Word) : State :=
  s.setFld ICU_SWISET_LINE (s.fld ICU_SWISET_LINE ||| bitsOf v.toNat 7 0)

def execSwiSet (v : Word) (s : State) : Res := .next (s.swiSet v)

/-- SWI_CLEAR (R372). -/
def State.swiClear (s : State) (v : Word) : State :=
  s.setFld ICU_SWISET_LINE (s.fld ICU_SWISET_LINE &&& (255 - bitsOf v.toNat 7 0))

def execSwiClear (v : Word) (s : State) : Res := .next (s.swiClear v)

/-- ICU_CNTCLR (R372): clears ICU_BADEOI and the ICU_STATc counts. -/
def State.icuCntclr (s : State) : State :=
  (List.range 4).foldl (fun (s : State) n => s.wr (ICU_STATc n) 0) (s.wr ICU_BADEOI 0)

def execIcuCntclr (s : State) : Res := .next s.icuCntclr

/-- ALATCH_EDGE (R370): the input of latch `n` (0–25) changes to `level`; an enabled edge sets
the latch. A pin that the device drives keeps the level driven; PAIR_ACT, latch 22, stays low while this member drives it. -/
def execAlatchEdge (n : Nat) (level : Bool) (s : State) : Res :=
  if 26 ≤ n || (decide (n < 20) && (s.gpioDrives n).isSome) then .next s
  else if n = 22 then
    .next (({ s with icu := { s.icu with pairExt := level } } : State).pinTo 22 (level && !s.mirror.drives))
  else .next (s.pinTo n level)

/-- ALATCH_CLEAR (R370): a W1C write to ICU_ALSTAT, or to ICU_ALOVR where `ovr`. -/
def State.alatchClear (s : State) (ovr : Bool) (v : Word) : State :=
  s.plainWrite (if ovr then ICU_ALOVR else ICU_ALSTAT) v

def execAlatchClear (ovr : Bool) (v : Word) (s : State) : Res := .next (s.alatchClear ovr v)

end Sys2Proof.Machine
end

