-- ==== Sys2Proof/Machine/Rf.lean ====
section
/-! DEFINITION. The meanings of the RF path commands (chapter 01). -/

namespace Sys2Proof.Machine
open Sys2Proof

/-- A write of RFx_CTRL.EN = 1 (R35, R165, R586). -/
def State.pathEnable (s : State) (p : PathId) : State :=
  if s.activePlan.isNone then s.discard (rfBase p)
  else
    let s := (s.set1 (RFx_CTRL_EN p)).modRf p (fun x => { x with pendOff := false })
    s.startPath p false

/-- PATH_ENABLE (R35). -/
def execPathEnable (p : PathId) (s : State) : Res := .next (s.pathEnable p)

/-- The command that a back-to-back gap leads to is held again as one that has not started. -/
def State.unbind (s : State) (p : PathId) : State :=
  s.modRf p (fun x => { x with gap := false, held := x.held.map (fun c => { c with started := false }) })

/-- A write of RFx_CTRL.EN = 0 (R586): the move to OFF is pending in every state but OFF and FAULT. -/
def State.pathDisable (s : State) (p : PathId) : State :=
  let s := s.clr (RFx_CTRL_EN p)
  match s.pst p with
  | .off | .fault => s
  | .tx =>
    -- in a back-to-back gap the frame in progress is over: the next does not start, and the path runs TXRX
    let s := s.modRf p (fun x => { x with pendOff := true })
    if (s.rf p).gap then (s.unbind p).enter p .txrx (us 8) else s
  | _ => s.modRf p (fun x => { x with pendOff := true })

/-- PATH_DISABLE (R586). -/
def execPathDisable (p : PathId) (s : State) : Res := .next (s.pathDisable p)

/-- Is the pending move to OFF one that a transmission delays (R586)? -/
def PathSt.txBusy : PathSt → Bool
  | .rxtx | .tx | .txrx => true
  | _ => false

/-- PATH_OFF_TAKEN (R586): at the next 1 µs boundary; in RXTX, TX and TXRX the path enters OFF when TXRX ends. -/
def execPathOffTaken (p : PathId) (s : State) : Res :=
  if !(s.rf p).pendOff then .next s
  else match s.pst p with
    | .rxtx | .tx => .next s
    | .txrx => .next ((s.advanceTo (s.rf p).due).goOff p).drainEnds
    | _ => .next (s.advanceUs.goOff p).drainEnds

/-- The saved calibration record returns (R37). -/
def State.restoreCal (s : State) (p : PathId) : State :=
  match (s.rf p).calRec with
  | none => s
  | some r =>
    let s := (((s.wr (RFx_IQCORR p) r.iqcorr).wr (RFx_TUNTX p) r.tuntx).wr (RFx_TUNRX p) r.tunrx).wr (RFx_TUNSTAT p)
      r.tunstat
    (s.wr (RFx_CALSTAT p) r.calstat).setBool (RFx_STATE_BACKOFF p) r.backoff

/-- STARTUP_DONE (R35, R37). -/
def execStartupDone (p : PathId) (s : State) : Res :=
  if s.pst p = .startup then
    let s := s.advanceTo (s.rf p).due
    let s := if (s.rf p).waking then (s.restoreCal p).coldDue p else s
    .next (s.toSyncal p)
  else .next s

/-- SYNCAL has locked at die temperature `temp` (R26, R27, R35). A SYNCREQ written meanwhile waits for RX (R27). With VALID = 1
the path goes to RX whatever IRCDUE is (R35's rows); an IRCAL that is due at a wake then runs as R32 has a due one run, in a
window or forced (DESIGN CHOICE, log entry 152: R37 says that it runs and not when). -/
def State.syncalLocked (s : State) (p : PathId) (temp : Int) : State :=
  let s := s.modRf p (fun x => { x with synDueAt := none, lockFails := 0 })
  let s := (s.clr (RFx_STATE_SYNDUE p)).set1 (RFx_IRQ_CALDONE p)
  let s := (s.setFld (RFx_CALSTAT_TEMP p) (unsignedOf 8 temp)).setFld (RFx_CALSTAT_SYNTEMP p) (unsignedOf 8 temp)
  if s.flag (RFx_IQCORR_VALID p) then s.toRx p 0 else s.toIrcal p

/-- SYNCAL has ended without lock (R29): a second time in a row it is a failed check and the path enters FAULT. -/
def State.syncalFailed (s : State) (p : PathId) : State :=
  if (s.rf p).lockFails = 0 then
    (s.modRf p (fun x => { x with lockFails := 1 })).toSyncal p
  else ((s.modRf p (fun x => { x with lockFails := 0 })).bistReport (pathItem p) 0).goFault p

/-- SYNCAL_DONE (R35, R29). -/
def execSyncalDone (p : PathId) (locked : Bool) (temp : Int) (s : State) : Res :=
  if s.pst p = .syncal then
    let s := s.advanceTo (s.rf p).due
    if locked then .next (s.syncalLocked p temp) else .next (s.syncalFailed p).drainEnds
  else .next s

/-- Does self-test run its PATH check on this path now? Its result is then BIST's to report (R505). -/
def State.bistOnPath (s : State) (p : PathId) : Bool := s.bist.check.any (fun c => c.item == pathItem p)

/-- The coefficients an IRCAL ends with (R30, R33): the new ones at 55 dB or more, else the better set. -/
def State.ircalCoef (s : State) (p : PathId) (irr : Nat) (g ph : Int) : State :=
  let keep := decide (irr < 220) && s.flag (RFx_IQCORR_VALID p) && decide (irr ≤ (s.rf p).coefIrr)
  if keep then s
  else
    let s := ((s.setFld (RFx_IQCORR_GCORR p) (unsignedOf 12 g)).setFld (RFx_IQCORR_PCORR p) (unsignedOf 12 ph)).set1
      (RFx_IQCORR_VALID p)
    s.modRf p (fun x => { x with coefIrr := irr })

/-- IRCAL_DONE (R30, R32, R33, R35): `irr` is the worst verified image rejection in 0.25 dB units. -/
def execIrcalDone (p : PathId) (irr : Nat) (g ph : Int) (s : State) : Res :=
  if s.pst p = .ircal then
    let s := s.advanceTo (s.rf p).due
    let bist := s.bistOnPath p
    let s := (s.ircalCoef p irr g ph).setFld (RFx_CALSTAT_IRR p) (min irr 255)
    let s := s.setFld (RFx_CALSTAT_IRCTEMP p) (s.fld (RFx_CALSTAT_TEMP p))
    let s := (s.modRf p (fun x => { x with ircDueAt := none, ircReq := false })).clr (RFx_STATE_IRCDUE p)
    let s := s.set1 (RFx_IRQ_CALDONE p)
    let s := if irr < 220 && !bist then s.bistReport (pathItem p) irr else s
    .next (s.toRx p 0)
  else .next s

/-- SETTLE_DONE (R25). -/
def execSettleDone (p : PathId) (s : State) : Res :=
  if s.pst p = .settle then .next ((s.advanceTo (s.rf p).due).toRx p 0) else .next s

/-- Does the active plan hold window `w` of the path? -/
def State.hasWindow (s : State) (p : PathId) (w : Nat) : Bool :=
  match s.activePlan with
  | none => false
  | some q => (q.window p w).isSome

/-- WINDOW_MOVE_REQUEST (R43, R19): a write to RFx_WINREQ; an index with no window is a reserved encoding. -/
def State.winReq (s : State) (p : PathId) (w : Nat) : State :=
  if s.hasWindow p w then s.requestMove p w else s.discard (rfBase p)

def execWindowMoveRequest (p : PathId) (w : Nat) (s : State) : Res := .next (s.winReq p w)

/-- WINDOW_MOVE (R25, R43): the move that waits is taken in RX. -/
def execWindowMove (p : PathId) (s : State) : Res :=
  match s.pst p, (s.rf p).winPend with
  | .rx, some w => .next (s.takeMove p w)
  | _, _ => .next s

/-- SYNCREQ (R27). -/
def State.syncreq (s : State) (p : PathId) : State := (s.setSynDue p).modRf p (fun x => { x with syncReq := true })

def execSyncreq (p : PathId) (s : State) : Res := .next (s.syncreq p)

/-- IRCREQ (R32). -/
def State.ircreq (s : State) (p : PathId) : State := (s.setIrcDue p).modRf p (fun x => { x with ircReq := true })

def execIrcreq (p : PathId) (s : State) : Res := .next (s.ircreq p)

/-- TUNEREQ (R55, R62). -/
def State.tunereq (s : State) (p : PathId) : State := (s.set1 (RFx_STATE_TUNEDUE p)).clr (RFx_TUNSTAT_SRCHFAIL p)

def execTunereq (p : PathId) (s : State) : Res := .next (s.tunereq p)

/-- BOFFCLR (R55, R62). -/
def State.boffclr (s : State) (p : PathId) : State :=
  (((s.clr (RFx_STATE_BACKOFF p)).clr (RFx_TUNSTAT_BACKOFF p)).clr (RFx_TUNSTAT_MISMATCH p)).clr (RFx_TUNSTAT_SRCHFAIL p)

def execBoffclr (p : PathId) (s : State) : Res := .next (s.boffclr p)

/-- RF_CNTCLR (R62): the RFx_TXSTAT counts and RFx_BLINDUS. -/
def State.rfCntclr (s : State) (p : PathId) : State :=
  let s := ((s.clr (RFx_TXSTAT_UNLOCK_CNT p)).clr (RFx_TXSTAT_CLAMP_CNT p)).clr (RFx_TXSTAT_TXLATE_CNT p)
  s.modRf p (fun x => { x with blindCyc := 0, frozenAt := x.frozenAt.map (fun _ => s.clk.now) })

def execRfCntclr (p : PathId) (s : State) : Res := .next (s.rfCntclr p)

/-- REQUESTED_CAL_START (R27, R32): the first 1 µs boundary in RX; SYNCAL goes before IRCAL. -/
def execRequestedCalStart (p : PathId) (s : State) : Res :=
  let x := s.rf p
  if s.pst p = .rx && x.winPend.isNone then
    if x.syncReq then .next ((s.advanceUs.modRf p (fun x => { x with syncReq := false })).toSyncal p)
    else if x.ircReq then .next ((s.advanceUs.modRf p (fun x => { x with ircReq := false })).toIrcal p)
    else .next s
  else .next s

/-- No held transmission starts within `n` µs (R27). -/
def State.noTxWithin (s : State) (p : PathId) (n : Nat) : Bool :=
  (s.rf p).held.all (fun c => decide ((s.sqt : Int) + n < c.tstart))

/-- When a due calibration is forced (R27, R32): 1 s after it fell due. -/
def forceAt (due : Option Nat) : Option Nat := due.map (fun t => t + us 1000000)

/-- The earlier of two times. -/
def minOpt : Option Nat → Option Nat → Option Nat
  | some a, some b => some (min a b)
  | some a, none => some a
  | none, b => b

/-- Has time `t` come? -/
def State.past (s : State) (t : Option Nat) : Bool := t.any (fun t => decide (t ≤ s.clk.now))

/-- FORCED_CAL (R27, R32): 1 s after a calibration fell due, at the first microsecond in RX with no transmission within
162 µs, or 132 µs for IRCAL; a move that waits goes first (R43). -/
def execForcedCal (p : PathId) (s : State) : Res :=
  let x := s.rf p
  let syn := forceAt x.synDueAt
  let irc := forceAt x.ircDueAt
  match minOpt syn irc with
  | none => .next s
  | some t =>
    if s.pst p != .rx || x.winPend.isSome then .next s
    else
      let s1 := s.advanceTo t
      if s1.past syn && s1.noTxWithin p 162 then .next ((s1.modRf p (fun x => { x with syncReq := false })).toSyncal p)
      else if s1.past irc && s1.noTxWithin p 132 then .next ((s1.modRf p (fun x => { x with ircReq := false })).toIrcal p)
      else .next s

/-- Do two temperatures differ by more than 10 °C? -/
def apart10 (a b : Int) : Bool := decide (10 < (a - b).natAbs)

/-- DIE_TEMP_SAMPLE (R27, R32): every 1 ms, in every state of the path. -/
def execDieTempSample (p : PathId) (temp : Int) (s : State) : Res :=
  if !s.clocked then .next s
  else
    let s := s.advanceTo (s.rf p).tempAt
    let s := s.modRf p (fun x => { x with tempAt := s.clk.now + us 1000 })
    let s := s.setFld (RFx_CALSTAT_TEMP p) (unsignedOf 8 temp)
    let s := if apart10 temp (s.sfld (RFx_CALSTAT_SYNTEMP p)) then s.setSynDue p else s
    .next (if apart10 temp (s.sfld (RFx_CALSTAT_IRCTEMP p)) then s.setIrcDue p else s)

/-- LOSS_OF_LOCK (R28). -/
def execLossOfLock (p : PathId) (s : State) : Res :=
  let count := fun (s : State) => (s.set1 (RFx_IRQ_UNLOCK p)).inc (RFx_TXSTAT_UNLOCK_CNT p)
  match s.pst p with
  | .rx | .settle | .txrx => .next ((count s).toSyncal p)
  | .ircal => .next (((count s).bistAbort (fun i => i == pathItem p)).toSyncal p)
  | .tune => .next (((count s).applyTun p).toSyncal p)
  | .rxtx | .tx => .next (((count s).cutTx p Code.SYN_UNLOCK).toSyncal p).drainEnds
  | .startup | .syncal | .off | .fault => .next s

/-- The end of the 2 µs interval in which the clock stands (R21, R23). -/
def State.clipBoundary (s : State) : Nat := (s.clk.now / us 2 + 1) * us 2

/-- GAIN_STEP_DOWN (R23, R24): at the end of a 2 µs interval whose clipped samples reach CLIPTHR in automatic mode. -/
def execGainStepDown (p : PathId) (clips : Nat) (s : State) : Res :=
  let g := s.fld (RFx_STATE_GAIN p)
  if s.fld (RFx_GAIN_MODE p) = 0 && s.fld (RFx_GAIN_CLIPTHR p) ≤ clips && g < 3 then
    let s := (s.advanceTo s.clipBoundary).gainStep p (g + 1)
    .next (s.modRf p (fun x => { x with stepDownAt := some s.clk.now }))
  else .next s

/-- Did the path step down in this microsecond? -/
def State.steppedDown (s : State) (p : PathId) : Bool := (s.rf p).stepDownAt.any (fun t => t / us 1 == s.clk.now / us 1)

/-- GAIN_STEP_UP (R23, R24): the window peak has stayed below −18 dBFS for `lowMs` ms in automatic mode; a step down of the same
microsecond takes precedence. -/
def execGainStepUp (p : PathId) (lowMs : Nat) (s : State) : Res :=
  let g := s.fld (RFx_STATE_GAIN p)
  if s.fld (RFx_GAIN_MODE p) = 0 && s.fld (RFx_GAIN_UPHOLD p) ≤ lowMs && 0 < g && !(s.steppedDown p) then
    .next (s.gainStep p (g - 1))
  else .next s

/-- The test command a write to RFx_TXCMD carries (R39, R62). -/
def State.testCmd (s : State) (p : PathId) (v : Word) : TxCmd :=
  let n := v.toNat
  { tstart := if bitAt n 9 then (s.sqt : Int) + 12 else timeOf32 s.sqt (s.rd (RFx_TXSTART p)).toNat,
    late := s.fld (RFx_TXLATE_LATE p), pidx := bitsOf n 8 2, fofs := s.sfld (RFx_TXFREQ_FOFS p),
    lenUs := bitsOf n 31 16,
    kind := match bitsOf n 1 0 with
      | 0 => .cw
      | 1 => .pn9a
      | _ => .pn9b }

/-- TX_COMMAND (R40, R62): LEN 0, PIDX above 79 and MODE 3 are reserved encodings. -/
def State.txCommand (s : State) (p : PathId) (v : Word) : State :=
  let n := v.toNat
  if bitsOf n 31 16 = 0 || 80 ≤ bitsOf n 8 2 || bitsOf n 1 0 = 3 then s.discard (rfBase p)
  else s.submitTx p (s.testCmd p v)

def execTxCommand (p : PathId) (v : Word) (s : State) : Res := .next (s.txCommand p v)

/-- May a held command reach its ready time in this state (R39, R41)? -/
def PathSt.readyIn : PathSt → Bool
  | .rx | .ircal | .tune => true
  | _ => false

/-- Bring the clock to the first 1 µs boundary at or after sequencer microsecond `t`. -/
def State.alignUs (s : State) (t : Nat) : State :=
  if s.sqt < t then s.advanceSqt t
  else if s.clk.nt / 2 ^ 32 % 200 = 0 then s
  else s.advanceUs

/-- The sequencer microsecond from which a held command waits only for its path (R39): TSTART − 12, or now. -/
def State.readyAt (s : State) (c : TxCmd) : Int := max (c.tstart - 12) s.sqt

/-- The held command that is ready first (R39): among equals the one that arrived first (DESIGN CHOICE, log entry 153). -/
def State.firstReady (s : State) : List TxCmd → Option TxCmd
  | [] => none
  | c :: t =>
    match s.firstReady t with
    | none => if c.started then none else some c
    | some d => if !c.started && decide (s.readyAt c ≤ s.readyAt d) then some c else some d

/-- A held command comes to the front. -/
def State.toFront (s : State) (p : PathId) (c : TxCmd) : State := s.modRf p (fun x => { x with held := c :: x.held.erase c })

/-- A held command ends before it starts. -/
def State.dropHeld (s : State) (p : PathId) (c : TxCmd) (code : Nat) : State :=
  ((s.modRf p (fun x => { x with held := x.held.erase c })).endTx p c code).drainEnds

/-- RXTX starts for a held command with first chip at `first`, ready at `a` (R39, R41): an IRCAL or a search is aborted. -/
def State.startTx (s : State) (p : PathId) (c : TxCmd) (first a : Int) : State :=
  let s := (s.bistAbort (fun i => i == pathItem p || i == loupeItem p)).applyTun p
  let s := ((s.toFront p c).bindTx p first).modRf p (fun x => { x with unfreezeAt := none, tuneUntil := none })
  (s.enter p .rxtx (us 12 + us (first - a - 12).toNat)).freeze p .frozenTx

/-- TX_READY (R39, R41): the ready time A of the held command that is ready first. It is dropped with TX_LATE, or ends with the
status of R179, or RXTX starts at S − 12 µs. An IRCAL or a tuner search that ends before A is left alone, and the command then
follows R39 in RX; one still on at A is aborted. -/
def execTxReady (p : PathId) (s : State) : Res :=
  let x := s.rf p
  match s.firstReady x.held with
  | none => .next s
  | some c =>
    if !(s.pst p).readyIn || x.pendOff || (s.pst p = .rx && x.winPend.isSome) then .next s
    else
      let s1 := s.alignUs (c.tstart - 12).toNat
      let a : Int := s1.sqt
      let first := max c.tstart (a + 12)
      if s.pst p ≠ .rx && x.due ≤ s1.clk.now then .next s
      else if (c.late : Int) < first - c.tstart then .next (s1.dropHeld p c Code.TX_LATE)
      else if s1.startRefusal p c ≠ Code.OK then .next (s1.dropHeld p c (s1.startRefusal p c))
      else .next (s1.startTx p c first a)

/-- FIRST_CHIP (R35, R36, R42, R49, R88, R272, R293): the first chip leaves; a clamp is counted and a test transmission
charged. -/
def execFirstChip (p : PathId) (s : State) : Res :=
  let x := s.rf p
  match s.pst p, x.gap, x.held with
  | .rxtx, _, c :: _ | .tx, true, c :: _ =>
    if !(s.inTurn (s.usOfCycle x.due).toNat 5 0) then .next s
    else
    let s := s.advanceTo x.due
    let s := if c.clamped then s.inc (RFx_TXSTAT_CLAMP_CNT p) else s
    let s := match c.owner, s.cmdChannel p c with
      | 0, some ch => s.chargeTx ch s.sqt c.lenUs
      | _, _ => s
    let ld := (x.airMask.map (·.ldec)).getD 0
    let s := s.enter p .tx (us c.lenUs)
    let lp : Loupe → Loupe := fun l => { l with mask := x.airMask, startAt := s.clk.now, blocks := 0, failed := false,
                                                nextDue := s.clk.now + us 8 + 5 * fftCycles ld }
    .next (s.modRf p (fun x => { x with gap := false, nextRlAt := s.clk.now + us 8, loupe := lp x.loupe }))
  | _, _, _ => .next s

/-- What follows the last chip (R42): held commands that start less than 20 µs later go back-to-back, each dropped with
TX_LATE where it is too late and ended with the status of R179 where that refuses it; with none, or with a move to OFF pending,
the path runs TXRX. -/
def State.afterTx (s : State) (p : PathId) : Nat → State
  | 0 => s.enter p .txrx (us 8)
  | n + 1 =>
    let x := s.rf p
    match x.held with
    | [] => s.enter p .txrx (us 8)
    | c :: _ =>
      let endUs := x.lastEndUs
      if x.pendOff || 20 ≤ c.tstart - endUs then s.enter p .txrx (us 8)
      else
        let e := (s.cmdEntry p c).1
        let d : Int := if e = x.entry ∧ s.ptab p e = x.airWord then 0 else 2
        let first := max c.tstart (endUs + d)
        if (c.late : Int) < first - c.tstart then (s.dropHeld p c Code.TX_LATE).afterTx p n
        else if s.startRefusal p c ≠ Code.OK then (s.dropHeld p c (s.startRefusal p c)).afterTx p n
        else
          let sel := bitAt x.airWord 20
          let s := s.bindTx p first
          (s.enter p .tx (us (first - endUs).toNat)).modRf p (fun x => { x with gap := true, gapSel := sel })

/-- LAST_CHIP (R42, R45). -/
def execLastChip (p : PathId) (s : State) : Res :=
  let x := s.rf p
  match s.pst p, x.gap, x.held with
  | .tx, false, c :: t =>
    let s := (s.advanceTo x.due).loupeEnd p
    let s := s.modRf p (fun x => { x with held := t, lastEndUs := c.first + c.lenUs, halved := false })
    .next ((s.endTx p c Code.OK).afterTx p 3).drainEnds
  | _, _, _ => .next s

/-- TXRX_DONE (R36, R586): RX 8 µs after the last chip, or OFF where that move is pending. -/
def execTxrxDone (p : PathId) (s : State) : Res :=
  if s.pst p = .txrx then
    let s := s.advanceTo (s.rf p).due
    if (s.rf p).pendOff then .next (s.goOff p).drainEnds else .next (s.toRx p (us 4))
  else .next s

/-- FACETS_UNFREEZE (R36): 12 µs after the last chip, or 4 µs after a tuner search. -/
def execFacetsUnfreeze (p : PathId) (s : State) : Res :=
  match s.pst p, (s.rf p).unfreezeAt with
  | .rx, some t =>
    .next (((s.advanceTo t).modRf p (fun x => { x with unfreezeAt := none })).unfreeze p)
  | _, _ => .next s

/-- RETURN_LOSS_MEASURE (R51, R52): return loss `rl` in 0.25 dB units; below 6 dB the path backs off. -/
def execReturnLossMeasure (p : PathId) (rl : Nat) (s : State) : Res :=
  let x := s.rf p
  if s.pst p = .tx && !x.gap && 0 ≤ entryNom x.airWord && x.nextRlAt ≤ x.due then
    let s := s.advanceTo x.nextRlAt
    let s := (s.modRf p (fun x => { x with nextRlAt := x.nextRlAt + us 64 })).setFld (RFx_TUNSTAT_RL p) (min rl 255)
    if rl < 24 then
      let s := if s.flag (RFx_STATE_BACKOFF p) then s else s.modRf p (fun x => { x with halved := true, dgain := x.dgain / 2 })
      let s := ((s.set1 (RFx_TUNSTAT_MISMATCH p)).set1 (RFx_TUNSTAT_BACKOFF p)).set1 (RFx_STATE_BACKOFF p)
      .next ((s.set1 (RFx_IRQ_MISMATCH p)).set1 (RFx_STATE_TUNEDUE p))
    else .next s
  else .next s

/-- Does the granted tuner-search window still hold a whole search and its frozen time (R53)? -/
def State.tuneOpen (s : State) (p : PathId) : Bool := (s.rf p).tuneUntil.any (fun t => decide (s.sqt + 376 ≤ t))

/-- TUNER_SEARCH_START (R53, R55): in RX within a granted window, where a search is due and no window move waits (R43). -/
def execTunerSearchStart (p : PathId) (s : State) : Res :=
  if s.pst p = .rx && s.tuneOpen p && s.searchDue p && (s.rf p).winPend.isNone then
    let s := (s.putOnAir p (s.probeEntry p) (s.probeCarrier p)).modRf p (fun x => { x with tuneUntil := none, unfreezeAt := none })
    .next ((s.enter p .tune (us 372)).freeze p .frozenCal)
  else .next s

/-- TUNER_SEARCH_DONE (R54, R55, R56): the best return loss found and its codes. -/
def execTunerSearchDone (p : PathId) (rl ser shn : Nat) (s : State) : Res :=
  if s.pst p = .tune then
    let s := s.advanceTo (s.rf p).due
    let s := (s.setFld (RFx_TUNSTAT_BEST_RL p) (min rl 255)).set1 (RFx_IRQ_SRCHDONE p)
    let s := if rl < 24 then
        let s := (s.setFld (RFx_TUNSTAT_SRCHFAIL p) (min 3 (s.fld (RFx_TUNSTAT_SRCHFAIL p) + 1))).set1 (RFx_IRQ_SRCHFAIL p)
        if s.fld (RFx_TUNSTAT_SRCHFAIL p) = 3 then s.clr (RFx_STATE_TUNEDUE p) else s
      else
        let s := (s.setFld (RFx_TUNTX_SER p) ser).setFld (RFx_TUNTX_SHN p) shn
        let s := ((s.clr (RFx_TUNSTAT_BACKOFF p)).clr (RFx_STATE_BACKOFF p)).clr (RFx_TUNSTAT_MISMATCH p)
        let s := (s.setBool (RFx_TUNSTAT_MARGINAL p) (decide (rl < 40))).clr (RFx_TUNSTAT_SRCHFAIL p)
        s.clr (RFx_STATE_TUNEDUE p)
    .next ((s.applyTun p).toRx p (us 4))
  else .next s

end Sys2Proof.Machine
end

