-- ==== Sys2Proof/Machine/Bus.lean ====
section
/-! DEFINITION. What a write of a register does (R5–R10): which writes are discarded under R8, what the trigger fields
start, and the plain rest. -/

namespace Sys2Proof.Machine
open Sys2Proof

/-- Registers that accept writes from KC only (R166, R260, R357, R372, R418, R474–R476, R560). -/
def kcOnly (a : Nat) : Bool :=
  [SEQ_PLANCMD, SEQ_PLANADDR, SEQ_PLANLEN, SEQ_PLANAT, SEQ_PLANPK0, SEQ_PLANPK1, PAGER_KEYSLOT, MMU_KEYSLOT, ICU_ALEN,
   ICU_ALEDGE0, ICU_ALEDGE1, PWR_CORECTL, PWR_SCPC, PWR_RETAIN, PWR_CLKCFG, CIPHER_KEYCMD, CIPHER_KEYATTR, LATTICE_CMD,
   OTP_CMD, OTP_ADDR, OTP_DATA, SYS_DBGCTL].contains a ||
    (regIdx (CIPHER_KEYWn 0) 16 4 a).isSome || (regIdx (LATTICE_ARGn 0) 4 4 a).isSome

/-- Does some 2-bit group of the low `n` groups hold 3? -/
def hasThree (n v : Nat) : Bool := (List.range n).any (fun i => bitsOf v (2 * i + 1) (2 * i) == 3)

/-- A pool or ring of `n` bytes at `a` in LC0 or LC1 TCM. -/
def inLcTcm (a n : Nat) : Bool := inRange 0x10000000 0x1007ffff a n || inRange 0x10080000 0x100fffff a n

/-- Reserved encodings of registers of the RF paths, Prism, facets and ridge modem (R62, R92, R125, R154). -/
def State.badRadio (_s : State) (a v : Nat) : Bool :=
  if a = RFx_GAIN .s || a = RFx_GAIN .g then bitsOf v 23 16 == 0 || bitsOf v 11 4 == 0 || decide (4 < bitsOf v 2 0)
  else if a = RFx_FEMMAP .s || a = RFx_FEMMAP .g then decide (12 < bitsOf v 19 16)
  else if a = PRISM_SWAPCTL then bitsOf v 11 0 == 0
  else if a = FACET_LBWATER then bitsOf v 11 0 == 0 || decide (2047 < bitsOf v 11 0)
  else if a = SEQ_RLTHR then
    !(decide (bitsOf v 4 0 ≤ bitsOf v 9 5) && decide (bitsOf v 9 5 ≤ bitsOf v 14 10) &&
      decide (bitsOf v 14 10 ≤ bitsOf v 19 15) && decide (bitsOf v 19 15 ≤ bitsOf v 24 20) &&
      decide (bitsOf v 24 20 ≤ bitsOf v 29 25))
  else if a = SEQ_RLRING0 || a = SEQ_RLRING1 then
    let n := bitsOf v 5 0
    n == 1 || decide (32 < n) || (n != 0 && !(inLcTcm (bitsOf v 31 12 * 4096) (4096 * n)))
  else if a = SEQ_PLANPK0 || a = SEQ_PLANPK1 then
    v / 4 != 0 && !(inRange 0x20500000 0x2052ffff (v / 4 * 4) 1952)
  else false

/-- Reserved encodings of registers of the MAC, pager and sequencer (R224, R260, R302). -/
def State.badMac (s : State) (a v : Nat) : Bool :=
  if a = MAC_HSEED then s.fld MAC_DIRSTAT_LIVE != 0
  else if a = MAC_154CFG then decide (bitsOf v 7 0 < 13)
  else if a = MAC_GACKCFG then decide (bitsOf v 11 0 < 50)
  else if a = MAC_BCNCTL then decide (64 < bitsOf v 14 8)
  else if a = MAC_DLPOOL then
    decide (512 < bitsOf v 9 0) || !s.mac.dlq.isEmpty ||
      (bitsOf v 9 0 != 0 && !(inLcTcm (bitsOf v 31 10 * 1024) (288 * bitsOf v 9 0)))
  else if a = PAGER_CFG then
    bitsOf v 31 24 == 0 || bitsOf v 23 16 == 0 || decide (100 < bitsOf v 23 16) || decide (bitsOf v 11 0 < 10)
  else if a = SEQ_TLOOP then bitsOf v 19 16 == 0 || bitsOf v 15 8 == 0
  else if a = SEQ_SLOT then bitsOf v 15 0 == 0 || s.flag SEQ_PLANSTAT_ARMED
  else if a = SEQ_RATE then
    decide (1048575 < (signedOf 32 v).natAbs) || s.fld SEQ_STAT_TSTATE == 1 || s.fld SEQ_STAT_TSTATE == 2
  else if a = SEQ_WAKECFG then bitsOf v 7 0 == 0
  else if a = SEQ_SRCHCFG then bitsOf v 23 16 == 0
  else if a = SEQ_TXPOOL then
    decide (64 < bitsOf v 6 0) || !s.seq.ridgeq.isEmpty ||
      (bitsOf v 6 0 != 0 && !(inLcTcm (bitsOf v 31 12 * 4096) (4096 * bitsOf v 6 0)))
  else false

/-- Reserved encodings of registers of the memory, power, NAND, log and port blocks. -/
def State.badSystem (s : State) (a v : Nat) : Bool :=
  if a = MMU_SCRUB then bitsOf v 7 0 == 0
  else if a = PWR_SADDLECFG then bitsOf v 23 16 == 0 || decide (bitsOf v 15 0 < 2)
  else if a = PWR_SCPC then
    let p := v / 256 * 256
    !(inRange 0x10000000 0x100fffff p 1 || inRange 0x80000000 0xbfffffff p 1) || s.sc.st != .held
  else if a = PWR_CLKCFG then bitsOf v 9 0 == 0
  else if a = PWR_VINMON then decide (bitsOf v 9 0 < 80) || decide (400 < bitsOf v 9 0)
  else if a = ICU_ALEDGE0 then hasThree 16 v
  else if a = ICU_ALEDGE1 then hasThree 10 v
  else if a = NAND_CFG then decide (230 < bitsOf v 15 8) || bitsOf v 4 0 == 0 || decide (24 < bitsOf v 4 0)
  else if a = BIST_ITEMSEL then decide (76 < bitsOf v 6 0)
  else if a = LOG_CFG then bitsOf v 27 16 == 0
  else if a = GPIO_PULL0 then hasThree 16 v
  else if a = GPIO_PULL1 then hasThree 4 v
  else if a = SYS_DBGCTL then bitsOf v 1 0 == 3
  else if a = HIF_BUF then s.flag HIF_CTRL_EN ||
    !(inRange 0x20000000 (0x20000000 + 4096 * s.fld MMU_POOL_FIRST - 1) (v / 4096 * 4096) 36864)
  else if a = MIRROR_CFG then s.flag MIRROR_CTRL_EN || bitsOf v 31 24 == 0 || bitsOf v 23 16 == 0
  else if a = MIRROR_FWBUF then
    let b := v / 65536 * 65536
    s.flag MIRROR_CTRL_EN || !(inLcTcm b 65536 || inRange 0x20000000 (0x20000000 + 4096 * s.fld MMU_POOL_FIRST - 1) b 65536)
  else false

/-- A write that R8 discards before any effect. -/
def State.badWrite (s : State) (r : Requester) (a v : Nat) : Bool :=
  (kcOnly a && r != .core .kc) || s.badRadio a v || s.badMac a v || s.badSystem a v

/-- Apply `f` where the bit is set. -/
def State.onBit (s : State) (v n : Nat) (f : State → State) : State := if bitAt v n then f s else s

/-- Writes of an RF path (R62). -/
def State.wrPath (s : State) (p : PathId) (a : Nat) (v : Word) : State :=
  let n := v.toNat
  if a = RFx_CTRL p then
    -- EN = 1 with no plan is a reserved encoding of the whole write (R165)
    if bitAt n 0 && s.activePlan.isNone then s.discard (rfBase p)
    else
    let s := if bitAt n 0 then s.pathEnable p else s.pathDisable p
    ((((s.onBit n 7 (·.tunereq p)).onBit n 6 (·.ircreq p)).onBit n 5 (·.syncreq p)).onBit n 4 (·.boffclr p)).onBit n 3
      (·.rfCntclr p)
  else if a = RFx_WINREQ p then s.winReq p (bitsOf n 3 0)
  else if a = RFx_TXCMD p then s.txCommand p v
  else if a = RFx_GAIN p then
    -- a fixed mode sets its gain state (R22, R23); a change is a gain step of R24
    let s := s.plainWrite a v
    let m := bitsOf n 2 0
    if m ≠ 0 && s.fld (RFx_STATE_GAIN p) ≠ m - 1 then s.gainStep p (m - 1) else s
  else if a = RFx_TUNTX p && s.pst p == .tune then
    s.modRf p (fun x => { x with tunHeld := some (v &&& 0x3f3f) })
  else if a = RFx_FEMMAP p then (s.plainWrite a v).modRf p (fun x => { x with femWritten := true })
  else s.plainWrite a v

/-- Writes of PRISM and FACET (R92, R125). -/
def State.wrPrism (s : State) (a : Nat) (v : Word) : State :=
  if a = PRISM_CTRL then s.onBit v.toNat 0 (·.prismCntclr)
  else if a = PRISM_RAYTUNE then s.rayTuneWrite v
  else if a = PRISM_EMCMD then s.emCmd v
  else if a = PRISM_PRBCMD then s.probeWrite v
  else if a = FACET_CTRL then (s.plainWrite a v).onBit v.toNat 0 (·.facetCntclr)
  else if a = FACET_LBFREE then s.lbFree v
  else s.plainWrite a v

/-- Writes of MAC (R224). -/
def State.wrMac (s : State) (a : Nat) (v : Word) : State :=
  if a = MAC_CTRL then (s.plainWrite a v).onBit v.toNat 2 (·.macCntclr)
  else if a = MAC_DIRCMD then s.dirCmd v
  else if a = MAC_DLPOST then s.dlPost v
  else if a = MAC_JRESPCMD then s.jrespPost v
  else s.plainWrite a v

/-- Writes of PAGER (R260). -/
def State.wrPager (s : State) (a : Nat) (v : Word) : State :=
  if a = PAGER_CTRL then s.onBit v.toNat 0 (·.pagerCntclr)
  else if a = PAGER_CMD then s.pagerIssue (bitsOf v.toNat 3 0) (bitsOf v.toNat 8 8)
  else if (regIdx (PAGER_KEYWn 0) 4 4 a).isSome then s.wr a v
  else match regIdx (PAGER_CTXn 0) 64 4 a with
    | some n => if 22 ≤ n && n ≤ 61 then s.wr a v else s
    | none => s.plainWrite a v

/-- Writes of SEQ (R154, R181, R302). -/
def State.wrSeq (s : State) (a : Nat) (v : Word) : State :=
  let n := v.toNat
  if a = SEQ_CTRL then (s.plainWrite a v).onBit n 1 (·.seqCntclr)
  else if a = SEQ_NTLO then s.ntSet v
  else if a = SEQ_NTHI then s.ntHiWrite v
  else if a = SEQ_SLEW then s.addSlew (signedOf 32 n)
  else if a = SEQ_TSRC then s.tsrcWrite v
  else if a = SEQ_RECCMD then
    match bitsOf n 1 0 with
    | 1 => s.recordWrite
    | 2 => s.recordRead
    | 3 => s.recordClear
    | _ => s.discard baseSEQ
  else if a = SEQ_TXPOST then s.ridgePost v
  else if a = SEQ_RLCFG then (s.plainWrite a v).onBit n 8 (·.rlCntclr)
  else if a = SEQ_RLCMD then s.rlCmd (bitsOf n 1 0)
  else if a = SEQ_RLRXQ0 then s.rlTail .s (bitsOf n 12 8)
  else if a = SEQ_RLRXQ1 then s.rlTail .g (bitsOf n 12 8)
  else if a = SEQ_PLANCMD then
    let s := s.onBit n 2 (fun s => s.wr SEQ_PLANCNT 0)
    match bitsOf n 1 0 with
    | 1 => s.planLoad
    | 2 => s.planArm
    | 3 => s.planDiscard
    | _ => s
  else s.plainWrite a v

/-- Writes of MMU (R357). -/
def State.wrMmu (s : State) (r : Requester) (a : Nat) (v : Word) : State :=
  if a = MMU_CTRL then s.onBit v.toNat 0 (·.mmuCntclr)
  else if a = MMU_POOL then s.poolWrite v
  else if a = MMU_PCMD then s.pcmdWrite v
  else
    let k := (a - baseMMU) / 0x100
    if 1 ≤ k && k ≤ 4 then
      let c := coreOf (k - 1)
      if !(mayWriteSet r c) then s.discard baseMMU
      else if a = MMU_TCBc (k - 1) then s.tcbWrite c v
      else if a = MMU_TCMDc (k - 1) then s.tcmdWrite r c (bitsOf v.toNat 2 0) (bitsOf v.toNat 6 4) (bitsOf v.toNat 10 8)
      else s.plainWrite a v
    else s.plainWrite a v

/-- Writes of DMA (R358). -/
def State.wrDma (s : State) (r : Requester) (a : Nat) (v : Word) : State :=
  let o := a - baseDMA
  if 0x100 ≤ o && o < 0x300 then s.dmaRegWrite r ((o - 0x100) / 0x20) ((o - 0x100) % 0x20) v else s.plainWrite a v

/-- Writes of ICU (R372). -/
def State.wrIcu (s : State) (r : Requester) (a : Nat) (v : Word) : State :=
  if a = ICU_CTRL then s.onBit v.toNat 0 (·.icuCntclr)
  else if a = ICU_EOI then s.eoi r v
  else if a = ICU_SWISET then s.swiSet v
  else if a = ICU_SWICLR then s.swiClear v
  else match regIdx (ICU_SRCn 0) 1536 4 a with
    | some n => s.srcWrite r n v
    | none =>
      let k := (a - baseICU) / 0x100
      if 1 ≤ k && k ≤ 4 then
        if !(mayWriteSet r (coreOf (k - 1))) then s.discard baseICU
        else if a = ICU_COREc (k - 1) && (decide (8 < bitsOf v.toNat 3 0) || (k == 3 && bitAt v.toNat 8)) then s.discard baseICU
        else s.plainWrite a v
      else s.plainWrite a v

/-- Writes of TMR (R395). -/
def State.wrTmr (s : State) (a : Nat) (v : Word) : State :=
  if a = TMR_CTRL then s.onBit v.toNat 0 (·.tmrCntclr)
  else if a = TMR_RUN then s.tmrRunWrite v
  else if a = TMR_PPSCFG then s.ppsCfgWrite v
  else match regIdx (TMR_CFGn 0) 8 4 a with
    | some n => s.tmrCfgWrite n v
    | none => match regIdx (TMR_CNTn 0) 8 4 a with
      | some n => s.tmrCntWrite n v
      | none => match regIdx (TMR_SCMPnLO 0) 4 8 a with
        | some n => s.scmpLoWrite n v
        | none => match regIdx (TMR_SCMPnHI 0) 4 8 a with
          | some n => s.scmpHiWrite n v
          | none => match regIdx (TMR_UuCFG 0) 32 16 a with
            | some u => s.unitCfgWrite u v
            | none => match regIdx (TMR_UuVAL 0) 32 16 a with
              | some u => s.valWrite u v
              | none => match regIdx (TMR_UuPER 0) 32 16 a with
                | some u => s.perWrite u v
                | none => s.plainWrite a v

/-- Writes of NAND (R444). A redone erase that a register write starts ends as it will: free values. -/
def State.wrNand (s : State) (r : Requester) (a : Nat) (v : Word) : State :=
  if a = NAND_CTRL then s.onBit v.toNat 0 (·.nandCntclr)
  else if a = NAND_FKEY then s.fkeyWrite r v
  else if a = NAND_FCMD then s.fcmdWrite r v
  else if a = NAND_FADDR then s.faddrWrite r v
  else if a = NAND_FBUF then s.fbufWrite r v
  else if a = NAND_BBQ then s.bbqQuery v
  else if a = NAND_BOOTSTAT then
    if r != .core .kc then s.discard baseNAND
    else
      let s := if bitAt v.toNat 30 then
          let f0 := s.fresh
          let f1 := f0.2.fresh
          (f1.2.redoPlane 0 (f0.1 % 2 == 1)).redoPlane 1 (f1.1 % 2 == 1)
        else s
      s.onBit v.toNat 31 (·.nandRelease r)
  else s.plainWrite a v

/-- Writes of CIPHER, LATTICE and OTP (R474–R476). Which conditions hold when the alarm bits are written is a free value. -/
def State.wrCipher (s : State) (r : Requester) (a : Nat) (v : Word) : State :=
  let n := v.toNat
  if a = CIPHER_CTRL then
    if bitAt n 0 && r != .core .kc then s.discard baseCIPHER
    else (s.onBit n 1 (fun s => s.wr CIPHER_CNT 0)).onBit n 0 (·.trngRestart)
  else if a = CIPHER_JOBPOST then
    match r with
    | .core c => resState s (execJobPost c v s)
    | _ => s.discard baseCIPHER
  else if a = CIPHER_KEYCMD then
    match bitsOf n 2 0 with
    | 1 => resState s (execKeyLoad (bitsOf n 15 14) (bitsOf n 12 8) s)
    | 2 => resState s (execKeyDerive (bitsOf n 15 14) (bitsOf n 12 8) s)
    | 3 => if bitsOf n 15 14 = 3 then s.discard baseCIPHER else resState s (execKeyClear (bitsOf n 12 8) s)
    | _ => s.discard baseCIPHER
  else if (regIdx (CIPHER_KEYWn 0) 16 4 a).isSome then s.wr a v
  else if a = CIPHER_ALARM then
    let f := s.fresh
    resState s (execAlarmClear v f.1 f.2)
  else s.plainWrite a v

def State.wrLattice (s : State) (a : Nat) (v : Word) : State :=
  let n := v.toNat
  if a = LATTICE_CMD then
    if bitsOf n 3 0 = 0 || 6 < bitsOf n 3 0 || 6 < bitsOf n 11 8 then s.discard baseLATTICE
    else s.latCmd (bitsOf n 3 0) (bitsOf n 11 8) (bitsOf n 5 4)
  else s.plainWrite a v

def State.wrOtp (s : State) (a : Nat) (v : Word) : State :=
  let n := v.toNat
  if a = OTP_CMD then
    match bitsOf n 1 0 with
    | 1 => resState s (execOtpProgram s)
    | 2 => resState s (execArbinc (bitsOf n 7 4) s)
    | 3 => resState s (execSetflag (bitsOf n 7 4) s)
    | _ => s.discard baseOTP
  else s.plainWrite a v

/-- Writes of BIST and LOG (R522, R523). -/
def State.wrBist (s : State) (r : Requester) (a : Nat) (v : Word) : State :=
  if a = BIST_CTRL then s.bistCtrlWrite r v
  else if a = BIST_CFG then s.bistCfgWrite r v
  else if a = BIST_REQ then s.bistReqWrite r v
  else s.plainWrite a v

def State.wrLog (s : State) (r : Requester) (a : Nat) (v : Word) : State :=
  if a = LOG_CTRL then if bitAt v.toNat 0 then s.logClear r else s
  else if a = LOG_ACK then s.ackWrite v
  else if a = LOG_WDATA then s.wdataWrite r v
  else if a = LOG_WCMD then s.wcmdWrite r v
  else s.plainWrite a v

/-- Writes of HIF (R561). The window's fixed addresses ignore firmware's writes, but for IRQ, whose bits firmware sets
(R534). -/
def State.wrHif (s : State) (a : Nat) (v : Word) : State :=
  if a = HIF_CTRL then (s.plainWrite a v).onBit v.toNat 1 (·.hifCntclr)
  else if a = HIF_POST then if bitAt v.toNat 8 then s.hifEvent else s.hifPost (bitsOf v.toNat 2 0)
  else match regIdx (HIF_G1WINn 0) 32 4 a with
    | some n =>
      let box (k : Nat) : Bool := !([0, 1, 0x10, 0x11, 0x12, 0x3e, 0x3f].contains k || (decide (0x20 ≤ k) && decide (k ≤ 0x24)))
      let s := if box (2 * n) then s.setFld (HIF_G1WINn_LO n) (bitsOf v.toNat 15 0) else s
      let s := if box (2 * n + 1) then s.setFld (HIF_G1WINn_HI n) (bitsOf v.toNat 31 16) else s
      if n = 31 then { s with hif := { s.hif with g1irq := s.hif.g1irq ||| bitsOf v.toNat 15 0 } } else s
    | none => s.plainWrite a v

/-- Writes of NET, UART and GPIO (R562, R546). While EN is 1 a write that would change the fixed fields is reserved. -/
def State.wrNet (s : State) (a : Nat) (v : Word) : State :=
  if a = NET_CTRL then
    if s.flag NET_CTRL_EN && bitsOf (s.rd NET_CTRL).toNat 6 2 ≠ bitsOf v.toNat 6 2 then s.discard baseNET
    else (s.plainWrite a v).onBit v.toNat 7 (·.netCntclr)
  else if a = NET_MDIO then s.mdioWrite v
  else if a = NET_TXLEN then s.txlenWrite v
  else s.plainWrite a v

def State.wrUart (s : State) (a : Nat) (v : Word) : State :=
  if a = UART_DATAn 0 then s.uartWrite 0 v
  else if a = UART_DATAn 1 then s.uartWrite 1 v
  else if a = UART_CFGn 0 || a = UART_CFGn 1 then
    let old := (s.rd a).toNat
    let u := if a = UART_CFGn 0 then 0 else 1
    let keep (x : Nat) : Nat := x &&& 0xfffff078
    if bitsOf v.toNat 31 12 < 1067 || bitsOf v.toNat 5 4 = 3 || (bitAt old 7 && keep old != keep v.toNat) then s.discard baseUART
    else
      let s := s.plainWrite a v
      if bitAt v.toNat 7 && !(s.uart u).tx.isEmpty then s.set1 (UART_STATn_TXBUSY u) else s
  else s.plainWrite a v

def State.wrGpio (s : State) (a : Nat) (v : Word) : State :=
  if a = GPIO_OUT then s.gpioOut (bitsOf v.toNat 19 0)
  else if a = GPIO_SET then s.gpioSet v
  else if a = GPIO_CLR then s.gpioClr v
  else if a = GPIO_TOUTSET then s.toutSet v
  else if a = GPIO_TOUTCLR then s.toutClr v
  else (s.plainWrite a v).gpioSettle

/-- Writes of MIRROR (R563). -/
def State.wrMirror (s : State) (a : Nat) (v : Word) : State :=
  let n := v.toNat
  if a = MIRROR_CTRL then
    let en := s.flag MIRROR_CTRL_EN
    let s := if bitAt n 0 && !en then s.mirEnable else if !(bitAt n 0) && en then s.mirDisable else s
    ((s.onBit n 1 (·.mirKick)).onBit n 2 (·.mirRelease)).onBit n 3 (·.mirCntclr)
  else if a = MIRROR_FWPOST then s.fwPost v
  else if a = MIRROR_FWRXQ then s.fwReturn v
  else s.plainWrite a v

/-- Writes of the SYS window: COMPAT and debug (R560), PWR (R418), UPD (R504). -/
def State.wrSys (s : State) (r : Requester) (a : Nat) (v : Word) : State :=
  let n := v.toNat
  if a = SYS_COMPAT then s.compatReq (bitsOf n 1 1)
  else if a = PWR_CMD then
    if bitAt n 1 && r != .core .kc then s.discard baseSYS
    else ((s.onBit n 2 (·.pwrCntclr)).onBit n 0 (·.enterSaddle)).onBit n 1 (·.sysrst r)
  else if a = PWR_CORECTL then
    let one (s : State) (c : CoreId) (k : Nat) : State := if bitAt n k then s.coreRelease c else s.coreHold c
    one (one (one s .lc0 0) .lc1 1) .sc 2
  else if a = UPD_TRIAL then
    if bitAt n 30 then s.trialStopWrite r else s.trialArm r (bitsOf n 15 0)
  else if a = UPD_BOOT || a = UPD_GENOLD || a = UPD_GENNEW then
    if r != .core .kc || s.flag UPD_BOOT_ROMEXIT || (a == UPD_BOOT && decide (3 < bitsOf n 23 16)) then s.discard baseSYS
    else s.plainWrite a v
  else s.plainWrite a v

/-- A full write of the register at `a` by `r`. -/
def State.regWrite (s : State) (r : Requester) (a : Nat) (v : Word) : State :=
  if a % 0x10000 = 0xffc then s.cfgstatW1c (blockBase a) v.toNat
  else if s.badWrite r a v.toNat then s.discard (blockBase a)
  else match (a - 0x40000000) / 0x10000 with
    | 0 => s.wrSys r a v
    | 1 => s.wrIcu r a v
    | 2 => s.wrTmr a v
    | 3 => s.wrPath .s a v
    | 4 => s.wrPath .g a v
    | 5 => s.wrPrism a v
    | 6 => s.wrPrism a v
    | 7 => s.wrMac a v
    | 8 => s.wrPager a v
    | 9 => s.wrSeq a v
    | 10 => s.wrNand r a v
    | 11 => s.wrCipher r a v
    | 12 => s.wrLattice a v
    | 13 => s.wrBist r a v
    | 14 => s.wrLog r a v
    | 15 => s.wrHif a v
    | 16 => s.wrNet a v
    | 17 => s.wrUart a v
    | 18 => s.wrMirror a v
    | 19 => s.wrGpio a v
    | 20 => s.wrDma r a v
    | 21 => s.wrMmu r a v
    | _ => s.wrOtp a v

/-- A write by `r` of `w` bytes at `a` in the peripheral windows (R6, R8, R10): where no register lies it is unmapped, and
a narrow one is discarded. A 32-bit write whose address is not a multiple of 4 writes the register at the multiple of 4 below it
(DESIGN CHOICE, log entry 155: R6 says nothing of such an address). -/
def State.busWrite (s : State) (r : Requester) (a : Nat) (w : Width) (v : Word) : State :=
  let al := a / 4 * 4
  if (findRow al).isNone then s.unmapped (blockBase a)
  else match w with
    | .word => s.regWrite r al v
    | _ => s.discard (blockBase a)

/-- A read of `n` bytes at `a` in the peripheral windows (R6): the addressed bytes of the full register. -/
def State.busRead (s : State) (a : Nat) : Word × State :=
  let t := s.regRead (a / 4 * 4)
  (BitVec.ofNat 32 (t.1.toNat / 256 ^ (a % 4)), t.2)

/-! ### The commands of chapter 00 -/

/-- A peripheral window? -/
def inWindows (a : Nat) : Bool := inRange 0x40000000 0x4016ffff a 1

/-- REGISTER_WRITE (R5, R8): `r` writes `v` with width `w` to a register at `a`. -/
def execRegisterWrite (r : Requester) (a : Nat) (w : Width) (v : Word) (s : State) : Res :=
  if inWindows a && (findRow (a / 4 * 4)).isSome then .next (s.busWrite r a w v) else .next s

/-- UNMAPPED_WRITE (R10): a write of any width where no register lies. -/
def execUnmappedWrite (a : Nat) (s : State) : Res :=
  if inWindows a && (findRow (a / 4 * 4)).isNone then .next (s.unmapped (blockBase a)) else .next s

/-- CFGSTAT_CLEAR (R9, R12): a W1C write of `v` to BLOCK_CFGSTAT of the window of `a`; with it, in the same cycle, a write
discarded under R8 (`rsvd`) or under R10 (`unmap`) is recorded after it. -/
def execCfgstatClear (a : Nat) (v : Word) (rsvd unmap : Bool) (s : State) : Res :=
  if !(inWindows a) then .next s
  else
    let s := s.cfgstatW1c (blockBase a) v.toNat
    let s := if rsvd then s.discard (blockBase a) else s
    .next (if unmap then s.unmapped (blockBase a) else s)

end Sys2Proof.Machine
end

