-- ==== Sys2Proof/Machine/Flags.lean ====
section
/-! DEFINITION. What the arithmetic, logic and bit instructions of Volac compute (R313, R317–R319), and the carry flag. -/

namespace Sys2Proof.Machine
open Sys2Proof

/-- A compare leaves 1 for true and 0 for false (R304). -/
def boolWord (b : Bool) : Word := if b then 1 else 0

/-! ### Sums and their carry (R313) -/

/-- a + b + carry-in as an exact natural number. -/
def carrySum (a b : Word) (c : Bool) : Nat := a.toNat + b.toNat + (if c then 1 else 0)

/-- The sum's low 32 bits and the carry out. -/
def addC (a b : Word) (c : Bool) : Word × Bool :=
  (BitVec.ofNat 32 (carrySum a b c), decide (2 ^ 32 ≤ carrySum a b c))

/-! ### Products and quotients (R313, R315) -/

/-- The full signed product as 64 bits. -/
def mulS (a b : Word) : BitVec 64 := BitVec.ofInt 64 (a.toInt * b.toInt)

/-- The full unsigned product. -/
def mulU (a b : Word) : BitVec 64 := BitVec.ofNat 64 (a.toNat * b.toNat)

/-- Bits 63:32. -/
def hi32 (x : BitVec 64) : Word := BitVec.ofNat 32 (x.toNat / 2 ^ 32)

/-- Bits 31:0. -/
def lo32 (x : BitVec 64) : Word := BitVec.ofNat 32 x.toNat

/-- The signed quotient, truncated toward zero. -/
def divS (a b : Word) : Word := BitVec.ofInt 32 (a.toInt.tdiv b.toInt)

/-- The signed remainder, with the sign of `a`. -/
def modS (a b : Word) : Word := BitVec.ofInt 32 (a.toInt.tmod b.toInt)

/-! ### Bits (R317) -/

/-- Zero bits above the highest set bit of the low `n` bits. -/
def clzN (a : Word) : Nat → Nat
  | 0 => 0
  | n + 1 => if a.toNat.testBit n then 0 else clzN a n + 1

/-- Zero bits below the lowest set bit, from bit 32 − n up. -/
def ctzN (a : Word) : Nat → Nat
  | 0 => 0
  | n + 1 => if a.toNat.testBit (31 - n) then 0 else ctzN a n + 1

/-- The set bits. -/
def popCount (a : Word) : Nat := popBits 32 a.toNat

/-- The bits within each group of `g` bits reversed: bit i of the result is bit `src i` of `a`. -/
def gatherBits (a : Word) (src : Nat → Nat) : Word :=
  BitVec.ofNat 32 ((List.range 32).foldl (fun x i => if a.toNat.testBit (src i) then x + 2 ^ i else x) 0)

/-- Reversal within groups of `g` bits. -/
def brev (g : Nat) (a : Word) : Word := gatherBits a (fun i => i / g * g + (g - 1 - i % g))

/-- The byte order reversed. -/
def byteSwap (a : Word) : Word := gatherBits a (fun i => 8 * (3 - i / 8) + i % 8)

/-- The low `w` bits, sign-extended. -/
def sext (w : Nat) (a : Word) : Word := BitVec.ofInt 32 (signedOf w (a.toNat % 2 ^ w))

/-- The low `w` bits, zero-extended. -/
def zext (w : Nat) (a : Word) : Word := BitVec.ofNat 32 (a.toNat % 2 ^ w)

/-- Rotation left by n[4:0]. -/
def rolW (a n : Word) : Word := a.rotateLeft (n.toNat % 32)

/-- Rotation right by n[4:0]. -/
def rorW (a n : Word) : Word := a.rotateRight (n.toNat % 32)

/-- Bit n[4:0] alone. -/
def bitW (n : Word) : Word := BitVec.ofNat 32 (2 ^ (n.toNat % 32))

/-- LSB and width of a field selector (R319). -/
def selLsb (sel : Word) : Nat := bitsOf sel.toNat 4 0
def selWidth (sel : Word) : Nat := bitsOf sel.toNat 9 5 + 1

/-- BEXT: the field of `a`; bits above bit 31 read 0. -/
def bitExtract (a sel : Word) : Word := BitVec.ofNat 32 (a.toNat / 2 ^ selLsb sel % 2 ^ selWidth sel)

/-- BINS: the field of `a` replaced by the low bits of `v`; bits that would land above bit 31 are discarded. -/
def bitInsert (a v sel : Word) : Word :=
  BitVec.ofNat 32 ((List.range 32).foldl (fun x i =>
    let inField := decide (selLsb sel ≤ i ∧ i < selLsb sel + selWidth sel)
    let b := if inField then v.toNat.testBit (i - selLsb sel) else a.toNat.testBit i
    if b then x + 2 ^ i else x) 0)

/-! ### CRC steps (R318) -/

/-- CRCSTEP under CRCCFG and CRCPOLY. -/
def crcStep (cfg poly crc byte : Word) : Word :=
  let n := bitsOf cfg.toNat 4 0 + 1
  let bits := octetBits (BitVec.ofNat 8 byte.toNat)
  BitVec.ofNat 32 (crcBits n (poly.toNat % 2 ^ n) (crc.toNat % 2 ^ n) (if cfg.toNat.testBit 5 then bits.reverse else bits))

/-- CRC32STEP. -/
def crc32Step (crc byte : Word) : Word := crcStep 31 0x04c11db7 crc byte

end Sys2Proof.Machine
end

