-- ==== Sys2Proof/Machine/Volac.lean ====
section
/-! DEFINITION. The Volac instruction table (R309–R316): length, cycles, literal kind, opcode, who may execute an
instruction, what REP may repeat, and what the instructions compute that only touch the data stack. -/

namespace Sys2Proof
open Machine

/-- Bytes of an access. -/
def Width.bytes : Width → Nat
  | .byte => 1
  | .half => 2
  | .word => 4

/-! ### Prefixes (R309) -/

/-- Bytes of a prefix with its immediate bytes. -/
def Prefix.len : Prefix → Nat
  | .none => 0
  | .imm8 _ | .imm8u _ => 2
  | .imm16 _ | .imm16u _ | .immhi _ => 3
  | .imm32 _ => 5
  | .double n => n

/-- Cycles of a prefix. -/
def Prefix.cycles : Prefix → Nat
  | .none | .double _ => 0
  | .imm32 _ => 2
  | _ => 1

/-- What a prefix loads into LA. -/
def Prefix.la : Prefix → Option Word
  | .none | .double _ => Option.none
  | .imm8 b => some (b.signExtend 32)
  | .imm8u b => some (b.setWidth 32)
  | .imm16 h => some (h.signExtend 32)
  | .imm16u h => some (h.setWidth 32)
  | .imm32 w => some w
  | .immhi h => some (h.setWidth 32 <<< 16)

/-! ### The table -/

/-- Literal kinds (R310). -/
inductive LitKind where
  | none | op | ofs | rel | cnt
  deriving DecidableEq, Repr

/-- The literal kind of an instruction (R313). -/
def VOp.lit : VOp → LitKind
  | .pick | .add | .sub | .addx | .subx | .mul | .mulh | .mulhu | .div | .divu | .mod | .modu | .and | .or | .xor | .andn
  | .shl | .shr | .sar | .rol | .ror | .min | .max | .minu | .maxu | .eq | .ne | .lt | .ltu | .le | .leu | .gt | .gtu | .ge
  | .geu | .bext | .bins | .bset | .bclr | .btst | .adda | .addb | .setrc | .rdsr | .wrsr | .syscall => .op
  | .ldw | .ldh | .ldhu | .ldb | .ldbu | .stw | .sth | .stb => .ofs
  | .br | .bz | .bnz | .call | .loop => .rel
  | .rep => .cnt
  | _ => .none

/-- An instruction of the extended page (R315)? -/
def VOp.ext : VOp → Bool
  | .eret | .wait | .di | .ei | .fence | .dsflush | .rsflush | .tpop | .tpush | .yield | .crca | .crc32a | .casw
  | .muls64 => true
  | .undef e _ => e
  | _ => false

/-- Bytes of an instruction without its prefix. -/
def VOp.len : VOp → Nat
  | .push8 _ | .push8u _ => 2
  | .push16 _ | .push16u _ | .pushhi _ => 3
  | .push32 _ => 5
  | op => if op.ext then 2 else 1

/-- Cycles of an instruction whose operands and memory lie in TCM or KC private, with no spill or fill; a branch as not
taken (R313, R315). -/
def VOp.cycles : VOp → Nat
  | .push32 _ | .mul | .ldw | .ldh | .ldhu | .ldb | .ldbu | .ldwa | .ldba | .movw | .movb | .wrsr | .br | .call | .ret => 2
  | .mulh | .mulhu | .xchg | .eret | .muls64 => 3
  | .syscall | .brk | .casw => 4
  | .div | .divu | .mod | .modu => 34
  | .wait | .di | .ei | .fence | .dsflush | .rsflush | .tpop | .tpush | .yield | .crca | .crc32a => 2
  | _ => 1

/-- Allowed only outside the task bank (R315)? -/
def VOp.kOnly : VOp → Bool
  | .eret | .wait | .di | .ei | .tpop | .tpush => true
  | _ => false

/-- May REP repeat it (R321)? -/
def VOp.repeatable : VOp → Bool
  | .setrc | .rep | .loop | .br | .bz | .bnz | .call | .ret | .syscall | .brk | .eret | .wait | .yield => false
  | _ => true

/-- The opcode byte, of an extended instruction its second byte (R312, R315). -/
def VOp.code : VOp → Nat
  | .push8 _ => 0x18 | .push8u _ => 0x19 | .push16 _ => 0x1a | .push16u _ => 0x1b | .push32 _ => 0x1c | .pushhi _ => 0x1d
  | .slit k => 0x20 + k.toNat
  | .nop => 0x01 | .dup => 0x02 | .drop => 0x03 | .swap => 0x04 | .over => 0x05 | .rot => 0x06 | .nip => 0x07 | .tuck => 0x08
  | .pick => 0x09 | .dup2 => 0x0a | .drop2 => 0x0b | .tor => 0x0c | .fromr => 0x0d | .rfetch => 0x0e | .depth => 0x0f
  | .rdrop => 0x9c
  | .add => 0x40 | .sub => 0x41 | .neg => 0x42 | .not => 0x43 | .inc => 0x44 | .dec => 0x45 | .mul => 0x46 | .mulh => 0x47
  | .mulhu => 0x48 | .div => 0x49 | .divu => 0x4a | .mod => 0x4b | .modu => 0x4c | .addx => 0x4d | .subx => 0x4e
  | .abs => 0x4f
  | .and => 0x50 | .or => 0x51 | .xor => 0x52 | .andn => 0x53 | .shl => 0x54 | .shr => 0x55 | .sar => 0x56 | .rol => 0x57
  | .ror => 0x58 | .sext8 => 0x59 | .sext16 => 0x5a | .zext8 => 0x5b | .zext16 => 0x5c | .bswap => 0x5d | .min => 0x5e
  | .max => 0x5f
  | .eq => 0x60 | .ne => 0x61 | .lt => 0x62 | .ltu => 0x63 | .le => 0x64 | .leu => 0x65 | .gt => 0x66 | .gtu => 0x67
  | .ge => 0x68 | .geu => 0x69 | .zeq => 0x6a | .zlt => 0x6b | .minu => 0x6c | .maxu => 0x6d | .sel => 0x6e
  | .clz => 0x70 | .ctz => 0x71 | .popcnt => 0x72 | .par => 0x73 | .brev8 => 0x74 | .brev16 => 0x75 | .brev32 => 0x76
  | .crcstep => 0x77 | .crc32step => 0x78 | .bext => 0x79 | .bins => 0x7a | .bset => 0x7b | .bclr => 0x7c | .btst => 0x7d
  | .ldw => 0x80 | .ldh => 0x81 | .ldhu => 0x82 | .ldb => 0x83 | .ldbu => 0x84 | .stw => 0x85 | .sth => 0x86 | .stb => 0x87
  | .ldwa => 0x88 | .ldba => 0x89 | .stwb => 0x8a | .stbb => 0x8b | .movw => 0x8c | .movb => 0x8d | .fillw => 0x8e
  | .xchg => 0x8f
  | .seta => 0x90 | .setb => 0x91 | .geta => 0x92 | .getb => 0x93 | .adda => 0x94 | .addb => 0x95 | .setrc => 0x96
  | .getrc => 0x97 | .rep => 0x98 | .rdsr => 0x99 | .wrsr => 0x9a | .getc => 0x9b
  | .br => 0xa0 | .bz => 0xa1 | .bnz => 0xa2 | .call => 0xa3 | .ret => 0xa4 | .loop => 0xa5 | .syscall => 0xa6 | .brk => 0xa7
  | .eret => 0x01 | .wait => 0x02 | .di => 0x03 | .ei => 0x04 | .fence => 0x05 | .dsflush => 0x06 | .rsflush => 0x07
  | .tpop => 0x08 | .tpush => 0x09 | .yield => 0x0a | .crca => 0x10 | .crc32a => 0x11 | .casw => 0x12 | .muls64 => 0x13
  | .undef _ b => b.toNat

/-- INFO of UNDEF and PRIV: the opcode, with bit 8 for the extended page (R316, R324). -/
def VOp.info (op : VOp) : Nat := op.code + (if op.ext then 0x100 else 0)

/-- Is the byte an undefined opcode of the primary page, or of the extended one (R312, R315)? -/
def undefByte (ext : Bool) (b : BitVec 8) : Bool :=
  let n := b.toNat
  if ext then n == 0 || (decide (0x0b ≤ n) && decide (n ≤ 0x0f)) || decide (0x14 ≤ n)
  else n == 0 || [0x16, 0x17, 0x1e, 0x1f, 0x6f, 0x7e, 0x7f, 0x9d, 0x9e, 0x9f].contains n ||
    (decide (0xa8 ≤ n) && n != 0xfe)

/-! ### Instructions of the data stack alone -/

/-- Operands an instruction takes from the data stack where no literal replaces one; memory and control instructions take
theirs in their own meanings. -/
def VOp.pops : VOp → Nat
  | .dup | .drop | .neg | .not | .inc | .dec | .abs | .sext8 | .sext16 | .zext8 | .zext16 | .bswap | .zeq | .zlt | .clz | .ctz
  | .popcnt | .par | .brev8 | .brev16 | .brev32 => 1
  | .swap | .over | .nip | .tuck | .dup2 | .drop2 | .add | .sub | .addx | .subx | .mul | .mulh | .mulhu | .div | .divu | .mod
  | .modu | .and | .or | .xor | .andn | .shl | .shr | .sar | .rol | .ror | .min | .max | .minu | .maxu | .eq | .ne | .lt | .ltu
  | .le | .leu | .gt | .gtu | .ge | .geu | .crcstep | .crc32step | .bext | .bset | .bclr | .btst | .muls64 => 2
  | .rot | .sel | .bins => 3
  | _ => 0

/-- Does the instruction raise DIVZ for a zero divisor? -/
def VOp.divides : VOp → Bool
  | .div | .divu | .mod | .modu => true
  | _ => false

/-- What the instruction leaves for its operands, both deepest first (R304, R313, R317–R319); none for an instruction that
touches more than the data stack and C. `c` is PSW.C, `cfg` and `poly` the CRC registers. -/
def VOp.alu (c : Bool) (cfg poly : Word) : VOp → List Word → Option (List Word)
  | .push8 b, [] => some [b.signExtend 32]
  | .push8u b, [] => some [b.setWidth 32]
  | .push16 h, [] => some [h.signExtend 32]
  | .push16u h, [] => some [h.setWidth 32]
  | .push32 w, [] => some [w]
  | .pushhi h, [] => some [h.setWidth 32 <<< 16]
  | .slit k, [] => some [BitVec.ofInt 32 ((k.toNat : Int) - 8)]
  | .nop, [] => some []
  | .getc, [] => some [boolWord c]
  | .dup, [a] => some [a, a]
  | .drop, [_] => some []
  | .swap, [a, b] => some [b, a]
  | .over, [a, b] => some [a, b, a]
  | .rot, [a, b, d] => some [b, d, a]
  | .nip, [_, b] => some [b]
  | .tuck, [a, b] => some [b, a, b]
  | .dup2, [a, b] => some [a, b, a, b]
  | .drop2, [_, _] => some []
  | .add, [a, b] => some [(addC a b false).1]
  | .sub, [a, b] => some [(addC a (~~~b) true).1]
  | .addx, [a, b] => some [(addC a b c).1]
  | .subx, [a, b] => some [(addC a (~~~b) c).1]
  | .neg, [a] => some [-a]
  | .not, [a] => some [~~~a]
  | .inc, [a] => some [a + 1]
  | .dec, [a] => some [a - 1]
  | .abs, [a] => some [if a.toInt < 0 then -a else a]
  | .mul, [a, b] => some [a * b]
  | .mulh, [a, b] => some [hi32 (mulS a b)]
  | .mulhu, [a, b] => some [hi32 (mulU a b)]
  | .div, [a, b] => some [divS a b]
  | .divu, [a, b] => some [BitVec.ofNat 32 (a.toNat / b.toNat)]
  | .mod, [a, b] => some [modS a b]
  | .modu, [a, b] => some [BitVec.ofNat 32 (a.toNat % b.toNat)]
  | .and, [a, b] => some [a &&& b]
  | .or, [a, b] => some [a ||| b]
  | .xor, [a, b] => some [a ^^^ b]
  | .andn, [a, b] => some [a &&& ~~~b]
  | .shl, [a, n] => some [a <<< (n.toNat % 32)]
  | .shr, [a, n] => some [a >>> (n.toNat % 32)]
  | .sar, [a, n] => some [a.sshiftRight (n.toNat % 32)]
  | .rol, [a, n] => some [rolW a n]
  | .ror, [a, n] => some [rorW a n]
  | .sext8, [a] => some [sext 8 a]
  | .sext16, [a] => some [sext 16 a]
  | .zext8, [a] => some [zext 8 a]
  | .zext16, [a] => some [zext 16 a]
  | .bswap, [a] => some [byteSwap a]
  | .min, [a, b] => some [if a.toInt ≤ b.toInt then a else b]
  | .max, [a, b] => some [if a.toInt ≤ b.toInt then b else a]
  | .minu, [a, b] => some [if a.toNat ≤ b.toNat then a else b]
  | .maxu, [a, b] => some [if a.toNat ≤ b.toNat then b else a]
  | .eq, [a, b] => some [boolWord (decide (a = b))]
  | .ne, [a, b] => some [boolWord (decide (a ≠ b))]
  | .lt, [a, b] => some [boolWord (decide (a.toInt < b.toInt))]
  | .ltu, [a, b] => some [boolWord (decide (a.toNat < b.toNat))]
  | .le, [a, b] => some [boolWord (decide (a.toInt ≤ b.toInt))]
  | .leu, [a, b] => some [boolWord (decide (a.toNat ≤ b.toNat))]
  | .gt, [a, b] => some [boolWord (decide (b.toInt < a.toInt))]
  | .gtu, [a, b] => some [boolWord (decide (b.toNat < a.toNat))]
  | .ge, [a, b] => some [boolWord (decide (b.toInt ≤ a.toInt))]
  | .geu, [a, b] => some [boolWord (decide (b.toNat ≤ a.toNat))]
  | .zeq, [a] => some [boolWord (decide (a = 0))]
  | .zlt, [a] => some [boolWord (decide (a.toInt < 0))]
  | .sel, [a, b, f] => some [if f = 0 then b else a]
  | .clz, [a] => some [BitVec.ofNat 32 (clzN a 32)]
  | .ctz, [a] => some [BitVec.ofNat 32 (ctzN a 32)]
  | .popcnt, [a] => some [BitVec.ofNat 32 (popCount a)]
  | .par, [a] => some [BitVec.ofNat 32 (popCount a % 2)]
  | .brev8, [a] => some [brev 8 a]
  | .brev16, [a] => some [brev 16 a]
  | .brev32, [a] => some [brev 32 a]
  | .crcstep, [x, b] => some [crcStep cfg poly x b]
  | .crc32step, [x, b] => some [crc32Step x b]
  | .bext, [a, fs] => some [bitExtract a fs]
  | .bins, [a, v, fs] => some [bitInsert a v fs]
  | .bset, [a, n] => some [a ||| bitW n]
  | .bclr, [a, n] => some [a &&& ~~~(bitW n)]
  | .btst, [a, n] => some [boolWord (a.toNat.testBit (n.toNat % 32))]
  | .muls64, [a, b] =>
    let x := if c then mulS a b else mulU a b
    some [lo32 x, hi32 x]
  | _, _ => Option.none

/-- Does the instruction touch the data stack and C alone? -/
def VOp.isAlu : VOp → Bool
  | .push8 _ | .push8u _ | .push16 _ | .push16u _ | .push32 _ | .pushhi _ | .slit _ | .nop | .getc => true
  | op => decide (0 < op.pops)

/-- The carry an instruction leaves (R313): only ADD, SUB, ADDX and SUBX change it. -/
def VOp.carry (c : Bool) : VOp → List Word → Bool
  | .add, [a, b] => (addC a b false).2
  | .sub, [a, b] => (addC a (~~~b) true).2
  | .addx, [a, b] => (addC a b c).2
  | .subx, [a, b] => (addC a (~~~b) c).2
  | _, _ => c

end Sys2Proof
end

