-- ==== Sys2Proof/Machine/Operands.lean ====
section
/-! DEFINITION. How a Volac instruction reaches its operands: memory accesses and their exceptions (R314, R324, R330–R336,
R352), the stacks with their caches (R305–R307), literals (R310), and the store buffer (R314). -/

namespace Sys2Proof.Machine
open Sys2Proof

/-- Why an instruction does not complete: an exception, whose saved PC is the address `after` the instruction for SYSCALL
and BRK (R324), or a page miss, which restarts it (R347). -/
inductive Trap where
  | exc (vec info : Nat) (eaddr : Word) (after : Bool)
  | miss (va pte : Nat)
  deriving DecidableEq, Repr

/-- An instruction in progress: it reads and changes the state, and may stop with a trap. -/
abbrev Vm := EStateM Trap State

/-- Exceptions of the core by number (R324). -/
def vecUndef : Nat := 1
def vecIllegalPrefix : Nat := 2
def vecPriv : Nat := 3
def vecAlign : Nat := 4
def vecDstack : Nat := 9
def vecRstack : Nat := 10
def vecDivz : Nat := 11
def vecSyscall : Nat := 12
def vecBrk : Nat := 13
def vecFatal : Nat := 15

/-- Raise an exception that has no address. -/
def vmRaise {α : Type} (vec info : Nat) : Vm α := throw (.exc vec info 0 false)

/-- The core that executes. -/
def vmCore (c : CoreId) : Vm Core := do
  let s ← get
  return s.core c

/-- Change it. -/
def vmMod (c : CoreId) (f : Core → Core) : Vm Unit := modify (fun s => s.modCore c f)

/-- Change its bank in use. -/
def vmModBank (c : CoreId) (f : Bank → Bank) : Vm Unit := vmMod c (fun x => x.setBank (f x.bank))

/-- The instruction takes `n` more cycles. -/
def vmTime (c : CoreId) (n : Nat) : Vm Unit := vmMod c (fun x => { x with ready := x.ready + n })

/-! ### Memory accesses -/

/-- The memory a fast handler must stay in: the core's own TCM, or KC private on KC (R369). -/
def ownMem (c : CoreId) (a : Nat) : Bool :=
  match regionOf a with
  | .tcm k => k == coreNum c
  | .kcPriv => c == .kc
  | _ => false

/-- INFO of a memory exception (R324): 0 for a fetch, 1 for data. -/
def accInfo : Acc → Nat
  | .fetch => 0
  | _ => 1

/-- A memory exception: ABSENT, PROT and ECC show in MMU_FSTATc (R357). -/
def vmMemFault {α : Type} (c : CoreId) (asid : Nat) (k : Acc) (a vec cause : Nat) : Vm α := do
  if vec ≠ vecBus then
    modify (fun s => (s.setFld (MMU_FSTATc_ASID (coreNum c)) asid).setFld (MMU_FSTATc_CAUSE (coreNum c)) cause)
  throw (.exc vec (accInfo k) (BitVec.ofNat 32 a) false)

/-- The ASID that bank `bank` of a core translates under, and its level-1 table (R336). -/
def State.space (s : State) (c : CoreId) (bank : Nat) : Option (Nat × Nat) :=
  (if bank = 0 then (s.tasksOf c).cur else some 8).bind (fun n => (s.tableOf c n).map (fun l1 => (n, l1)))

/-- The ASID that MMU_FSTATc shows for bank `bank`. -/
def State.spaceId (s : State) (c : CoreId) (bank : Nat) : Nat :=
  if bank = 0 then (s.tasksOf c).cur.getD 0 else 8

/-- The physical address behind `a` for bank `bank` of core `c`, with the checks of R330, R333–R336 and R369. A walk costs
two accesses to the tables (R331). -/
def vmAddr (c : CoreId) (bank : Nat) (k : Acc) (a : Nat) : Vm Nat := do
  let s ← get
  let asid := s.spaceId c bank
  if bank = 2 && (if k = .fetch then !(ownMem c a) else decide (regionOf a = .paged)) then
    vmMemFault c asid k a vecProt 7
  else if regionOf a = .paged then
    match s.space c bank with
    | none => vmMemFault c asid k a vecAbsent 0
    | some (n, l1) =>
      let t := s.translate (coreNum c) n l1 (bank == 0) k (s.kernelColumn c k) a
      set t.2
      match t.1 with
      | .ok pa =>
        if !(s.tlbHit (coreNum c) n a) then vmTime c (2 * accessTime c l1)
        return pa
      | .bad v cause => vmMemFault c asid k a v cause
      | .miss p => throw (.miss a p)
  else match (if bank = 0 then taskColumn a else s.kernelColumn c k a) with
    | some v => vmMemFault c asid k a v 7
    | none => return a

/-- A read of a poisoned line: a clean page of the pool is dropped and fetched again, any other read raises ECC (R352). -/
def vmPoison (c : CoreId) (bank : Nat) (k : Acc) (a pa : Nat) : Vm Unit := do
  let s ← get
  if s.poisoned pa then
    match (s.cleanPage pa).bind (fun n => (tblFind s.mmu.frames n).map (fun f => (n, f.pte))) with
    | some (n, p) =>
      set (((s.uncorrRead pa).dropFrame n).cureLine pa)
      throw (.miss a p)
    | none =>
      set (s.uncorrRead pa)
      vmMemFault c (s.spaceId c bank) k a vecEcc 0

/-- An access is checked: its physical address. -/
def vmAccess (c : CoreId) (bank : Nat) (k : Acc) (a : Nat) : Vm Nat := do
  let pa ← vmAddr c bank k a
  if k ≠ .store then vmPoison c bank k a pa
  return pa

/-- The bytes at a physical address, as the low bytes of a word: ROM, directory, registers with their side effects, or
memory. -/
def State.loadAt (s : State) (pa : Nat) (w : Width) : Word × State :=
  let n := w.bytes
  match regionOf pa with
  | .rom => (BitVec.ofNat 32 (leNat ((List.range n).map (fun i => Config.romByte (pa + i)))), s)
  | .edir =>
    let o := pa - 0x30000000
    (BitVec.ofNat 32 ((s.dirAt (o / 8)).word / 256 ^ (o % 8) % 256 ^ n), s)
  | .periph =>
    let t := s.busRead pa
    (BitVec.ofNat 32 (t.1.toNat % 256 ^ n), t.2)
  | _ => (BitVec.ofNat 32 (s.memLe pa n), s)

/-- Read at a checked address. -/
def vmRead (pa : Nat) (w : Width) : Vm Word := do
  let s ← get
  let t := s.loadAt pa w
  set t.2
  return t.1

/-- A load waits the full time of its memory (R331); the table of R313 holds the first cycle. -/
def vmLoadTime (c : CoreId) (pa : Nat) : Vm Unit := vmTime c (accessTime c pa - 1)

/-- A store enters the store buffer (R314, R331). -/
def vmStore (c : CoreId) (pa : Nat) (w : Width) (v : Word) : Vm Unit :=
  vmMod c (fun x => { x with sbuf := x.sbuf ++ [⟨pa, w, v⟩], drain := max x.drain x.ready + accessTime c pa })

/-- Alignment (R314). -/
def vmAligned (a : Word) (w : Width) : Vm Unit := do
  if a.toNat % w.bytes ≠ 0 then throw (.exc vecAlign 0 a false)

/-- A store leaves the buffer: to a register, or to memory, where a poisoned line drops it (R352). -/
def State.drainStore (s : State) (c : CoreId) (b : BufStore) : State :=
  match regionOf b.pa with
  | .periph => s.busWrite (.core c) b.pa b.w b.v
  | _ =>
    if s.poisoned b.pa then (s.uncorrRead b.pa).set1 MMU_IRQ_STOREECC
    else s.memPutLe b.pa b.w.bytes b.v.toNat

/-- The buffered stores of core `c` leave in program order. -/
def State.drainStores (s : State) (c : CoreId) : State :=
  (s.core c).sbuf.foldl (fun (s : State) b => s.drainStore c b) (s.modCore c (fun x => { x with sbuf := [] }))

/-! ### Stacks (R305–R307) -/

/-- The data stack or the return stack. -/
inductive StkSel where
  | data | ret
  deriving DecidableEq, Repr

/-- Entries its cache holds. -/
def StkSel.cap : StkSel → Nat
  | .data => 16
  | .ret => 8

/-- The exception its limits raise. -/
def StkSel.vec : StkSel → Nat
  | .data => vecDstack
  | .ret => vecRstack

/-- Bank `n` of a core. -/
def Core.bankAt (x : Core) (n : Nat) : Bank :=
  match n with
  | 0 => x.task
  | 1 => x.kernel
  | _ => x.fast

/-- Replace bank `n`. -/
def Core.setBankAt (x : Core) (n : Nat) (b : Bank) : Core :=
  match n with
  | 0 => { x with task := b }
  | 1 => { x with kernel := b }
  | _ => { x with fast := b }

/-- A stack of bank `n`. -/
def Core.stk (x : Core) (n : Nat) (q : StkSel) : Stk :=
  match q with
  | .data => (x.bankAt n).d
  | .ret => (x.bankAt n).r

/-- Replace it. -/
def Core.setStk (x : Core) (n : Nat) (q : StkSel) (k : Stk) : Core :=
  match q with
  | .data => x.setBankAt n { x.bankAt n with d := k }
  | .ret => x.setBankAt n { x.bankAt n with r := k }

/-- Change a stack of bank `n`. -/
def vmSetStk (c : CoreId) (n : Nat) (q : StkSel) (k : Stk) : Vm Unit := vmMod c (fun x => x.setStk n q k)

/-- Entries of a stack (R305). -/
def Stk.depth (k : Stk) : Nat := k.cache.length + (k.base - k.ptr).toNat / 4

/-- A pop; with nothing cached the entry is filled from memory. -/
def vmPopFrom (c : CoreId) (n : Nat) (q : StkSel) : Vm Word := do
  let x ← vmCore c
  let k := x.stk n q
  match k.cache with
  | w :: t =>
    vmSetStk c n q { k with cache := t }
    return w
  | [] =>
    if k.ptr = k.base then vmRaise q.vec 1
    else
      let pa ← vmAccess c n .load k.ptr.toNat
      let w ← vmRead pa .word
      vmTime c (accessTime c pa)
      vmSetStk c n q { k with ptr := k.ptr + 4 }
      return w

/-- The oldest cached entry is spilled. -/
def vmSpill (c : CoreId) (n : Nat) (q : StkSel) : Vm Unit := do
  let x ← vmCore c
  let k := x.stk n q
  match k.cache.getLast? with
  | none => return ()
  | some w =>
    if k.ptr.toNat < k.lim.toNat + 4 then vmRaise q.vec 0
    else
      let pa ← vmAccess c n .store (k.ptr - 4).toNat
      vmStore c pa .word w
      vmTime c (accessTime c pa)
      vmSetStk c n q { k with cache := k.cache.dropLast, ptr := k.ptr - 4 }

/-- A push; with the cache full the oldest entry is spilled first. -/
def vmPushTo (c : CoreId) (n : Nat) (q : StkSel) (w : Word) : Vm Unit := do
  let x ← vmCore c
  if q.cap ≤ (x.stk n q).cache.length then vmSpill c n q
  vmMod c (fun x => x.setStk n q { x.stk n q with cache := w :: (x.stk n q).cache })

/-- Pop and push the data stack of the bank in use. -/
def vmPop (c : CoreId) : Vm Word := do
  let x ← vmCore c
  vmPopFrom c x.bankNo .data
def vmPush (c : CoreId) (w : Word) : Vm Unit := do
  let x ← vmCore c
  vmPushTo c x.bankNo .data w

/-- Pop and push its return stack. -/
def vmRpop (c : CoreId) : Vm Word := do
  let x ← vmCore c
  vmPopFrom c x.bankNo .ret
def vmRpush (c : CoreId) (w : Word) : Vm Unit := do
  let x ← vmCore c
  vmPushTo c x.bankNo .ret w

/-- Pop `n` entries, deepest first. -/
def vmPopN (c : CoreId) : Nat → Vm (List Word)
  | 0 => return []
  | n + 1 => do
    let top ← vmPop c
    let r ← vmPopN c n
    return r ++ [top]

/-- Push entries, deepest first. -/
def vmPushAll (c : CoreId) : List Word → Vm Unit
  | [] => return ()
  | w :: t => do
    vmPush c w
    vmPushAll c t

/-- Every cached entry is spilled (R308). -/
def vmFlush (c : CoreId) (q : StkSel) : Nat → Vm Unit
  | 0 => return ()
  | n + 1 => do
    let x ← vmCore c
    vmSpill c x.bankNo q
    vmFlush c q n

/-! ### Literals (R310) -/

/-- LA where LV = 1, which is consumed. -/
def vmLit (c : CoreId) : Vm (Option Word) := do
  let x ← vmCore c
  if x.bank.lv then
    vmModBank c (fun b => { b with lv := false })
    return some x.bank.la
  else return none

/-- Kinds op and cnt: the literal, or the operand popped. -/
def vmOp (c : CoreId) : Vm Word := do
  match ← vmLit c with
  | some w => return w
  | none => vmPop c

/-- Kind ofs: the popped address plus the literal. -/
def vmOfs (c : CoreId) : Vm Word := do
  let l ← vmLit c
  let a ← vmPop c
  return a + l.getD 0

/-- Kind rel: the address after the instruction plus the literal, or the target popped. -/
def vmRel (c : CoreId) (next : Word) : Vm Word := do
  match ← vmLit c with
  | some w => return next + w
  | none => vmPop c

/-- The operands of an instruction that touches the data stack alone, deepest first. -/
def vmOperands (c : CoreId) (op : VOp) : Vm (List Word) := do
  if op.lit = .op then
    let b ← vmOp c
    let r ← vmPopN c (op.pops - 1)
    return r ++ [b]
  else vmPopN c op.pops

end Sys2Proof.Machine
end

