-- ==== Sys2Proof/Machine/CoreEntry.lean ====
section
/-! DEFINITION. How a core leaves its instruction stream: exception entry (R324), FATAL (R326), page misses (R347), interrupt
entry (R362–R364), and bus errors (R11). -/

namespace Sys2Proof.Machine
open Sys2Proof

/-! ### Entry into a bank (R324, R362) -/

/-- PSW in a handler in bank `n`: GD is 1, no repetition is in progress, and C stays. -/
def handlerPsw (n : Nat) (old : Word) : Word := BitVec.ofNat 32 (n * 256 + 2 + old.toNat % 2)

/-- The entry steps: bank `n` is selected, the saved PC and then the saved PSW are pushed on its return stack, GD is set,
and the core fetches from `handler`. It takes 4 cycles and any spill. -/
def vmEnter (c : CoreId) (n : Nat) (pc psw handler : Word) : Vm Unit := do
  vmPushTo c n .ret pc
  vmPushTo c n .ret psw
  vmMod c (fun x => { x with psw := handlerPsw n psw, pc := handler, st := .run, ready := x.ready + 4 })

/-- The exception number a trap during an entry has: a page miss has none. -/
def Trap.vec : Trap → Nat
  | .exc v _ _ _ => v
  | .miss _ _ => 0

/-- ECAUSE (R323). -/
def ecauseWord (info pbank vec : Nat) : Word := BitVec.ofNat 32 (info % 65536 * 65536 + pbank * 256 + vec)

/-- Core `c`, whose state is `x`, takes exception `vec` with the saved PC `pc` (R324); in the fast bank, and where the entry
itself fails, it takes FATAL (R326). -/
def State.takeExc (s : State) (c : CoreId) (x : Core) (vec info : Nat) (eaddr pc : Word) : State :=
  let s := s.setCore c x
  if x.bankNo = 2 then s.coreFatal c x.pc vec
  else match (vmEnter c 1 pc x.psw (x.vbase + BitVec.ofNat 32 (16 * vec))).run s with
    | .ok _ s1 =>
      (s1.modCore c (fun y => { y with ecause := ecauseWord info x.bankNo vec, eaddr := eaddr })).drainStores c
    | .error t s1 => (s1.setCore c x).coreFatal c x.pc t.vec

/-- An instruction of core `c` did not complete: `x` is the core before it, `next` the address after it (R324, R347). -/
def State.trap (s : State) (c : CoreId) (x : Core) (next : Word) (t : Trap) : State :=
  match t with
  | .miss va pte => (s.setCore c x).coreMiss c va pte
  | .exc vec info eaddr after => s.takeExc c x vec info eaddr (if after then next else x.pc)

/-! ### Interrupts (R361–R364) -/

/-- Does core `c` stand at a boundary at which it considers interrupts (R322, R361)? -/
def State.atBoundary (s : State) (c : CoreId) : Bool :=
  let x := s.core c
  s.clocked && !x.dbgHalt && !x.repNew && (match x.st with
    | .run | .wait | .idle => true
    | _ => false)

/-- The check at the commit cycle (R364). -/
def State.stillTaken (s : State) (c : CoreId) (src : Nat) (fast : Bool) : Bool :=
  s.srcPending src && s.srcCore src == c && s.srcFast src == fast &&
    (fast || decide (s.srcPrio src < s.fld (ICU_COREc_THR (coreNum c))))

/-- Entry for source `src` from the state of core `c`; `write` is a register write that reaches its block during it. -/
def State.takeIrq (s : State) (c : CoreId) (src : Nat) (write : Option (Requester × Nat × Word)) : State :=
  let x := s.core c
  let fast := s.srcFast src
  let handler := x.vbase + (if fast then 0x180 else 0x100)
  match (vmEnter c (if fast then 2 else 1) x.pc x.psw handler).run s with
  | .error t s1 => (s1.setCore c x).coreFatal c x.pc t.vec
  | .ok _ s1 =>
    let s1 := s1.drainStores c
    let s2 := match write with
      | some (r, a, v) => if inWindows a then s1.busWrite r a .word v else s1
      | none => s1
    if s2.core c ≠ s1.core c then s2
    else if s2.stillTaken c src fast then s2.deliver c src
    else (s2.setCore c { x with ready := (s1.core c).ready + 2 }).inc (ICU_STATc_WDRAWN (coreNum c))

/-- INTERRUPT_ENTRY (R361–R364): at a boundary core `c` takes the most important eligible source; a `write` that reaches a
block before the commit cycle may withdraw the delivery. -/
def execInterruptEntry (c : CoreId) (write : Option (Requester × Nat × Word)) (s : State) : Res :=
  if !(s.atBoundary c) then .next s
  else
    let s1 := s.advanceTo (s.core c).ready
    let s2 := s1.modCore c (fun x => { x with ready := max x.ready s1.clk.now })
    let x := s2.core c
    match s2.pickSrc c (x.bankNo == 2) (bitAt x.psw.toNat 1) with
    | none => .next s
    | some src => .next (s2.takeIrq c src write)

/-! ### Bus errors (R11) -/

/-- BUS_ERROR (R11, R230): requester `r` accesses `a` outside every region, or a hot slot, which only the pager and the MAC reach: an exception for a core, a fault for a DMA channel,
the FAULT acknowledge for a debug probe. -/
def execBusError (r : Requester) (a : Nat) (fetch : Bool) (s : State) : Res :=
  if (regionOf a ≠ .hole && regionOf a ≠ .ehot) || 2 ^ 32 ≤ a then .next s
  else match r with
    | .core c =>
      if (s.core c).st != .run || !s.clocked then .next s
      else
        let s := s.advanceTo (s.core c).ready
        let x := { s.core c with ready := max (s.core c).ready s.clk.now }
        .next (s.takeExc c x vecBus (if fetch then 0 else 1) (BitVec.ofNat 32 a) x.pc)
    | .dma ch =>
      if 16 ≤ ch || s.dmaSt ch ≠ dmaRun then .next s else .next (s.dmaFail ch Code.DMA_BUSERR false)
    | .debug => .next { s with dbgAck := 4 }

end Sys2Proof.Machine
end

