-- ==== Sys2Proof/Machine/VolacSem.lean ====
section
/-! DEFINITION. What each Volac instruction does (R309–R323), written once over the table, the operands and the stacks; and
the course of one instruction: fetch, checks, effect, repetition, traps. -/

namespace Sys2Proof.Machine
open Sys2Proof

/-- What follows an instruction: nothing, an entry into the task bank, or a YIELD of the running slot. -/
inductive Post where
  | none | enterTask | yield
  deriving DecidableEq, Repr

/-! ### Special registers (R323, R327) -/

/-- FEAT0 and FEAT2 of a core. -/
def feat0 : CoreId → Word
  | .lc0 => 0x01000000
  | .lc1 => 0x01000001
  | .sc => 0x01000102
  | .kc => 0x01000203
def feat2 : CoreId → Word
  | .sc => 0x00108204
  | _ => 0x00108307

/-- The value of a special register; none for an index not listed. -/
def Core.special (x : Core) (c : CoreId) (now idx : Nat) : Option Word :=
  match idx with
  | 0x00 => some x.psw
  | 0x01 => some x.ecause
  | 0x02 => some x.eaddr
  | 0x03 => some x.vbase
  | 0x04 => some x.bank.d.ptr
  | 0x05 => some x.bank.d.base
  | 0x06 => some x.bank.d.lim
  | 0x07 => some x.bank.r.ptr
  | 0x08 => some x.bank.r.base
  | 0x09 => some x.bank.r.lim
  | 0x0a => some x.crccfg
  | 0x0b => some x.crcpoly
  | 0x0c => some (BitVec.ofNat 32 (now - x.cyc0))
  | 0x0d => some x.cychi
  | 0x0e => some x.fpc
  | 0x10 => some (feat0 c)
  | 0x11 => some 0x3f
  | 0x12 => some (feat2 c)
  | 0x13 => some 0
  | _ => none

/-- May the task bank read it? -/
def specialTaskRead (idx : Nat) : Bool := [0x00, 0x0a, 0x0b, 0x0c, 0x0d, 0x10, 0x11, 0x12, 0x13].contains idx

/-- May it be written at all, and by the task bank? -/
def specialWrite (idx : Nat) : Bool := [0x00, 0x03, 0x04, 0x05, 0x06, 0x07, 0x08, 0x09, 0x0a, 0x0b].contains idx
def specialTaskWrite (idx : Nat) : Bool := [0x00, 0x0a, 0x0b].contains idx

/-- INFO of UNDEF for an index (R323). -/
def specialInfo (idx : Nat) : Nat := (0x200 ||| idx) % 65536

/-- RDSR: a read of CYCLO latches CYCHI. -/
def vmRdsr (c : CoreId) : Vm Unit := do
  let idx := (← vmOp c).toNat
  let s ← get
  let x := s.core c
  match x.special c s.clk.now idx with
  | none => vmRaise vecUndef (specialInfo idx)
  | some w =>
    if x.bankNo = 0 && !(specialTaskRead idx) then vmRaise vecPriv (VOp.info .rdsr)
    else
      if idx = 0x0c then vmMod c (fun x => { x with cychi := BitVec.ofNat 32 ((s.clk.now - x.cyc0) / 2 ^ 32) })
      vmPush c w

/-- A stack of the bank in use gets a pointer register, and its cache is discarded (R308): `k` 0 pointer, 1 base, 2 limit. -/
def Stk.setReg (t : Stk) (k : Nat) (w : Word) : Stk :=
  match k with
  | 0 => { t with cache := [], ptr := w }
  | 1 => { t with cache := [], base := w }
  | _ => { t with cache := [], lim := w }

/-- PSW after a write in the task bank (C alone) or another bank (GD and C). -/
def pswWritten (old w : Word) (task : Bool) : Word :=
  if task then (old &&& ~~~(1 : Word)) ||| (w &&& 1) else (old &&& ~~~(3 : Word)) ||| (w &&& 3)

/-- WRSR. -/
def vmWrsr (c : CoreId) : Vm Unit := do
  let idx := (← vmOp c).toNat
  let x ← vmCore c
  let task := x.bankNo = 0
  if (x.special c 0 idx).isNone then vmRaise vecUndef (specialInfo idx)
  if !(specialWrite idx) || (task && !(specialTaskWrite idx)) then vmRaise vecPriv (VOp.info .wrsr)
  let w ← vmPop c
  if idx = 0 then
    if task && decide (x.psw &&& ~~~(1 : Word) ≠ w &&& ~~~(1 : Word)) then vmRaise vecPriv (VOp.info .wrsr)
    vmMod c (fun x => { x with psw := pswWritten x.psw w task })
  else if idx = 3 then
    if w.toNat % 256 ≠ 0 then vmRaise vecUndef (specialInfo idx)
    vmMod c (fun x => { x with vbase := w })
  else if idx = 0x0a then vmMod c (fun x => { x with crccfg := w &&& 0x3f })
  else if idx = 0x0b then vmMod c (fun x => { x with crcpoly := w })
  else
    if w.toNat % 4 ≠ 0 then vmRaise vecUndef (specialInfo idx)
    if idx ≤ 6 then vmMod c (fun x => x.setStk x.bankNo .data ((x.stk x.bankNo .data).setReg (idx - 4) w))
    else vmMod c (fun x => x.setStk x.bankNo .ret ((x.stk x.bankNo .ret).setReg (idx - 7) w))

/-! ### Memory instructions (R313–R315) -/

/-- A checked load of width `w` at `a`: aligned, allowed, readable; its physical address. -/
def vmLoadAddr (c : CoreId) (a : Word) (w : Width) : Vm Nat := do
  vmAligned a w
  let x ← vmCore c
  let pa ← vmAccess c x.bankNo .load a.toNat
  vmLoadTime c pa
  return pa

/-- A checked store address. -/
def vmStoreAddr (c : CoreId) (a : Word) (w : Width) : Vm Nat := do
  vmAligned a w
  let x ← vmCore c
  vmAccess c x.bankNo .store a.toNat

/-- LDW, LDH, LDHU, LDB, LDBU; `f` extends. -/
def vmLoad (c : CoreId) (w : Width) (f : Word → Word) : Vm Unit := do
  let a ← vmOfs c
  let pa ← vmLoadAddr c a w
  let v ← vmRead pa w
  vmPush c (f v)

/-- STW, STH, STB. -/
def vmStoreTo (c : CoreId) (w : Width) : Vm Unit := do
  let a ← vmOfs c
  let v ← vmPop c
  let pa ← vmStoreAddr c a w
  vmStore c pa w v

/-- Advance A, or B. -/
def vmStepA (c : CoreId) (w : Width) : Vm Unit := vmModBank c (fun b => { b with a := b.a + BitVec.ofNat 32 w.bytes })
def vmStepB (c : CoreId) (w : Width) : Vm Unit := vmModBank c (fun b => { b with b := b.b + BitVec.ofNat 32 w.bytes })

/-- LDWA, LDBA: the push finds its room before the read acts. -/
def vmLoadA (c : CoreId) (w : Width) : Vm Unit := do
  let x ← vmCore c
  let pa ← vmLoadAddr c x.bank.a w
  vmPush c 0
  let v ← vmRead pa w
  let _ ← vmPop c
  vmPush c v
  vmStepA c w

/-- STWB, STBB; FILLW, which keeps its operand, pushes it again. -/
def vmStoreB (c : CoreId) (w : Width) (keep : Bool) : Vm Unit := do
  let v ← vmPop c
  let x ← vmCore c
  let pa ← vmStoreAddr c x.bank.b w
  vmStore c pa w v
  vmStepB c w
  if keep then vmPush c v

/-- MOVW, MOVB. -/
def vmMove (c : CoreId) (w : Width) : Vm Unit := do
  let x ← vmCore c
  vmAligned x.bank.a w
  vmAligned x.bank.b w
  let pa ← vmLoadAddr c x.bank.a w
  let pb ← vmStoreAddr c x.bank.b w
  let v ← vmRead pa w
  vmStore c pb w v
  vmStepA c w
  vmStepB c w

/-- XCHG. -/
def vmXchg (c : CoreId) : Vm Unit := do
  let a ← vmPop c
  let v ← vmPop c
  let pa ← vmLoadAddr c a .word
  let pb ← vmStoreAddr c a .word
  let y ← vmRead pa .word
  vmStore c pb .word v
  vmPush c y

/-- CASW. -/
def vmCasw (c : CoreId) : Vm Unit := do
  let a ← vmPop c
  let new ← vmPop c
  let exp ← vmPop c
  let pa ← vmLoadAddr c a .word
  let old ← vmRead pa .word
  if old = exp then
    let pb ← vmStoreAddr c a .word
    vmStore c pb .word new
  vmPush c old

/-- CRCA, CRC32A: `f` is the step. -/
def vmCrcA (c : CoreId) (f : Core → Word → Word → Word) : Vm Unit := do
  let crc ← vmPop c
  let x ← vmCore c
  let pa ← vmLoadAddr c x.bank.a .byte
  let b ← vmRead pa .byte
  vmStepA c .byte
  vmPush c (f x crc b)

/-- PICK: entry `n` of what is left, cached or in memory. -/
def vmPick (c : CoreId) : Vm Unit := do
  let n := (← vmOp c).toNat
  let x ← vmCore c
  let k := x.bank.d
  if k.depth ≤ n then vmRaise vecDstack 1
  else match k.cache[n]? with
    | some w => vmPush c w
    | none =>
      let pa ← vmAccess c x.bankNo .load ((k.ptr.toNat + 4 * (n - k.cache.length)) % 2 ^ 32)
      let w ← vmRead pa .word
      vmTime c 2
      vmLoadTime c pa
      vmPush c w

/-! ### Control (R313, R315, R320, R325) -/

/-- Fetch continues at `a`. -/
def vmGoto (c : CoreId) (a : Word) : Vm Unit := vmMod c (fun x => { x with pc := a })

/-- BZ, BNZ: a branch taken costs a cycle more. -/
def vmBranchIf (c : CoreId) (next : Word) (taken : Word → Bool) : Vm Unit := do
  let t ← vmRel c next
  let f ← vmPop c
  if taken f then
    vmTime c 1
    vmGoto c t

/-- LOOP. -/
def vmLoop (c : CoreId) (next : Word) : Vm Unit := do
  let t ← vmRel c next
  let x ← vmCore c
  if x.bank.rc ≠ 0 then
    vmModBank c (fun b => { b with rc := b.rc - 1 })
    if x.bank.rc ≠ 1 then
      vmTime c 1
      vmGoto c t

/-- REP: `target` is the instruction behind it, none for an immediate prefix (R320, R321). -/
def vmRep (c : CoreId) (next : Word) (target : Option VOp) : Vm Unit := do
  match target with
  | none => vmRaise vecIllegalPrefix 3
  | some t =>
    if !t.repeatable then vmRaise vecIllegalPrefix 3
    else
      let n ← vmOp c
      vmModBank c (fun b => { b with rc := n })
      if n = 0 then vmGoto c (next + BitVec.ofNat 32 t.len)
      else vmMod c (fun x => { x with psw := x.psw ||| 4, repNew := true })

/-- May ERET continue with this PSW (R325)? -/
def pswLegal (c : CoreId) (w : Word) : Bool :=
  let b := bitsOf w.toNat 9 8
  b ≤ 1 || (b == 2 && c != .sc)

/-- ERET. -/
def vmEret (c : CoreId) : Vm Post := do
  let w ← vmRpop c
  let pc ← vmRpop c
  if !(pswLegal c w) then vmRaise vecUndef (VOp.info .eret)
  vmMod c (fun x => { x with psw := w &&& 0x307, pc := pc })
  return if bitsOf w.toNat 9 8 = 0 then .enterTask else .none

/-- WAIT: fetch stops unless a source routed to the core is pending (R315, R368). -/
def vmWait (c : CoreId) : Vm Unit := do
  let s ← get
  if (s.pendingOf c).isEmpty then vmMod c (fun x => { x with st := .wait })

/-- FENCE waits until every buffered store has completed. -/
def vmFence (c : CoreId) : Vm Unit := vmMod c (fun x => { x with ready := max x.ready (x.drain + 2) })

/-! ### The instructions -/

/-- An instruction that touches the data stack and C alone. -/
def vmAlu (c : CoreId) (op : VOp) : Vm Unit := do
  let x ← vmCore c
  let l ← vmOperands c op
  if op.divides && l.getLast? == some 0 then vmRaise vecDivz 0
  match op.alu (bitAt x.psw.toNat 0) x.crccfg x.crcpoly l with
  | none => return ()
  | some r =>
    vmMod c (fun y => { y with psw := (y.psw &&& ~~~(1 : Word)) ||| boolWord (op.carry (bitAt x.psw.toNat 0) l) })
    vmPushAll c r

/-- The effect of an instruction that touches more than the data stack and C; `next` is the address after it. -/
def vmBeyond (c : CoreId) (op : VOp) (next : Word) (target : Option VOp) : Vm Post := do
  let x ← vmCore c
  match op with
  | .pick => vmPick c
  | .tor => let w ← vmPop c; vmRpush c w
  | .fromr => let w ← vmRpop c; vmPush c w
  | .rfetch => let w ← vmRpop c; vmRpush c w; vmPush c w
  | .depth => vmPush c (BitVec.ofNat 32 x.bank.d.depth)
  | .rdrop => let _ ← vmRpop c
  | .ldw => vmLoad c .word id
  | .ldh => vmLoad c .half (sext 16)
  | .ldhu => vmLoad c .half id
  | .ldb => vmLoad c .byte (sext 8)
  | .ldbu => vmLoad c .byte id
  | .stw => vmStoreTo c .word
  | .sth => vmStoreTo c .half
  | .stb => vmStoreTo c .byte
  | .ldwa => vmLoadA c .word
  | .ldba => vmLoadA c .byte
  | .stwb => vmStoreB c .word false
  | .stbb => vmStoreB c .byte false
  | .movw => vmMove c .word
  | .movb => vmMove c .byte
  | .fillw => vmStoreB c .word true
  | .xchg => vmXchg c
  | .seta => let w ← vmPop c; vmModBank c (fun b => { b with a := w })
  | .setb => let w ← vmPop c; vmModBank c (fun b => { b with b := w })
  | .geta => vmPush c x.bank.a
  | .getb => vmPush c x.bank.b
  | .adda => let w ← vmOp c; vmModBank c (fun b => { b with a := b.a + w })
  | .addb => let w ← vmOp c; vmModBank c (fun b => { b with b := b.b + w })
  | .setrc => let w ← vmOp c; vmModBank c (fun b => { b with rc := w })
  | .getrc => vmPush c x.bank.rc
  | .rep => vmRep c next target
  | .rdsr => vmRdsr c
  | .wrsr => vmWrsr c
  | .br => let t ← vmRel c next; vmGoto c t
  | .bz => vmBranchIf c next (fun f => decide (f = 0))
  | .bnz => vmBranchIf c next (fun f => decide (f ≠ 0))
  | .call => let t ← vmRel c next; vmRpush c next; vmGoto c t
  | .ret => let t ← vmRpop c; vmGoto c t
  | .loop => vmLoop c next
  | .syscall => let n ← vmOp c; throw (.exc vecSyscall (n.toNat % 65536) 0 true)
  | .brk => throw (.exc vecBrk 0 0 true)
  | .eret => return ← vmEret c
  | .wait => vmWait c
  | .di => vmMod c (fun x => { x with psw := x.psw ||| 2 })
  | .ei => vmMod c (fun x => { x with psw := x.psw &&& ~~~(2 : Word) })
  | .fence => vmFence c
  | .dsflush => vmFlush c .data x.bank.d.cache.length
  | .rsflush => vmFlush c .ret x.bank.r.cache.length
  | .tpop => let w ← vmPopFrom c 0 .data; vmPush c w
  | .tpush => let w ← vmPop c; vmPushTo c 0 .data w
  | .yield => return if x.bankNo = 0 then .yield else .none
  | .crca => vmCrcA c (fun y crc b => crcStep y.crccfg y.crcpoly crc b)
  | .crc32a => vmCrcA c (fun _ crc b => crc32Step crc b)
  | .casw => vmCasw c
  | _ => return .none
  return .none

/-- The effect of `op`; `next` is the address after it. -/
def vmBody (c : CoreId) (op : VOp) (next : Word) (target : Option VOp) : Vm Post := do
  if op.isAlu then
    vmAlu c op
    return .none
  else vmBeyond c op next target

/-! ### The course of an instruction -/

/-- One byte is fetched at `a`. -/
def vmFetchByte (c : CoreId) (a : Nat) : Vm Unit := do
  let x ← vmCore c
  let _ ← vmAccess c x.bankNo .fetch (a % 2 ^ 32)

/-- The first and the last byte of `n` are fetched; KC's first fetch outside the boot ROM shows in UPD_BOOT (R504). -/
def vmFetch (c : CoreId) (pc n : Nat) : Vm Unit := do
  vmFetchByte c pc
  vmFetchByte c (pc + n - 1)
  if c = .kc && decide (0x10000 ≤ pc) then modify (fun s => s.set1 UPD_BOOT_ROMEXIT)

/-- The checks of R316, R311 and R315 in the order of R325. -/
def vmLegal (c : CoreId) (p : Prefix) (op : VOp) : Vm Unit := do
  let x ← vmCore c
  match p, op with
  | .double _, _ => vmRaise vecIllegalPrefix 2
  | _, .undef _ _ => vmRaise vecUndef op.info
  | _, _ =>
    if p ≠ .none && op.lit = .none then vmRaise vecIllegalPrefix 1
    else if op.kOnly && x.bankNo = 0 then vmRaise vecPriv op.info
    else return ()

/-- Bytes REP looks at behind itself for its target's opcode. -/
def repLook (op : VOp) (target : Option VOp) : Nat :=
  match op with
  | .rep => match target with
    | some t => if t.ext then 2 else 1
    | none => 1
  | _ => 0

/-- After an iteration RC decreases by 1; at 0 the repetition ends and PC moves past the target (R320). -/
def iterate (pc : Word) (x : Core) : Core :=
  let rc := x.bank.rc - 1
  let y := x.setBank { x.bank with rc := rc }
  if rc = 0 then { y with psw := y.psw &&& ~~~(4 : Word) } else { y with pc := pc }

/-- Bytes of an instruction with its prefix. -/
def instrLen (p : Prefix) (op : VOp) : Nat :=
  match p with
  | .double n => n
  | p => p.len + op.len

/-- One instruction, or one iteration while PSW.RPT is 1. -/
def vmInstr (c : CoreId) (p : Prefix) (op : VOp) (target : Option VOp) : Vm Post := do
  let x ← vmCore c
  let next := x.pc + BitVec.ofNat 32 (instrLen p op)
  vmFetch c x.pc.toNat (instrLen p op + repLook op target)
  vmLegal c p op
  vmMod c (fun y => { y with pc := next, ready := y.ready + p.cycles + op.cycles })
  match p.la with
  | some w => vmModBank c (fun b => { b with la := w, lv := true })
  | none => pure ()
  let post ← vmBody c op next target
  if bitAt x.psw.toNat 2 && op.repeatable then vmMod c (iterate x.pc)
  return post

/-- Does core `c` execute: it runs, or it waits and a source is pending for it (R368)? -/
def State.executes (s : State) (c : CoreId) : Bool :=
  let x := s.core c
  s.clocked && (match x.st with
    | .run => true
    | .wait => !(s.pendingOf c).isEmpty
    | _ => false)

/-- What follows an instruction. -/
def State.post (s : State) (c : CoreId) : Post → State
  | .none => s
  | .enterTask => s.enterTask c
  | .yield => s.switchTo c slotReady

/-- The core before its instruction: it starts when it is ready, at the earliest now. -/
def State.startCore (s : State) (c : CoreId) : Core :=
  { s.core c with st := .run, repNew := false, sbuf := [], ready := max (s.core c).ready s.clk.now }

/-- Core `c`, which executes, executes `op` behind prefix `p`. -/
def State.instr (s : State) (c : CoreId) (p : Prefix) (op : VOp) (target : Option VOp) : State :=
  let s := s.advanceTo (s.core c).ready
  let x := s.startCore c
  match (vmInstr c p op target).run (s.setCore c x) with
  | .ok post s1 => (s1.drainStores c).post c post
  | .error t s1 => s1.trap c x (x.pc + BitVec.ofNat 32 (instrLen p op)) t

/-- The command: core `c` executes `op` behind prefix `p`. A core that does not execute takes no instruction. -/
def runInstr (c : CoreId) (p : Prefix) (op : VOp) (target : Option VOp) (s : State) : Res :=
  if s.executes c && !(s.core c).dbgHalt then .next (s.instr c p op target) else .next s

end Sys2Proof.Machine
end

