-- ==== Sys2Proof/Machine/CpuArith.lean ====
section
/-! DEFINITION. The meanings of the Volac instructions: arithmetic (R313). Core `c` executes the instruction behind prefix `p`;
the state changes as `State.instr` says for the table's row. -/

namespace Sys2Proof.Machine
open Sys2Proof

/-- ADD (R313): adds and sets C to the carry. -/
def execAdd (c : CoreId) (p : Prefix) (s : State) : Res := runInstr c p .add none s

/-- SUB (R313): subtracts and sets C to no-borrow. -/
def execSub (c : CoreId) (p : Prefix) (s : State) : Res := runInstr c p .sub none s

/-- ADDX (R313): adds with carry in and sets C. -/
def execAddx (c : CoreId) (p : Prefix) (s : State) : Res := runInstr c p .addx none s

/-- SUBX (R313): subtracts with carry in and sets C. -/
def execSubx (c : CoreId) (p : Prefix) (s : State) : Res := runInstr c p .subx none s

/-- NEG (R313): negates the top entry. -/
def execNeg (c : CoreId) (p : Prefix) (s : State) : Res := runInstr c p .neg none s

/-- NOT (R313): inverts every bit of the top entry. -/
def execNot (c : CoreId) (p : Prefix) (s : State) : Res := runInstr c p .not none s

/-- INC (R313): adds 1 to the top entry. -/
def execInc (c : CoreId) (p : Prefix) (s : State) : Res := runInstr c p .inc none s

/-- DEC (R313): subtracts 1 from the top entry. -/
def execDec (c : CoreId) (p : Prefix) (s : State) : Res := runInstr c p .dec none s

/-- ABS (R313): gives the absolute value of the top entry. -/
def execAbs (c : CoreId) (p : Prefix) (s : State) : Res := runInstr c p .abs none s

/-- MUL (R313): gives the low 32 bits of the product. -/
def execMul (c : CoreId) (p : Prefix) (s : State) : Res := runInstr c p .mul none s

/-- MULH (R313): gives the high 32 bits of the signed product. -/
def execMulh (c : CoreId) (p : Prefix) (s : State) : Res := runInstr c p .mulh none s

/-- MULHU (R313): gives the high 32 bits of the unsigned product. -/
def execMulhu (c : CoreId) (p : Prefix) (s : State) : Res := runInstr c p .mulhu none s

/-- DIV (R313): gives the signed truncating quotient, raising DIVZ for b = 0. -/
def execDiv (c : CoreId) (p : Prefix) (s : State) : Res := runInstr c p .div none s

/-- DIVU (R313): gives the unsigned quotient, raising DIVZ for b = 0. -/
def execDivu (c : CoreId) (p : Prefix) (s : State) : Res := runInstr c p .divu none s

/-- MOD (R313): gives the signed remainder, raising DIVZ for b = 0. -/
def execMod (c : CoreId) (p : Prefix) (s : State) : Res := runInstr c p .mod none s

/-- MODU (R313): gives the unsigned remainder, raising DIVZ for b = 0. -/
def execModu (c : CoreId) (p : Prefix) (s : State) : Res := runInstr c p .modu none s

end Sys2Proof.Machine
end

