-- ==== Sys2Proof/Machine/CpuBits.lean ====
section
/-! DEFINITION. The meanings of the Volac instructions: counting, reversal, CRC and bit fields (R313, R317–R319). Core `c` executes the instruction behind prefix `p`;
the state changes as `State.instr` says for the table's row. -/

namespace Sys2Proof.Machine
open Sys2Proof

/-- CLZ (R317): counts leading zero bits. -/
def execClz (c : CoreId) (p : Prefix) (s : State) : Res := runInstr c p .clz none s

/-- CTZ (R317): counts trailing zero bits. -/
def execCtz (c : CoreId) (p : Prefix) (s : State) : Res := runInstr c p .ctz none s

/-- POPCNT (R317): counts set bits. -/
def execPopcnt (c : CoreId) (p : Prefix) (s : State) : Res := runInstr c p .popcnt none s

/-- PAR (R317): gives the XOR of all 32 bits. -/
def execPar (c : CoreId) (p : Prefix) (s : State) : Res := runInstr c p .par none s

/-- BREV8 (R317): reverses the bits within each byte. -/
def execBrev8 (c : CoreId) (p : Prefix) (s : State) : Res := runInstr c p .brev8 none s

/-- BREV16 (R317): reverses the bits within each half-word. -/
def execBrev16 (c : CoreId) (p : Prefix) (s : State) : Res := runInstr c p .brev16 none s

/-- BREV32 (R317): reverses all 32 bits. -/
def execBrev32 (c : CoreId) (p : Prefix) (s : State) : Res := runInstr c p .brev32 none s

/-- CRCSTEP (R318): runs the configured CRC over one byte. -/
def execCrcstep (c : CoreId) (p : Prefix) (s : State) : Res := runInstr c p .crcstep none s

/-- CRC32STEP (R318): runs the CRC-32 over one byte. -/
def execCrc32step (c : CoreId) (p : Prefix) (s : State) : Res := runInstr c p .crc32step none s

/-- BEXT (R319): extracts a bit field. -/
def execBext (c : CoreId) (p : Prefix) (s : State) : Res := runInstr c p .bext none s

/-- BINS (R319): inserts a bit field. -/
def execBins (c : CoreId) (p : Prefix) (s : State) : Res := runInstr c p .bins none s

/-- BSET (R313): sets bit n. -/
def execBset (c : CoreId) (p : Prefix) (s : State) : Res := runInstr c p .bset none s

/-- BCLR (R313): clears bit n. -/
def execBclr (c : CoreId) (p : Prefix) (s : State) : Res := runInstr c p .bclr none s

/-- BTST (R313): tests bit n. -/
def execBtst (c : CoreId) (p : Prefix) (s : State) : Res := runInstr c p .btst none s

end Sys2Proof.Machine
end

