-- ==== Sys2Proof/Machine/CpuCompare.lean ====
section
/-! DEFINITION. The meanings of the Volac instructions: compares and selection (R313). Core `c` executes the instruction behind prefix `p`;
the state changes as `State.instr` says for the table's row. -/

namespace Sys2Proof.Machine
open Sys2Proof

/-- EQ (R313): tests a = b. -/
def execEq (c : CoreId) (p : Prefix) (s : State) : Res := runInstr c p .eq none s

/-- NE (R313): tests a ≠ b. -/
def execNe (c : CoreId) (p : Prefix) (s : State) : Res := runInstr c p .ne none s

/-- LT (R313): tests a < b, signed. -/
def execLt (c : CoreId) (p : Prefix) (s : State) : Res := runInstr c p .lt none s

/-- LTU (R313): tests a < b, unsigned. -/
def execLtu (c : CoreId) (p : Prefix) (s : State) : Res := runInstr c p .ltu none s

/-- LE (R313): tests a ≤ b, signed. -/
def execLe (c : CoreId) (p : Prefix) (s : State) : Res := runInstr c p .le none s

/-- LEU (R313): tests a ≤ b, unsigned. -/
def execLeu (c : CoreId) (p : Prefix) (s : State) : Res := runInstr c p .leu none s

/-- GT (R313): tests a > b, signed. -/
def execGt (c : CoreId) (p : Prefix) (s : State) : Res := runInstr c p .gt none s

/-- GTU (R313): tests a > b, unsigned. -/
def execGtu (c : CoreId) (p : Prefix) (s : State) : Res := runInstr c p .gtu none s

/-- GE (R313): tests a ≥ b, signed. -/
def execGe (c : CoreId) (p : Prefix) (s : State) : Res := runInstr c p .ge none s

/-- GEU (R313): tests a ≥ b, unsigned. -/
def execGeu (c : CoreId) (p : Prefix) (s : State) : Res := runInstr c p .geu none s

/-- ZEQ (R313): tests a = 0. -/
def execZeq (c : CoreId) (p : Prefix) (s : State) : Res := runInstr c p .zeq none s

/-- ZLT (R313): tests a < 0. -/
def execZlt (c : CoreId) (p : Prefix) (s : State) : Res := runInstr c p .zlt none s

/-- SEL (R313): selects a when f is true, and otherwise b. -/
def execSel (c : CoreId) (p : Prefix) (s : State) : Res := runInstr c p .sel none s

end Sys2Proof.Machine
end

