-- ==== Sys2Proof/Machine/CpuControl.lean ====
section
/-! DEFINITION. The meanings of the Volac instructions: control transfers and undefined opcodes (R313, R316). Core `c` executes the instruction behind prefix `p`;
the state changes as `State.instr` says for the table's row. -/

namespace Sys2Proof.Machine
open Sys2Proof

/-- BR (R313): branches unconditionally. -/
def execBr (c : CoreId) (p : Prefix) (s : State) : Res := runInstr c p .br none s

/-- BZ (R313): branches when f = 0. -/
def execBz (c : CoreId) (p : Prefix) (s : State) : Res := runInstr c p .bz none s

/-- BNZ (R313): branches when f ≠ 0. -/
def execBnz (c : CoreId) (p : Prefix) (s : State) : Res := runInstr c p .bnz none s

/-- CALL (R313): pushes the return address and branches. -/
def execCall (c : CoreId) (p : Prefix) (s : State) : Res := runInstr c p .call none s

/-- RET (R313): returns to the address on the return stack. -/
def execRet (c : CoreId) (p : Prefix) (s : State) : Res := runInstr c p .ret none s

/-- LOOP (R313): decrements RC and branches while RC ≠ 0. -/
def execLoop (c : CoreId) (p : Prefix) (s : State) : Res := runInstr c p .loop none s

/-- SYSCALL (R313): raises the SYSCALL exception with INFO = n[15:0]. -/
def execSyscall (c : CoreId) (p : Prefix) (s : State) : Res := runInstr c p .syscall none s

/-- BRK (R313): raises the BRK exception. -/
def execBrk (c : CoreId) (p : Prefix) (s : State) : Res := runInstr c p .brk none s

/-- UNDEFINED_OPCODE (R316): an undefined primary or extended opcode raises UNDEF with no change of state.
`b` is the opcode byte, of the extended page where `ext`; a defined one is no case of this command. -/
def execUndefinedOpcode (c : CoreId) (p : Prefix) (ext : Bool) (b : BitVec 8) (s : State) : Res :=
  if undefByte ext b then runInstr c p (.undef ext b) none s else .next s

end Sys2Proof.Machine
end

