-- ==== Sys2Proof/Machine/CpuExt.lean ====
section
/-! DEFINITION. The meanings of the Volac instructions: the extended page (R315). Core `c` executes the instruction behind prefix `p`;
the state changes as `State.instr` says for the table's row. -/

namespace Sys2Proof.Machine
open Sys2Proof

/-- ERET (R325): pops the PSW and PC and continues in the bank the PSW names. -/
def execEret (c : CoreId) (p : Prefix) (s : State) : Res := runInstr c p .eret none s

/-- WAIT (R315): stops fetch until an interrupt is pending for the core. -/
def execWait (c : CoreId) (p : Prefix) (s : State) : Res := runInstr c p .wait none s

/-- DI (R315): sets PSW.GD. -/
def execDi (c : CoreId) (p : Prefix) (s : State) : Res := runInstr c p .di none s

/-- EI (R315): clears PSW.GD. -/
def execEi (c : CoreId) (p : Prefix) (s : State) : Res := runInstr c p .ei none s

/-- FENCE (R315): completes every buffered store of the core. -/
def execFence (c : CoreId) (p : Prefix) (s : State) : Res := runInstr c p .fence none s

/-- DSFLUSH (R308): spills every cached data-stack entry. -/
def execDsflush (c : CoreId) (p : Prefix) (s : State) : Res := runInstr c p .dsflush none s

/-- RSFLUSH (R308): spills every cached return-stack entry. -/
def execRsflush (c : CoreId) (p : Prefix) (s : State) : Res := runInstr c p .rsflush none s

/-- TPOP (R315): pops the task bank's data stack. -/
def execTpop (c : CoreId) (p : Prefix) (s : State) : Res := runInstr c p .tpop none s

/-- TPUSH (R315): pushes onto the task bank's data stack. -/
def execTpush (c : CoreId) (p : Prefix) (s : State) : Res := runInstr c p .tpush none s

/-- YIELD (R343): in the task bank, returns the core to the scheduler behind the other READY slots of its priority. -/
def execYield (c : CoreId) (p : Prefix) (s : State) : Res := runInstr c p .yield none s

/-- CRCA (R315): runs CRCSTEP on the byte at [A] and advances A. -/
def execCrca (c : CoreId) (p : Prefix) (s : State) : Res := runInstr c p .crca none s

/-- CRC32A (R315): runs CRC32STEP on the byte at [A] and advances A. -/
def execCrc32a (c : CoreId) (p : Prefix) (s : State) : Res := runInstr c p .crc32a none s

/-- CASW (R315): atomically compares a word and swaps in a new value. -/
def execCasw (c : CoreId) (p : Prefix) (s : State) : Res := runInstr c p .casw none s

/-- MULS64 (R315): gives the full 64-bit product, signed or unsigned by C. -/
def execMuls64 (c : CoreId) (p : Prefix) (s : State) : Res := runInstr c p .muls64 none s

end Sys2Proof.Machine
end

