-- ==== Sys2Proof/Machine/CpuLogic.lean ====
section
/-! DEFINITION. The meanings of the Volac instructions: logic, shifts, extensions, minima and maxima (R313). Core `c` executes the instruction behind prefix `p`;
the state changes as `State.instr` says for the table's row. -/

namespace Sys2Proof.Machine
open Sys2Proof

/-- AND (R313): gives the bitwise AND. -/
def execAnd (c : CoreId) (p : Prefix) (s : State) : Res := runInstr c p .and none s

/-- OR (R313): gives the bitwise OR. -/
def execOr (c : CoreId) (p : Prefix) (s : State) : Res := runInstr c p .or none s

/-- XOR (R313): gives the bitwise XOR. -/
def execXor (c : CoreId) (p : Prefix) (s : State) : Res := runInstr c p .xor none s

/-- ANDN (R313): gives a AND NOT b. -/
def execAndn (c : CoreId) (p : Prefix) (s : State) : Res := runInstr c p .andn none s

/-- SHL (R313): shifts left by n[4:0]. -/
def execShl (c : CoreId) (p : Prefix) (s : State) : Res := runInstr c p .shl none s

/-- SHR (R313): shifts right logically by n[4:0]. -/
def execShr (c : CoreId) (p : Prefix) (s : State) : Res := runInstr c p .shr none s

/-- SAR (R313): shifts right arithmetically by n[4:0]. -/
def execSar (c : CoreId) (p : Prefix) (s : State) : Res := runInstr c p .sar none s

/-- ROL (R313): rotates left by n[4:0]. -/
def execRol (c : CoreId) (p : Prefix) (s : State) : Res := runInstr c p .rol none s

/-- ROR (R313): rotates right by n[4:0]. -/
def execRor (c : CoreId) (p : Prefix) (s : State) : Res := runInstr c p .ror none s

/-- SEXT8 (R313): sign-extends the low byte. -/
def execSext8 (c : CoreId) (p : Prefix) (s : State) : Res := runInstr c p .sext8 none s

/-- SEXT16 (R313): sign-extends the low half-word. -/
def execSext16 (c : CoreId) (p : Prefix) (s : State) : Res := runInstr c p .sext16 none s

/-- ZEXT8 (R313): zero-extends the low byte. -/
def execZext8 (c : CoreId) (p : Prefix) (s : State) : Res := runInstr c p .zext8 none s

/-- ZEXT16 (R313): zero-extends the low half-word. -/
def execZext16 (c : CoreId) (p : Prefix) (s : State) : Res := runInstr c p .zext16 none s

/-- BSWAP (R313): reverses the byte order. -/
def execBswap (c : CoreId) (p : Prefix) (s : State) : Res := runInstr c p .bswap none s

/-- MIN (R313): gives the signed minimum. -/
def execMin (c : CoreId) (p : Prefix) (s : State) : Res := runInstr c p .min none s

/-- MAX (R313): gives the signed maximum. -/
def execMax (c : CoreId) (p : Prefix) (s : State) : Res := runInstr c p .max none s

/-- MINU (R313): gives the unsigned minimum. -/
def execMinu (c : CoreId) (p : Prefix) (s : State) : Res := runInstr c p .minu none s

/-- MAXU (R313): gives the unsigned maximum. -/
def execMaxu (c : CoreId) (p : Prefix) (s : State) : Res := runInstr c p .maxu none s

end Sys2Proof.Machine
end

