-- ==== Sys2Proof/Machine/CpuMem.lean ====
section
/-! DEFINITION. The meanings of the Volac instructions: loads and stores (R313, R314). Core `c` executes the instruction behind prefix `p`;
the state changes as `State.instr` says for the table's row. -/

namespace Sys2Proof.Machine
open Sys2Proof

/-- LDW (R313): loads a word, checking alignment under R314. -/
def execLdw (c : CoreId) (p : Prefix) (s : State) : Res := runInstr c p .ldw none s

/-- LDH (R313): loads a half-word, sign-extended. -/
def execLdh (c : CoreId) (p : Prefix) (s : State) : Res := runInstr c p .ldh none s

/-- LDHU (R313): loads a half-word, zero-extended. -/
def execLdhu (c : CoreId) (p : Prefix) (s : State) : Res := runInstr c p .ldhu none s

/-- LDB (R313): loads a byte, sign-extended. -/
def execLdb (c : CoreId) (p : Prefix) (s : State) : Res := runInstr c p .ldb none s

/-- LDBU (R313): loads a byte, zero-extended. -/
def execLdbu (c : CoreId) (p : Prefix) (s : State) : Res := runInstr c p .ldbu none s

/-- STW (R313): stores a word into the store buffer. -/
def execStw (c : CoreId) (p : Prefix) (s : State) : Res := runInstr c p .stw none s

/-- STH (R313): stores a half-word. -/
def execSth (c : CoreId) (p : Prefix) (s : State) : Res := runInstr c p .sth none s

/-- STB (R313): stores a byte. -/
def execStb (c : CoreId) (p : Prefix) (s : State) : Res := runInstr c p .stb none s

/-- LDWA (R313): loads the word at [A] and advances A by 4. -/
def execLdwa (c : CoreId) (p : Prefix) (s : State) : Res := runInstr c p .ldwa none s

/-- LDBA (R313): loads the byte at [A] and advances A by 1. -/
def execLdba (c : CoreId) (p : Prefix) (s : State) : Res := runInstr c p .ldba none s

/-- STWB (R313): stores a word at [B] and advances B by 4. -/
def execStwb (c : CoreId) (p : Prefix) (s : State) : Res := runInstr c p .stwb none s

/-- STBB (R313): stores a byte at [B] and advances B by 1. -/
def execStbb (c : CoreId) (p : Prefix) (s : State) : Res := runInstr c p .stbb none s

/-- MOVW (R313): copies a word from [A] to [B] and advances both. -/
def execMovw (c : CoreId) (p : Prefix) (s : State) : Res := runInstr c p .movw none s

/-- MOVB (R313): copies a byte from [A] to [B] and advances both. -/
def execMovb (c : CoreId) (p : Prefix) (s : State) : Res := runInstr c p .movb none s

/-- FILLW (R313): stores x at [B] and advances B. -/
def execFillw (c : CoreId) (p : Prefix) (s : State) : Res := runInstr c p .fillw none s

/-- XCHG (R313): atomically exchanges a word with memory. -/
def execXchg (c : CoreId) (p : Prefix) (s : State) : Res := runInstr c p .xchg none s

end Sys2Proof.Machine
end

