-- ==== Sys2Proof/Machine/CpuReg.lean ====
section
/-! DEFINITION. The meanings of the Volac instructions: address registers, repetition and special registers (R313, R320–R323). Core `c` executes the instruction behind prefix `p`;
the state changes as `State.instr` says for the table's row. -/

namespace Sys2Proof.Machine
open Sys2Proof

/-- SETA (R313): sets A. -/
def execSeta (c : CoreId) (p : Prefix) (s : State) : Res := runInstr c p .seta none s

/-- SETB (R313): sets B. -/
def execSetb (c : CoreId) (p : Prefix) (s : State) : Res := runInstr c p .setb none s

/-- GETA (R313): pushes A. -/
def execGeta (c : CoreId) (p : Prefix) (s : State) : Res := runInstr c p .geta none s

/-- GETB (R313): pushes B. -/
def execGetb (c : CoreId) (p : Prefix) (s : State) : Res := runInstr c p .getb none s

/-- ADDA (R313): adds n to A. -/
def execAdda (c : CoreId) (p : Prefix) (s : State) : Res := runInstr c p .adda none s

/-- ADDB (R313): adds n to B. -/
def execAddb (c : CoreId) (p : Prefix) (s : State) : Res := runInstr c p .addb none s

/-- SETRC (R313): sets RC. -/
def execSetrc (c : CoreId) (p : Prefix) (s : State) : Res := runInstr c p .setrc none s

/-- GETRC (R313): pushes RC. -/
def execGetrc (c : CoreId) (p : Prefix) (s : State) : Res := runInstr c p .getrc none s

/-- REP (R320): sets RC and starts repeating the target instruction, or raises ILLEGAL_PREFIX for a forbidden target.
`target` is the instruction behind REP, none where an immediate prefix stands there. -/
def execRep (c : CoreId) (p : Prefix) (target : Option VOp) (s : State) : Res := runInstr c p .rep target s

/-- REP_ITERATION (R322): one iteration of a repeated target executes and decrements RC, ending the repetition at 0.
It needs PSW.RPT and a target that REP may repeat. -/
def execRepIteration (c : CoreId) (target : VOp) (s : State) : Res :=
  if bitAt (s.core c).psw.toNat 2 && target.repeatable then runInstr c .none target none s else .next s

/-- RDSR (R323): reads a special register. -/
def execRdsr (c : CoreId) (p : Prefix) (s : State) : Res := runInstr c p .rdsr none s

/-- WRSR (R323): writes a special register, discarding stack caches for a pointer register. -/
def execWrsr (c : CoreId) (p : Prefix) (s : State) : Res := runInstr c p .wrsr none s

/-- GETC (R313): pushes PSW.C. -/
def execGetc (c : CoreId) (p : Prefix) (s : State) : Res := runInstr c p .getc none s

end Sys2Proof.Machine
end

