-- ==== Sys2Proof/Machine/CpuStack.lean ====
section
/-! DEFINITION. The meanings of the Volac instructions: pushes and the stack instructions (R309, R313). Core `c` executes the instruction behind prefix `p`;
the state changes as `State.instr` says for the table's row. -/

namespace Sys2Proof.Machine
open Sys2Proof

/-- PUSH8 (R309): pushes a sign-extended byte. -/
def execPush8 (c : CoreId) (p : Prefix) (b : BitVec 8) (s : State) : Res := runInstr c p (.push8 b) none s

/-- PUSH8U (R309): pushes a zero-extended byte. -/
def execPush8u (c : CoreId) (p : Prefix) (b : BitVec 8) (s : State) : Res := runInstr c p (.push8u b) none s

/-- PUSH16 (R309): pushes a sign-extended half-word. -/
def execPush16 (c : CoreId) (p : Prefix) (h : BitVec 16) (s : State) : Res := runInstr c p (.push16 h) none s

/-- PUSH16U (R309): pushes a zero-extended half-word. -/
def execPush16u (c : CoreId) (p : Prefix) (h : BitVec 16) (s : State) : Res := runInstr c p (.push16u h) none s

/-- PUSH32 (R309): pushes a 32-bit constant. -/
def execPush32 (c : CoreId) (p : Prefix) (w : BitVec 32) (s : State) : Res := runInstr c p (.push32 w) none s

/-- PUSHHI (R309): pushes a half-word placed in bits 31:16. -/
def execPushhi (c : CoreId) (p : Prefix) (h : BitVec 16) (s : State) : Res := runInstr c p (.pushhi h) none s

/-- SLIT (R309): pushes the small literal v = opcode − 0x28. -/
def execSlit (c : CoreId) (p : Prefix) (k : BitVec 5) (s : State) : Res := runInstr c p (.slit k) none s

/-- NOP (R313): does nothing for one cycle. -/
def execNop (c : CoreId) (p : Prefix) (s : State) : Res := runInstr c p .nop none s

/-- DUP (R313): duplicates the top of the data stack. -/
def execDup (c : CoreId) (p : Prefix) (s : State) : Res := runInstr c p .dup none s

/-- DROP (R313): discards the top of the data stack. -/
def execDrop (c : CoreId) (p : Prefix) (s : State) : Res := runInstr c p .drop none s

/-- SWAP (R313): exchanges the top two entries. -/
def execSwap (c : CoreId) (p : Prefix) (s : State) : Res := runInstr c p .swap none s

/-- OVER (R313): copies the second entry to the top. -/
def execOver (c : CoreId) (p : Prefix) (s : State) : Res := runInstr c p .over none s

/-- ROT (R313): rotates the third entry to the top. -/
def execRot (c : CoreId) (p : Prefix) (s : State) : Res := runInstr c p .rot none s

/-- NIP (R313): removes the second entry. -/
def execNip (c : CoreId) (p : Prefix) (s : State) : Res := runInstr c p .nip none s

/-- TUCK (R313): copies the top entry below the second. -/
def execTuck (c : CoreId) (p : Prefix) (s : State) : Res := runInstr c p .tuck none s

/-- PICK (R313): copies entry n to the top, raising DSTACK beyond the depth. -/
def execPick (c : CoreId) (p : Prefix) (s : State) : Res := runInstr c p .pick none s

/-- DUP2 (R313): duplicates the top pair. -/
def execDup2 (c : CoreId) (p : Prefix) (s : State) : Res := runInstr c p .dup2 none s

/-- DROP2 (R313): discards the top pair. -/
def execDrop2 (c : CoreId) (p : Prefix) (s : State) : Res := runInstr c p .drop2 none s

/-- TOR (R313): moves the top of the data stack to the return stack. -/
def execTor (c : CoreId) (p : Prefix) (s : State) : Res := runInstr c p .tor none s

/-- FROMR (R313): moves the top of the return stack to the data stack. -/
def execFromr (c : CoreId) (p : Prefix) (s : State) : Res := runInstr c p .fromr none s

/-- RFETCH (R313): copies the top of the return stack to the data stack. -/
def execRfetch (c : CoreId) (p : Prefix) (s : State) : Res := runInstr c p .rfetch none s

/-- DEPTH (R313): pushes the data stack depth. -/
def execDepth (c : CoreId) (p : Prefix) (s : State) : Res := runInstr c p .depth none s

/-- RDROP (R313): discards the top of the return stack. -/
def execRdrop (c : CoreId) (p : Prefix) (s : State) : Res := runInstr c p .rdrop none s

end Sys2Proof.Machine
end

