-- ==== Sys2Proof/Machine/Debug.lean ====
section
/-! DEFINITION. The two-wire debug port (R538): requests, what SYS_DBGCTL.LEVEL grants, and the debug session. An
acknowledge is 1 OK, 2 WAIT, 4 FAULT. -/

namespace Sys2Proof.Machine
open Sys2Proof

/-- The request ends with an acknowledge. -/
def State.dbgEnd (s : State) (ack : Nat) : State := { s with dbgAck := ack }

/-- A read ends OK with its data. -/
def State.dbgOk (s : State) (w : Word) : State := { s with dbgAck := 1, dbgData := w }

/-- The granted level; 3 is reserved and never stored. -/
def State.dbgLevel (s : State) : Nat := s.fld SYS_DBGCTL_LEVEL

/-- Is core `c` granted? -/
def State.dbgCore (s : State) (c : CoreId) : Bool := if c = .kc then decide (2 ≤ s.dbgLevel) else decide (1 ≤ s.dbgLevel)

/-- The core as whose kernel bank memory is reached. -/
def State.dbgAs (s : State) : CoreId := if s.dbgLevel = 1 then .sc else .kc

/-- Is the address excluded: at level 1 the CIPHER, LATTICE and OTP windows? -/
def State.dbgShut (s : State) (a : Nat) : Bool :=
  s.dbgLevel == 0 || (s.dbgLevel == 1 && regionOf a == .periph &&
    (blockBase a == baseCIPHER || blockBase a == baseLATTICE || blockBase a == baseOTP))

/-- The outcome of an access: a physical address, WAIT on a page miss, or FAULT. The core lent for its rights keeps its
state. -/
def State.dbgAccess (s : State) (k : Acc) (a : Nat) : Option Nat × State :=
  let c := s.dbgAs
  if s.dbgShut a || a % 4 != 0 then (none, s.dbgEnd 4)
  else match (vmAccess c 1 k a).run s with
    | .ok pa s1 => (some pa, s1.setCore c (s.core c))
    | .error (.miss _ p) s1 => (none, ((s1.setCore c (s.core c)).wantPage p true).dbgEnd 2)
    | .error (.exc v _ _ _) s1 => (none, (if v = vecEcc then s1.setCore c (s.core c) else s).dbgEnd 4)

/-- A request that reaches the port: the clock runs; one with a parity error or a set reserved bit ends FAULT. -/
def State.dbgRequest (s : State) (good : Bool) (f : State → State) : State :=
  if !s.clocked then s else if good then f s else s.dbgEnd 4

/-- DBG_READ (R538). -/
def State.dbgRead (a : Nat) (s : State) : State :=
  match s.dbgAccess .load a with
  | (none, s) => s
  | (some pa, s) =>
    let t := s.loadAt pa .word
    t.2.dbgOk t.1

def execDbgRead (good : Bool) (a : Nat) (s : State) : Res := .next (s.dbgRequest good (State.dbgRead a))

/-- DBG_WRITE (R538). -/
def State.dbgWrite (a : Nat) (v : Word) (s : State) : State :=
  match s.dbgAccess .store a with
  | (none, s) => s
  | (some pa, s) =>
    if regionOf pa = .periph then (s.busWrite .debug pa .word v).dbgEnd 1
    else if s.poisoned pa then ((s.uncorrRead pa).set1 MMU_IRQ_STOREECC).dbgEnd 1
    else (s.memPutLe pa 4 v.toNat).dbgEnd 1

def execDbgWrite (good : Bool) (a : Nat) (v : Word) (s : State) : Res := .next (s.dbgRequest good (State.dbgWrite a v))

/-- The halted cores as bits. -/
def State.dbgHalted (s : State) : Nat :=
  allCores.foldl (fun n c => if (s.core c).dbgHalt && s.dbgCore c then n + 2 ^ coreNum c else n) 0

/-- The core and register of an address 0x40 + 0x10 × c + k: 0 PC, 1 PSW, 2 DSP, 3 RSP. -/
def dbgRegOf (a : Nat) : Option (CoreId × Nat) :=
  if 0x40 ≤ a && a < 0x80 && a % 4 = 0 then some (coreOf ((a - 0x40) / 16), a % 16 / 4) else none

/-- A register of a core as the port shows it. -/
def Core.dbgReg (x : Core) : Nat → Word
  | 0 => x.pc
  | 1 => x.psw
  | 2 => x.bank.d.ptr
  | _ => x.bank.r.ptr

/-- DBG_CREAD (R538). What RESUME, STEP and RESET read as the spec leaves open. -/
def State.dbgCread (a : Nat) (s : State) : State :=
  if a = 0 then s.dbgOk 0x85120001
  else if s.dbgLevel = 0 then s.dbgEnd 4
  else if a = 4 then s.dbgOk (BitVec.ofNat 32 s.dbgHalted)
  else if a = 8 || a = 12 || a = 16 then
    let t := s.fresh
    t.2.dbgOk (BitVec.ofNat 32 t.1)
  else match dbgRegOf a with
    | some (c, k) => if s.dbgCore c && (s.core c).dbgHalt then s.dbgOk ((s.core c).dbgReg k) else s.dbgEnd 4
    | none => s.dbgEnd 4

def execDbgCread (good : Bool) (a : Nat) (s : State) : Res := .next (s.dbgRequest good (State.dbgCread a))

/-- Are all cores of a mask granted? -/
def State.dbgMask (s : State) (m : Nat) : Bool :=
  decide (m < 16) && s.dbgLevel != 0 && allCores.all (fun c => !(bitAt m (coreNum c)) || s.dbgCore c)

/-- HALT and RESUME: the cores of the mask. -/
def State.dbgSetHalt (m : Nat) (h : Bool) (s : State) : State :=
  if s.dbgMask m then
    (allCores.foldl (fun (s : State) c =>
      if bitAt m (coreNum c) then s.modCore c (fun x => { x with dbgHalt := h }) else s) s).dbgEnd 1
  else s.dbgEnd 4

/-- DBG_HALT and DBG_RESUME (R538). -/
def execDbgHalt (good : Bool) (m : Nat) (s : State) : Res := .next (s.dbgRequest good (State.dbgSetHalt m true))
def execDbgResume (good : Bool) (m : Nat) (s : State) : Res := .next (s.dbgRequest good (State.dbgSetHalt m false))

/-- STEP of core `c`, whose next instruction is `op` behind `p`. -/
def State.dbgStep (c : CoreId) (p : Prefix) (op : VOp) (target : Option VOp) (s : State) : State :=
  if s.dbgCore c && (s.core c).dbgHalt then
    (if s.executes c then s.instr c p op target else s).dbgEnd 1
  else s.dbgEnd 4

/-- DBG_STEP (R538). -/
def execDbgStep (good : Bool) (c : CoreId) (p : Prefix) (op : VOp) (target : Option VOp) (s : State) : Res :=
  .next (s.dbgRequest good (State.dbgStep c p op target))

/-- DBG_RESET (R538): writing 1 gives a system reset with cause DEBUG. -/
def State.dbgReset (v : Nat) (s : State) : State :=
  if s.dbgLevel = 0 then s.dbgEnd 4
  else if v = 1 then (s.pinReset 6).dbgEnd 1
  else s.dbgEnd 1

def execDbgReset (good : Bool) (v : Nat) (s : State) : Res := .next (s.dbgRequest good (State.dbgReset v))

/-- A register of a halted core is written: a stack pointer as WRSR writes it (R308); a PSW or pointer that breaks R323 ends
FAULT. -/
def State.dbgPutReg (a : Nat) (v : Word) (s : State) : State :=
  match dbgRegOf a with
  | none => s.dbgEnd 4
  | some (c, k) =>
    let x := s.core c
    if !(s.dbgCore c && x.dbgHalt) then s.dbgEnd 4
    else match k with
      | 0 => (s.setCore c { x with pc := v }).dbgEnd 1
      | 1 => if pswLegal c v then (s.setCore c { x with psw := v &&& 0x307 }).dbgEnd 1 else s.dbgEnd 4
      | 2 => if v.toNat % 4 = 0 then
          (s.setCore c (x.setStk x.bankNo .data ((x.stk x.bankNo .data).setReg 0 v))).dbgEnd 1 else s.dbgEnd 4
      | _ => if v.toNat % 4 = 0 then
          (s.setCore c (x.setStk x.bankNo .ret ((x.stk x.bankNo .ret).setReg 0 v))).dbgEnd 1 else s.dbgEnd 4

/-- DBG_CWRITE_REG (R538). -/
def execDbgCwriteReg (good : Bool) (a : Nat) (v : Word) (s : State) : Res :=
  .next (s.dbgRequest good (State.dbgPutReg a v))

/-- DEBUG_SESSION_OPEN (R538): CONN is 1, and with it DEBUG's refusal vote. -/
def execDebugSessionOpen (s : State) : Res := .next (s.set1 SYS_DBGCTL_CONN)

/-- DEBUG_SESSION_CLOSE (R538). -/
def execDebugSessionClose (s : State) : Res := .next (s.clr SYS_DBGCTL_CONN)

end Sys2Proof.Machine
end

