-- ==== Sys2Proof/Machine/Dispatch.lean ====
section
/-! DEFINITION. One arm per command: its meaning. -/

namespace Sys2Proof.Machine
open Sys2Proof

/-- What command `i` does to everything but the queue. -/
def exec (i : Instr) (s : State) : Host.Outcome State Fault Refusal :=
  match i with
  | .registerWrite r a w v => Sys2Proof.Machine.execRegisterWrite r a w v s
  | .unmappedWrite a => Sys2Proof.Machine.execUnmappedWrite a s
  | .cfgstatClear a v rsvd unmap => Sys2Proof.Machine.execCfgstatClear a v rsvd unmap s
  | .busError r a fetch => Sys2Proof.Machine.execBusError r a fetch s
  | .pathEnable p => Sys2Proof.Machine.execPathEnable p s
  | .pathDisable p => Sys2Proof.Machine.execPathDisable p s
  | .pathOffTaken p => Sys2Proof.Machine.execPathOffTaken p s
  | .startupDone p => Sys2Proof.Machine.execStartupDone p s
  | .syncalDone p locked temp => Sys2Proof.Machine.execSyncalDone p locked temp s
  | .ircalDone p irr gcorr pcorr => Sys2Proof.Machine.execIrcalDone p irr gcorr pcorr s
  | .settleDone p => Sys2Proof.Machine.execSettleDone p s
  | .windowMoveRequest p w => Sys2Proof.Machine.execWindowMoveRequest p w s
  | .windowMove p => Sys2Proof.Machine.execWindowMove p s
  | .syncreq p => Sys2Proof.Machine.execSyncreq p s
  | .ircreq p => Sys2Proof.Machine.execIrcreq p s
  | .tunereq p => Sys2Proof.Machine.execTunereq p s
  | .boffclr p => Sys2Proof.Machine.execBoffclr p s
  | .rfCntclr p => Sys2Proof.Machine.execRfCntclr p s
  | .requestedCalStart p => Sys2Proof.Machine.execRequestedCalStart p s
  | .forcedCal p => Sys2Proof.Machine.execForcedCal p s
  | .dieTempSample p temp => Sys2Proof.Machine.execDieTempSample p temp s
  | .lossOfLock p => Sys2Proof.Machine.execLossOfLock p s
  | .gainStepDown p clips => Sys2Proof.Machine.execGainStepDown p clips s
  | .gainStepUp p lowMs => Sys2Proof.Machine.execGainStepUp p lowMs s
  | .txCommand p v => Sys2Proof.Machine.execTxCommand p v s
  | .txReady p => Sys2Proof.Machine.execTxReady p s
  | .firstChip p => Sys2Proof.Machine.execFirstChip p s
  | .lastChip p => Sys2Proof.Machine.execLastChip p s
  | .txrxDone p => Sys2Proof.Machine.execTxrxDone p s
  | .facetsUnfreeze p => Sys2Proof.Machine.execFacetsUnfreeze p s
  | .returnLossMeasure p rl => Sys2Proof.Machine.execReturnLossMeasure p rl s
  | .tunerSearchStart p => Sys2Proof.Machine.execTunerSearchStart p s
  | .tunerSearchDone p rl ser shn => Sys2Proof.Machine.execTunerSearchDone p rl ser shn s
  | .rayRetuneWrite v => Sys2Proof.Machine.execRayRetuneWrite v s
  | .rayCentreChange p ray => Sys2Proof.Machine.execRayCentreChange p ray s
  | .energyMeasureCmd v => Sys2Proof.Machine.execEnergyMeasureCmd v s
  | .energyMeasureDone p mean peak => Sys2Proof.Machine.execEnergyMeasureDone p mean peak s
  | .lbtMeasureStart p => Sys2Proof.Machine.execLbtMeasureStart p s
  | .lbtMeasureDone p mean => Sys2Proof.Machine.execLbtMeasureDone p mean s
  | .probeCmd v => Sys2Proof.Machine.execProbeCmd v s
  | .seqProbeStart recn => Sys2Proof.Machine.execSeqProbeStart recn s
  | .probeFft => Sys2Proof.Machine.execProbeFft s
  | .probeDone bins => Sys2Proof.Machine.execProbeDone bins s
  | .loupeBlockCheck p levels => Sys2Proof.Machine.execLoupeBlockCheck p levels s
  | .holdExpire p ray => Sys2Proof.Machine.execHoldExpire p ray s
  | .heldRayRelease p ray => Sys2Proof.Machine.execHeldRayRelease p ray s
  | .rayStartDeferred p => Sys2Proof.Machine.execRayStartDeferred p s
  | .prismCntclr => Sys2Proof.Machine.execPrismCntclr s
  | .preambleDetect f rssi corr => Sys2Proof.Machine.execPreambleDetect f rssi corr s
  | .sfdFound f tstamp fofs => Sys2Proof.Machine.execSfdFound f tstamp fofs s
  | .sfdTimeout f => Sys2Proof.Machine.execSfdTimeout f s
  | .headerDecoded f phr chk rate mdsss => Sys2Proof.Machine.execHeaderDecoded f phr chk rate mdsss s
  | .octetRelease f octets => Sys2Proof.Machine.execOctetRelease f octets s
  | .frameEnd f crc octets snr => Sys2Proof.Machine.execFrameEnd f crc octets snr s
  | .frameLostFlag f => Sys2Proof.Machine.execFrameLostFlag f s
  | .syncLost f corrs fofs => Sys2Proof.Machine.execSyncLost f corrs fofs s
  | .oldFacetFinish f => Sys2Proof.Machine.execOldFacetFinish f s
  | .doneqRead => Sys2Proof.Machine.execDoneqRead s
  | .lbfree v => Sys2Proof.Machine.execLbfree v s
  | .facetCntclr => Sys2Proof.Machine.execFacetCntclr s
  | .compute => Sys2Proof.Machine.execCompute s
  | .offer => Sys2Proof.Machine.execOffer s
  | .neighbourReset => Sys2Proof.Machine.execNeighbourReset s
  | .rlSDetect recn tstamp cfo => Sys2Proof.Machine.execRlSDetect recn tstamp cfo s
  | .rlNolock p => Sys2Proof.Machine.execRlNolock p s
  | .rlHeader p hdr chk rho => Sys2Proof.Machine.execRlHeader p hdr chk rho s
  | .rlFrameEnd p corrs psdu crc rssi snr fofs rho sig => Sys2Proof.Machine.execRlFrameEnd p corrs psdu crc rssi snr fofs rho sig s
  | .quietEnd nb => Sys2Proof.Machine.execQuietEnd nb s
  | .rlRingTail p tail => Sys2Proof.Machine.execRlRingTail p tail s
  | .rlCntclr => Sys2Proof.Machine.execRlCntclr s
  | .planLoad => Sys2Proof.Machine.execPlanLoad s
  | .planSigCheck => Sys2Proof.Machine.execPlanSigCheck s
  | .planLoadEnd => Sys2Proof.Machine.execPlanLoadEnd s
  | .planArm => Sys2Proof.Machine.execPlanArm s
  | .planDiscard => Sys2Proof.Machine.execPlanDiscard s
  | .planCntclr => Sys2Proof.Machine.execPlanCntclr s
  | .planSwap => Sys2Proof.Machine.execPlanSwap s
  | .swapFinished => Sys2Proof.Machine.execSwapFinished s
  | .macVerdict slot lat ecc => Sys2Proof.Machine.execMacVerdict slot lat ecc s
  | .macFrameLand slot => Sys2Proof.Machine.execMacFrameLand slot s
  | .authEnd slot => Sys2Proof.Machine.execAuthEnd slot s
  | .ctxLate slot => Sys2Proof.Machine.execCtxLate slot s
  | .immAck slot => Sys2Proof.Machine.execImmAck slot s
  | .gackFreeze recn => Sys2Proof.Machine.execGackFreeze recn s
  | .gackTx recn => Sys2Proof.Machine.execGackTx recn s
  | .beaconTx recn => Sys2Proof.Machine.execBeaconTx recn s
  | .assocResponse slot => Sys2Proof.Machine.execAssocResponse slot s
  | .dirLookup cls => Sys2Proof.Machine.execDirLookup cls s
  | .dirBlock cls => Sys2Proof.Machine.execDirBlock cls s
  | .dirUnblock cls => Sys2Proof.Machine.execDirUnblock cls s
  | .dlPost v => Sys2Proof.Machine.execDlPost v s
  | .dlDoneqRead => Sys2Proof.Machine.execDlDoneqRead s
  | .dlWindowOpen recn => Sys2Proof.Machine.execDlWindowOpen recn s
  | .dl154Send slot => Sys2Proof.Machine.execDl154Send slot s
  | .dlComplete ent => Sys2Proof.Machine.execDlComplete ent s
  | .dlExpire ent => Sys2Proof.Machine.execDlExpire ent s
  | .jrespPost v => Sys2Proof.Machine.execJrespPost v s
  | .dirSetRebuild set => Sys2Proof.Machine.execDirSetRebuild set s
  | .macCntclr => Sys2Proof.Machine.execMacCntclr s
  | .join cls => Sys2Proof.Machine.execJoin cls s
  | .evict cls => Sys2Proof.Machine.execEvict cls s
  | .rekey cls => Sys2Proof.Machine.execRekey cls s
  | .move cls => Sys2Proof.Machine.execMove cls s
  | .read cls => Sys2Proof.Machine.execRead cls s
  | .write cls => Sys2Proof.Machine.execWrite cls s
  | .flush => Sys2Proof.Machine.execFlush s
  | .pagerCmdDone bad die => Sys2Proof.Machine.execPagerCmdDone bad die s
  | .pagerCntclr => Sys2Proof.Machine.execPagerCntclr s
  | .prefetchAnnounce recn => Sys2Proof.Machine.execPrefetchAnnounce recn s
  | .ctxFetchDone bad corr retry => Sys2Proof.Machine.execCtxFetchDone bad corr retry s
  | .victimWriteback die => Sys2Proof.Machine.execVictimWriteback die s
  | .journalCommit => Sys2Proof.Machine.execJournalCommit s
  | .reserveCommit => Sys2Proof.Machine.execReserveCommit s
  | .commitDone die => Sys2Proof.Machine.execCommitDone die s
  | .powerFailFlush => Sys2Proof.Machine.execPowerFailFlush s
  | .flushDone die => Sys2Proof.Machine.execFlushDone die s
  | .pagerRebuild bad => Sys2Proof.Machine.execPagerRebuild bad s
  | .hotSlotEcc ctx => Sys2Proof.Machine.execHotSlotEcc ctx s
  | .feedSend => Sys2Proof.Machine.execFeedSend s
  | .seqRunWrite run => Sys2Proof.Machine.execSeqRunWrite run s
  | .seqCntclr => Sys2Proof.Machine.execSeqCntclr s
  | .nettimeSet v => Sys2Proof.Machine.execNettimeSet v s
  | .slewWrite v => Sys2Proof.Machine.execSlewWrite v s
  | .slewStep => Sys2Proof.Machine.execSlewStep s
  | .trefLatch => Sys2Proof.Machine.execTrefLatch s
  | .slowRatioMeasure new => Sys2Proof.Machine.execSlowRatioMeasure new s
  | .nettimeResume => Sys2Proof.Machine.execNettimeResume s
  | .tsrcModeWrite v => Sys2Proof.Machine.execTsrcModeWrite v s
  | .timeSample => Sys2Proof.Machine.execTimeSample s
  | .holdoverEnter => Sys2Proof.Machine.execHoldoverEnter s
  | .recordWrite => Sys2Proof.Machine.execRecordWrite s
  | .recordRead => Sys2Proof.Machine.execRecordRead s
  | .recordClear => Sys2Proof.Machine.execRecordClear s
  | .txRequest => Sys2Proof.Machine.execTxRequest s
  | .calWindow recn => Sys2Proof.Machine.execCalWindow recn s
  | .tuneWindow recn => Sys2Proof.Machine.execTuneWindow recn s
  | .bistWindow recn => Sys2Proof.Machine.execBistWindow recn s
  | .uplinkOpen recn => Sys2Proof.Machine.execUplinkOpen recn s
  | .uplinkClose recn => Sys2Proof.Machine.execUplinkClose recn s
  | .dlWindowClose recn => Sys2Proof.Machine.execDlWindowClose recn s
  | .turnStart recn => Sys2Proof.Machine.execTurnStart recn s
  | .rvzRetune recn => Sys2Proof.Machine.execRvzRetune recn s
  | .rvzOccEnd recn => Sys2Proof.Machine.execRvzOccEnd recn s
  | .ridgeTxPost v => Sys2Proof.Machine.execRidgeTxPost v s
  | .ridgeTxdoneqRead => Sys2Proof.Machine.execRidgeTxdoneqRead s
  | .rlEntryExpire ent => Sys2Proof.Machine.execRlEntryExpire ent s
  | .hopRetune hopid => Sys2Proof.Machine.execHopRetune hopid s
  | .push8 c p b => Sys2Proof.Machine.execPush8 c p b s
  | .push8u c p b => Sys2Proof.Machine.execPush8u c p b s
  | .push16 c p h => Sys2Proof.Machine.execPush16 c p h s
  | .push16u c p h => Sys2Proof.Machine.execPush16u c p h s
  | .push32 c p w => Sys2Proof.Machine.execPush32 c p w s
  | .pushhi c p h => Sys2Proof.Machine.execPushhi c p h s
  | .slit c p k => Sys2Proof.Machine.execSlit c p k s
  | .nop c p => Sys2Proof.Machine.execNop c p s
  | .dup c p => Sys2Proof.Machine.execDup c p s
  | .drop c p => Sys2Proof.Machine.execDrop c p s
  | .swap c p => Sys2Proof.Machine.execSwap c p s
  | .over c p => Sys2Proof.Machine.execOver c p s
  | .rot c p => Sys2Proof.Machine.execRot c p s
  | .nip c p => Sys2Proof.Machine.execNip c p s
  | .tuck c p => Sys2Proof.Machine.execTuck c p s
  | .pick c p => Sys2Proof.Machine.execPick c p s
  | .dup2 c p => Sys2Proof.Machine.execDup2 c p s
  | .drop2 c p => Sys2Proof.Machine.execDrop2 c p s
  | .tor c p => Sys2Proof.Machine.execTor c p s
  | .fromr c p => Sys2Proof.Machine.execFromr c p s
  | .rfetch c p => Sys2Proof.Machine.execRfetch c p s
  | .depth c p => Sys2Proof.Machine.execDepth c p s
  | .rdrop c p => Sys2Proof.Machine.execRdrop c p s
  | .add c p => Sys2Proof.Machine.execAdd c p s
  | .sub c p => Sys2Proof.Machine.execSub c p s
  | .addx c p => Sys2Proof.Machine.execAddx c p s
  | .subx c p => Sys2Proof.Machine.execSubx c p s
  | .neg c p => Sys2Proof.Machine.execNeg c p s
  | .not c p => Sys2Proof.Machine.execNot c p s
  | .inc c p => Sys2Proof.Machine.execInc c p s
  | .dec c p => Sys2Proof.Machine.execDec c p s
  | .abs c p => Sys2Proof.Machine.execAbs c p s
  | .mul c p => Sys2Proof.Machine.execMul c p s
  | .mulh c p => Sys2Proof.Machine.execMulh c p s
  | .mulhu c p => Sys2Proof.Machine.execMulhu c p s
  | .div c p => Sys2Proof.Machine.execDiv c p s
  | .divu c p => Sys2Proof.Machine.execDivu c p s
  | .mod c p => Sys2Proof.Machine.execMod c p s
  | .modu c p => Sys2Proof.Machine.execModu c p s
  | .and c p => Sys2Proof.Machine.execAnd c p s
  | .or c p => Sys2Proof.Machine.execOr c p s
  | .xor c p => Sys2Proof.Machine.execXor c p s
  | .andn c p => Sys2Proof.Machine.execAndn c p s
  | .shl c p => Sys2Proof.Machine.execShl c p s
  | .shr c p => Sys2Proof.Machine.execShr c p s
  | .sar c p => Sys2Proof.Machine.execSar c p s
  | .rol c p => Sys2Proof.Machine.execRol c p s
  | .ror c p => Sys2Proof.Machine.execRor c p s
  | .sext8 c p => Sys2Proof.Machine.execSext8 c p s
  | .sext16 c p => Sys2Proof.Machine.execSext16 c p s
  | .zext8 c p => Sys2Proof.Machine.execZext8 c p s
  | .zext16 c p => Sys2Proof.Machine.execZext16 c p s
  | .bswap c p => Sys2Proof.Machine.execBswap c p s
  | .min c p => Sys2Proof.Machine.execMin c p s
  | .max c p => Sys2Proof.Machine.execMax c p s
  | .minu c p => Sys2Proof.Machine.execMinu c p s
  | .maxu c p => Sys2Proof.Machine.execMaxu c p s
  | .eq c p => Sys2Proof.Machine.execEq c p s
  | .ne c p => Sys2Proof.Machine.execNe c p s
  | .lt c p => Sys2Proof.Machine.execLt c p s
  | .ltu c p => Sys2Proof.Machine.execLtu c p s
  | .le c p => Sys2Proof.Machine.execLe c p s
  | .leu c p => Sys2Proof.Machine.execLeu c p s
  | .gt c p => Sys2Proof.Machine.execGt c p s
  | .gtu c p => Sys2Proof.Machine.execGtu c p s
  | .ge c p => Sys2Proof.Machine.execGe c p s
  | .geu c p => Sys2Proof.Machine.execGeu c p s
  | .zeq c p => Sys2Proof.Machine.execZeq c p s
  | .zlt c p => Sys2Proof.Machine.execZlt c p s
  | .sel c p => Sys2Proof.Machine.execSel c p s
  | .clz c p => Sys2Proof.Machine.execClz c p s
  | .ctz c p => Sys2Proof.Machine.execCtz c p s
  | .popcnt c p => Sys2Proof.Machine.execPopcnt c p s
  | .par c p => Sys2Proof.Machine.execPar c p s
  | .brev8 c p => Sys2Proof.Machine.execBrev8 c p s
  | .brev16 c p => Sys2Proof.Machine.execBrev16 c p s
  | .brev32 c p => Sys2Proof.Machine.execBrev32 c p s
  | .crcstep c p => Sys2Proof.Machine.execCrcstep c p s
  | .crc32step c p => Sys2Proof.Machine.execCrc32step c p s
  | .bext c p => Sys2Proof.Machine.execBext c p s
  | .bins c p => Sys2Proof.Machine.execBins c p s
  | .bset c p => Sys2Proof.Machine.execBset c p s
  | .bclr c p => Sys2Proof.Machine.execBclr c p s
  | .btst c p => Sys2Proof.Machine.execBtst c p s
  | .ldw c p => Sys2Proof.Machine.execLdw c p s
  | .ldh c p => Sys2Proof.Machine.execLdh c p s
  | .ldhu c p => Sys2Proof.Machine.execLdhu c p s
  | .ldb c p => Sys2Proof.Machine.execLdb c p s
  | .ldbu c p => Sys2Proof.Machine.execLdbu c p s
  | .stw c p => Sys2Proof.Machine.execStw c p s
  | .sth c p => Sys2Proof.Machine.execSth c p s
  | .stb c p => Sys2Proof.Machine.execStb c p s
  | .ldwa c p => Sys2Proof.Machine.execLdwa c p s
  | .ldba c p => Sys2Proof.Machine.execLdba c p s
  | .stwb c p => Sys2Proof.Machine.execStwb c p s
  | .stbb c p => Sys2Proof.Machine.execStbb c p s
  | .movw c p => Sys2Proof.Machine.execMovw c p s
  | .movb c p => Sys2Proof.Machine.execMovb c p s
  | .fillw c p => Sys2Proof.Machine.execFillw c p s
  | .xchg c p => Sys2Proof.Machine.execXchg c p s
  | .seta c p => Sys2Proof.Machine.execSeta c p s
  | .setb c p => Sys2Proof.Machine.execSetb c p s
  | .geta c p => Sys2Proof.Machine.execGeta c p s
  | .getb c p => Sys2Proof.Machine.execGetb c p s
  | .adda c p => Sys2Proof.Machine.execAdda c p s
  | .addb c p => Sys2Proof.Machine.execAddb c p s
  | .setrc c p => Sys2Proof.Machine.execSetrc c p s
  | .getrc c p => Sys2Proof.Machine.execGetrc c p s
  | .rep c p target => Sys2Proof.Machine.execRep c p target s
  | .repIteration c target => Sys2Proof.Machine.execRepIteration c target s
  | .rdsr c p => Sys2Proof.Machine.execRdsr c p s
  | .wrsr c p => Sys2Proof.Machine.execWrsr c p s
  | .getc c p => Sys2Proof.Machine.execGetc c p s
  | .br c p => Sys2Proof.Machine.execBr c p s
  | .bz c p => Sys2Proof.Machine.execBz c p s
  | .bnz c p => Sys2Proof.Machine.execBnz c p s
  | .call c p => Sys2Proof.Machine.execCall c p s
  | .ret c p => Sys2Proof.Machine.execRet c p s
  | .loop c p => Sys2Proof.Machine.execLoop c p s
  | .syscall c p => Sys2Proof.Machine.execSyscall c p s
  | .brk c p => Sys2Proof.Machine.execBrk c p s
  | .undefinedOpcode c p ext b => Sys2Proof.Machine.execUndefinedOpcode c p ext b s
  | .eret c p => Sys2Proof.Machine.execEret c p s
  | .wait c p => Sys2Proof.Machine.execWait c p s
  | .di c p => Sys2Proof.Machine.execDi c p s
  | .ei c p => Sys2Proof.Machine.execEi c p s
  | .fence c p => Sys2Proof.Machine.execFence c p s
  | .dsflush c p => Sys2Proof.Machine.execDsflush c p s
  | .rsflush c p => Sys2Proof.Machine.execRsflush c p s
  | .tpop c p => Sys2Proof.Machine.execTpop c p s
  | .tpush c p => Sys2Proof.Machine.execTpush c p s
  | .yield c p => Sys2Proof.Machine.execYield c p s
  | .crca c p => Sys2Proof.Machine.execCrca c p s
  | .crc32a c p => Sys2Proof.Machine.execCrc32a c p s
  | .casw c p => Sys2Proof.Machine.execCasw c p s
  | .muls64 c p => Sys2Proof.Machine.execMuls64 c p s
  | .interruptEntry c write => Sys2Proof.Machine.execInterruptEntry c write s
  | .eoi r v => Sys2Proof.Machine.execEoi r v s
  | .swiSet v => Sys2Proof.Machine.execSwiSet v s
  | .swiClear v => Sys2Proof.Machine.execSwiClear v s
  | .icuCntclr => Sys2Proof.Machine.execIcuCntclr s
  | .alatchEdge n level => Sys2Proof.Machine.execAlatchEdge n level s
  | .alatchClear ovr v => Sys2Proof.Machine.execAlatchClear ovr v s
  | .tmrRunWrite v => Sys2Proof.Machine.execTmrRunWrite v s
  | .tmrCntclr => Sys2Proof.Machine.execTmrCntclr s
  | .counterWrap n => Sys2Proof.Machine.execCounterWrap n s
  | .compareArm u v => Sys2Proof.Machine.execCompareArm u v s
  | .compareFire u => Sys2Proof.Machine.execCompareFire u s
  | .unitCfgWrite u v => Sys2Proof.Machine.execUnitCfgWrite u v s
  | .capture u => Sys2Proof.Machine.execCapture u s
  | .captureRead u => Sys2Proof.Machine.execCaptureRead u s
  | .ppsEdge => Sys2Proof.Machine.execPpsEdge s
  | .ppsRead => Sys2Proof.Machine.execPpsRead s
  | .slowcntRead => Sys2Proof.Machine.execSlowcntRead s
  | .slowCompareArm n v => Sys2Proof.Machine.execSlowCompareArm n v s
  | .slowCompareFire n => Sys2Proof.Machine.execSlowCompareFire n s
  | .vinRise => Sys2Proof.Machine.execVinRise s
  | .porEnd rails frc compat boot vio33 => Sys2Proof.Machine.execPorEnd rails frc compat boot vio33 s
  | .xrefStable => Sys2Proof.Machine.execXrefStable s
  | .syspllLock d => Sys2Proof.Machine.execSyspllLock d s
  | .xrefFail => Sys2Proof.Machine.execXrefFail s
  | .xslowStable => Sys2Proof.Machine.execXslowStable s
  | .nrstAssert => Sys2Proof.Machine.execNrstAssert s
  | .nrstRelease compat boot vio33 => Sys2Proof.Machine.execNrstRelease compat boot vio33 s
  | .vioLow => Sys2Proof.Machine.execVioLow s
  | .powerOnReset brownout => Sys2Proof.Machine.execPowerOnReset brownout s
  | .systemReset cause => Sys2Proof.Machine.execSystemReset cause s
  | .sysrst r => Sys2Proof.Machine.execSysrst r s
  | .enter => Sys2Proof.Machine.execEnter s
  | .pwrCntclr => Sys2Proof.Machine.execPwrCntclr s
  | .coreRelease r c => Sys2Proof.Machine.execCoreRelease r c s
  | .coreHold r c => Sys2Proof.Machine.execCoreHold r c s
  | .vinWarn vin => Sys2Proof.Machine.execVinWarn vin s
  | .vinOk vin => Sys2Proof.Machine.execVinOk vin s
  | .idleExpiry => Sys2Proof.Machine.execIdleExpiry s
  | .saddleEntry => Sys2Proof.Machine.execSaddleEntry s
  | .entryAbort d => Sys2Proof.Machine.execEntryAbort d s
  | .saddleWake rail frc => Sys2Proof.Machine.execSaddleWake rail frc s
  | .wakeFail frcLate rail => Sys2Proof.Machine.execWakeFail frcLate rail s
  | .refreshTempSample temp => Sys2Proof.Machine.execRefreshTempSample temp s
  | .nandFkeyWrite r v => Sys2Proof.Machine.execNandFkeyWrite r v s
  | .nandRead corr retry => Sys2Proof.Machine.execNandRead corr retry s
  | .nandProgram fail us => Sys2Proof.Machine.execNandProgram fail us s
  | .nandErase fail us => Sys2Proof.Machine.execNandErase fail us s
  | .nandSeqTimeout => Sys2Proof.Machine.execNandSeqTimeout s
  | .nandCmdDone => Sys2Proof.Machine.execNandCmdDone s
  | .eraseSuspend p => Sys2Proof.Machine.execEraseSuspend p s
  | .eraseResume p => Sys2Proof.Machine.execEraseResume p s
  | .nandRedo r fail0 fail1 => Sys2Proof.Machine.execNandRedo r fail0 fail1 s
  | .nandRelease r => Sys2Proof.Machine.execNandRelease r s
  | .bbqQuery v => Sys2Proof.Machine.execBbqQuery v s
  | .nandCntclr => Sys2Proof.Machine.execNandCntclr s
  | .garbageCollect p b die => Sys2Proof.Machine.execGarbageCollect p b die s
  | .wearLevel p die => Sys2Proof.Machine.execWearLevel p die s
  | .pageMiss r va => Sys2Proof.Machine.execPageMiss r va s
  | .pageFetchDone pte corr retry => Sys2Proof.Machine.execPageFetchDone pte corr retry s
  | .clockSweep => Sys2Proof.Machine.execClockSweep s
  | .pageEvict c asid => Sys2Proof.Machine.execPageEvict c asid s
  | .pagePin c asid => Sys2Proof.Machine.execPagePin c asid s
  | .pageUnpin c asid => Sys2Proof.Machine.execPageUnpin c asid s
  | .tlbinv => Sys2Proof.Machine.execTlbinv s
  | .mmuCntclr => Sys2Proof.Machine.execMmuCntclr s
  | .taskStart r c n prio => Sys2Proof.Machine.execTaskStart r c n prio s
  | .taskStop r c n => Sys2Proof.Machine.execTaskStop r c n s
  | .taskSleep r c n => Sys2Proof.Machine.execTaskSleep r c n s
  | .taskWake r c n => Sys2Proof.Machine.execTaskWake r c n s
  | .taskPrio r c n prio => Sys2Proof.Machine.execTaskPrio r c n prio s
  | .taskFree r c n => Sys2Proof.Machine.execTaskFree r c n s
  | .taskSwitch c => Sys2Proof.Machine.execTaskSwitch c s
  | .quantumExpire c => Sys2Proof.Machine.execQuantumExpire c s
  | .dmaStart ch => Sys2Proof.Machine.execDmaStart ch s
  | .dmaResume ch => Sys2Proof.Machine.execDmaResume ch s
  | .dmaAbort ch => Sys2Proof.Machine.execDmaAbort ch s
  | .dmaBurst => Sys2Proof.Machine.execDmaBurst s
  | .dmaRequest ch => Sys2Proof.Machine.execDmaRequest ch s
  | .eccCorrected a lasting => Sys2Proof.Machine.execEccCorrected a lasting s
  | .scrubRead outcome => Sys2Proof.Machine.execScrubRead outcome s
  | .jobPost c v => Sys2Proof.Machine.execJobPost c v s
  | .jobStart => Sys2Proof.Machine.execJobStart s
  | .jobComplete k => Sys2Proof.Machine.execJobComplete k s
  | .cipherDoneqRead => Sys2Proof.Machine.execCipherDoneqRead s
  | .keyLoad typ slot => Sys2Proof.Machine.execKeyLoad typ slot s
  | .keyDerive typ slot => Sys2Proof.Machine.execKeyDerive typ slot s
  | .keyClear slot => Sys2Proof.Machine.execKeyClear slot s
  | .cipherCntclr => Sys2Proof.Machine.execCipherCntclr s
  | .rngRead => Sys2Proof.Machine.execRngRead s
  | .trngOutput => Sys2Proof.Machine.execTrngOutput s
  | .trngHealthFail => Sys2Proof.Machine.execTrngHealthFail s
  | .restart => Sys2Proof.Machine.execRestart s
  | .startupTestDone pass => Sys2Proof.Machine.execStartupTestDone pass s
  | .alarm k => Sys2Proof.Machine.execAlarm k s
  | .alarmClear v holding => Sys2Proof.Machine.execAlarmClear v holding s
  | .verify pkh => Sys2Proof.Machine.execVerify pkh s
  | .sign => Sys2Proof.Machine.execSign s
  | .keygen => Sys2Proof.Machine.execKeygen s
  | .shake => Sys2Proof.Machine.execShake s
  | .extend meas => Sys2Proof.Machine.execExtend meas s
  | .report => Sys2Proof.Machine.execReport s
  | .latticeStart => Sys2Proof.Machine.execLatticeStart s
  | .latticeDone d => Sys2Proof.Machine.execLatticeDone d s
  | .otpProgram => Sys2Proof.Machine.execOtpProgram s
  | .arbinc n => Sys2Proof.Machine.execArbinc n s
  | .setflag n => Sys2Proof.Machine.execSetflag n s
  | .otpDone bad => Sys2Proof.Machine.execOtpDone bad s
  | .bootSelect => Sys2Proof.Machine.execBootSelect s
  | .recovery => Sys2Proof.Machine.execRecovery s
  | .ridgelineAnnounceSend nb => Sys2Proof.Machine.execRidgelineAnnounceSend nb s
  | .announce nb m => Sys2Proof.Machine.execAnnounce nb m s
  | .request nb m => Sys2Proof.Machine.execRequest nb m s
  | .block nb m => Sys2Proof.Machine.execBlock nb m s
  | .refuse nb m => Sys2Proof.Machine.execRefuse nb m s
  | .updBlock j die => Sys2Proof.Machine.execUpdBlock j die s
  | .activate die => Sys2Proof.Machine.execActivate die s
  | .confirm plansOk migrated => Sys2Proof.Machine.execConfirm plansOk migrated s
  | .decline => Sys2Proof.Machine.execDecline s
  | .trialArm r secs => Sys2Proof.Machine.execTrialArm r secs s
  | .trialStop r => Sys2Proof.Machine.execTrialStop r s
  | .trialExpire => Sys2Proof.Machine.execTrialExpire s
  | .prepare own setid t die => Sys2Proof.Machine.execPrepare own setid t die s
  | .ready setid => Sys2Proof.Machine.execReady setid s
  | .pairRefuse setid code => Sys2Proof.Machine.execPairRefuse setid code s
  | .abort setid => Sys2Proof.Machine.execAbort setid s
  | .healthy own setid plansOk migrated => Sys2Proof.Machine.execHealthy own setid plansOk migrated s
  | .commit setid => Sys2Proof.Machine.execCommit setid s
  | .confirmed setid => Sys2Proof.Machine.execConfirmed setid s
  | .pairDecline setid => Sys2Proof.Machine.execPairDecline setid s
  | .pairResetTime => Sys2Proof.Machine.execPairResetTime s
  | .bistCtrlWrite r v => Sys2Proof.Machine.execBistCtrlWrite r v s
  | .bistCntclr r => Sys2Proof.Machine.execBistCntclr r s
  | .bistCycleStart => Sys2Proof.Machine.execBistCycleStart s
  | .bistCycleEnd => Sys2Proof.Machine.execBistCycleEnd s
  | .bistSlice => Sys2Proof.Machine.execBistSlice s
  | .bistCheckEnd re pass detail => Sys2Proof.Machine.execBistCheckEnd re pass detail s
  | .rerunLate n => Sys2Proof.Machine.execRerunLate n s
  | .bistRequest r item deadline => Sys2Proof.Machine.execBistRequest r item deadline s
  | .bistReint r item => Sys2Proof.Machine.execBistReint r item s
  | .requestDeadline => Sys2Proof.Machine.execRequestDeadline s
  | .logAppend => Sys2Proof.Machine.execLogAppend s
  | .logWcmd r v => Sys2Proof.Machine.execLogWcmd r v s
  | .logClear r => Sys2Proof.Machine.execLogClear r s
  | .logRead n => Sys2Proof.Machine.execLogRead n s
  | .stat => Sys2Proof.Machine.execStat s
  | .cmd frame => Sys2Proof.Machine.execCmd frame s
  | .res tag => Sys2Proof.Machine.execRes tag s
  | .ack tag => Sys2Proof.Machine.execAck tag s
  | .evt => Sys2Proof.Machine.execEvt s
  | .evack seq => Sys2Proof.Machine.execEvack seq s
  | .hifReservedOpcode op => Sys2Proof.Machine.execHifReservedOpcode op s
  | .hifCmdqRead => Sys2Proof.Machine.execHifCmdqRead s
  | .hifPostResult j => Sys2Proof.Machine.execHifPostResult j s
  | .hifPostEvent => Sys2Proof.Machine.execHifPostEvent s
  | .hifCntclr => Sys2Proof.Machine.execHifCntclr s
  | .setWrite j => Sys2Proof.Machine.execSetWrite j s
  | .setRead j => Sys2Proof.Machine.execSetRead j s
  | .updActivate j die => Sys2Proof.Machine.execUpdActivate j die s
  | .updStatus j => Sys2Proof.Machine.execUpdStatus j s
  | .firmwareOp j status payload => Sys2Proof.Machine.execFirmwareOp j status payload s
  | .g1Read cmd n => Sys2Proof.Machine.execG1Read cmd n s
  | .g1Write cmd words die => Sys2Proof.Machine.execG1Write cmd words die s
  | .g1UpdateBlock die => Sys2Proof.Machine.execG1UpdateBlock die s
  | .g1UpdateActivate die => Sys2Proof.Machine.execG1UpdateActivate die s
  | .compatRequest g => Sys2Proof.Machine.execCompatRequest g s
  | .compatSwitch => Sys2Proof.Machine.execCompatSwitch s
  | .dbgRead good a => Sys2Proof.Machine.execDbgRead good a s
  | .dbgWrite good a v => Sys2Proof.Machine.execDbgWrite good a v s
  | .dbgCread good a => Sys2Proof.Machine.execDbgCread good a s
  | .dbgHalt good m => Sys2Proof.Machine.execDbgHalt good m s
  | .dbgResume good m => Sys2Proof.Machine.execDbgResume good m s
  | .dbgStep good c p op target => Sys2Proof.Machine.execDbgStep good c p op target s
  | .dbgReset good v => Sys2Proof.Machine.execDbgReset good v s
  | .netRxFrame frame fcsOk => Sys2Proof.Machine.execNetRxFrame frame fcsOk s
  | .netRxqRead => Sys2Proof.Machine.execNetRxqRead s
  | .netTxlenWrite v => Sys2Proof.Machine.execNetTxlenWrite v s
  | .netTxFrame => Sys2Proof.Machine.execNetTxFrame s
  | .netCntclr => Sys2Proof.Machine.execNetCntclr s
  | .mdioAccess v => Sys2Proof.Machine.execMdioAccess v s
  | .uartRxOctet u octet perr ferr => Sys2Proof.Machine.execUartRxOctet u octet perr ferr s
  | .uartDataRead u => Sys2Proof.Machine.execUartDataRead u s
  | .uartDataWrite u v => Sys2Proof.Machine.execUartDataWrite u v s
  | .gpioSet v => Sys2Proof.Machine.execGpioSet v s
  | .gpioClr v => Sys2Proof.Machine.execGpioClr v s
  | .gpioToutset v => Sys2Proof.Machine.execGpioToutset v s
  | .gpioToutclr v => Sys2Proof.Machine.execGpioToutclr v s
  | .mirrorEnable => Sys2Proof.Machine.execMirrorEnable s
  | .mirrorDisable => Sys2Proof.Machine.execMirrorDisable s
  | .mirrorCntclr => Sys2Proof.Machine.execMirrorCntclr s
  | .linkUp => Sys2Proof.Machine.execLinkUp s
  | .linkDown => Sys2Proof.Machine.execLinkDown s
  | .heartbeatSend => Sys2Proof.Machine.execHeartbeatSend s
  | .heartbeat ok role flags serial setid setver nettime feed => Sys2Proof.Machine.execHeartbeat ok role flags serial setid setver nettime feed s
  | .heartbeatMiss => Sys2Proof.Machine.execHeartbeatMiss s
  | .kick => Sys2Proof.Machine.execKick s
  | .kickLapse => Sys2Proof.Machine.execKickLapse s
  | .release => Sys2Proof.Machine.execRelease s
  | .pairActTimer => Sys2Proof.Machine.execPairActTimer s
  | .soloTimeout => Sys2Proof.Machine.execSoloTimeout s
  | .takeover => Sys2Proof.Machine.execTakeover s
  | .feed seq ok gone items => Sys2Proof.Machine.execFeed seq ok gone items s
  | .feedreq seq ok first => Sys2Proof.Machine.execFeedreq seq ok first s
  | .storecopy seq ok head ctxs last => Sys2Proof.Machine.execStorecopy seq ok head ctxs last s
  | .update seq ok m die => Sys2Proof.Machine.execUpdate seq ok m die s
  | .mirrorAck seq ok => Sys2Proof.Machine.execMirrorAck seq ok s
  | .retransmitTimeout => Sys2Proof.Machine.execRetransmitTimeout s
  | .firmwarePacket seq ok typ body => Sys2Proof.Machine.execFirmwarePacket seq ok typ body s
  | .fwpost v => Sys2Proof.Machine.execFwpost v s
  | .fwrxqRead => Sys2Proof.Machine.execFwrxqRead s
  | .fwrxqReturn v => Sys2Proof.Machine.execFwrxqReturn v s
  | .vioRestore compat boot vio33 => Sys2Proof.Machine.execVioRestore compat boot vio33 s
  | .mdioDone data => Sys2Proof.Machine.execMdioDone data s
  | .uartTxOctet u cts => Sys2Proof.Machine.execUartTxOctet u cts s
  | .divPacket seq ok nt desc psdu => Sys2Proof.Machine.execDivPacket seq ok nt desc psdu s
  | .pageWritebackDone n die => Sys2Proof.Machine.execPageWritebackDone n die s
  | .readyDeadline => Sys2Proof.Machine.execReadyDeadline s
  | .dbgCwriteReg good a v => Sys2Proof.Machine.execDbgCwriteReg good a v s
  | .debugSessionOpen => Sys2Proof.Machine.execDebugSessionOpen s
  | .debugSessionClose => Sys2Proof.Machine.execDebugSessionClose s

end Sys2Proof.Machine
end

