-- ==== Sys2Proof/Machine/Idle.lean ====
section
/-! DEFINITION. What happens while no command waits: one cycle passes, and what the clock alone brings with it. -/

namespace Sys2Proof.Machine
open Sys2Proof

/-- One cycle passes: the counters count (R261, R376, R391), and a NET_DROPPED entry whose second is over is written. -/
def State.tick (s : State) : State := (s.advance 1).netFlush

end Sys2Proof.Machine
end

