-- ==== Sys2Proof/WellFormed.lean ====
section
/-! DEFINITION. Well-formed commands: their operands lie in the ranges the spec gives. The meanings do not rest on this: a
command outside a range has no effect, or the one the spec gives a value out of range. -/

namespace Sys2Proof

/-- DMA channels are numbered 0–15 (R348). -/
def Requester.wf : Requester → Bool
  | .core _ => true
  | .dma ch => decide (ch < 16)
  | .debug => true

/-- `undef` names an undefined opcode (R312, R315). -/
def VOp.wf : VOp → Bool
  | .undef ext b => undefByte ext b
  | _ => true

/-- Are the operands of a command in their ranges? -/
def Instr.wf : Instr → Bool
  | .registerWrite r a _ _ => r.wf && decide (a < 2 ^ 32)
  | .unmappedWrite a => decide (a < 2 ^ 32)
  | .cfgstatClear a _ _ _ => decide (a < 2 ^ 32)
  | .busError r a _ => r.wf && decide (a < 2 ^ 32)
  | .pathEnable _ => true
  | .pathDisable _ => true
  | .pathOffTaken _ => true
  | .startupDone _ => true
  | .syncalDone _ _ _ => true
  | .ircalDone _ _ _ _ => true
  | .settleDone _ => true
  | .windowMoveRequest _ _ => true
  | .windowMove _ => true
  | .syncreq _ => true
  | .ircreq _ => true
  | .tunereq _ => true
  | .boffclr _ => true
  | .rfCntclr _ => true
  | .requestedCalStart _ => true
  | .forcedCal _ => true
  | .dieTempSample _ _ => true
  | .lossOfLock _ => true
  | .gainStepDown _ _ => true
  | .gainStepUp _ _ => true
  | .txCommand _ _ => true
  | .txReady _ => true
  | .firstChip _ => true
  | .lastChip _ => true
  | .txrxDone _ => true
  | .facetsUnfreeze _ => true
  | .returnLossMeasure _ _ => true
  | .tunerSearchStart _ => true
  | .tunerSearchDone _ _ _ _ => true
  | .rayRetuneWrite _ => true
  | .rayCentreChange _ _ => true
  | .energyMeasureCmd _ => true
  | .energyMeasureDone _ _ _ => true
  | .lbtMeasureStart _ => true
  | .lbtMeasureDone _ _ => true
  | .probeCmd _ => true
  | .seqProbeStart _ => true
  | .probeFft => true
  | .probeDone _ => true
  | .loupeBlockCheck _ levels => decide (levels.length ≤ 16)
  | .holdExpire _ _ => true
  | .heldRayRelease _ _ => true
  | .rayStartDeferred _ => true
  | .prismCntclr => true
  | .preambleDetect f _ _ => decide (f < 2048)
  | .sfdFound f _ _ => decide (f < 2048)
  | .sfdTimeout f => decide (f < 2048)
  | .headerDecoded f _ _ _ _ => decide (f < 2048)
  | .octetRelease f _ => decide (f < 2048)
  | .frameEnd f _ _ _ => decide (f < 2048)
  | .frameLostFlag f => decide (f < 2048)
  | .syncLost f _ _ => decide (f < 2048)
  | .oldFacetFinish f => decide (f < 2048)
  | .doneqRead => true
  | .lbfree _ => true
  | .facetCntclr => true
  | .compute => true
  | .offer => true
  | .neighbourReset => true
  | .rlSDetect _ _ _ => true
  | .rlNolock _ => true
  | .rlHeader _ _ _ _ => true
  | .rlFrameEnd _ _ _ _ _ _ _ _ _ => true
  | .quietEnd _ => true
  | .rlRingTail _ _ => true
  | .rlCntclr => true
  | .planLoad => true
  | .planSigCheck => true
  | .planLoadEnd => true
  | .planArm => true
  | .planDiscard => true
  | .planCntclr => true
  | .planSwap => true
  | .swapFinished => true
  | .macVerdict _ lat _ => decide (31 ≤ lat) && decide (lat ≤ 50)
  | .macFrameLand _ => true
  | .authEnd _ => true
  | .ctxLate _ => true
  | .immAck _ => true
  | .gackFreeze _ => true
  | .gackTx _ => true
  | .beaconTx _ => true
  | .assocResponse _ => true
  | .dirLookup cls => decide (cls < 2)
  | .dirBlock cls => decide (cls < 2)
  | .dirUnblock cls => decide (cls < 2)
  | .dlPost _ => true
  | .dlDoneqRead => true
  | .dlWindowOpen _ => true
  | .dl154Send _ => true
  | .dlComplete _ => true
  | .dlExpire _ => true
  | .jrespPost _ => true
  | .dirSetRebuild _ => true
  | .macCntclr => true
  | .join cls => decide (cls < 2)
  | .evict cls => decide (cls < 2)
  | .rekey cls => decide (cls < 2)
  | .move cls => decide (cls < 2)
  | .read cls => decide (cls < 2)
  | .write cls => decide (cls < 2)
  | .flush => true
  | .pagerCmdDone _ _ => true
  | .pagerCntclr => true
  | .prefetchAnnounce _ => true
  | .ctxFetchDone _ _ _ => true
  | .victimWriteback _ => true
  | .journalCommit => true
  | .reserveCommit => true
  | .commitDone _ => true
  | .powerFailFlush => true
  | .flushDone _ => true
  | .pagerRebuild _ => true
  | .hotSlotEcc _ => true
  | .feedSend => true
  | .seqRunWrite _ => true
  | .seqCntclr => true
  | .nettimeSet _ => true
  | .slewWrite _ => true
  | .slewStep => true
  | .trefLatch => true
  | .slowRatioMeasure _ => true
  | .nettimeResume => true
  | .tsrcModeWrite _ => true
  | .timeSample => true
  | .holdoverEnter => true
  | .recordWrite => true
  | .recordRead => true
  | .recordClear => true
  | .txRequest => true
  | .calWindow _ => true
  | .tuneWindow _ => true
  | .bistWindow _ => true
  | .uplinkOpen _ => true
  | .uplinkClose _ => true
  | .dlWindowClose _ => true
  | .turnStart _ => true
  | .rvzRetune _ => true
  | .rvzOccEnd _ => true
  | .ridgeTxPost _ => true
  | .ridgeTxdoneqRead => true
  | .rlEntryExpire _ => true
  | .hopRetune _ => true
  | .push8 _ _ _ => true
  | .push8u _ _ _ => true
  | .push16 _ _ _ => true
  | .push16u _ _ _ => true
  | .push32 _ _ _ => true
  | .pushhi _ _ _ => true
  | .slit _ _ _ => true
  | .nop _ _ => true
  | .dup _ _ => true
  | .drop _ _ => true
  | .swap _ _ => true
  | .over _ _ => true
  | .rot _ _ => true
  | .nip _ _ => true
  | .tuck _ _ => true
  | .pick _ _ => true
  | .dup2 _ _ => true
  | .drop2 _ _ => true
  | .tor _ _ => true
  | .fromr _ _ => true
  | .rfetch _ _ => true
  | .depth _ _ => true
  | .rdrop _ _ => true
  | .add _ _ => true
  | .sub _ _ => true
  | .addx _ _ => true
  | .subx _ _ => true
  | .neg _ _ => true
  | .not _ _ => true
  | .inc _ _ => true
  | .dec _ _ => true
  | .abs _ _ => true
  | .mul _ _ => true
  | .mulh _ _ => true
  | .mulhu _ _ => true
  | .div _ _ => true
  | .divu _ _ => true
  | .mod _ _ => true
  | .modu _ _ => true
  | .and _ _ => true
  | .or _ _ => true
  | .xor _ _ => true
  | .andn _ _ => true
  | .shl _ _ => true
  | .shr _ _ => true
  | .sar _ _ => true
  | .rol _ _ => true
  | .ror _ _ => true
  | .sext8 _ _ => true
  | .sext16 _ _ => true
  | .zext8 _ _ => true
  | .zext16 _ _ => true
  | .bswap _ _ => true
  | .min _ _ => true
  | .max _ _ => true
  | .minu _ _ => true
  | .maxu _ _ => true
  | .eq _ _ => true
  | .ne _ _ => true
  | .lt _ _ => true
  | .ltu _ _ => true
  | .le _ _ => true
  | .leu _ _ => true
  | .gt _ _ => true
  | .gtu _ _ => true
  | .ge _ _ => true
  | .geu _ _ => true
  | .zeq _ _ => true
  | .zlt _ _ => true
  | .sel _ _ => true
  | .clz _ _ => true
  | .ctz _ _ => true
  | .popcnt _ _ => true
  | .par _ _ => true
  | .brev8 _ _ => true
  | .brev16 _ _ => true
  | .brev32 _ _ => true
  | .crcstep _ _ => true
  | .crc32step _ _ => true
  | .bext _ _ => true
  | .bins _ _ => true
  | .bset _ _ => true
  | .bclr _ _ => true
  | .btst _ _ => true
  | .ldw _ _ => true
  | .ldh _ _ => true
  | .ldhu _ _ => true
  | .ldb _ _ => true
  | .ldbu _ _ => true
  | .stw _ _ => true
  | .sth _ _ => true
  | .stb _ _ => true
  | .ldwa _ _ => true
  | .ldba _ _ => true
  | .stwb _ _ => true
  | .stbb _ _ => true
  | .movw _ _ => true
  | .movb _ _ => true
  | .fillw _ _ => true
  | .xchg _ _ => true
  | .seta _ _ => true
  | .setb _ _ => true
  | .geta _ _ => true
  | .getb _ _ => true
  | .adda _ _ => true
  | .addb _ _ => true
  | .setrc _ _ => true
  | .getrc _ _ => true
  | .rep _ _ _ => true
  | .repIteration _ target => target.repeatable && target.wf
  | .rdsr _ _ => true
  | .wrsr _ _ => true
  | .getc _ _ => true
  | .br _ _ => true
  | .bz _ _ => true
  | .bnz _ _ => true
  | .call _ _ => true
  | .ret _ _ => true
  | .loop _ _ => true
  | .syscall _ _ => true
  | .brk _ _ => true
  | .undefinedOpcode _ _ ext b => undefByte ext b
  | .eret _ _ => true
  | .wait _ _ => true
  | .di _ _ => true
  | .ei _ _ => true
  | .fence _ _ => true
  | .dsflush _ _ => true
  | .rsflush _ _ => true
  | .tpop _ _ => true
  | .tpush _ _ => true
  | .yield _ _ => true
  | .crca _ _ => true
  | .crc32a _ _ => true
  | .casw _ _ => true
  | .muls64 _ _ => true
  | .interruptEntry _ _ => true
  | .eoi r _ => r.wf
  | .swiSet _ => true
  | .swiClear _ => true
  | .icuCntclr => true
  | .alatchEdge n _ => decide (n < 26)
  | .alatchClear _ _ => true
  | .tmrRunWrite _ => true
  | .tmrCntclr => true
  | .counterWrap n => decide (n < 8)
  | .compareArm u _ => decide (u < 32)
  | .compareFire u => decide (u < 32)
  | .unitCfgWrite u _ => decide (u < 32)
  | .capture u => decide (u < 32)
  | .captureRead u => decide (u < 32)
  | .ppsEdge => true
  | .ppsRead => true
  | .slowcntRead => true
  | .slowCompareArm n _ => decide (n < 4)
  | .slowCompareFire n => decide (n < 4)
  | .vinRise => true
  | .porEnd rails frc _ boot _ => decide (rails ≤ 600000) && decide (frc ≤ 4000) && decide (boot < 4)
  | .xrefStable => true
  | .syspllLock d => decide (d ≤ 20000)
  | .xrefFail => true
  | .xslowStable => true
  | .nrstAssert => true
  | .nrstRelease _ boot _ => decide (boot < 4)
  | .vioLow => true
  | .powerOnReset _ => true
  | .systemReset cause => decide (4 ≤ cause) && decide (cause < 8)
  | .sysrst r => r.wf
  | .enter => true
  | .pwrCntclr => true
  | .coreRelease r _ => r.wf
  | .coreHold r _ => r.wf
  | .vinWarn _ => true
  | .vinOk _ => true
  | .idleExpiry => true
  | .saddleEntry => true
  | .entryAbort _ => true
  | .saddleWake _ _ => true
  | .wakeFail _ _ => true
  | .refreshTempSample _ => true
  | .nandFkeyWrite r _ => r.wf
  | .nandRead _ _ => true
  | .nandProgram _ _ => true
  | .nandErase _ _ => true
  | .nandSeqTimeout => true
  | .nandCmdDone => true
  | .eraseSuspend p => decide (p < 2)
  | .eraseResume p => decide (p < 2)
  | .nandRedo r _ _ => r.wf
  | .nandRelease r => r.wf
  | .bbqQuery _ => true
  | .nandCntclr => true
  | .garbageCollect _ _ _ => true
  | .wearLevel _ _ => true
  | .pageMiss r va => r.wf && decide (va < 2 ^ 32)
  | .pageFetchDone pte _ _ => decide (pte < 2 ^ 32)
  | .clockSweep => true
  | .pageEvict _ asid => decide (asid ≤ 8)
  | .pagePin _ asid => decide (asid ≤ 8)
  | .pageUnpin _ asid => decide (asid ≤ 8)
  | .tlbinv => true
  | .mmuCntclr => true
  | .taskStart r _ n prio => r.wf && decide (n < 8) && decide (prio < 8)
  | .taskStop r _ n => r.wf && decide (n < 8)
  | .taskSleep r _ n => r.wf && decide (n < 8)
  | .taskWake r _ n => r.wf && decide (n < 8)
  | .taskPrio r _ n prio => r.wf && decide (n < 8) && decide (prio < 8)
  | .taskFree r _ n => r.wf && decide (n < 8)
  | .taskSwitch _ => true
  | .quantumExpire _ => true
  | .dmaStart ch => decide (ch < 16)
  | .dmaResume ch => decide (ch < 16)
  | .dmaAbort ch => decide (ch < 16)
  | .dmaBurst => true
  | .dmaRequest ch => decide (ch < 16)
  | .eccCorrected a _ => decide (a < 2 ^ 32)
  | .scrubRead outcome => decide (outcome < 4)
  | .jobPost _ _ => true
  | .jobStart => true
  | .jobComplete _ => true
  | .cipherDoneqRead => true
  | .keyLoad _ slot => decide (slot < 32)
  | .keyDerive _ slot => decide (slot < 32)
  | .keyClear slot => decide (slot < 32)
  | .cipherCntclr => true
  | .rngRead => true
  | .trngOutput => true
  | .trngHealthFail => true
  | .restart => true
  | .startupTestDone _ => true
  | .alarm _ => true
  | .alarmClear _ _ => true
  | .verify _ => true
  | .sign => true
  | .keygen => true
  | .shake => true
  | .extend _ => true
  | .report => true
  | .latticeStart => true
  | .latticeDone _ => true
  | .otpProgram => true
  | .arbinc n => decide (n < 8)
  | .setflag n => decide (n < 3)
  | .otpDone _ => true
  | .bootSelect => true
  | .recovery => true
  | .ridgelineAnnounceSend _ => true
  | .announce _ _ => true
  | .request _ _ => true
  | .block _ _ => true
  | .refuse _ _ => true
  | .updBlock _ _ => true
  | .activate _ => true
  | .confirm _ _ => true
  | .decline => true
  | .trialArm r _ => r.wf
  | .trialStop r => r.wf
  | .trialExpire => true
  | .prepare _ _ _ _ => true
  | .ready _ => true
  | .pairRefuse _ _ => true
  | .abort _ => true
  | .healthy _ _ _ _ => true
  | .commit _ => true
  | .confirmed _ => true
  | .pairDecline _ => true
  | .pairResetTime => true
  | .bistCtrlWrite r _ => r.wf
  | .bistCntclr r => r.wf
  | .bistCycleStart => true
  | .bistCycleEnd => true
  | .bistSlice => true
  | .bistCheckEnd _ _ _ => true
  | .rerunLate _ => true
  | .bistRequest r item _ => r.wf && decide (item < 128)
  | .bistReint r item => r.wf && decide (item < 128)
  | .requestDeadline => true
  | .logAppend => true
  | .logWcmd r _ => r.wf
  | .logClear r => r.wf
  | .logRead _ => true
  | .stat => true
  | .cmd _ => true
  | .res _ => true
  | .ack _ => true
  | .evt => true
  | .evack _ => true
  | .hifReservedOpcode _ => true
  | .hifCmdqRead => true
  | .hifPostResult _ => true
  | .hifPostEvent => true
  | .hifCntclr => true
  | .setWrite _ => true
  | .setRead _ => true
  | .updActivate _ _ => true
  | .updStatus _ => true
  | .firmwareOp _ _ _ => true
  | .g1Read _ _ => true
  | .g1Write _ _ _ => true
  | .g1UpdateBlock _ => true
  | .g1UpdateActivate _ => true
  | .compatRequest g => decide (g < 2)
  | .compatSwitch => true
  | .dbgRead _ a => decide (a < 2 ^ 32)
  | .dbgWrite _ a _ => decide (a < 2 ^ 32)
  | .dbgCread _ a => decide (a < 2 ^ 32)
  | .dbgHalt _ m => decide (m < 16)
  | .dbgResume _ m => decide (m < 16)
  | .dbgStep _ _ _ op _ => op.wf
  | .dbgReset _ _ => true
  | .netRxFrame _ _ => true
  | .netRxqRead => true
  | .netTxlenWrite _ => true
  | .netTxFrame => true
  | .netCntclr => true
  | .mdioAccess _ => true
  | .uartRxOctet u octet _ _ => decide (u < 2) && decide (octet < 256)
  | .uartDataRead u => decide (u < 2)
  | .uartDataWrite u _ => decide (u < 2)
  | .gpioSet _ => true
  | .gpioClr _ => true
  | .gpioToutset _ => true
  | .gpioToutclr _ => true
  | .mirrorEnable => true
  | .mirrorDisable => true
  | .mirrorCntclr => true
  | .linkUp => true
  | .linkDown => true
  | .heartbeatSend => true
  | .heartbeat _ _ _ _ _ _ _ _ => true
  | .heartbeatMiss => true
  | .kick => true
  | .kickLapse => true
  | .release => true
  | .pairActTimer => true
  | .soloTimeout => true
  | .takeover => true
  | .feed _ _ _ _ => true
  | .feedreq _ _ _ => true
  | .storecopy _ _ _ _ _ => true
  | .update _ _ _ _ => true
  | .mirrorAck _ _ => true
  | .retransmitTimeout => true
  | .firmwarePacket _ _ _ _ => true
  | .fwpost _ => true
  | .fwrxqRead => true
  | .fwrxqReturn _ => true
  | .vioRestore _ boot _ => decide (boot < 4)
  | .mdioDone _ => true
  | .uartTxOctet u _ => decide (u < 2)
  | .divPacket _ _ _ _ _ => true
  | .pageWritebackDone n _ => decide (n < 1024)
  | .readyDeadline => true
  | .dbgCwriteReg _ a _ => decide (a < 2 ^ 32)
  | .debugSessionOpen => true
  | .debugSessionClose => true

end Sys2Proof
end

