-- ==== Sys2Proof/Safety.lean ====
section
/-! DEFINITION. What a safe run is, and the invariants of the state that claims use. -/

namespace Sys2Proof.Machine
open Sys2Proof

/-- Keys strictly rise. -/
def keysRise {β : Type} (l : List (Nat × β)) : Prop := l.Pairwise (fun x y => x.1 < y.1)

/-- Memory is in its canonical form: addresses strictly rise, and no entry holds what an unlisted address reads as. -/
def Memory.wf (m : List Host.Cell) : Prop := keysRise m ∧ ∀ c ∈ m, c.2 ≠ (0 : BitVec 8)

/-- The register store is in its canonical form: addresses strictly rise, and no entry holds its reset value. -/
def Regs.wf (r : List (Nat × Word)) : Prop := keysRise r ∧ ∀ e ∈ r, e.2 ≠ resetOf e.1

/-- Memory and registers are canonical. -/
def State.Canonical (s : State) : Prop := Memory.wf s.mem ∧ Regs.wf s.regs

/-- A step neither faults nor is refused. -/
def Safe (o : Host.Outcome State Fault Refusal) : Prop := ∃ t, o = .next t

/-- The outcome is a next state, of which `P` holds. -/
def Gives (o : Host.Outcome State Fault Refusal) (P : State → Prop) : Prop := ∃ t, o = .next t ∧ P t

/-- Every register but those listed reads as before. -/
def OtherRegs (s t : State) (l : List Nat) : Prop := ∀ a, a ∉ l → t.rd a = s.rd a

/-- Every byte of memory reads as before. -/
def SameMem (s t : State) : Prop := ∀ a, t.memRd a = s.memRd a

/-- The cores are as before. -/
def SameCores (s t : State) : Prop := t.lc0 = s.lc0 ∧ t.lc1 = s.lc1 ∧ t.sc = s.sc ∧ t.kc = s.kc


/-- Every register outside the windows listed reads as before, and so do the cores. -/
def BlocksOnly (s t : State) (l : List Nat) : Prop := (∀ a, blockBase a ∉ l → t.rd a = s.rd a) ∧ SameCores s t

/-- Every register but those listed reads as before, and so do memory and the cores. -/
def OnlyRegs (s t : State) (l : List Nat) : Prop := OtherRegs s t l ∧ SameMem s t ∧ SameCores s t

/-- Every register outside the windows listed reads as before, and so do memory and the cores. -/
def OnlyBlocks (s t : State) (l : List Nat) : Prop := BlocksOnly s t l ∧ SameMem s t

/-! ### RF paths and Prism (chapters 01, 02) -/

/-- The other path. -/
def otherPath : PathId → PathId
  | .s => .g
  | .g => .s

/-- `i` is a command of path `p`. -/
def RfCmd (p : PathId) (i : Instr) : Prop :=
  (i = .pathEnable p ∨ i = .pathDisable p ∨ i = .pathOffTaken p ∨ i = .startupDone p ∨ i = .settleDone p ∨
    i = .windowMove p ∨ i = .syncreq p ∨ i = .ircreq p ∨ i = .tunereq p ∨ i = .boffclr p ∨ i = .rfCntclr p ∨
    i = .requestedCalStart p ∨ i = .forcedCal p ∨ i = .lossOfLock p ∨ i = .txReady p ∨ i = .firstChip p ∨
    i = .lastChip p ∨ i = .txrxDone p ∨ i = .facetsUnfreeze p ∨ i = .tunerSearchStart p) ∨
  (∃ n : Nat, i = .windowMoveRequest p n ∨ i = .gainStepDown p n ∨ i = .gainStepUp p n ∨ i = .returnLossMeasure p n) ∨
  (∃ v : Word, i = .txCommand p v) ∨ (∃ t : Int, i = .dieTempSample p t) ∨
  (∃ (b : Bool) (t : Int), i = .syncalDone p b t) ∨ (∃ (n : Nat) (g h : Int), i = .ircalDone p n g h) ∨
  (∃ a b c : Nat, i = .tunerSearchDone p a b c)

/-- No frame of the sequencer is on the path or ends, and lost frames leave nothing in the landing buffer. -/
def QuietPath (p : PathId) (s : State) : Prop :=
  s.txEnds = [] ∧ (∀ c ∈ (s.rf p).held, c.owner = 0) ∧ s.flag FACET_CTRL_KEEPBAD = false

/-- The refusals of R40 for a command on path `p`, with the status of the first that applies; OK where none does. -/
def TxStatus (s : State) (p : PathId) (c : TxCmd) (code : Nat) : Prop :=
  let fw : Int := 1000 * ((s.rf p).centreKHz : Int)
  let b := occBand c.kind (fw + c.fofs)
  if s.flag MIRROR_CTRL_EN = true ∧ s.fld MIRROR_STAT_ROLE ≠ 3 then code = Code.PAIR_STANDBY
  else if s.pst p = .off ∨ s.pst p = .fault ∨ (s.rf p).pendOff = true then code = Code.PATH_UNUSABLE
  else if ¬(fw - windowHalf p ≤ b.1 ∧ b.2 ≤ fw + windowHalf p) then code = Code.TX_WINDOW
  else if 2 ≤ (s.rf p).held.length then code = Code.TX_BUSY
  else if s.channelOf p b = none then code = Code.NO_CHANNEL
  else code = Code.OK

/-- Facet `f` has lost its frame: counted in FACET_CNT`k`, the facet searching or idle, its slot free again, or posted where
lost frames are kept (R100, R118). -/
def LostFrame (s t : State) (f k : Nat) : Prop :=
  (t.fct f).frame = none ∧
  (t.fct f).st = (if (s.fct f).old || (s.fct f).wait || !(s.rayLive (s.fct f).alloc.path (s.fct f).alloc.ray) then .idle
    else .search) ∧
  t.fld (FACET_CNTn_COUNT k) = min (s.fld (FACET_CNTn_COUNT k) + 1) 0xffffffff ∧
  BlocksOnly s t [baseFACET, baseTMR] ∧
  ∀ (fr : RxFrame), (s.fct f).frame = some fr →
    (fr.slot = none → SameMem s t ∧ t.facet.free = s.facet.free) ∧
    (∀ n, fr.slot = some n → if s.flag FACET_CTRL_KEEPBAD then t.facet.doneq = s.facet.doneq ++ [n]
      else t.facet.free = s.facet.free ++ [n] ∧ SameMem s t)

/-- What a decoded PHY header says (R109, R113–R115): the FACET_CNT of the status a bad one ends the frame with, or the
PSDU length and whether the payload is QPSK. -/
def HeaderSays (r : PlanProfile) (phr chk : Nat) (mdsss : Bool) (bad : Option Nat) (len : Nat) (qpsk : Bool) : Prop :=
  (r.phy = 0 ∧ qpsk = false ∧ len = phr ∧ bad = (if phr = 0 ∨ 128 ≤ phr then some 7 else none)) ∨
  (r.phy = 1 ∧ qpsk = bitAt phr 8 ∧ len = phr % 256 ∧
    bad = (if crc8 phr ≠ chk then some 6 else if phr % 256 = 0 ∨ bitsOf phr 15 9 ≠ 0 then some 7 else none)) ∨
  (r.phy = 2 ∧ qpsk = false ∧ len = phr % 128 ∧ bad = (if phr % 128 < 5 then some 7 else none)) ∨
  (r.phy = 3 ∧ qpsk = false ∧ len = phr ∧
    bad = (if chk ≠ 0 then some 6 else if mdsss then some 8 else if 127 < phr then some 7 else none))

/-- A field of a neighbour's SEQ_RLLSTAT (R154). -/
def RidgeNb.lfld (x : RidgeNb) (f : Fld) : Nat := bitsOf x.lstat.toNat f.hi f.lo

/-- Landed frame `n` has ended undelivered (R198, R220): counted in MAC_CNT`k`, known to the MAC no more, and its slot free
again, or posted where KEEPREJ = 1. -/
def NotDelivered (s t : State) (n k : Nat) : Prop :=
  t.fld (MAC_CNTn_COUNT k) = min (s.fld (MAC_CNTn_COUNT k) + 1) 0xffffffff ∧ tblFind t.mac.frames n = none ∧
  (s.flag MAC_CTRL_KEEPREJ = false → t.facet.free = s.facet.free ++ [n] ∧ t.facet.doneq = s.facet.doneq) ∧
  (s.flag MAC_CTRL_KEEPREJ = true → t.facet.doneq = s.facet.doneq ++ [n] ∧ t.facet.free = s.facet.free ∧
    (∀ a, (a < slotAddr n ∨ slotAddr n + 32 ≤ a) → t.memRd a = s.memRd a))

/-- Landed frame `n` is delivered with `status` (R220, R221). -/
def Delivered (s t : State) (n status : Nat) (x : MacFrame) : Prop :=
  t.facet.doneq = s.facet.doneq ++ [n] ∧ t.facet.free = s.facet.free ∧ tblFind t.mac.frames n = none ∧
  t.flag MAC_IRQ_DELIV = true ∧ t.memRd (slotAddr n) = BitVec.ofNat 8 status ∧
  (x.key < 2 ^ 32 → t.memLe (slotAddr n + 0x18) 4 = x.key)

/-- One more request waits on the sequencer, and it is `P`. -/
def Asks (s t : State) (P : TxReq → Prop) : Prop := ∃ q, t.seq.asks = s.seq.asks ++ [q] ∧ P q

/-- What R198 says of a lookup of a key and class, `ecc` being an uncorrectable set. -/
def LookupSays (s : State) (key cls : Nat) (ecc : Bool) (m : MacFrame) : Prop :=
  m.key = key ∧ m.cls = cls ∧
  (s.setUnread (s.dirSet key) ecc = true → m.verdict = some (.reject Code.DIR_ECC)) ∧
  (s.setUnread (s.dirSet key) ecc = false →
    (s.dirFind key cls = none → m.verdict = some (.reject Code.UNKNOWN_SRC)) ∧
    (∀ i, s.dirFind key cls = some i →
      ((s.dirAt i).block = true → m.verdict = some (.reject Code.BLOCKED)) ∧
      ((s.dirAt i).block = false → m.verdict = some .proceed ∧ m.ctx = (s.dirAt i).ctx ∧ m.pend = (s.dirAt i).pend)))

/-- What R198 says of a frame of PHY `phy` whose octets are `b`, `avail` of them there. -/
def VerdictSays (s : State) (phy : Nat) (b : List Byte) (len avail : Nat) (ecc : Bool) (m : MacFrame) : Prop :=
  (phy = 1 →
    (il2Bad b len = true → m.verdict = some (.reject Code.FMT_BAD)) ∧
    (il2Bad b len = false → octLe b 2 2 ≠ s.fld MAC_NETID_NETID → m.verdict = some (.reject Code.FOREIGN)) ∧
    (il2Bad b len = false → octLe b 2 2 = s.fld MAC_NETID_NETID →
      (oct b 0 % 16 = 3 → m.key = addrOf ((b.drop 4).take 8) (octLe b 2 2) ∧
        m.verdict = some (if s.setUnread (s.dirSet m.key) ecc then .reject Code.DIR_ECC else .join)) ∧
      (oct b 0 % 16 ≠ 3 → LookupSays s (octLe b 4 4) 0 ecc m))) ∧
  (phy ≠ 1 → let h := parseMhr b
    (form154Bad b h len avail = true → m.verdict = some (.reject Code.FMT_BAD)) ∧
    (form154Bad b h len avail = false →
      (s.dstOurs h = false → m.verdict = some (.reject Code.FOREIGN)) ∧
      (s.dstOurs h = true → h.srcMode ≠ 2 → m.verdict = some .join) ∧
      (s.dstOurs h = true → h.srcMode = 2 → LookupSays s (65536 * h.srcPan.getD 0 + leNat h.src) 1 ecc m)))

/-- The pager command a command issues, with its operation and class (R249). -/
def PagerOp (i : Instr) (op cls : Nat) : Prop :=
  (i = .join cls ∧ op = 1) ∨ (i = .evict cls ∧ op = 2) ∨ (i = .rekey cls ∧ op = 3) ∨ (i = .move cls ∧ op = 4) ∨
  (i = .read cls ∧ op = 5) ∨ (i = .write cls ∧ op = 6) ∨ (i = .flush ∧ op = 7 ∧ cls = 0)

/-- The pager command in progress ends with a status: PAGER_RES and CMDDONE say so, and the key words read 0 (R249). -/
def CmdEnds (t : State) (k : PagerCmd) (status : Nat) : Prop :=
  t.pager.cmd = none ∧ t.flag PAGER_RES_BUSY = false ∧ t.fld PAGER_RES_OP = k.op % 16 ∧ t.fld PAGER_RES_STATUS = status ∧
  t.fld PAGER_RES_CTX = k.ctx % 2 ^ 18 ∧ t.flag PAGER_IRQ_CMDDONE = true ∧ ∀ n, n < 4 → t.rd (PAGER_KEYWn n) = 0

/-- What holds of the resident copy of context `i`. -/
def HotIs (t : State) (i : Nat) (P : HotCtx → Prop) : Prop := ∃ h, t.hot i = some h ∧ P h

/-- A write of PAGER_CMD is discarded (R249, R253, R260). -/
def pagerRefuses (s : State) (op cls : Nat) : Prop :=
  s.pager.cmd ≠ none ∨ s.flag PAGER_STAT_READY = false ∨ s.flag PAGER_STAT_FLUSHED = true ∨ s.pager.flushing = true ∨
  ((op = 1 ∨ op = 4) ∧ schedBad s.argCtx cls = true)

/-- The blocks that a program or an erase of a hardware partition touches beside its requester's, where the die answers with a sign
of wear (R437). -/
def dieBlocks (die : DieEnd) : List Nat := if die = .good then [] else [baseNAND, baseLOG]

/-- A program that fails has retired the block that took it (R440). -/
def DieRetires (s t : State) (p : HwPart) (die : DieEnd) : Prop := die = .failed → ∀ b, s.hwNext p = some b → b ∈ t.nand.bad

/-- The start of occurrence `t0` of record `n`, a window record, as the sequencer stands then. -/
def State.atWindow (s : State) (n : Nat) (r : SchedRec) (t0 : Nat) : State :=
  (s.advanceSqt t0).putRec n { (r.begin_ t0).finish with endUs := some (t0 + r.dur) }

/-- A counter of 32 bits has counted once, saturating. -/
def CountsOne (s t : State) (f : Fld) : Prop := t.fld f = min (s.fld f + 1) 0xffffffff

/-! ### Memory, tasks and DMA (chapter 10) -/

/-- No memory byte outside `[a, a + n)` changes. -/
def MemBut (s t : State) (a n : Nat) : Prop := ∀ x, x < a ∨ a + n ≤ x → t.memRd x = s.memRd x

/-- A fetch of the page at `pte` is under way. -/
def Fetching (t : State) (pte : Nat) : Prop := ∃ f ∈ t.mmu.fetches, f.pte = pte

/-- Every task that waited for the page is runnable, and every channel that did is in state `st` (R337, R350). -/
def Resumed (s t : State) (pte st : Nat) : Prop :=
  (∀ c, ∀ m ∈ s.waiters c pte, ((t.tasksOf c).slot m).st = slotReady ∨ ((t.tasksOf c).slot m).st = slotRun) ∧
  (∀ e ∈ s.dma.wait, e.2 = pte → t.fld (DMA_CHnSTAT_STATE e.1) = st)

/-- Only idle cores may have changed. -/
def OnlyIdle (s t : State) : Prop := ∀ c, (s.core c).st ≠ .idle → t.core c = s.core c

/-- The page of `f` reads as `b` from PAGE, with a tag that holds (R340); a Z page is zeros. -/
def PageReads (s : State) (f : PageFetch) (retry : Nat) (b : List Byte) : Prop :=
  (f.zero = true ∧ b = zeros 4096) ∨
  (f.zero = false ∧ s.dieReleased = true ∧ s.pager.flushing = false ∧ s.aesRuns = true ∧ retry ≤ 7 ∧ b.length = 4096 ∧
    ∃ p k, tblFind s.mmu.store f.bidx = some p ∧ (s.keySlot (s.fld MMU_KEYSLOT_SLOT)).key = some k ∧ p.bytes = b ∧
      (cmac k (b ++ leBytes 4 f.bidx)).take 8 = p.tag)

/-- The PTE at `a` names the backing page again, its frame free (R338). -/
def PageLeft (t : State) (n : Nat) (f : PoolFrame) : Prop :=
  tblFind t.mmu.frames n = none ∧ pteTyp (t.pteRd f.pte) = 1 ∧ pteNum (t.pteRd f.pte) = f.bidx % 2 ^ 20

/-- A page command has ended with a status (R357). -/
def PageCmdEnds (t : State) (status : Nat) : Prop := t.fld MMU_PCMD_STATUS = status ∧ t.flag MMU_PCMD_BUSY = false

/-- The caches of the task bank hold no more than they can. -/
def Core.CachesFit (x : Core) : Prop := x.task.d.cache.length ≤ 16 ∧ x.task.r.cache.length ≤ 8

/-- Slot `n` of core `c` has left the task bank: its TCB holds PC and PSW, and nothing else in memory but the TCB changed. -/
def TcbSaved (s t : State) (c : CoreId) (n : Nat) : Prop :=
  t.memW (s.tcbAt c n) = (s.core c).pc ∧ t.memW (s.tcbAt c n + 4) = (s.core c).psw ∧ MemBut s t (s.tcbAt c n) 256 ∧
    t.fld (MMU_TSWc_SWITCHES (coreNum c)) = min (s.fld (MMU_TSWc_SWITCHES (coreNum c)) + 1) 0xffff

/-- Core `c` runs slot `m` from its TCB (R341, R343). -/
def RunsSlot (s t : State) (c : CoreId) (m : Nat) : Prop :=
  (t.tasksOf c).cur = some m ∧ ((t.tasksOf c).slot m).st = slotRun ∧ (t.core c).st = .run ∧
    (t.core c).pc = s.memW (s.tcbAt c m) ∧ (t.core c).psw = s.memW (s.tcbAt c m + 4) &&& 5

/-- The registers of core `c`'s scheduler. -/
def schedRegs (c : CoreId) : List Nat := [MMU_TSTATc (coreNum c), MMU_TSWc (coreNum c)]

/-- Every register but those listed and the timers' reads as before, and so do the other cores. -/
def OnlyCore (s t : State) (c : CoreId) (l : List Nat) : Prop :=
  (∀ a, a ∉ l → blockBase a ≠ baseTMR → t.rd a = s.rd a) ∧ ∀ d, d ≠ c → t.core d = s.core d
/-! ### The Volac cores (chapter 09) -/

/-- `i` is the command that has core `c` execute `op` behind prefix `p`; REP with an immediate prefix behind it. -/
def CmdOf (i : Instr) (c : CoreId) (p : Prefix) : VOp → Prop
  | .push8 b => i = .push8 c p b | .push8u b => i = .push8u c p b | .push16 h => i = .push16 c p h
  | .push16u h => i = .push16u c p h | .push32 w => i = .push32 c p w | .pushhi h => i = .pushhi c p h
  | .slit k => i = .slit c p k | .nop => i = .nop c p | .dup => i = .dup c p | .drop => i = .drop c p
  | .swap => i = .swap c p | .over => i = .over c p | .rot => i = .rot c p | .nip => i = .nip c p
  | .tuck => i = .tuck c p | .pick => i = .pick c p | .dup2 => i = .dup2 c p | .drop2 => i = .drop2 c p
  | .tor => i = .tor c p | .fromr => i = .fromr c p | .rfetch => i = .rfetch c p | .depth => i = .depth c p
  | .rdrop => i = .rdrop c p | .add => i = .add c p | .sub => i = .sub c p | .addx => i = .addx c p
  | .subx => i = .subx c p | .neg => i = .neg c p | .not => i = .not c p | .inc => i = .inc c p | .dec => i = .dec c p
  | .abs => i = .abs c p | .mul => i = .mul c p | .mulh => i = .mulh c p | .mulhu => i = .mulhu c p
  | .div => i = .div c p | .divu => i = .divu c p | .mod => i = .mod c p | .modu => i = .modu c p
  | .and => i = .and c p | .or => i = .or c p | .xor => i = .xor c p | .andn => i = .andn c p | .shl => i = .shl c p
  | .shr => i = .shr c p | .sar => i = .sar c p | .rol => i = .rol c p | .ror => i = .ror c p
  | .sext8 => i = .sext8 c p | .sext16 => i = .sext16 c p | .zext8 => i = .zext8 c p | .zext16 => i = .zext16 c p
  | .bswap => i = .bswap c p | .min => i = .min c p | .max => i = .max c p | .minu => i = .minu c p
  | .maxu => i = .maxu c p | .eq => i = .eq c p | .ne => i = .ne c p | .lt => i = .lt c p | .ltu => i = .ltu c p
  | .le => i = .le c p | .leu => i = .leu c p | .gt => i = .gt c p | .gtu => i = .gtu c p | .ge => i = .ge c p
  | .geu => i = .geu c p | .zeq => i = .zeq c p | .zlt => i = .zlt c p | .sel => i = .sel c p | .clz => i = .clz c p
  | .ctz => i = .ctz c p | .popcnt => i = .popcnt c p | .par => i = .par c p | .brev8 => i = .brev8 c p
  | .brev16 => i = .brev16 c p | .brev32 => i = .brev32 c p | .crcstep => i = .crcstep c p
  | .crc32step => i = .crc32step c p | .bext => i = .bext c p | .bins => i = .bins c p | .bset => i = .bset c p
  | .bclr => i = .bclr c p | .btst => i = .btst c p | .ldw => i = .ldw c p | .ldh => i = .ldh c p
  | .ldhu => i = .ldhu c p | .ldb => i = .ldb c p | .ldbu => i = .ldbu c p | .stw => i = .stw c p
  | .sth => i = .sth c p | .stb => i = .stb c p | .ldwa => i = .ldwa c p | .ldba => i = .ldba c p
  | .stwb => i = .stwb c p | .stbb => i = .stbb c p | .movw => i = .movw c p | .movb => i = .movb c p
  | .fillw => i = .fillw c p | .xchg => i = .xchg c p | .seta => i = .seta c p | .setb => i = .setb c p
  | .geta => i = .geta c p | .getb => i = .getb c p | .adda => i = .adda c p | .addb => i = .addb c p
  | .setrc => i = .setrc c p | .getrc => i = .getrc c p | .rep => i = .rep c p none | .rdsr => i = .rdsr c p
  | .wrsr => i = .wrsr c p | .getc => i = .getc c p | .br => i = .br c p | .bz => i = .bz c p | .bnz => i = .bnz c p
  | .call => i = .call c p | .ret => i = .ret c p | .loop => i = .loop c p | .syscall => i = .syscall c p
  | .brk => i = .brk c p | .eret => i = .eret c p | .wait => i = .wait c p | .di => i = .di c p | .ei => i = .ei c p
  | .fence => i = .fence c p | .dsflush => i = .dsflush c p | .rsflush => i = .rsflush c p | .tpop => i = .tpop c p
  | .tpush => i = .tpush c p | .yield => i = .yield c p | .crca => i = .crca c p | .crc32a => i = .crc32a c p
  | .casw => i = .casw c p | .muls64 => i = .muls64 c p | .undef e b => i = .undefinedOpcode c p e b

/-- Core `c` is about to execute `n` bytes of instruction, with PSW.RPT as `rpt` says, and their fetch succeeds, leaving
state `f`: the core runs, is not halted, is ready, and has no literal pending (R309, R320). -/
def FetchedAs (rpt : Bool) (c : CoreId) (n : Nat) (s f : State) : Prop :=
  s.executes c = true ∧ (s.core c).dbgHalt = false ∧ (s.core c).ready ≤ s.clk.now ∧ bitAt (s.core c).psw.toNat 2 = rpt ∧
    (s.core c).bank.lv = false ∧ (vmFetch c (s.core c).pc.toNat n).run (s.setCore c (s.startCore c)) = .ok () f

/-- The same outside a repetition. -/
abbrev Fetched (c : CoreId) (n : Nat) (s f : State) : Prop := FetchedAs false c n s f

/-- The core after an instruction that leaves bank `b` and status `psw` and took `n` cycles more than the table gives: PC past
it, its cycles spent. -/
def afterInstr (x : Core) (p : Prefix) (op : VOp) (b : Bank) (psw : Word) (n : Nat) : Core :=
  { x.setBank b with pc := x.pc + BitVec.ofNat 32 (instrLen p op), psw := psw, ready := x.ready + p.cycles + op.cycles + n }

/-- A bank whose literal, if the instruction had a prefix, is loaded and consumed, and whose data stack caches `l`. -/
def Bank.withData (b : Bank) (p : Prefix) (l : List Word) : Bank :=
  { b with la := p.la.getD b.la, d := { b.d with cache := l } }

/-- A bank whose return stack caches `l`. -/
def Bank.withRet (b : Bank) (l : List Word) : Bank := { b with r := { b.r with cache := l } }

/-- No prefix, or one that loads LA. -/
def plainPrefix (p : Prefix) : Prop := p = .none ∨ p.la.isSome = true

/-- The operand of kind op or cnt: the literal, or the top of the cached data stack `l`; and what is left of `l` (R310). -/
def operandOf (p : Prefix) (l : List Word) : Option (Word × List Word) :=
  match p.la, l with
  | some w, l => some (w, l)
  | none, w :: t => some (w, t)
  | none, [] => none

/-- The target of kind rel and what is left of the cached data stack; `next` is the address after the instruction (R310). -/
def targetOf (next : Word) (p : Prefix) (l : List Word) : Option (Word × List Word) :=
  match p.la, l with
  | some w, l => some (next + w, l)
  | none, t :: l => some (t, l)
  | none, [] => none

/-- Memory that an access reaches as plain bytes. -/
def dataMem (a : Nat) : Bool :=
  match regionOf a with
  | .tcm _ | .sram | .landing | .kcPriv => true
  | _ => false

/-- The kernel or fast bank of core `c` may make an access of width `w` at `a`: aligned, in plain memory that R330 grants, on
a line that reads. -/
def PlainAt (f : State) (c : CoreId) (k : Acc) (a : Word) (w : Width) : Prop :=
  ((f.core c).bankNo = 1 ∨ (f.core c).bankNo = 2) ∧ a.toNat % w.bytes = 0 ∧ dataMem a.toNat = true ∧
    f.kernelColumn c k a.toNat = none ∧ f.poisoned a.toNat = false

/-- What a load of width `w` reads. -/
def State.loaded (f : State) (a : Word) (w : Width) : Word := BitVec.ofNat 32 (f.memLe a.toNat w.bytes)

/-- The core after a store to `a` entered and left the store buffer (R314, R331). -/
def Core.stored (x : Core) (c : CoreId) (a : Word) : Core := { x with drain := max x.drain x.ready + accessTime c a.toNat }

/-- Core `x` in the handler of exception `vec` in the kernel bank, entered with the saved PC `pc` and no spill (R324). -/
def inHandler (x : Core) (vec info : Nat) (eaddr pc : Word) : Core :=
  { x with kernel := x.kernel.withRet (x.psw :: pc :: x.kernel.r.cache), psw := handlerPsw 1 x.psw,
           pc := x.vbase + BitVec.ofNat 32 (16 * vec), st := .run, ready := x.ready + 4,
           ecause := ecauseWord info x.bankNo vec, eaddr := eaddr }

/-- Width and extension of the loads. -/
def loadKind : VOp → Option (Width × (Word → Word))
  | .ldw => some (.word, id)
  | .ldh => some (.half, sext 16)
  | .ldhu => some (.half, id)
  | .ldb => some (.byte, sext 8)
  | .ldbu => some (.byte, id)
  | _ => none

/-- Width of the stores. -/
def storeKind : VOp → Option Width
  | .stw => some .word
  | .sth => some .half
  | .stb => some .byte
  | _ => none


/-! ### Register writes (chapter 00) -/

/-- A write discarded under R8 by the block at `b`, or under R10 where `gap` holds, is recorded and has no other effect. -/
def Recorded (s t : State) (b : Nat) (gap : Bool) : Prop :=
  t.flag (CFGSTAT_RSVD_WR b) = (s.flag (CFGSTAT_RSVD_WR b) || !gap) ∧
    t.flag (CFGSTAT_UNMAP_WR b) = (s.flag (CFGSTAT_UNMAP_WR b) || gap) ∧
    t.fld (CFGSTAT_CFG_ERR b) = min (s.fld (CFGSTAT_CFG_ERR b) + 1) 0xffff ∧ OnlyRegs s t [CFGSTAT b]

/-- The interrupt registers of the blocks, all W1C, and the enables, all RW. -/
def irqRegs : List Nat :=
  [RFx_IRQ .s, RFx_IRQ .g, PWR_IRQ, TMR_IRQ0, TMR_IRQ1, PRISM_IRQ, FACET_IRQ, MAC_IRQ, PAGER_IRQ, SEQ_IRQ, NAND_IRQ,
   CIPHER_IRQ, LATTICE_IRQ, BIST_IRQ, LOG_IRQ, HIF_IRQ, NET_IRQ, UART_IRQ, MIRROR_IRQ, DMA_IRQ, MMU_IRQ, OTP_IRQ]
def irqEnables : List Nat :=
  [RFx_IRQEN .s, RFx_IRQEN .g, PWR_IRQEN, TMR_IRQEN0, TMR_IRQEN1, PRISM_IRQEN, FACET_IRQEN, MAC_IRQEN, PAGER_IRQEN,
   SEQ_IRQEN, NAND_IRQEN, CIPHER_IRQEN, LATTICE_IRQEN, BIST_IRQEN, LOG_IRQEN, HIF_IRQEN, NET_IRQEN, UART_IRQEN,
   MIRROR_IRQEN, DMA_IRQEN, MMU_IRQEN, OTP_IRQEN]

/-! ### The debug port (R538) -/

/-- The requests of the debug port, with their `good` operand. -/
def DbgCmd (i : Instr) (good : Bool) : Prop :=
  (∃ a : Nat, i = .dbgRead good a ∨ i = .dbgCread good a) ∨ (∃ (a : Nat) (v : Word), i = .dbgWrite good a v ∨ i = .dbgCwriteReg good a v) ∨
  (∃ m : Nat, i = .dbgHalt good m ∨ i = .dbgResume good m ∨ i = .dbgReset good m) ∨
  (∃ (c : CoreId) (p : Prefix) (op : VOp) (x : Option VOp), i = .dbgStep good c p op x)

/-! ### Resets and Saddle (chapter 13) -/

/-- What a system reset with a cause leaves (R399, R400): KC runs from 0 and the other cores are held; SLOWCNT, its compares,
the power configuration and the retained banks are kept; latches, counts and keys are cleared. -/
def SystemResetDone (s t : State) (cause : Nat) : Prop :=
  t.fld PWR_RSTCAUSE_CAUSE = cause ∧ t.pwr.phase = .awake ∧ (t.core .kc).st = .run ∧ (t.core .kc).pc = 0 ∧
    (∀ c, c ≠ .kc → (t.core c).st = .held) ∧ t.clk.pll = false ∧ t.clk.slowcnt = s.clk.slowcnt ∧ t.tmr.scmp = s.tmr.scmp ∧
    (∀ a ∈ [PWR_SADDLECFG, PWR_WAKEEN, PWR_RETAIN, PWR_CLKCFG], t.rd a = s.rd a) ∧
    t.fld PWR_VINMON_WARN = s.fld PWR_VINMON_WARN ∧ t.rd PWR_SADCNT = 0 ∧ t.rd PWR_SADCNT2 = 0 ∧
    (∀ n, n < 8 → t.rd (PWR_REFUSEn n) = 0) ∧ t.rd ICU_ALSTAT = 0 ∧ t.cipher.keys = [] ∧
    (∀ a, s.kept a = true → t.memRd a = s.memRd a) ∧ (s.log.queue = [] → t.log.ring = s.log.ring) ∧
    (∀ k, k < 2 → t.planSlot k = s.planSlot k) ∧
    ∃ q ∈ t.log.queue, q.ent.code = Code.RESET ∧ q.ent.data = cause

/-- Core `c` has been released (R329, R401). -/
def Released (s t : State) (c : CoreId) : Prop :=
  (t.core c).st = .run ∧ (t.core c).vbase = (t.core c).pc ∧
    (t.core c).pc = (match c with
      | .lc0 => 0x10000000
      | .lc1 => 0x10080000
      | .sc => BitVec.ofNat 32 (256 * s.fld PWR_SCPC_ADDR)
      | .kc => 0) ∧
    (t.core c).psw = 0x102 ∧ (∀ n, n < 8 → ((t.tasksOf c).slot n).st = slotEmpty) ∧ ∀ a ∈ t.icu.active, a.core ≠ c

/-- A wake of the core rail has ended: the device is awake and the cores resume (R407, R408). -/
def Woken (s t : State) : Prop :=
  t.pwr.phase = .awake ∧ t.fld PWR_STAT_PHASE = 0 ∧ ∀ c, (s.core c).st = .wait → (t.core c).st = .run

/-! ### NAND (chapter 14) -/

/-- The launch sequence has relocked with SEQERR (R427). -/
def SeqRelocked (t : State) : Prop :=
  t.nand.seqOwner = none ∧ t.fld NAND_FSTAT_SEQ = 0 ∧ t.flag NAND_IRQ_SEQERR = true

/-- The sequence belongs to core `c` at step `n`, within its time (R427). -/
def SeqAt (s : State) (c : CoreId) (n : Nat) : Prop :=
  s.nand.seqOwner = some c ∧ s.fld NAND_FSTAT_SEQ = n ∧ s.clk.now < s.nand.seqAt + 10000

/-- The launched command that has not run: its operation. No erase runs on its plane. -/
def Launched (s : State) (k : NandCmd) (op : Nat) : Prop :=
  s.nand.cmd = some k ∧ k.op = op ∧ k.started = false ∧ s.flag PWR_STAT_VINWARN = false ∧
    ∀ e, s.eraseOn (planeOf k.block) = some e → e.suspended = true

/-- A block is erased: nothing is programmed in it, and its count has risen (R431, R438). -/
def BlockErased (s t : State) (b : Nat) : Prop :=
  t.pecOf b = s.pecOf b + 1 ∧ b ∉ t.nand.full ∧ ∀ n, n < 64 → tblFind t.nand.pages (64 * b + n) = none

/-- A software command has ended (R430). -/
def NandEnds (t : State) (status corr retry time : Nat) : Prop :=
  t.nand.cmd = none ∧ t.fld NAND_FRES_STATUS = status ∧ t.fld NAND_FRES_CORR = corr ∧ t.fld NAND_FRES_RETRY = retry ∧
    t.fld NAND_FRES_TIME = min time 65535 ∧ t.flag NAND_FSTAT_BUSY = false ∧ t.flag NAND_IRQ_DONE = true

/-- What the erase of an emptied block of a hardware partition leaves: the block erased, and ranked most worn where it was slow, or
retired (R437, R440). -/
def DieDoes (s t : State) (b : Nat) (die : DieEnd) : Prop :=
  (die ≠ .failed → BlockErased s t b) ∧ (die = .slow → b ∈ t.nand.slow ∧ t.flag NAND_IRQ_SLOW = true) ∧
    (die = .failed → b ∈ t.nand.bad ∧ b ∉ t.nand.full ∧ t.flag NAND_IRQ_RETIRED = true)

/-! ### Cipher, lattice and OTP (chapter 15) -/

/-- Awake and with room in the queue, the entry has been queued (R516). -/
def Logged (s t : State) (src code aux data : Nat) : Prop :=
  s.pwr.phase = .awake → s.log.queue.length < 16 → ∃ q ∈ t.log.queue, q.ent.src = src ∧ q.ent.code = code ∧ q.ent.aux = aux ∧
    q.ent.data = data

/-- Job `j` has ended with `st` (R451): STATUS, CIPHER_DONEQ and the counts; every other byte is as in `u`. -/
def JobEnds (s t u : State) (j : CipherJob) (st : Nat) : Prop :=
  t.cipher.jobs = s.cipher.jobs.erase j ∧ t.cipher.doneq = s.cipher.doneq ++ [j.addr] ∧
    t.memRd j.addr = BitVec.ofNat 8 st ∧ (∀ x, x ≠ j.addr → t.memRd x = u.memRd x) ∧ t.flag CIPHER_IRQ_DONE = true ∧
    (st = Code.TAG_FAIL → t.flag CIPHER_IRQ_TAGFAIL = true ∧
      t.fld CIPHER_CNT_TAGFAIL = min (s.fld CIPHER_CNT_TAGFAIL + 1) 65535) ∧
    (st ≠ Code.TAG_FAIL → t.rd CIPHER_CNT = s.rd CIPHER_CNT) ∧
    (∀ a, a ∉ [CIPHER_STAT, CIPHER_IRQ, CIPHER_CNT, CIPHER_KEYSTAT] → blockBase a ≠ baseTMR → t.rd a = s.rd a) ∧
    SameCores s t

/-- A key command has ended with `st` (R453). -/
def KeyEnds (s t : State) (st : Nat) : Prop :=
  t.rd CIPHER_KEYRES = BitVec.ofNat 32 st ∧ (∀ n, n < 16 → t.rd (CIPHER_KEYWn n) = 0) ∧
    OnlyRegs s t (CIPHER_KEYRES :: CIPHER_KEYSTAT :: (List.range 16).map CIPHER_KEYWn)

/-- A byte in the destination of an AEAD job in progress, and the STATUS byte of a job in progress. -/
def CutZero (s : State) (x : Nat) : Prop :=
  ∃ j ∈ s.cipher.jobs, ∃ d, j.run = some d ∧ isAead d.mode = true ∧ d.dst ≤ x ∧ x < d.dst + d.len
def CutStatus (s : State) (x : Nat) : Prop := ∃ j ∈ s.cipher.jobs, j.run.isSome = true ∧ j.addr = x

/-- Every job in progress has ended with `st`, its AEAD destination zeroed; posted jobs wait (R457, R459). -/
def JobsCut (s t : State) (st : Nat) : Prop :=
  t.cipher.jobs = s.cipher.jobs.filter (fun j => j.run.isNone) ∧
    t.cipher.doneq = s.cipher.doneq ++ (s.cipher.jobs.filter (fun j => j.run.isSome)).map (fun j => j.addr) ∧
    ∀ x, (CutStatus s x → ¬CutZero s x → t.memRd x = BitVec.ofNat 8 st) ∧ (CutZero s x → ¬CutStatus s x → t.memRd x = 0) ∧
      (¬CutZero s x → ¬CutStatus s x → t.memRd x = s.memRd x)

/-- A SIGN, KEYGEN or REPORT in progress has ended with `st` (R457, R459). -/
def LatCut (s t : State) (st : Nat) : Prop :=
  ∀ o, s.lat.cur = some o → (o.secret = true → t.lat.cur = none ∧ t.fld LATTICE_STAT_STATUS = st ∧
    t.flag LATTICE_IRQ_DONE = true) ∧ (o.secret = false → t.lat.cur = some o)

/-- The engine has halted (R457). -/
def Halted (s t : State) : Prop :=
  t.flag CIPHER_STAT_HALTED = true ∧ t.flag CIPHER_IRQ_HALT = true ∧ t.cipher.rng = [] ∧ t.cipher.seeded = false ∧
    t.fld CIPHER_CNT_HALTS = min (s.fld CIPHER_CNT_HALTS + 1) 255 ∧ t.flag MAC_IRQ_CIPHDOWN = true ∧
    JobsCut s t Code.TRNG_FAIL ∧ LatCut s t Code.TRNG_FAIL

/-- A command of the lattice engine with its operation, key hash and register (R463). -/
def LatCommand (c : Instr) (op pkh meas : Nat) : Prop :=
  (c = .verify pkh ∧ op = 1 ∧ meas = 0) ∨ (c = .sign ∧ op = 2 ∧ pkh = 0 ∧ meas = 0) ∨
    (c = .keygen ∧ op = 3 ∧ pkh = 0 ∧ meas = 0) ∨ (c = .shake ∧ op = 4 ∧ pkh = 0 ∧ meas = 0) ∨
    (c = .extend meas ∧ op = 5 ∧ pkh = 0) ∨ (c = .report ∧ op = 6 ∧ pkh = 0 ∧ meas = 0)

/-- The 32 random bytes that are drawn next (R463). -/
def State.nextRandom (s : State) : List Byte := (s.freshWords 8).1.flatMap (fun w => leBytes 4 w.toNat)

/-- The operation that was to start has ended with `st` at once; those in `l` wait (R457, R475). -/
def LatRefused (t : State) (l : List LatOp) (st : Nat) : Prop :=
  t.lat.cur = none ∧ t.lat.wait = l ∧ t.fld LATTICE_STAT_STATUS = st ∧ t.flag LATTICE_IRQ_DONE = true ∧
    t.flag LATTICE_STAT_BUSY = false ∧ t.rd LATTICE_TIME = 0

/-- The running operation has ended with `st` (R475). -/
def LatEnds (s t : State) (o : LatOp) (d st : Nat) : Prop :=
  t.lat.cur = none ∧ t.lat.wait = s.lat.wait ∧ t.fld LATTICE_STAT_STATUS = st ∧ t.flag LATTICE_STAT_BUSY = false ∧
    t.flag LATTICE_IRQ_DONE = true ∧ o.startAt + d ≤ t.clk.now ∧
    t.rd LATTICE_TIME = BitVec.ofNat 32 ((t.clk.now - o.startAt) / 200) ∧ BlocksOnly s t [baseLATTICE, baseTMR]

/-- An OTP command on word `w` has ended with `st` (R476, R519). -/
def OtpEnds (s t : State) (w st : Nat) : Prop :=
  t.otp.cmd = none ∧ t.fld OTP_STAT_STATUS = st ∧ t.flag OTP_STAT_BUSY = false ∧ t.flag OTP_IRQ_DONE = true ∧
    (st ≠ Code.OK → t.flag OTP_IRQ_FAIL = true) ∧ (st = Code.OTP_FAIL → Logged s t 23 Code.OTP_FAIL 0 w) ∧
    OnlyBlocks s t [baseOTP, baseLOG]

/-! ### Firmware update and Ridgeline (chapter 16) -/

/-- A system reset of cause SOFT has been taken: KC runs from 0 and the other cores are held (R399, R401). -/
def ResetSoft (t : State) : Prop :=
  t.fld PWR_RSTCAUSE_CAUSE = 5 ∧ t.pwr.phase = .awake ∧ (t.core .kc).st = .run ∧ (t.core .kc).pc = 0 ∧
    ∀ c, c ≠ .kc → (t.core c).st = .held

/-- Set `i`, checked in state `x`, has started under record `r` (R485): its KC component lies at LOAD and runs from there,
MEAS0 is extended twice, the counters of a confirmed boot are raised, and the UPD registers tell the rest. -/
def BootsSet (x t : State) (r : Bcr) (i st : Nat) : Prop :=
  let b := x.bootCheck i
  let h := headOf b.2.1
  ∃ c ∈ h.comps, c.typ = 1 ∧
    let img := (b.2.1.drop (2048 * (headBlocks h.headlen + h.nlist + c.first))).take c.len
    t.kc.pc = BitVec.ofNat 32 c.load ∧ (∀ y, t.memRd y = (x.memPut c.load img).memRd y) ∧
      t.meas 0 = shake256 (shake256 (x.meas 0 ++ shake256 (signedHead b.2.1) 32) 32 ++
        shake256 img 32) 32 ∧
      (r.state = 0 → ∀ n, n < 8 → min 64 (r.arbtgt.getD n 0) ≤ t.arb n) ∧
      t.flag UPD_BOOT_TRIAL = (r.state == 1) ∧ t.fld UPD_BOOT_TRIES = r.tries % 256 ∧ t.fld UPD_BOOT_SET = i ∧
      t.fld UPD_BOOT_STATUS = st % 256 ∧ t.fld UPD_GENOLD_GEN = r.genold % 2 ^ 32 ∧
      t.fld UPD_GENNEW_GEN = (if r.state = 1 then (r.genold + 1) % 2 ^ 32 else 0)

/-- The trial set has been confirmed (R497). -/
def Confirms (s t : State) : Prop :=
  let lv := headLevels (headOf (s.imageBytes (1 - s.bcr.active) 0 7).1)
  tblFind t.upd.gens ((s.bcr.genold + 1) % 2 ^ 32) = some s.settings ∧
    (∀ n, n < 8 → min 64 (max (s.bcr.arbtgt.getD n 0) (lv.getD n 0)) ≤ t.arb n) ∧ t.upd.expireAt = none ∧
    t.flag UPD_TRIAL_RUN = false ∧ Logged s t 1 Code.UPD_CONFIRMED 0 0 ∧ OnlyBlocks s t [baseSYS, baseLOG, baseNAND]

/-- With the link up, an UPDATE packet with these octets has been sent to the partner (R555). -/
def SaysPair (s t : State) (m : List Byte) : Prop := s.linkUp = true → ∃ k ∈ t.mirror.unacked, k.typ = 5 ∧ k.body = .raw m

/-- No page of either BOOT copy has changed: the old record governs (R495). -/
def SameBoot (s t : State) : Prop :=
  ∀ row, (bootCopy (row / 64)).isSome = true → tblFind t.nand.pages row = tblFind s.nand.pages row

/-! ### Self-test and the log (chapter 17) -/

/-- A cycle has started at edge `k`: every item neither UNUSABLE nor in RERUN is DUE (R508). -/
def CycleStarted (s t : State) (k : Nat) : Prop :=
  t.bist.running = true ∧ t.bist.cycleAt = k ∧ t.bist.cycleLen = 32768 * s.fld BIST_CFG_CYCLE ∧
    ∀ i, i < 77 → (t.bistItem i).st = (if (s.bistItem i).st = .unusable then .unusable
      else if (s.bistItem i).st = .rerun then .rerun else .due)

/-- A request has ended with `st` (R513). -/
def ReqEnds (t : State) (st : Nat) : Prop :=
  t.bist.req = none ∧ t.fld BIST_REQRES_STATUS = st ∧ t.flag BIST_REQRES_BUSY = false ∧ t.flag BIST_IRQ_REQDONE = true

/-- A check of item `i` has started (R505, R506). -/
def CheckStarts (s t : State) (i : Nat) (why : BistWhy) : Prop :=
  (∃ c, t.bist.check = some c ∧ c.item = i ∧ c.why = why ∧ c.endAt = s.clk.now + us (bistUs i)) ∧
    t.flag BIST_STAT_SLICE = true ∧ t.fld BIST_STAT_ITEM = i ∧ t.bist.items = s.bist.items

/-- The next entry of the log has been appended at sequence number `n` (R514). -/
def Appended (t : State) (n : Nat) (e : LogEnt) : Prop := tblFind t.log.ring (n % 4096) = some e

/-! ### Host ports (chapter 18) -/

/-- Slot `j` holds a completed result with this STATUS and PAYLOAD (R526, R532); the rest of memory is as before. -/
def Answered (s t : State) (j status : Nat) (payload : List Byte) : Prop :=
  (∃ x, t.hifSlot j = some x ∧ x.done = true) ∧ j ∉ t.hif.cmdq ∧
    (let l := leBytes 1 status ++ leBytes 2 0 ++ leBytes 2 payload.length ++ leBytes 2 0 ++ payload
     (∀ i, i < l.length → t.memRd (s.hifSlotAt j + 1 + i) = l.getD i 0) ∧ MemBut s t (s.hifSlotAt j + 1) l.length)

/-- Slot `j` holds the uncompleted command `op`, whose payload is `b` (R527, R532). -/
def HifAsks (s : State) (j op : Nat) (b : List Byte) : Prop :=
  ∃ x, s.hifSlot j = some x ∧ x.done = false ∧ x.op = op ∧ b = s.memBytes (s.hifSlotAt j + 4) x.len

/-! ### Mirror (chapter 18, R547–R558) -/

/-- PAIR_ACT is driven low and PAIR_SW high, or both are left: the line then is what the world outside makes it. -/
def PairLines (s t : State) (on : Bool) : Prop :=
  t.mirror.drives = on ∧ t.mirror.sw = on ∧ bitAt t.icu.pins 22 = (!on && s.icu.pairExt)

/-- The member has become ACTIVE (R551). -/
def BecomesActive (s t : State) : Prop :=
  t.fld MIRROR_STAT_ROLE = 3 ∧ PairLines s t true ∧ t.flag PAGER_STAT_STANDBY = false ∧ t.flag MIRROR_IRQ_ACTIVE = true

/-- The member has taken over (R553, R256). -/
def TakesOver (s t : State) : Prop :=
  BecomesActive s t ∧ t.rd PAGER_EPOCH = s.rd PAGER_EPOCH + 1 ∧ OnlyBlocks s t [baseMIRROR, baseICU, basePAGER, baseLOG] ∧
    Logged s t 19 Code.PAIR_TAKEOVER 0 (((s.mirror.peer.map (·.serial)).getD 0) % 2 ^ 32)

/-- The frames of a path have ended PAIR_STANDBY, one on the air by the way of TXRX (R552). -/
def CutsPath (s t : State) (p : PathId) : Prop :=
  (t.rf p).held = [] ∧ ((s.rf p).held ≠ [] → t.fld (RFx_TXSTAT_LAST p) = Code.PAIR_STANDBY ∧
    (s.pst p = .rxtx ∨ s.pst p = .tx → t.pst p = .txrx))

/-- No frame of the sequencer is with the paths. -/
def NoneOnAir (s : State) : Prop := s.txEnds = [] ∧ ∀ p, ∀ c ∈ (s.rf p).held, c.owner = 0

/-- The member has left ACTIVE for role `n` (R551, R552). -/
def LeavesActive (s t : State) (n : Nat) : Prop :=
  t.fld MIRROR_STAT_ROLE = n ∧ PairLines s t false ∧ (∀ p, CutsPath s t p) ∧ SameCores s t

/-- The blocks that leaving ACTIVE touches where no frame of the sequencer is with the paths. -/
def leaveBlocks : List Nat := [baseMIRROR, baseICU, baseRFS, baseRFG]

/-- `i` is a sequenced packet of the partner (R548). -/
def MirPacket (i : Instr) (seq : Nat) (ok : Bool) : Prop :=
  (∃ g l, i = .feed seq ok g l) ∨ (∃ n, i = .feedreq seq ok n) ∨ (∃ h l e, i = .storecopy seq ok h l e) ∨
  (∃ m d, i = .update seq ok m d) ∨
  (∃ typ b, 0x80 ≤ typ ∧ typ ≤ 0xff ∧ b.length ≤ 4095 ∧ i = .firmwarePacket seq ok typ b) ∨
  (∃ nt d p, d.length = 32 ∧ p.length ≤ 352 ∧ i = .divPacket seq ok nt d p)

/-- The next SEQ after `n` (R548). -/
def seqAfter (n : Nat) : Nat := n % (2 ^ 32 - 1) + 1

/-- The ACK that covers everything up to `seq` is on the link (R548). -/
def Acks (t : State) (seq : Nat) : Prop := t.mirror.wire = some ⟨7, 0, .raw (leBytes 4 seq), none⟩

/-- Packet `seq` has been taken in order and acknowledged. -/
def Takes (t : State) (seq : Nat) : Prop := t.mirror.rxSeq = seq ∧ Acks t seq

/-- One more packet of this type and body waits for its acknowledgement. -/
def SendsPkt (s t : State) (typ : Nat) (b : MirBody) (buf : Option Nat) : Prop :=
  t.mirror.unacked = s.mirror.unacked ++ [⟨typ, seqAfter s.mirror.txSeq, b, buf⟩]
end Sys2Proof.Machine
end

