-- ==== Sys2Proof/Certificates/Slice0/Obligations.lean ====
section
/-! DEFINITION. The statements for the provers: what the commands do and leave alone, by chapter of the spec. -/

open Sys2Proof Sys2Proof.Machine


/-- The first-in first-out queue of commands: a step is `exec` of the command at its front on the state with the queue's
rest, and with no command waiting one cycle of the core clock passes (DESIGN CHOICE, log entry 2). -/
def Obligations.StepRunsTheFront : Prop :=
  ∀ s : State,
    (∀ (i : Instr) (l : List Instr), s.pending = i :: l → step s = exec i { s with pending := l }) ∧
    (s.pending = [] → Gives (step s) (fun t => t.pending = [] ∧ t.clk.now = s.clk.now + 1 ∧
      OnlyBlocks s t [baseTMR, baseLOG]))

/-- Every command completes: in every state and for every operand `exec` answers a next state, so a step is never a fault
and never a refusal. -/
def Obligations.EveryCommandCompletes : Prop :=
  (∀ (i : Instr) (s : State), ∃ t, exec i s = .next t) ∧ ∀ s : State, ∃ t, step s = .next t

/-- R303, R398–R401, R118, R10: the state after reset: each register reads what its description gives (SYS_COMPAT reads the
straps, whose levels are the model's choice, log entry 3), KC runs from 0 with the reset values of R303 and the other cores
are held, no command waits and memory lists nothing. -/
def Obligations.ResetState : Prop :=
  let s := State.reset
  (∀ a, a ≠ SYS_COMPAT → s.rd a = resetOf a) ∧ s.pending = [] ∧ (∀ a, s.memRd a = 0) ∧ s.pwr.phase = .awake ∧
    s.kc.st = .run ∧ s.kc.pc = 0 ∧ (∀ c, c ≠ .kc → (s.core c).st = .held) ∧
    (∀ c, (s.core c).psw = 0x102 ∧ (s.core c).crccfg = 0xf ∧ (s.core c).crcpoly = 0x1021 ∧ (s.core c).vbase = 0) ∧
    s.facet.free = List.range 2048 ∧ s.mac.dir = [] ∧ s.plan = {} ∧ s.nand.pages = [] ∧ s.cipher.keys = [] ∧
    (∀ e ∈ s.log.queue.head?, e.ent.code = Code.RESET ∧ e.ent.data = 1) ∧
    s.rd PWR_RSTCAUSE = 0x00000001 ∧ s.rd MIRROR_CFG = 0x03641000 ∧ s.rd HIF_STAT = 0x80000000 ∧ s.rd SEQ_STAT = 0

/-- Memory and registers are in their canonical form after reset. -/
def Obligations.ResetCanonical : Prop := State.reset.Canonical

/-- Every step keeps memory and registers in their canonical form: addresses strictly rise, and nothing is listed that reads
as an unlisted address does. -/
def Obligations.StepKeepsCanonical : Prop :=
  ∀ s t : State, s.Canonical → step s = .next t → t.Canonical

/-! ### RF paths (chapter 01) -/

/-- R18: every command of one path completes and leaves the other path as it is. Registers change only in the windows of the path, of
the rays, facets and frames on it, of the self-test it reports to, of the log, of the timers that count meanwhile, and of what a
downlink that the path ends sets going (pager, cipher engine, Mirror); the cores stay as they are, and so does memory where no frame
of the sequencer ends and lost frames are not kept. -/
def Obligations.RfPathIndependence : Prop :=
  ∀ (p : PathId) (i : Instr) (s : State), RfCmd p i → Gives (exec i s) (fun t =>
    t.rf (otherPath p) = s.rf (otherPath p) ∧
    BlocksOnly s t [rfBase p, basePRISM, baseFACET, baseMAC, baseSEQ, baseBIST, baseLOG, baseTMR, basePAGER, baseCIPHER,
      baseMIRROR] ∧
    (QuietPath p s → SameMem s t))

/-- R25, R29, R35, R36, R165, R586: EN = 1 starts a path that is OFF where a plan is active and SYSPLL is locked, and is only recorded
elsewhere; EN = 0 leaves the move to OFF pending, and in a back-to-back gap ends the transmission at once; the move to OFF, once taken,
ends the held commands with PATH_UNUSABLE. STARTUP ends in SYNCAL, SYNCAL in RX, IRCAL, a second try or FAULT, IRCAL and SETTLE in
RX, TXRX in RX or OFF. Where the spec leaves room it follows the model's choices in log entries 6, 7, 20 and 152. -/
def Obligations.RfPathStates : Prop :=
  ∀ (p : PathId) (s : State),
    (s.pst p = .off → s.clk.pll = true → s.activePlan.isSome = true → Gives (exec (.pathEnable p) s) (fun t =>
      t.pst p = .startup ∧ (t.rf p).due = s.clk.now + us 25 ∧ t.flag (RFx_CTRL_EN p) = true ∧ t.flag (RFx_STATE_FROZEN p) =
        (s.flag (RFx_STATE_FROZEN p) || (s.rf p).frozenAt.isNone) ∧
      OnlyRegs s t [RFx_CTRL p, RFx_STATE p, RFx_WIN p])) ∧
    ((s.pst p ≠ .off ∨ s.clk.pll = false) → s.activePlan.isSome = true → Gives (exec (.pathEnable p) s) (fun t =>
      t.pst p = s.pst p ∧ t.flag (RFx_CTRL_EN p) = true ∧ (t.rf p).pendOff = false ∧ OnlyRegs s t [RFx_CTRL p])) ∧
    (s.activePlan = none → exec (.pathEnable p) s = .next (s.discard (rfBase p))) ∧
    Gives (exec (.pathDisable p) s) (fun t => t.flag (RFx_CTRL_EN p) = false ∧
      t.pst p = (if s.pst p = .tx ∧ (s.rf p).gap = true then .txrx else s.pst p) ∧
      ((t.rf p).pendOff = true ↔ (s.rf p).pendOff = true ∨ (s.pst p ≠ .off ∧ s.pst p ≠ .fault)) ∧
      OnlyRegs s t [RFx_CTRL p, RFx_STATE p]) ∧
    ((s.rf p).pendOff = true → s.pst p ≠ .rxtx → s.pst p ≠ .tx → Gives (exec (.pathOffTaken p) s) (fun t =>
      t.pst p = .off ∧ (t.rf p).held = [] ∧ (t.rf p).pendOff = false ∧ t.fld (RFx_WIN_LOKHZ p) = 0 ∧
      t.fld (RFx_STATE_SYNDUE p) = s.fld (RFx_STATE_SYNDUE p) ∧ t.fld (RFx_STATE_IRCDUE p) = s.fld (RFx_STATE_IRCDUE p) ∧
      ((s.rf p).held ≠ [] → t.fld (RFx_TXSTAT_LAST p) = Code.PATH_UNUSABLE))) ∧
    (s.pst p = .startup → Gives (exec (.startupDone p) s) (fun t => t.pst p = .syncal ∧
      (t.rf p).due = max s.clk.now (s.rf p).due + us 150)) ∧
    (∀ temp : Int, s.pst p = .syncal →
      Gives (exec (.syncalDone p true temp) s) (fun t => t.pst p = (if s.flag (RFx_IQCORR_VALID p) then .rx else .ircal) ∧
        t.flag (RFx_STATE_SYNDUE p) = false ∧ t.flag (RFx_IRQ_CALDONE p) = true ∧
        t.fld (RFx_CALSTAT_SYNTEMP p) = unsignedOf 8 temp) ∧
      ((s.rf p).lockFails = 0 → Gives (exec (.syncalDone p false temp) s) (fun t => t.pst p = .syncal ∧
        (t.rf p).lockFails = 1)) ∧
      ((s.rf p).lockFails ≠ 0 → Gives (exec (.syncalDone p false temp) s) (fun t => t.pst p = .fault ∧
        t.flag (RFx_IRQ_FAULT p) = true ∧ (t.rf p).held = []))) ∧
    (∀ (irr : Nat) (g ph : Int), s.pst p = .ircal → Gives (exec (.ircalDone p irr g ph) s) (fun t => t.pst p = .rx ∧
      t.flag (RFx_STATE_IRCDUE p) = false ∧ t.flag (RFx_IRQ_CALDONE p) = true ∧ t.fld (RFx_CALSTAT_IRR p) = min irr 255 ∧
      t.fld (RFx_CALSTAT_IRCTEMP p) = s.fld (RFx_CALSTAT_TEMP p) ∧
      (220 ≤ irr → t.flag (RFx_IQCORR_VALID p) = true ∧ t.fld (RFx_IQCORR_GCORR p) = unsignedOf 12 g ∧
        t.fld (RFx_IQCORR_PCORR p) = unsignedOf 12 ph))) ∧
    (s.pst p = .settle → Gives (exec (.settleDone p) s) (fun t => t.pst p = .rx ∧
      t.clk.now = max s.clk.now (s.rf p).due)) ∧
    (s.pst p = .txrx → Gives (exec (.txrxDone p) s) (fun t => t.pst p = (if (s.rf p).pendOff then .off else .rx) ∧
      ((s.rf p).pendOff = false → (t.rf p).unfreezeAt = some (t.clk.now + us 4))))

/-- R19, R25–R28, R32, R43, R55, R62: what a write of SYNCREQ, IRCREQ, TUNEREQ, BOFFCLR and CNTCLR does; a window move, recorded in OFF
and FAULT, taken in RX and waiting elsewhere; a requested calibration and one forced 1 s after it fell due; the die temperature, of
which 10 °C of change make a calibration due; and the loss of lock. Where the spec leaves room it follows the model's choices in log
entries 16, 17, 19. -/
def Obligations.RfCalibrationAndMoves : Prop :=
  ∀ (p : PathId) (s : State),
    Gives (exec (.syncreq p) s) (fun t => t.flag (RFx_STATE_SYNDUE p) = true ∧ (t.rf p).syncReq = true ∧
      OnlyRegs s t [RFx_STATE p]) ∧
    Gives (exec (.ircreq p) s) (fun t => t.flag (RFx_STATE_IRCDUE p) = true ∧ (t.rf p).ircReq = true ∧
      OnlyRegs s t [RFx_STATE p]) ∧
    Gives (exec (.tunereq p) s) (fun t => t.flag (RFx_STATE_TUNEDUE p) = true ∧ t.fld (RFx_TUNSTAT_SRCHFAIL p) = 0 ∧
      OnlyRegs s t [RFx_STATE p, RFx_TUNSTAT p]) ∧
    Gives (exec (.boffclr p) s) (fun t => t.flag (RFx_STATE_BACKOFF p) = false ∧ t.flag (RFx_TUNSTAT_BACKOFF p) = false ∧
      t.flag (RFx_TUNSTAT_MISMATCH p) = false ∧ t.fld (RFx_TUNSTAT_SRCHFAIL p) = 0 ∧
      OnlyRegs s t [RFx_STATE p, RFx_TUNSTAT p]) ∧
    Gives (exec (.rfCntclr p) s) (fun t => t.fld (RFx_TXSTAT_UNLOCK_CNT p) = 0 ∧ t.fld (RFx_TXSTAT_CLAMP_CNT p) = 0 ∧
      t.fld (RFx_TXSTAT_TXLATE_CNT p) = 0 ∧ t.fld (RFx_TXSTAT_LAST p) = s.fld (RFx_TXSTAT_LAST p) ∧ t.blindUs p = 0 ∧
      OnlyRegs s t [RFx_TXSTAT p]) ∧
    (∀ w, s.hasWindow p w = false → exec (.windowMoveRequest p w) s = .next (s.discard (rfBase p))) ∧
    (∀ w, s.hasWindow p w = true → w < 16 → Gives (exec (.windowMoveRequest p w) s) (fun t =>
      ((s.pst p = .off ∨ s.pst p = .fault) → t.win p = w ∧ t.pst p = s.pst p ∧ OnlyRegs s t [RFx_STATE p]) ∧
      (s.pst p = .rx → t.win p = w ∧ t.pst p = (if s.flag (RFx_STATE_SYNDUE p) then .syncal else .settle) ∧
        (t.rf p).due = s.clk.now + us (if s.flag (RFx_STATE_SYNDUE p) then 150 else 40)) ∧
      (s.pst p ≠ .off → s.pst p ≠ .fault → s.pst p ≠ .rx → (t.rf p).winPend = some w ∧ OnlyRegs s t []))) ∧
    (∀ w, s.pst p = .rx → (s.rf p).winPend = some w → w < 16 → Gives (exec (.windowMove p) s) (fun t =>
      t.win p = w ∧ (t.rf p).winPend = none ∧ t.pst p = (if s.flag (RFx_STATE_SYNDUE p) then .syncal else .settle))) ∧
    (s.pst p = .rx → (s.rf p).winPend = none →
      ((s.rf p).syncReq = true → Gives (exec (.requestedCalStart p) s) (fun t => t.pst p = .syncal)) ∧
      ((s.rf p).syncReq = false → (s.rf p).ircReq = true →
        Gives (exec (.requestedCalStart p) s) (fun t => t.pst p = .ircal ∧ (t.rf p).ircReq = false))) ∧
    (∀ t0 : Nat, s.pst p = .rx → (s.rf p).winPend = none →
      ((s.rf p).synDueAt = some t0 → (∀ t1, (s.rf p).ircDueAt = some t1 → t0 ≤ t1) →
        (s.advanceTo (t0 + us 1000000)).noTxWithin p 162 = true →
        Gives (exec (.forcedCal p) s) (fun t => t.pst p = .syncal ∧ t0 + us 1000000 ≤ t.clk.now)) ∧
      ((∀ t1, (s.rf p).synDueAt = some t1 → max s.clk.now (t0 + us 1000000) < t1 + us 1000000) → (s.rf p).ircDueAt = some t0 →
        (s.advanceTo (t0 + us 1000000)).noTxWithin p 132 = true →
        Gives (exec (.forcedCal p) s) (fun t => t.pst p = .ircal ∧ t0 + us 1000000 ≤ t.clk.now))) ∧
    (∀ temp : Int, s.clocked = true → Gives (exec (.dieTempSample p temp) s) (fun t =>
      t.fld (RFx_CALSTAT_TEMP p) = unsignedOf 8 temp ∧
      t.flag (RFx_STATE_SYNDUE p) = (s.flag (RFx_STATE_SYNDUE p) ||
        decide (10 < (temp - s.sfld (RFx_CALSTAT_SYNTEMP p)).natAbs)) ∧
      t.flag (RFx_STATE_IRCDUE p) = (s.flag (RFx_STATE_IRCDUE p) ||
        decide (10 < (temp - s.sfld (RFx_CALSTAT_IRCTEMP p)).natAbs)) ∧
      t.pst p = s.pst p ∧ OnlyBlocks s t [rfBase p, baseTMR])) ∧
    (s.pst p ≠ .startup → s.pst p ≠ .syncal → s.pst p ≠ .off → s.pst p ≠ .fault → Gives (exec (.lossOfLock p) s) (fun t =>
      t.pst p = .syncal ∧ t.flag (RFx_IRQ_UNLOCK p) = true ∧
      t.fld (RFx_TXSTAT_UNLOCK_CNT p) = min (s.fld (RFx_TXSTAT_UNLOCK_CNT p) + 1) 255 ∧
      ((s.pst p = .rxtx ∨ s.pst p = .tx) → (s.rf p).held ≠ [] → t.fld (RFx_TXSTAT_LAST p) = Code.SYN_UNLOCK)))

/-- R39, R40, R42, R45, R62, R179, R272: a test command is held or refused with the status that R40 gives it; the held command that is
ready first is dropped with TX_LATE, ends with the status of R179, or RXTX starts with its first chip at its time; the first chip
leaves in its turn; the last chip ends in TXRX or, where the next command starts less than 20 µs later and in time, back-to-back; the
facets live again. Where the spec leaves room it follows the model's choices in log entries 13, 14, 15, 153, 161. -/
def Obligations.RfTransmission : Prop :=
  ∀ (p : PathId) (s : State),
    (∀ v : Word, (bitsOf v.toNat 31 16 = 0 ∨ 80 ≤ bitsOf v.toNat 8 2 ∨ bitsOf v.toNat 1 0 = 3) →
      exec (.txCommand p v) s = .next (s.discard (rfBase p))) ∧
    (∀ (v : Word) (code : Nat), bitsOf v.toNat 31 16 ≠ 0 → bitsOf v.toNat 8 2 < 80 → bitsOf v.toNat 1 0 ≠ 3 →
      TxStatus s p (s.testCmd p v) code → Gives (exec (.txCommand p v) s) (fun t => t.pst p = s.pst p ∧
        (code = Code.OK → (t.rf p).held = (s.rf p).held ++ [s.testCmd p v] ∧ OnlyRegs s t []) ∧
        (code ≠ Code.OK → (t.rf p).held = (s.rf p).held ∧ t.fld (RFx_TXSTAT_LAST p) = code ∧
          OnlyRegs s t [RFx_TXSTAT p, RFx_IRQ p]))) ∧
    (∀ c : TxCmd, s.pst p = .rx → s.firstReady (s.rf p).held = some c → (s.rf p).pendOff = false → (s.rf p).winPend = none →
      Gives (exec (.txReady p) s) (fun t =>
        let s1 := s.alignUs (c.tstart - 12).toNat
        let a : Int := s1.sqt
        let first := max c.tstart (a + 12)
        if (c.late : Int) < first - c.tstart then
          t.pst p = .rx ∧ (t.rf p).held = (s.rf p).held.erase c ∧ t.fld (RFx_TXSTAT_LAST p) = Code.TX_LATE ∧
            t.flag (RFx_IRQ_TXLATE p) = true ∧
            t.fld (RFx_TXSTAT_TXLATE_CNT p) = min (s.fld (RFx_TXSTAT_TXLATE_CNT p) + 1) 255
        else if s1.startRefusal p c ≠ Code.OK then
          t.pst p = .rx ∧ (t.rf p).held = (s.rf p).held.erase c ∧ t.fld (RFx_TXSTAT_LAST p) = s1.startRefusal p c ∧
            t.flag (RFx_IRQ_TXFAIL p) = true
        else t.pst p = .rxtx ∧ (t.rf p).due = t.clk.now + us 12 + us (first - a - 12).toNat ∧
          ∃ d : TxCmd, (t.rf p).held = d :: (s.rf p).held.erase c ∧ d.started = true ∧ d.first = first ∧ d.owner = c.owner ∧
            d.lenUs = c.lenUs)) ∧
    (∀ (c : TxCmd) (l : List TxCmd), (s.pst p = .rxtx ∨ (s.pst p = .tx ∧ (s.rf p).gap = true)) → (s.rf p).held = c :: l →
      s.inTurn (s.usOfCycle (s.rf p).due).toNat 5 0 = true → Gives (exec (.firstChip p) s) (fun t =>
        t.pst p = .tx ∧ (t.rf p).gap = false ∧ (t.rf p).held = c :: l ∧
        (t.rf p).due = max s.clk.now (s.rf p).due + us c.lenUs ∧ SameMem s t)) ∧
    (∀ c : TxCmd, s.pst p = .tx → (s.rf p).gap = false → (s.rf p).held = [c] → Gives (exec (.lastChip p) s) (fun t =>
      t.pst p = .txrx ∧ (t.rf p).held = [] ∧ t.fld (RFx_TXSTAT_LAST p) = Code.OK ∧ t.flag (RFx_IRQ_TXDONE p) = true ∧
      (t.rf p).due = max s.clk.now (s.rf p).due + us 8)) ∧
    (∀ c d : TxCmd, s.pst p = .tx → (s.rf p).gap = false → (s.rf p).held = [c, d] → (s.rf p).pendOff = false →
      d.tstart < c.first + c.lenUs + 20 → c.first + c.lenUs + 2 - d.tstart ≤ d.late → s.startRefusal p d = Code.OK →
      Gives (exec (.lastChip p) s) (fun t =>
        t.pst p = .tx ∧ (t.rf p).gap = true ∧ t.fld (RFx_TXSTAT_LAST p) = Code.OK ∧
        ∃ e : TxCmd, (t.rf p).held = [e] ∧ e.started = true ∧ e.owner = d.owner ∧ e.lenUs = d.lenUs ∧ d.tstart ≤ e.first ∧
          c.first + c.lenUs ≤ e.first)) ∧
    (∀ t0 t1 : Nat, s.pst p = .rx → (s.rf p).unfreezeAt = some t0 → (s.rf p).frozenAt = some t1 →
      Gives (exec (.facetsUnfreeze p) s) (fun t => t.flag (RFx_STATE_FROZEN p) = false ∧ (t.rf p).frozenAt = none ∧
        (t.rf p).blindCyc = (s.rf p).blindCyc + (max s.clk.now t0 - t1) ∧ OnlyBlocks s t [rfBase p, baseTMR]))

/-- R23, R24, R51–R56: in automatic mode CLIPTHR clipped samples step the gain down at the end of the 2 µs interval, and a window peak
that stays low for UPHOLD ms steps it up unless the path stepped down in that microsecond; a step flags 1 µs of the trunk ERASED, and
without its condition the command changes nothing. A return loss is recorded and one below 6 dB sets the back-off and makes a search
due; a search that is due starts in a granted window; at its end it adopts its codes at 6 dB or more, counts a failure below, and after
a third failure in a row none is due; a held write of RFx_TUNTX is then applied. Where the spec leaves room it follows the model's
choices in log entries 16, 18, 20. -/
def Obligations.RfGainAndTuner : Prop :=
  ∀ (p : PathId) (s : State),
    (∀ n, s.fld (RFx_GAIN_MODE p) = 0 → s.fld (RFx_GAIN_CLIPTHR p) ≤ n → s.fld (RFx_STATE_GAIN p) < 3 →
      Gives (exec (.gainStepDown p n) s) (fun t => t.fld (RFx_STATE_GAIN p) = s.fld (RFx_STATE_GAIN p) + 1 ∧
        t.clk.now = s.clipBoundary ∧ (t.rf p).stepDownAt = some t.clk.now ∧
        ⟨.erased, t.clk.now, t.clk.now + us 1⟩ ∈ (t.rf p).marks ∧ OnlyBlocks s t [rfBase p, baseTMR])) ∧
    (∀ n, (s.fld (RFx_GAIN_MODE p) ≠ 0 ∨ n < s.fld (RFx_GAIN_CLIPTHR p) ∨ 3 ≤ s.fld (RFx_STATE_GAIN p)) →
      exec (.gainStepDown p n) s = .next s) ∧
    (∀ n, s.fld (RFx_GAIN_MODE p) = 0 → s.fld (RFx_GAIN_UPHOLD p) ≤ n → 0 < s.fld (RFx_STATE_GAIN p) → s.steppedDown p = false →
      Gives (exec (.gainStepUp p n) s) (fun t => t.fld (RFx_STATE_GAIN p) = s.fld (RFx_STATE_GAIN p) - 1 ∧ t.clk = s.clk ∧
        ⟨.erased, s.clk.now, s.clk.now + us 1⟩ ∈ (t.rf p).marks ∧ OnlyRegs s t [RFx_STATE p])) ∧
    (∀ n, (s.fld (RFx_GAIN_MODE p) ≠ 0 ∨ n < s.fld (RFx_GAIN_UPHOLD p) ∨ s.fld (RFx_STATE_GAIN p) = 0 ∨ s.steppedDown p = true) →
      exec (.gainStepUp p n) s = .next s) ∧
    (∀ rl, s.pst p = .tx → (s.rf p).gap = false → 0 ≤ entryNom (s.rf p).airWord → (s.rf p).nextRlAt ≤ (s.rf p).due →
      Gives (exec (.returnLossMeasure p rl) s) (fun t => t.fld (RFx_TUNSTAT_RL p) = min rl 255 ∧ t.pst p = .tx ∧
        (t.rf p).nextRlAt = (s.rf p).nextRlAt + us 64 ∧ OnlyBlocks s t [rfBase p, baseTMR] ∧
        (rl < 24 → t.flag (RFx_TUNSTAT_MISMATCH p) = true ∧ t.flag (RFx_TUNSTAT_BACKOFF p) = true ∧
          t.flag (RFx_STATE_BACKOFF p) = true ∧ t.flag (RFx_IRQ_MISMATCH p) = true ∧
          t.flag (RFx_STATE_TUNEDUE p) = true ∧
          (s.flag (RFx_STATE_BACKOFF p) = false → (t.rf p).halved = true ∧ (t.rf p).dgain = (s.rf p).dgain / 2)) ∧
        (24 ≤ rl → t.fld (RFx_STATE_BACKOFF p) = s.fld (RFx_STATE_BACKOFF p)))) ∧
    (s.pst p = .rx → s.tuneOpen p = true → s.searchDue p = true → (s.rf p).winPend = none →
      Gives (exec (.tunerSearchStart p) s) (fun t => t.pst p = .tune ∧ (t.rf p).due = s.clk.now + us 372 ∧
        (t.rf p).tuneUntil = none ∧ (t.rf p).entry = s.probeEntry p ∧ OnlyRegs s t [RFx_STATE p])) ∧
    (∀ rl ser shn : Nat, s.pst p = .tune → (s.rf p).tunHeld = none → ser < 64 → shn < 64 →
      Gives (exec (.tunerSearchDone p rl ser shn) s) (fun t => t.pst p = .rx ∧ t.flag (RFx_IRQ_SRCHDONE p) = true ∧
        t.fld (RFx_TUNSTAT_BEST_RL p) = min rl 255 ∧ (t.rf p).unfreezeAt = some (t.clk.now + us 4) ∧
        (24 ≤ rl → t.fld (RFx_TUNTX_SER p) = ser ∧ t.fld (RFx_TUNTX_SHN p) = shn ∧ t.flag (RFx_STATE_BACKOFF p) = false ∧
          t.flag (RFx_STATE_TUNEDUE p) = false ∧ t.fld (RFx_TUNSTAT_SRCHFAIL p) = 0 ∧
          t.flag (RFx_TUNSTAT_MISMATCH p) = false ∧ t.flag (RFx_TUNSTAT_MARGINAL p) = decide (rl < 40)) ∧
        (rl < 24 → t.rd (RFx_TUNTX p) = s.rd (RFx_TUNTX p) ∧ t.flag (RFx_IRQ_SRCHFAIL p) = true ∧
          t.fld (RFx_TUNSTAT_SRCHFAIL p) = min 3 (s.fld (RFx_TUNSTAT_SRCHFAIL p) + 1) ∧
          t.flag (RFx_STATE_TUNEDUE p) = (s.flag (RFx_STATE_TUNEDUE p) && decide (s.fld (RFx_TUNSTAT_SRCHFAIL p) < 2))))) ∧
    (∀ (rl ser shn : Nat) (v : Word), s.pst p = .tune → (s.rf p).tunHeld = some v →
      Gives (exec (.tunerSearchDone p rl ser shn) s) (fun t => t.pst p = .rx ∧ t.rd (RFx_TUNTX p) = v ∧ (t.rf p).tunHeld = none))


/-! ### Prism and rays (chapter 02) -/

/-- R75, R81, R82, R84, R86, R87, R92: a ray retune is accepted or discarded, and takes effect at its boundary; the firmware energy meter
is started once, and reports the share of VALID samples, MEAN and PEAK; the firmware noise probe is started, refused or counted as a
collision, and counts an FFT without a flagged sample; CNTCLR. R88, R89: a block of Loupe that keeps the mask changes nothing but its
count, one that does not is recorded, and under an ABORT mask ends the frame with MASK_FAIL. R79: a HELD ray ends with its HOLD, which
its frames do not survive, or once no frame is on it. R80: the one waiting ray starts where its weight fits the budget, and not before.
Where the spec leaves room it follows the model's choices in log entries 21, 147, 149, 151 and 154. -/
def Obligations.Prism : Prop :=
  (∀ s : State,
     (∀ v : Word, let r := s.ray s.selPath s.selRay
       ((r.st = .live ∨ r.st = .parked) → s.tuneOk s.selPath r v.toNat = true → Gives (exec (.rayRetuneWrite v) s) (fun t =>
         t.ray s.selPath s.selRay = { r with tune := some (v.toNat, s.trunkBoundary) } ∧ OnlyRegs s t [])) ∧
       (¬(r.st = .live ∨ r.st = .parked) ∨ s.tuneOk s.selPath r v.toNat = false →
         exec (.rayRetuneWrite v) s = .next (s.discard basePRISM))) ∧
     (∀ (p : PathId) (n fr t0 : Nat), (s.ray p n).tune = some (fr, t0) → Gives (exec (.rayCentreChange p n) s) (fun t =>
       (t.ray p n).par = { (s.ray p n).par with fr := fr } ∧ (t.ray p n).tune = none ∧ (t.ray p n).st = (s.ray p n).st ∧
       t0 ≤ t.clk.now ∧ OnlyBlocks s t [baseTMR])) ∧
     (∀ v : Word, let p := pathOf (bitsOf v.toNat 24 24)
       (bitsOf v.toNat 15 0 = 0 → exec (.energyMeasureCmd v) s = .next (s.discard basePRISM)) ∧
       (bitsOf v.toNat 15 0 ≠ 0 → (s.rf p).em.isSome = true → Gives (exec (.energyMeasureCmd v) s) (fun t =>
         t.fld PRISM_CNT_COLL = min (s.fld PRISM_CNT_COLL + 1) 255 ∧ t.rf p = s.rf p ∧ OnlyRegs s t [PRISM_CNT])) ∧
       (bitsOf v.toNat 15 0 ≠ 0 → (s.rf p).em = none → Gives (exec (.energyMeasureCmd v) s) (fun t =>
         t.flag (emBusy p) = true ∧ OnlyRegs s t [(emBusy p).addr] ∧
         (t.rf p).em.any (fun m => m.ray == bitsOf v.toNat 23 16 && m.durUs == bitsOf v.toNat 15 0 &&
           m.readyAt == s.clk.now + us (bitsOf v.toNat 15 0 + 2)) = true))) ∧
     (∀ (p : PathId) (mean peak : QdB) (m : Meter), (s.rf p).em = some m →
       Gives (exec (.energyMeasureDone p mean peak) s) (fun t => (t.rf p).em = none ∧ t.flag (emBusy p) = false ∧
         t.flag (emIrq p) = true ∧ m.readyAt ≤ t.clk.now ∧ OnlyBlocks s t [basePRISM, baseTMR] ∧
         (let r := (s.advanceTo m.readyAt).measured p m.ray m.t0 m.durUs
          let n := r.1.foldl (fun c w => c + (w.2 - w.1)) 0
          (n = 0 → t.fld (emPct p) = 0 ∧ t.fld (emMean p) = 0x800 ∧ t.fld (emPeak p) = 0x800) ∧
          (n ≠ 0 → (100 * n / r.2 ≤ 100 → t.fld (emPct p) = 100 * n / r.2) ∧ t.fld (emMean p) = unsignedOf 12 mean ∧
            t.fld (emPeak p) = unsignedOf 12 (if r.1.any (fun w => decide (8 ≤ w.2 - w.1)) then peak else mean))))) ∧
     (∀ v : Word, let p := pathOf (bitsOf v.toNat 24 24)
       let n := bitsOf v.toNat 23 16
       (bitsOf v.toNat 11 0 = 0 → exec (.probeCmd v) s = .next (s.discard basePRISM)) ∧
       (bitsOf v.toNat 11 0 ≠ 0 → s.prism.probe.isSome = true → Gives (exec (.probeCmd v) s) (fun t =>
         t.fld PRISM_CNT_COLL = min (s.fld PRISM_CNT_COLL + 1) 255 ∧ t.prism = s.prism ∧ OnlyRegs s t [PRISM_CNT])) ∧
       (bitsOf v.toNat 11 0 ≠ 0 → s.prism.probe = none → s.probeRayOk p n = false → Gives (exec (.probeCmd v) s) (fun t =>
         t.flag PRISM_PRBSTAT_BADRAY = true ∧ t.prism = s.prism ∧ OnlyRegs s t [PRISM_PRBSTAT])) ∧
       (bitsOf v.toNat 11 0 ≠ 0 → s.prism.probe = none → s.probeRayOk p n = true → Gives (exec (.probeCmd v) s) (fun t =>
         t.flag PRISM_PRBSTAT_BUSY = true ∧ t.flag PRISM_PRBSTAT_OWNER = false ∧ t.flag PRISM_PRBSTAT_BADRAY = false ∧
         t.fld PRISM_PRBSTAT_NBINS = 2 ^ ((s.ray p n).par.k - 1) ∧ OnlyRegs s t [PRISM_PRBSTAT] ∧
         t.prism.probe.any (fun r => r.path == p && r.ray == n && r.avg == bitsOf v.toNat 11 0 &&
           r.nextAt == s.clk.now + us 40) = true))) ∧
     (∀ r : Probe, s.prism.probe = some r → r.ended = false → Gives (exec .probeFft s) (fun t =>
       let k := (s.ray r.path r.ray).par.k
       let i := sampleFrom k (r.nextAt - us 40)
       let good := (s.advanceTo r.nextAt).allValid r.path r.ray i (i + 2 ^ k - 1)
       t.prism.probe = some { r with starts := r.starts + 1, nextAt := r.nextAt + us 20, kept := if good then r.kept + 1 else r.kept } ∧
       r.nextAt ≤ t.clk.now ∧ OnlyBlocks s t [baseTMR])) ∧
     Gives (exec .prismCntclr s) (fun t => t.rd PRISM_CNT = 0 ∧ t.fld PRISM_LOUPES_FAILCNT = 0 ∧ t.fld PRISM_LOUPES_NOVERD = 0 ∧
       t.fld PRISM_LOUPEG_FAILCNT = 0 ∧ t.fld PRISM_LOUPEG_NOVERD = 0 ∧
       OnlyRegs s t [PRISM_CNT, PRISM_LOUPES, PRISM_LOUPEG])) ∧
  (∀ (p : PathId) (s : State),
     (∀ (m : PlanMask) (levels : List Int), s.pst p = .tx → (s.rf p).gap = false → (s.rf p).loupe.mask = some m →
       s.loupeFfts p m ≠ 0 → levels.length = m.segs.length →
       ((∀ e ∈ m.segs.zip levels, e.1.excess e.2 (m.refLevel levels) ≤ 0) →
         Gives (exec (.loupeBlockCheck p levels) s) (fun t => t.pst p = .tx ∧ (t.rf p).held = (s.rf p).held ∧
           (t.rf p).loupe.blocks = (s.rf p).loupe.blocks + 1 ∧ OnlyBlocks s t [baseTMR])) ∧
       (∀ (seg : Nat) (ex : Int), worstSeg (m.refLevel levels) 0 (m.segs.zip levels) = some (seg, ex) → 0 < ex → m.maskid < 8 →
         seg < 16 → (s.rf p).held ≠ [] → Gives (exec (.loupeBlockCheck p levels) s) (fun t =>
           t.fld (loupeMask p) = m.maskid ∧ t.fld (loupeSeg p) = seg ∧ t.fld (loupeExcess p) = min ex.toNat 255 ∧
           t.flag (loupeIrq p) = true ∧ t.fld (loupeFail p) = min (s.fld (loupeFail p) + 1) 255 ∧
           (m.abort = true → t.pst p = .txrx ∧ t.fld (RFx_TXSTAT_LAST p) = Code.MASK_FAIL) ∧
           (m.abort = false → t.pst p = .tx ∧ (t.rf p).held = (s.rf p).held)))) ∧
     (∀ n : Nat, (s.ray p n).st = .held → Gives (exec (.holdExpire p n) s) (fun t =>
       (t.ray p n).st ≠ .held ∧ t.fld PRISM_CNT_HOLDEXP = min (s.fld PRISM_CNT_HOLDEXP + 1) 255 ∧
       t.flag PRISM_IRQ_HOLDEXP = true ∧ (∀ f ∈ s.facetsOn p n, (s.fct f).st.mid = true → (t.fct f).st.mid = false) ∧
       BlocksOnly s t [basePRISM, baseFACET, baseBIST, baseTMR])) ∧
     (∀ n : Nat, (s.ray p n).st = .held → s.rayBusy p n = false → Gives (exec (.heldRayRelease p n) s) (fun t =>
       (t.ray p n).st ≠ .held ∧ OnlyBlocks s t [basePRISM])) ∧
     (∀ (n : Nat) (par : RayPar), (s.ray p n).st = .unused → (s.ray p n).next = some par →
       (∀ m, m ≠ n → (s.ray p m).next = none) → Gives (exec (.rayStartDeferred p) s) (fun t =>
         (if (s.startRay p n par).usedWeight p ≤ s.rayBudget p then
           (t.ray p n).par = par ∧ ((t.ray p n).st = .live ∨ (t.ray p n).st = .parked)
         else t.ray p n = s.ray p n) ∧
         OnlyBlocks s t [basePRISM, baseBIST])))


/-! ### Facets (chapter 03) -/

/-- R99–R101, R104, R109, R124, R587: a facet in SEARCH detects a preamble where the last symbols were VALID and correlate above
LOCKTHR, and otherwise does not; the SFD takes a slot, and a frame without one, outside ±FCAP or without its SFD in time is lost; a
decoded header leads to PAYLOAD or loses the frame; a frozen or retuned sample, or 16 weak symbols, lose it; an OLD facet whose frame is
over is OLD no longer. R112, R118–R120, R125, R588: octets go into the slot as they are decided; a frame that ends leaves its status in
its slot, is counted, and is posted or handed to the MAC; slots pass through the done queue and the free list in order; CNTCLR. Where
the spec leaves room it follows the model's choices in log entries 23, 24, 25 and 147. -/
def Obligations.Facets : Prop :=
  (∀ (f : Nat) (s : State),
     (∀ (rssi : QdB) (corr : Nat), s.mayDetect f = true → (s.fct f).alloc.prof.lockthr < corr →
       Gives (exec (.preambleDetect f rssi corr) s) (fun t =>
         (t.fct f).st = .sync ∧ (t.fct f).alloc = (s.fct f).alloc ∧
         (t.fct f).frame = some { det := s.clk.now, rssi := rssi, sfdDue := s.clk.now + sfdTimeout (s.fct f).alloc.prof } ∧
         OnlyRegs s t [])) ∧
     (∀ (rssi : QdB) (corr : Nat), (s.mayDetect f = false ∨ corr ≤ (s.fct f).alloc.prof.lockthr) →
       exec (.preambleDetect f rssi corr) s = .next s) ∧
     (∀ (fr : RxFrame) (ts : Nat) (fofs : Int), (s.fct f).st = .sync → (s.fct f).frame = some fr → s.flagLoss f = none →
       let p := (s.fct f).alloc.path
       let r := (s.fct f).alloc.ray
       let ok := fcapOk (s.ray p r).par (s.fct f).alloc.prof.rcode fofs
       (ok = false → Gives (exec (.sfdFound f ts fofs) s) (fun t => LostFrame s t f 5)) ∧
       (ok = true → s.facet.free = [] → Gives (exec (.sfdFound f ts fofs) s) (fun t => LostFrame s t f 12 ∧
         t.flag FACET_IRQ_LBFULL = true)) ∧
       (∀ (n : Nat) (l : List Nat), ok = true → s.facet.free = n :: l → Gives (exec (.sfdFound f ts fofs) s) (fun t =>
         (t.fct f).st = .header ∧ t.facet.free = l ∧ t.fld FACET_LBSTAT_FREE = l.length % 4096 ∧
         (t.fct f).frame = some { fr with slot := some n, first := s.clk.now - rayDelay (s.ray p r).par.k,
                                          tstamp := s.stampOf p r ts, fofs := fofs } ∧
         OnlyRegs s t [FACET_LBSTAT, FACET_IRQ]))) ∧
     (∀ fr : RxFrame, (s.fct f).st = .sync → (s.fct f).frame = some fr → (s.advanceTo fr.sfdDue).flagLoss f = none →
       Gives (exec (.sfdTimeout f) s) (fun t => LostFrame s t f 13 ∧ fr.sfdDue ≤ t.clk.now)) ∧
     (∀ (fr : RxFrame) (phr chk rate len : Nat) (mdsss qpsk : Bool) (bad : Option Nat), (s.fct f).st = .header →
       (s.fct f).frame = some fr → s.flagLoss f = none → HeaderSays (s.fct f).alloc.prof phr chk mdsss bad len qpsk →
       (∀ k, bad = some k → Gives (exec (.headerDecoded f phr chk rate mdsss) s) (fun t => LostFrame s t f k)) ∧
       (bad = none → Gives (exec (.headerDecoded f phr chk rate mdsss) s) (fun t => (t.fct f).st = .payload ∧
         (t.fct f).frame.any (fun x => x.len == len && x.qpsk == qpsk && x.slot == fr.slot && x.hdrOk) = true ∧
         OnlyRegs s t []))) ∧
     (∀ fr : RxFrame, (s.fct f).st.mid = true → (s.fct f).frame = some fr →
       (∀ t0 c0 t1 c1 : Nat, s.flagLoss f = some (t0, c0) → (s.advanceTo t0).flagLoss f = some (t1, c1) →
         t1 ≤ max s.clk.now t0 → Gives (exec (.frameLostFlag f) s) (fun t => LostFrame s t f (facetCnt c1) ∧
           (c1 = Code.BLINDED ∨ c1 = Code.CAL_FROZEN ∨ c1 = Code.RETUNED))) ∧
       (s.flagLoss f = none → exec (.frameLostFlag f) s = .next s) ∧
       (∀ (corrs : List Nat) (fofs : Int), s.flagLoss f = none →
         let a := (s.fct f).alloc
         let lost := weakRun a.prof.lockthr corrs || !(fcapOk (s.ray a.path a.ray).par a.prof.rcode fofs)
         (lost = true → Gives (exec (.syncLost f corrs fofs) s) (fun t => LostFrame s t f 5)) ∧
         (lost = false → exec (.syncLost f corrs fofs) s = .next s))) ∧
     ((s.fct f).old = true → (s.fct f).st.mid = false → Gives (exec (.oldFacetFinish f) s) (fun t => (t.fct f).old = false ∧
       (t.fct f).st.mid = false ∧ OnlyBlocks s t [baseFACET, baseBIST]))) ∧
  ((∀ (f n : Nat) (octets : List Byte) (s : State) (fr : RxFrame), (s.fct f).st = .payload → (s.fct f).frame = some fr →
     fr.slot = some n → s.flagLoss f = none → Gives (exec (.octetRelease f octets) s) (fun t =>
       let l := octets.take (releaseRoom (s.fct f).alloc.prof fr)
       let a := slotAddr n + 0x20 + fr.decided
       t.memBytes a l.length = l ∧ (∀ x, (x < a ∨ a + l.length ≤ x) → t.memRd x = s.memRd x) ∧
       (t.fct f).frame = some { fr with decided := fr.decided + l.length } ∧ BlocksOnly s t [])) ∧
   (∀ (f crc n : Nat) (octets : List Byte) (snr : QdB) (s : State) (fr : RxFrame), (s.fct f).st = .payload →
     (s.fct f).frame = some fr → fr.slot = some n → fr.decided ≤ fr.len → fr.len ≤ 255 →
     (s.advanceTo fr.endDue).flagLoss f = none →
     Gives (exec (.frameEnd f crc octets snr) s) (fun t =>
       let ok := frameOk (s.fct f).alloc.prof (t.memBytes (slotAddr n + 0x20) fr.len) crc
       (t.fct f).frame = none ∧ (t.fct f).st.mid = false ∧ t.memRd (slotAddr n) = (if ok then 0 else 1) ∧
       (∀ x, (x < slotAddr n ∨ slotAddr n + 384 ≤ x) → t.memRd x = s.memRd x) ∧
       BlocksOnly s t [baseFACET, baseMAC, baseTMR] ∧
       t.fld (FACET_CNTn_COUNT (if ok then 0 else 1)) =
         min (s.fld (FACET_CNTn_COUNT (if ok then 0 else 1)) + 1) 0xffffffff ∧
       (((s.fct f).alloc.prof.phy = 0 ∨ s.flag MAC_CTRL_EN = false) → ok = true → t.facet.doneq = s.facet.doneq ++ [n]) ∧
       ((s.fct f).alloc.prof.phy ≠ 0 → s.flag MAC_CTRL_EN = true → ok = true →
         (tblFind t.mac.frames n).any (fun m => m.phase == .landed && m.facet == f && m.len == fr.len) = true) ∧
       (ok = false → s.flag FACET_CTRL_KEEPBAD = false → t.facet.free = s.facet.free ++ [n]))) ∧
   (∀ s : State,
     (s.facet.doneq = [] → Gives (exec .doneqRead s) (fun t => t.rdata = 0 ∧ t.facet = s.facet ∧ OnlyRegs s t [])) ∧
     (∀ (n : Nat) (l : List Nat), s.facet.doneq = n :: l → n < 2048 → Gives (exec .doneqRead s) (fun t =>
       t.rdata.toNat = 2 ^ 31 + n ∧ t.facet.doneq = l ∧ t.facet.fw = s.facet.fw ++ [n] ∧ OnlyRegs s t [FACET_LBSTAT])) ∧
     (∀ v : Word, v.toNat % 2048 ∈ s.facet.fw → Gives (exec (.lbfree v) s) (fun t =>
       t.facet.free = s.facet.free ++ [v.toNat % 2048] ∧ t.facet.fw = s.facet.fw.erase (v.toNat % 2048) ∧
       OnlyRegs s t [FACET_LBSTAT])) ∧
     (∀ v : Word, v.toNat % 2048 ∉ s.facet.fw → exec (.lbfree v) s = .next (s.discard baseFACET)) ∧
     Gives (exec .facetCntclr s) (fun t => (∀ n, n < 14 → t.rd (FACET_CNTn n) = 0) ∧
       OnlyRegs s t ((List.range 14).map FACET_CNTn))))


/-! ### Ridge links (chapters 04 and 08) -/

/-- R139, R140, R144, R154: COMPUTE builds a loading table from the link's signal and noise, and without either builds none; OFFER
queues the table last built under the next LTID, and refuses one with NOLINK; RESET returns to the base loading; each is discarded for
no RL2 neighbour. R285, R302: an entry posted to the ridge pool waits, fails or is discarded, comes back from the done queue, and expires.
R86, R139, R290: a probe that has ended gives its bins. Where the spec leaves room it follows the model's choices in log entries 30, 31. -/
def Obligations.RidgeLoadingAndEntries : Prop :=
  (∀ s : State, let n := s.selNb
     let x := s.nb n
     let ncode := (s.nbProf n).ncode
     let noise := x.probe.filter (fun p => p.1.length == nSub ncode)
     (s.rlCmdOk = false → exec .compute s = .next (s.discard baseSEQ) ∧ exec .offer s = .next (s.discard baseSEQ) ∧
       exec .neighbourReset s = .next (s.discard baseSEQ)) ∧
     (s.rlCmdOk = true →
       ((noise = none ∨ x.sig = []) → Gives (exec .compute s) (fun t => (t.nb n).tab = x.tab ∧
         (t.nb n).lfld SEQ_RLLSTAT_NOPROBE = (if noise = none then 1 else 0) ∧
         (t.nb n).lfld SEQ_RLLSTAT_NOEST = (if x.sig = [] then 1 else 0) ∧ (t.nb n).lfld SEQ_RLLSTAT_DONE = 1 ∧
         t.flag SEQ_RLIRQ_COMPDONE = true ∧ OnlyRegs s t [SEQ_RLIRQ])) ∧
       (∀ p t0, noise = some (p, t0) → x.sig ≠ [] → Gives (exec .compute s) (fun t =>
         let codes := s.loadTable ncode x.sig p
         (t.nb n).tab = codes ∧ (t.nb n).lfld SEQ_RLLSTAT_G = tableG codes % 2 ^ 11 ∧
         (t.nb n).lfld SEQ_RLLSTAT_NOLINK = (if tableG codes < 8 then 1 else 0) ∧ (t.nb n).lfld SEQ_RLLSTAT_NOPROBE = 0 ∧
         (t.nb n).lfld SEQ_RLLSTAT_NOEST = 0 ∧ (t.nb n).lfld SEQ_RLLSTAT_DONE = 1 ∧ t.flag SEQ_RLIRQ_COMPDONE = true ∧
         OnlyRegs s t [SEQ_RLIRQ])) ∧
       (x.lfld SEQ_RLLSTAT_NOLINK = 1 → Gives (exec .offer s) (fun t => (t.nb n).lfld SEQ_RLLSTAT_REFUSED = 1 ∧
         (t.nb n).queued = x.queued ∧ (t.nb n).off = x.off ∧ (t.nb n).ltid = x.ltid ∧ OnlyRegs s t [])) ∧
       (x.lfld SEQ_RLLSTAT_NOLINK = 0 → Gives (exec .offer s) (fun t =>
         let l := x.ltid % 15 + 1
         let codes := (List.range (nSub ncode)).map (fun i => x.tab.getD i 0)
         (t.nb n).lfld SEQ_RLLSTAT_REFUSED = 0 ∧ (t.nb n).ltid = l ∧ (t.nb n).off = some (l, codes) ∧
         (t.nb n).queued = x.queued ++ [.load l codes] ∧ (t.nb n).tx = x.tx ∧ (t.nb n).cur = x.cur ∧ OnlyRegs s t [])) ∧
       Gives (exec .neighbourReset s) (fun t => t.nb n = { x with tx := (0, []), cur := (0, []), off := none,
                                                                  queued := x.queued ++ [.load 0 []] } ∧
         OnlyRegs s t []))) ∧
  (∀ s : State,
     (∀ v : Word, let i := v.toNat % 64
       let a := s.ridgeAddr i
       let nb := s.memLe (a + 1) 1
       let bad := s.ridgeBad a (s.nbProf nb).phy = true
       let free := i < s.fld SEQ_TXPOOL_COUNT ∧ (∀ x ∈ s.seq.ridgeq, x.ent ≠ i) ∧ (∀ x ∈ s.seq.ridgeDone, x.1 ≠ i)
       let ends := fun (c : Nat) => Gives (exec (.ridgeTxPost v) s) (fun t => t.seq.ridgeq = s.seq.ridgeq ∧
         t.seq.ridgeDone = s.seq.ridgeDone ++ [(i, c)] ∧ t.flag SEQ_IRQ_TXDONE = true ∧
         (∀ y, t.memRd y = if y = a then BitVec.ofNat 8 c else s.memRd y) ∧ BlocksOnly s t [baseSEQ])
       (¬free → exec (.ridgeTxPost v) s = .next (s.discard baseSEQ)) ∧
       (free → bad → ends Code.FMT_BAD) ∧
       (free → ¬bad → s.planNb nb = none → ends Code.NB_GONE) ∧
       (free → ¬bad → s.planNb nb ≠ none → Gives (exec (.ridgeTxPost v) s) (fun t => OnlyRegs s t [] ∧
         t.seq.ridgeDone = s.seq.ridgeDone ∧
         t.seq.ridgeq = s.seq.ridgeq ++ [{ ent := i, nb := nb, rate := s.memLe (a + 2) 1, len := s.memLe (a + 4) 2,
                                           expiry := s.memLe (a + 8) 4 }]))) ∧
     (s.seq.ridgeDone = [] → Gives (exec .ridgeTxdoneqRead s) (fun t => t.rdata = 0 ∧ t.seq = s.seq ∧ OnlyRegs s t [])) ∧
     (∀ (e st : Nat) (l : List (Nat × Nat)), s.seq.ridgeDone = (e, st) :: l → e < 64 → st < 256 →
       Gives (exec .ridgeTxdoneqRead s) (fun t => t.rdata.toNat = 2 ^ 31 + 2 ^ 16 * st + e ∧ t.seq.ridgeDone = l ∧
         OnlyRegs s t [])) ∧
     (∀ (e : Nat) (x : RidgeEnt), s.seq.ridgeq.find? (fun x => x.ent == e) = some x → x.sending = false →
       Gives (exec (.rlEntryExpire e) s) (fun t => t.seq.ridgeDone = s.seq.ridgeDone ++ [(e, Code.RL_EXPIRED)] ∧
         t.seq.ridgeq = s.seq.ridgeq.filter (fun y => y.ent != e) ∧ t.flag SEQ_IRQ_TXDONE = true ∧
         (∀ y, t.memRd y = if y = s.ridgeAddr e then BitVec.ofNat 8 Code.RL_EXPIRED else s.memRd y) ∧
         BlocksOnly s t [baseSEQ, baseTMR])) ∧
     (∀ (bins : List Int) (r : Probe) (q : Plan), s.prism.probe = some r → r.ended = true → s.activePlan = some q →
       Gives (exec (.probeDone bins) s) (fun t => t.prism.probe = none ∧ t.flag PRISM_PRBSTAT_BUSY = false ∧
         t.flag PRISM_PRBSTAT_PARTIAL = decide (r.kept < r.avg) ∧ t.fld PRISM_PRBSTAT_VALID = r.kept % 4096 ∧
         t.flag PRISM_IRQ_PRBDONE = true ∧ (r.seqOwned = true → t.flag SEQ_IRQ_PROBEDONE = true) ∧
         (∀ i, i < 64 → i < r.nbins → (t.rd (PRISM_PRBn i)).toNat = unsignedOf 12 (bins.getD i 0)) ∧
         (∀ n ∈ q.neighbours, n.path = r.path → n.ray = r.ray →
           (t.nb n.nb).probe = some ((List.range r.nbins).map (fun i => bins.getD i 0), s.clk.now)) ∧
         OnlyBlocks s t [basePRISM, baseSEQ])))

/-- R129, R148: a ridge frame is detected on its LIVE ray while the link listens, and lost 400 µs later without a header. R132, R143,
R148, R149: a header with a far clock, a wrong check or a reserved value loses the frame, a full ring too; an unknown LTID marks it; one
that names the offer confirms it. R104, R134, R141, R145, R149: a frame is lost after 16 weak pilots; at its end a frame that passes its
check goes to the receive ring, a keepalive to none, a LOAD is adopted and a QUIET bars the link; others are counted as CRC_FAIL. R145,
R154: the quiet interval ends; TAIL and CNTCLR. Where the spec leaves room it follows the model's choices in log entries 24, 147, 158,
159, 160. -/
def Obligations.RidgeReception : Prop :=
  ∀ (p : PathId) (s : State),
    (∀ (recn tstamp : Nat) (cfo : Int) (r : SchedRec) (n : PlanNeighbour), s.sched recn = some r → r.kind = 3 →
      s.planNb r.nb = some n → s.rlRx n.path = none → s.rayLive n.path n.ray = true →
      flagRank (s.flagAt n.path n.ray (sampleAt (s.ray n.path n.ray).par.k s.clk.now)) < 2 → cfo.natAbs ≤ 50000 →
      s.listens r = true → Gives (exec (.rlSDetect recn tstamp cfo) s) (fun t => OnlyRegs s t [] ∧
        t.rlRx n.path = some { recn := recn, nb := r.nb, at_ := s.clk.now,
                               tstamp := s.rlStamp n.path n.ray (s.profOf n.profid).phy tstamp % 2 ^ 48 })) ∧
    (∀ x, s.rlRx p = some x → x.hdr = false → (s.advanceTo (x.at_ + us 400)).rlFlagged p x = none →
      Gives (exec (.rlNolock p) s) (fun t => t.rlRx p = none ∧ x.at_ + us 400 ≤ t.clk.now ∧
        CountsOne s t (SEQ_RLCNTn_COUNT 9) ∧ OnlyBlocks s t [baseSEQ, baseTMR])) ∧
    (∀ (x : RidgeRx) (hdr : Word) (chk : Nat) (rho : Int), s.rlRx p = some x → x.hdr = false → s.rlFlagged p x = none →
      let prof := s.nbProf x.nb
      let h := hdr.toNat
      let far := rhoMax prof < rho.natAbs
      let e := exec (.rlHeader p hdr chk rho) s
      let loses := fun (k : Nat) => Gives e (fun t => t.rlRx p = none ∧ CountsOne s t (SEQ_RLCNTn_COUNT k) ∧
        OnlyBlocks s t [baseSEQ])
      let phrBad := Gives e (fun t => CountsOne s t (SEQ_RLCNTn_COUNT 3) ∧ OnlyBlocks s t [baseSEQ] ∧
        (t.rlRx p).isSome = s.flag SEQ_RLCFG_KEEPBAD ∧ ∀ y, t.rlRx p = some y → y.hdr = true ∧ y.lost = some Code.PHR_BAD)
      (far → loses 10) ∧
      (¬far → prof.phy = 5 → crc8x32 h ≠ chk → loses 2) ∧
      (¬far → prof.phy = 5 → crc8x32 h = chk → rl2HdrBad h = true → phrBad) ∧
      (¬far → prof.phy ≠ 5 → h % 256 = 0 → phrBad) ∧
      (¬far → prof.phy ≠ 5 → h % 256 ≠ 0 → (s.ringFull p = true → loses 11) ∧
        (s.ringFull p = false → x.ltid = 0 → Gives e (fun t => OnlyBlocks s t [baseSEQ] ∧
          (t.rlRx p).any (fun y => y.hdr && y.len == h % 256 && y.lost == none) = true))) ∧
      (¬far → prof.phy = 5 → crc8x32 h = chk → rl2HdrBad h = false →
        let lt := bitsOf h 17 14
        (s.ringFull p = true → loses 11) ∧
        (s.ringFull p = false → Gives e (fun t => OnlyBlocks s t [baseSEQ] ∧
          (t.rlRx p).any (fun y => y.hdr && y.len == bitsOf h 11 0 && y.rate == bitsOf h 13 12 && y.ltid == lt &&
            y.lost == (if ((s.nb x.nb).rxTable lt).isSome then none else some Code.RL_LTID)) = true ∧
          ((s.nb x.nb).rxTable lt = none → CountsOne s t (SEQ_RLCNTn_COUNT 8) ∧ t.flag SEQ_RLIRQ_LTIDERR = true) ∧
          (∀ tb, lt ≠ 0 → lt ≠ (s.nb x.nb).cur.1 → (s.nb x.nb).rxTable lt = some tb → (t.nb x.nb).cur = tb ∧
            (t.nb x.nb).off = none ∧ t.flag SEQ_RLIRQ_CONFIRM = true))))) ∧
    (∀ (x : RidgeRx) (corrs : List Nat) (psdu : List Byte) (crc : Nat) (rssi snr fofs rho : Int) (sig : List Int),
      s.rlRx p = some x → x.lost = none →
      let prof := s.nbProf x.nb
      let weak := weakRun prof.lockthr corrs
      let b := psdu.take x.len
      let a := (s.rd (rlRing p)).toNat / 4096 * 4096 + 4096 * s.ringHead p
      let e := exec (.rlFrameEnd p corrs psdu crc rssi snr fofs rho sig) s
      let good := b.length = x.len ∧ (if prof.phy = 5 then crc32 b else crc16 b) = crc
      (weak = true → s.rlFlagged p x = none → s.flag SEQ_RLCFG_KEEPBAD = false → Gives e (fun t => t.rlRx p = none ∧
        CountsOne s t (SEQ_RLCNTn_COUNT 7) ∧ OnlyBlocks s t [baseSEQ])) ∧
      (x.hdr = true → weak = false → (s.advanceTo x.endDue).rlFlagged p x = none →
        (¬good → s.flag SEQ_RLCFG_KEEPBAD = false → Gives e (fun t => t.rlRx p = none ∧ CountsOne s t (SEQ_RLCNTn_COUNT 1) ∧
          OnlyBlocks s t [baseSEQ, baseTMR])) ∧
        (good → (x.typ ≠ 1 ∧ x.typ ≠ 2 ∨ prof.phy ≠ 5) → ¬(x.typ = 0 ∧ b = [0]) → s.ringCount p ≠ 0 → s.ringFull p = false →
          Gives e (fun t => t.rlRx p = none ∧
            CountsOne s t (SEQ_RLCNTn_COUNT 0) ∧ (t.nb x.nb).fofs = fofs ∧ t.memRd a = BitVec.ofNat 8 Code.OK ∧
            t.memLe (a + 2) 2 = x.len % 65536 ∧ t.memBytes (a + 32) x.len = b ∧
            (∀ y, (y < a ∨ a + 32 + x.len ≤ y) → t.memRd y = s.memRd y) ∧
            t.ringHead p = (s.ringHead p + 1) % s.ringCount p % 32 ∧ BlocksOnly s t [baseSEQ, baseTMR])) ∧
        (good → x.typ = 0 → b = [0] → Gives e (fun t => t.rlRx p = none ∧ CountsOne s t (SEQ_RLCNTn_COUNT 0) ∧
          OnlyBlocks s t [baseSEQ, baseTMR])) ∧
        (good → prof.phy = 5 → x.typ = 1 → s.ringCount p ≠ 0 → Gives e (fun t => t.flag SEQ_RLIRQ_LOADRX = true ∧
          BlocksOnly s t [baseSEQ, baseTMR] ∧
          (t.nb x.nb).tx = (if loadBad prof.ncode b ∨ (s.nb x.nb).tx.1 = oct b 0 then (s.nb x.nb).tx
            else loadOfPayload prof.ncode b))) ∧
        (good → prof.phy = 5 → x.typ = 2 → x.len = 2 → 100 ≤ octLe b 0 2 → octLe b 0 2 ≤ 20000 → s.ridgeBusy x.nb = [] →
          Gives e (fun t => (t.nb x.nb).quietUntil = max s.clk.now x.endDue + us (octLe b 0 2) ∧
            BlocksOnly s t [baseSEQ, baseTMR])))) ∧
    (∀ n, (s.nb n).quietUntil ≠ 0 → Gives (exec (.quietEnd n) s) (fun t => (t.nb n).quietUntil = 0 ∧
      (s.nb n).quietUntil ≤ t.clk.now ∧ OnlyBlocks s t [baseTMR])) ∧
    (∀ tail, (s.ringCount p ≤ tail % 32 → exec (.rlRingTail p tail) s = .next (s.discard baseSEQ)) ∧
      (tail % 32 < s.ringCount p → Gives (exec (.rlRingTail p tail) s) (fun t => t.ringTail p = tail % 32 ∧
        t.ringHead p = s.ringHead p ∧ OnlyRegs s t [rlRxq p]))) ∧
    Gives (exec .rlCntclr s) (fun t => (∀ n, n < 12 → t.rd (SEQ_RLCNTn n) = 0) ∧ t.ridge = s.ridge ∧
      OnlyRegs s t ((List.range 12).map SEQ_RLCNTn))

/-- R129, R283, R286: 1,000 µs before a rendezvous its ray is retuned. R276, R283, R284: an own turn whose start is past is skipped, and
one with nothing queued opens with a keepalive at the turn's start. R287, R288: the end of an occurrence counts it as met or missed and
moves the link. R87, R290: after the QUIET frame the sequencer's noise probe runs, or is counted as skipped. Where the spec leaves
room it follows the model's choices in log entries 27, 28. -/
def Obligations.RidgeRendezvous : Prop :=
  ∀ (recn : Nat) (s : State) (r : SchedRec), s.sched recn = some r → r.kind = 3 →
    (∀ (t0 : Nat) (n : PlanNeighbour), r.next = some t0 → r.occ = none → s.planNb r.nb = some n → s.wheelRuns = true →
      s.inTurn (t0 - 1000) 0 0 = true → Gives (exec (.rvzRetune recn) s) (fun t => OnlyBlocks s t [basePRISM, baseTMR] ∧
        (t.sched recn).any (fun q => q.occ == some { s0 := t0, turn := if r.init then 0 else 1 }) = true ∧
        (((s.ray n.path n.ray).st = .live ∨ (s.ray n.path n.ray).st = .parked) →
          let fr := ((n.fl : Int) + (s.nb r.nb).fofs).toNat
          s.tuneOk n.path (s.ray n.path n.ray) fr = true → (t.ray n.path n.ray).tune = some (fr, t.clk.now)))) ∧
    (∀ (o : RecOcc) (n : PlanNeighbour), r.occ = some o → s.planNb r.nb = some n → s.wheelRuns = true →
      (o.turn + 1) * r.turn ≤ r.rvlen → turnAt r o o.turn < s.sqt →
      exec (.turnStart recn) s = .next (s.putRec recn { r with occ := some { o with turn := o.turn + 2 } })) ∧
    (∀ (o : RecOcc) (n : PlanNeighbour), r.occ = some o → s.planNb r.nb = some n → s.wheelRuns = true →
      (o.turn + 1) * r.turn ≤ r.rvlen → r.probe = false → s.seq.turns = [] → s.upd.src ≠ some r.nb →
      (s.nb r.nb).queued = [] → (∀ e ∈ s.seq.ridgeq, e.nb ≠ r.nb) → s.ridgeBusy r.nb = [] →
      let tk := turnAt r o o.turn
      let d := s.ridgeUs r.nb n (Config.ctlRate % 3) 1
      s.sqt ≤ tk → d + r.rvbase ≤ r.turn → 0 < d → d ≤ 8000 →
      Gives (exec (.turnStart recn) s) (fun t => OnlyRegs s t [] ∧
        (t.sched recn).any (fun q => q.occ == some { o with turn := o.turn + 2 }) = true ∧
        Asks s t (fun q => q.kind = .ridge r.nb none ridgeKeep ∧ q.psdu = [0] ∧ q.tstart = tk ∧ q.late = 0 ∧
          q.path = n.path ∧ q.ray = n.ray ∧ q.carrier = some n.fl ∧ q.lenUs = d))) ∧
    (∀ o : RecOcc, r.occ = some o → s.wheelRuns = true → s.inTurn (o.s0 + r.rvlen) 3 recn = true →
      Gives (exec (.rvzOccEnd recn) s) (fun t => OnlyBlocks s t [baseSEQ, baseLOG, baseTMR] ∧
      (t.sched recn).any (fun q => q.occ == none && q.next == r.next) = true ∧
      (o.met = true → (t.link r.nb).st = .up ∧ CountsOne s t (SEQ_CNTn_COUNT 6)) ∧
      (o.met = false → CountsOne s t (SEQ_CNTn_COUNT 7) ∧
        ((s.link r.nb).st = .up → (t.link r.nb).st = .miss1) ∧
        ((s.link r.nb).st = .miss1 → (t.link r.nb).st = .miss2) ∧
        ((s.link r.nb).st = .miss2 → (t.link r.nb).st = .search ∧ (t.nb r.nb).tx = (0, []) ∧ (t.nb r.nb).cur = (0, []) ∧
          (if s.fld SEQ_TSRC_MODE = 2 ∧ s.fld SEQ_TSRC_NB = r.nb then t.flag SEQ_IRQ_PARENTLOST = true
            else t.flag SEQ_IRQ_PARTLOST = true)) ∧
        ((s.link r.nb).st = .search →
          (t.link r.nb).st = (if s.fld SEQ_SRCHCFG_SRCHMAX ≤ (s.link r.nb).srchn + 1 then .down else .search))))) ∧
    (∀ (o : RecOcc) (n : PlanNeighbour) (q : Nat), r.occ = some o → s.planNb r.nb = some n → o.quietAt = some q →
      let d := rayDelay (s.ray n.path n.ray).par.k
      let avg := (200 * r.quiet - d) / us 20 - 1
      let s1 := ((s.advanceSqt q).advance d).putRec recn { r with occ := some { o with quietAt := none } }
      let runs := 1 ≤ avg ∧ s.prism.probe.all (fun x => !x.seqOwned) = true ∧ s1.probeRayOk n.path n.ray = true ∧
        s1.probeBlocked n.path s1.sqt (s1.sqt + 20 * (avg + 1)) = false
      (¬runs → Gives (exec (.seqProbeStart recn) s) (fun t => CountsOne s t (SEQ_CNTn_COUNT 8) ∧ t.prism = s.prism ∧
        OnlyBlocks s t [baseSEQ, baseTMR])) ∧
      (runs → Gives (exec (.seqProbeStart recn) s) (fun t => t.flag PRISM_PRBSTAT_BUSY = true ∧
        t.flag PRISM_PRBSTAT_OWNER = true ∧
        t.prism.probe.any (fun x => x.seqOwned && x.path == n.path && x.ray == n.ray && x.nb == r.nb && x.avg == avg) = true ∧
        (s.prism.probe ≠ none → t.flag PRISM_PRBSTAT_PREEMPT = true) ∧ OnlyBlocks s t [basePRISM, baseTMR])))


/-! ### The band plan (chapter 05) -/

/-- R168–R173: a load in a state that refuses it changes no slot and reports PLAN_STATE; a load copies the image or ends with check 1
or 2, and leaves the standby slot invalid; the signature check, ROLLBACK and the first failing check of 5 to 20 end it; a plan that
passes every check takes the standby slot, and is active at once where no slot was. R171, R176, R181: arming, discarding and CNTCLR,
each also where it is refused. R98, R177, R180: the swap exchanges the slots, counts itself and begins to finish, and waits for a
self-test check that ends in its microsecond; FINISHED once no HELD ray and no OLD facet is left. Where the spec leaves room it follows
the model's choices in log entries 22, 32, 33, 34. -/
def Obligations.BandPlan : Prop :=
  (∀ s : State,
     ((s.plan.phase ≠ .idle ∨ s.flag SEQ_PLANSTAT_ARMED = true ∨ s.flag SEQ_PLANSTAT_FINISH = true) →
       Gives (exec .planLoad s) (fun t => t.plan = s.plan ∧ t.fld SEQ_PLANSTAT_STATUS = Code.PLAN_STATE ∧
         t.fld SEQ_PLANSTAT_CHECK = 0 ∧ t.rd SEQ_PLANERR = 0 ∧ t.flag SEQ_PLANIRQ_REJECT = true ∧
         t.fld SEQ_PLANCNT_REJECTS = min (s.fld SEQ_PLANCNT_REJECTS + 1) 255 ∧
         OnlyRegs s t [SEQ_PLANSTAT, SEQ_PLANERR, SEQ_PLANIRQ, SEQ_PLANCNT])) ∧
     (s.plan.phase = .idle → s.flag SEQ_PLANSTAT_ARMED = false → s.flag SEQ_PLANSTAT_FINISH = false →
       let a := (s.rd SEQ_PLANADDR).toNat
       let n := s.fld SEQ_PLANLEN_LEN
       ((n < 3381 ∨ 36077 < n ∨ planRegion a n = false) → Gives (exec .planLoad s) (fun t =>
         t.fld SEQ_PLANSTAT_STATUS = Code.PLAN_FORMAT ∧ t.fld SEQ_PLANSTAT_CHECK = 1 ∧ t.rd SEQ_PLANERR = 0 ∧
         t.flag SEQ_PLANSTAT_BUSY = false ∧ t.planSlot s.standbyNum = none ∧ t.activePlan = s.activePlan ∧
         OnlyBlocks s t [baseSEQ])) ∧
       (3381 ≤ n → n ≤ 36077 → planRegion a n = true → headerErr (s.memBytes a n) n = none →
         Gives (exec .planLoad s) (fun t => t.flag SEQ_PLANSTAT_BUSY = true ∧ t.plan.phase = .waitLattice ∧
           t.plan.staging = s.memBytes a n ∧ t.planSlot s.standbyNum = none ∧ t.activePlan = s.activePlan ∧
           OnlyBlocks s t [baseSEQ, baseLATTICE])) ∧
       (∀ e, 3381 ≤ n → n ≤ 36077 → planRegion a n = true → headerErr (s.memBytes a n) n = some e →
         Gives (exec .planLoad s) (fun t => t.fld SEQ_PLANSTAT_STATUS = (if e.chk = 1 then Code.PLAN_FORMAT else Code.PLAN_RSVD) ∧
           t.fld SEQ_PLANSTAT_CHECK = e.chk ∧ t.rd SEQ_PLANERR = BitVec.ofNat 32 e.off ∧ t.flag SEQ_PLANSTAT_BUSY = false ∧
           t.planSlot s.standbyNum = none ∧ OnlyBlocks s t [baseSEQ]))) ∧
     (∀ o, s.lat.cur = some o → o.loader = true →
       let m := s.plan.staging
       let st := if s.plan.stagingKey = [] then Code.KEY_EMPTY
         else s.latVerify o.pkh s.plan.stagingKey (m.take (bodyLen m)) (m.drop (bodyLen m))
       (st = Code.OK → Gives (exec .planSigCheck s) (fun t => t.plan = { s.plan with phase := .checking } ∧
         OnlyBlocks s t [baseLATTICE])) ∧
       (st ≠ Code.OK → st < 256 → Gives (exec .planSigCheck s) (fun t => t.plan.phase = .idle ∧
         t.fld SEQ_PLANSTAT_STATUS = st ∧ t.fld SEQ_PLANSTAT_CHECK = 3 ∧ t.rd SEQ_PLANERR = BitVec.ofNat 32 (bodyLen m) ∧
         t.flag SEQ_PLANIRQ_REJECT = true ∧ OnlyBlocks s t [baseSEQ, baseLATTICE]))) ∧
     (s.plan.phase = .checking →
       let m := s.plan.staging
       (b1 m 16 < s.arb 4 → Gives (exec .planLoadEnd s) (fun t => t.fld SEQ_PLANSTAT_STATUS = Code.ROLLBACK ∧
         t.fld SEQ_PLANSTAT_CHECK = 4 ∧ t.rd SEQ_PLANERR = 16 ∧ t.activePlan = s.activePlan ∧ OnlyBlocks s t [baseSEQ])) ∧
       (∀ e, s.arb 4 ≤ b1 m 16 → (loadPlan m).2 = some e → Gives (exec .planLoadEnd s) (fun t =>
         t.fld SEQ_PLANSTAT_STATUS = chkCode e.chk ∧ t.fld SEQ_PLANSTAT_CHECK = e.chk % 256 ∧
         t.rd SEQ_PLANERR = BitVec.ofNat 32 e.off ∧ t.activePlan = s.activePlan ∧ OnlyBlocks s t [baseSEQ])) ∧
       (s.arb 4 ≤ b1 m 16 → (loadPlan m).2 = none → s.activePlan ≠ none → Gives (exec .planLoadEnd s) (fun t =>
         t.planSlot s.standbyNum = some (loadPlan m).1 ∧ t.activePlan = s.activePlan ∧ t.fld SEQ_PLANSTAT_STATUS = Code.OK ∧
         t.flag SEQ_PLANSTAT_BUSY = false ∧ t.flag SEQ_PLANIRQ_LOADDONE = true ∧
         t.fld SEQ_PLANCNT_LOADS = min (s.fld SEQ_PLANCNT_LOADS + 1) 255 ∧ OnlyBlocks s t [baseSEQ])) ∧
       (s.arb 4 ≤ b1 m 16 → (loadPlan m).2 = none → s.activePlan = none → Gives (exec .planLoadEnd s) (fun t =>
         t.activePlan = some (loadPlan m).1 ∧ t.fld SEQ_PLANSTAT_ACTIVE = 0 ∧ t.flag SEQ_PLANSTAT_VALID0 = true ∧
         BlocksOnly s t [baseSEQ, baseRFS, baseRFG, basePRISM, baseFACET, baseBIST] ∧
         ((∀ f, (s.fct f).st.mid = false) → SameMem s t))))) ∧
  (∀ s : State,
     ((s.planSlot s.standbyNum = none ∨ s.activePlan = none ∨ s.plan.phase ≠ .idle ∨ s.flag SEQ_PLANSTAT_ARMED = true ∨
         s.flag SEQ_PLANSTAT_FINISH = true) → Gives (exec .planArm s) (fun t => t.plan = s.plan ∧
       t.fld SEQ_PLANSTAT_STATUS = Code.PLAN_STATE ∧ t.flag SEQ_PLANIRQ_REJECT = true ∧
       t.flag SEQ_PLANSTAT_ARMED = s.flag SEQ_PLANSTAT_ARMED)) ∧
     (s.planSlot s.standbyNum ≠ none → s.activePlan ≠ none → s.plan.phase = .idle → s.flag SEQ_PLANSTAT_ARMED = false →
       s.flag SEQ_PLANSTAT_FINISH = false → Gives (exec .planArm s) (fun t => t.flag SEQ_PLANSTAT_ARMED = true ∧
         t.fld SEQ_PLANSTAT_STATUS = Code.OK ∧ t.activePlan = s.activePlan ∧ OnlyRegs s t [SEQ_PLANSTAT])) ∧
     ((s.plan.phase ≠ .idle ∨ (s.flag SEQ_PLANSTAT_ARMED = true ∧ s.sqt = s.swapDue) ∨ s.plan.swapRan = some s.sqt) →
       Gives (exec .planDiscard s) (fun t => t.plan = s.plan ∧ t.fld SEQ_PLANSTAT_STATUS = Code.PLAN_STATE ∧
         t.flag SEQ_PLANIRQ_REJECT = true)) ∧
     (s.plan.phase = .idle → (s.flag SEQ_PLANSTAT_ARMED = false ∨ s.sqt ≠ s.swapDue) → s.plan.swapRan ≠ some s.sqt →
       Gives (exec .planDiscard s) (fun t => t.planSlot s.standbyNum = none ∧ t.flag SEQ_PLANSTAT_ARMED = false ∧
         t.fld SEQ_PLANSTAT_STATUS = Code.OK ∧ t.activePlan = s.activePlan ∧
         OnlyRegs s t [SEQ_PLANSTAT, SEQ_PLANID0, SEQ_PLANID1])) ∧
     Gives (exec .planCntclr s) (fun t => t.rd SEQ_PLANCNT = 0 ∧ OnlyRegs s t [SEQ_PLANCNT]) ∧
     (∀ old new : Plan, s.flag SEQ_PLANSTAT_ARMED = true → s.clocked = true → s.inTurn s.swapDue 1 0 = true →
       s.activePlan = some old → s.planSlot s.standbyNum = some new →
       ((s.advanceSqt s.swapDue).markFirst = true → exec .planSwap s = .next s) ∧
       ((s.advanceSqt s.swapDue).markFirst = false → Gives (exec .planSwap s) (fun t => t.activePlan = some new ∧
         t.planSlot t.standbyNum = some old ∧ t.flag SEQ_PLANSTAT_ARMED = false ∧ t.flag SEQ_PLANSTAT_FINISH = true ∧
         t.flag SEQ_PLANIRQ_SWAPPED = true ∧ t.fld SEQ_PLANCNT_SWAPS = min (s.fld SEQ_PLANCNT_SWAPS + 1) 255 ∧
         BlocksOnly s t [baseSEQ, baseRFS, baseRFG, basePRISM, baseFACET, baseBIST, baseLOG, baseTMR]))) ∧
     (s.flag SEQ_PLANSTAT_FINISH = true →
       (∀ e ∈ s.prism.raysS ++ s.prism.raysG, e.2.st ≠ .held) → (∀ e ∈ s.facet.facets, e.2.old = false) →
       Gives (exec .swapFinished s) (fun t => t.flag SEQ_PLANSTAT_FINISH = false ∧ t.flag SEQ_PLANIRQ_FINISHED = true ∧
         OnlyRegs s t [SEQ_PLANSTAT, SEQ_PLANIRQ])))


/-! ### The leaf MAC (chapter 06) -/

/-- R196–R199: the verdict of a frame in flight, and of one that landed first, by the acceptance rule, and its latency; a lost
directory set is rebuilt. R190, R201, R203, R204: a frame whose context has gone, whose MIC fails, whose counter is exhausted, repeated
or old, or that meets a halted cipher engine is not delivered, and one that
meets an engine without a seed waits; one whose counter is new is decrypted in place and delivered, and RX_FC
takes its counter. Where the spec leaves room it follows the model's choices in log entries 35, 36, 43. -/
def Obligations.MacVerdictsAndAuthentication : Prop :=
  (∀ s : State,
     (∀ (n lat f : Nat) (ecc : Bool) (x : Facet) (fr : RxFrame), s.slotFacet n = some (f, x) → tblFind s.mac.frames n = none →
       x.frame = some fr → s.flag MAC_CTRL_EN = true → 1 ≤ x.alloc.prof.phy → x.alloc.prof.phy ≤ 3 → x.st = .payload →
       keyReady x.alloc.prof.phy (s.slotBytes n fr.decided) fr.decided fr.len = true → 31 ≤ lat → lat ≤ 50 →
       Gives (exec (.macVerdict n lat ecc) s) (fun t =>
         (∃ m, tblFind t.mac.frames n = some m ∧ m.phase = .air ∧ m.phy = x.alloc.prof.phy ∧
           VerdictSays s x.alloc.prof.phy (s.slotBytes n fr.len) fr.len fr.decided ecc m) ∧
         t.fld MAC_LAT_LAST = lat ∧ t.fld MAC_LAT_MAX = max lat (s.fld MAC_LAT_MAX) ∧ t.facet = s.facet ∧
         OnlyBlocks s t [baseMAC, baseMMU, baseLOG] ∧
         (t.mac.badSets = s.mac.badSets → OnlyRegs s t [MAC_LAT, MAC_IRQ, MAC_DIRSTAT, MAC_DIRFULL]))) ∧
     (∀ (n lat : Nat) (ecc : Bool) (x : MacFrame), tblFind s.mac.frames n = some x → x.verdict = none → 31 ≤ lat → lat ≤ 50 →
       Gives (exec (.macVerdict n lat ecc) s) (fun t =>
         (∃ m, tblFind t.mac.frames n = some m ∧ m.phase = x.phase ∧ m.phy = x.phy ∧ m.len = x.len ∧
           VerdictSays s x.phy (s.slotBytes n x.len) x.len x.len ecc m) ∧
         t.fld MAC_LAT_LAST = lat ∧ t.facet = s.facet ∧ OnlyBlocks s t [baseMAC, baseMMU, baseLOG] ∧
         (t.mac.badSets = s.mac.badSets → OnlyRegs s t [MAC_LAT, MAC_IRQ, MAC_DIRSTAT, MAC_DIRFULL]))) ∧
     (∀ set : Nat, set ∈ s.mac.badSets → Gives (exec (.dirSetRebuild set) s) (fun t =>
       t.mac.badSets = s.mac.badSets.erase set ∧ t.mac.frames = s.mac.frames ∧ t.pager = s.pager ∧
       OnlyRegs s t [MAC_DIRSTAT, MAC_DIRFULL] ∧
       (s.dirFree set = 8 → (s.allCtx.filter (fun e => s.dirSet e.2.key == set)).length ≤ 8 →
         ∀ e ∈ s.allCtx, s.dirSet e.2.key = set → (t.dirFind e.2.key e.2.cls).isSome = true)))) ∧
  (∀ (n : Nat) (s : State) (x : MacFrame), tblFind s.mac.frames n = some x → x.phase = .auth →
     (s.flag CIPHER_STAT_HALTED = true → Gives (exec (.authEnd n) s) (fun t => NotDelivered s t n 11 ∧ t.pager = s.pager)) ∧
     (s.flag CIPHER_STAT_HALTED = false → s.aesRuns = false → exec (.authEnd n) s = .next s) ∧
     (s.aesRuns = true → s.hot x.ctx = none → Gives (exec (.authEnd n) s) (fun t => NotDelivered s t n 10)) ∧
     (∀ h, s.aesRuns = true → s.hot x.ctx = some h →
       let o := openFrame x (s.slotBytes n x.len) h.ctx
       let rx := h.ctx.rxfc x.keyIdx
       (o.2.2 = none ∨ x.keyGone = true → Gives (exec (.authEnd n) s) (fun t => NotDelivered s t n 3 ∧ t.pager = s.pager ∧
         BlocksOnly s t [baseMAC, baseFACET])) ∧
       (∀ pt, o.2.2 = some pt → x.keyGone = false →
         (o.1 = 0xffffffff → Gives (exec (.authEnd n) s) (fun t => NotDelivered s t n 4 ∧ t.pager = s.pager)) ∧
         (o.1 ≠ 0xffffffff → o.1 = rx → Gives (exec (.authEnd n) s) (fun t => NotDelivered s t n 1 ∧
           (t.hot x.ctx).any (fun y => y.ctx.rxfc x.keyIdx == rx) = true)) ∧
         (o.1 ≠ 0xffffffff → o.1 < rx → Gives (exec (.authEnd n) s) (fun t => NotDelivered s t n 2 ∧
           t.flag MAC_IRQ_REPLAY = true ∧ t.pager = s.pager)) ∧
         (o.1 ≠ 0xffffffff → rx < o.1 → s.pairStandby = false → x.len ≤ 255 → Gives (exec (.authEnd n) s) (fun t =>
           (Delivered s t n Code.OK x ∨ (x.cls = 0 ∧ Delivered s t n Code.SLOT_MISMATCH x)) ∧
           t.memBytes (slotAddr n + 0x20 + o.2.1) pt.length = pt ∧
           (∀ a, (a < slotAddr n ∨ slotAddr n + 384 ≤ a) → t.memRd a = s.memRd a) ∧
           (t.hot x.ctx).any (fun y => y.ctx.rxfc x.keyIdx == o.1 && y.dirty && y.ctx.miss == 0) = true ∧
           BlocksOnly s t [baseMAC, baseFACET, basePAGER])))))

/-- R198, R200, R204, R210, R211, R213, R220, R236, R237: what becomes of a landed frame by its verdict: an 802.15.4 frame outside the
subset and a rejected one are not delivered; a JOIN frame is delivered or refused; a PROCEED frame goes to its MIC check where its context
is resident, and else waits for it or is lost; 2 ms after landing one that still waits is lost. Where the spec leaves room it follows the
model's choices in log entries 35, 37. -/
def Obligations.MacLanding : Prop :=
  ∀ (n : Nat) (s : State) (x : MacFrame), tblFind s.mac.frames n = some x →
    (x.phase = .landed → x.verdict ≠ none → x.outside (s.slotBytes n x.len) = true →
      Gives (exec (.macFrameLand n) s) (fun t => NotDelivered s t n 8 ∧ BlocksOnly s t [baseMAC, baseFACET])) ∧
    (∀ code k, x.phase = .landed → x.verdict = some (.reject code) → x.outside (s.slotBytes n x.len) = false →
      macCntOf code = some k →
      Gives (exec (.macFrameLand n) s) (fun t => NotDelivered s t n k ∧
        BlocksOnly s t [baseMAC, baseFACET, basePAGER, baseLOG])) ∧
    (x.phase = .landed → x.verdict = some .join → x.phy = 1 →
      let eui := ((s.slotBytes n x.len).drop 4).take 8
      let set := s.dirSet x.key
      Gives (exec (.macFrameLand n) s) (fun t => BlocksOnly s t [baseMAC, baseFACET] ∧
        (s.flag MAC_BCNCTL_JOINOPEN = false → NotDelivered s t n 14) ∧
        (s.flag MAC_BCNCTL_JOINOPEN = true → s.dirFind x.key 0 ≠ none → Delivered s t n Code.OK x ∧
          t.flag MAC_IRQ_JOIN = true ∧ t.mac.jresp = s.mac.jresp) ∧
        (s.flag MAC_BCNCTL_JOINOPEN = true → s.dirFind x.key 0 = none →
          (s.fld MAC_DIRSTAT_LIVE = 262144 → NotDelivered s t n 16 ∧ t.flag MAC_IRQ_REFUSE = true ∧
            (s.mac.jresp.length < 32 → ∃ g, t.mac.jresp = s.mac.jresp ++ [⟨g, eui, Code.CAPACITY⟩]) ∧
            (32 ≤ s.mac.jresp.length → t.mac.jresp = s.mac.jresp ∧ t.flag MAC_IRQ_JRFULL = true)) ∧
          (s.fld MAC_DIRSTAT_LIVE ≠ 262144 → s.dirFree set = 0 → NotDelivered s t n 15 ∧ t.flag MAC_IRQ_REFUSE = true ∧
            (s.mac.jresp.length < 32 → ∃ g, t.mac.jresp = s.mac.jresp ++ [⟨g, eui, Code.SET_FULL⟩])) ∧
          (s.fld MAC_DIRSTAT_LIVE ≠ 262144 → s.dirFree set ≠ 0 → Delivered s t n Code.OK x ∧
            t.flag MAC_IRQ_JOIN = true ∧ t.mac.jresp = s.mac.jresp)))) ∧
    (x.phase = .landed → x.verdict = some .join → x.phy ≠ 1 → x.outside (s.slotBytes n x.len) = false →
      let m := parseMhr (s.slotBytes n x.len)
      let full := m.srcMode = 3 ∧ cmd154 (s.slotBytes n x.len) m = some 1 ∧ s.fld MAC_DIRSTAT_LIVE = 262144
      Gives (exec (.macFrameLand n) s) (fun t => BlocksOnly s t [baseMAC, baseFACET] ∧
        (¬full → Delivered s t n Code.OK x ∧ t.flag MAC_IRQ_JOIN = true ∧ t.mac.assoc = s.mac.assoc) ∧
        (full → NotDelivered s t n 16 ∧ t.flag MAC_IRQ_REFUSE = true ∧ ∃ h ∈ t.mac.assoc, h.ext = m.src))) ∧
    (x.phase = .landed → x.verdict = some .proceed → x.outside (s.slotBytes n x.len) = false →
      (Gives (exec (.macFrameLand n) s) (fun t => BlocksOnly s t [baseMAC, baseFACET, basePAGER] ∧
        (x.evicted = true → NotDelivered s t n 5) ∧
        (x.evicted = false → s.flag CIPHER_STAT_HALTED = true → NotDelivered s t n 11) ∧
        (x.evicted = false → s.flag CIPHER_STAT_HALTED = false → s.isHot x.ctx = true →
          (tblFind t.mac.frames n).any (fun y => y.phase == .auth && y.ctx == x.ctx) = true ∧
          t.fld (PAGER_CNTn_COUNT 0) = min (s.fld (PAGER_CNTn_COUNT 0) + 1) 0xffffffff ∧ t.facet = s.facet) ∧
        (x.evicted = false → s.flag CIPHER_STAT_HALTED = false → s.isHot x.ctx = false →
          (512 ≤ (s.mac.frames.filter (fun e => e.2.phase == .parked)).length → NotDelivered s t n 10 ∧
            t.fld (PAGER_CNTn_COUNT 5) = min (s.fld (PAGER_CNTn_COUNT 5) + 1) 0xffffffff) ∧
          ((s.mac.frames.filter (fun e => e.2.phase == .parked)).length < 512 → x.ctx ∉ s.pager.damaged →
            s.flag PAGER_STAT_STOREDOWN = false → s.flag PAGER_STAT_FLUSHED = false →
            (tblFind t.mac.frames n).any (fun y => y.phase == .parked && y.ctx == x.ctx) = true ∧
            (x.ctx, true) ∈ t.pager.wants ∧ t.facet = s.facet))))) ∧
    (x.phase = .parked → Gives (exec (.ctxLate n) s) (fun t => NotDelivered s t n 10 ∧ x.landAt + us 2000 ≤ t.clk.now ∧
      t.fld (PAGER_CNTn_COUNT 4) = min (s.fld (PAGER_CNTn_COUNT 4) + 1) 0xffffffff ∧ t.flag PAGER_IRQ_CTXLATE = true ∧
      BlocksOnly s t [baseMAC, baseFACET, basePAGER, baseTMR]))


/-- R187, R206–R209, R211, R280: at its cutoff an Imm-Ack is asked of the sequencer with its frame and its time, is not wanted, or is
counted ACK_MISS; a GACK record freezes with its join responses; the frozen record is asked for with the body of R187 at G, and is
discarded while the cipher engine is halted; a beacon is asked for at its occurrence with the body of R186; a held association response
is asked for DLGAP µs after the ack. Where the spec leaves room it follows the model's choices in log entries 39, 41, 42. -/
def Obligations.MacAcknowledgements : Prop :=
  ∀ s : State,
    (∀ (n : Nat) (a : AckWait), s.mac.acks.find? (fun a => a.slot == n) = some a →
      Gives (exec (.immAck n) s) (fun t => OnlyBlocks s t [baseMAC, baseTMR] ∧
        t.mac.acks = s.mac.acks.filter (fun y => y.slot != n) ∧
        (a.decided = some true → Asks s t (fun q => q.kind = .immAck n ∧ q.tstart = a.tstart ∧ q.path = a.path ∧
          q.psdu = withFcs (leBytes 2 (2 + (if s.ackPend a then 16 else 0)) ++ leBytes 1 a.seq))) ∧
        (a.decided = some false → t.seq = s.seq) ∧
        (a.decided = none → t.seq = s.seq ∧ t.flag MAC_IRQ_ACKMISS = true ∧
          t.fld (MAC_CNTn_COUNT 18) = min (s.fld (MAC_CNTn_COUNT 18) + 1) 0xffffffff))) ∧
    (∀ (recn : Nat) (r : SchedRec) (o : RecOcc) (g : GackRec), s.sched recn = some r → r.occ = some o →
      s.gackOf recn o.s0 = some g → g.frozen = false → s.wheelRuns = true →
      s.inTurn (o.s0 + r.gackAt - s.fld MAC_GACKCFG_BUILD) 0 0 = true →
      Gives (exec (.gackFreeze recn) s) (fun t => BlocksOnly s t [baseMAC, basePAGER, baseTMR] ∧ SameMem s t ∧
        t.gackOf recn o.s0 = some { g with frozen := true, jrs := (takeJresp g.grp 8 s.mac.jresp).1 } ∧
        t.mac.jresp = (takeJresp g.grp 8 s.mac.jresp).2 ∧ (g.grp, g.gseq) ∉ t.pager.cycles)) ∧
    (∀ (recn : Nat) (r : SchedRec) (g : GackRec), s.sched recn = some r →
      s.mac.gacks.find? (fun g => g.recn == recn && g.frozen && !g.asked) = some g →
      (s.flag CIPHER_STAT_HALTED = true → Gives (exec (.gackTx recn) s) (fun t => t.seq = s.seq ∧
        t.mac.jresp = g.jrs ++ s.mac.jresp ∧ t.fld (MAC_CNTn_COUNT 20) = min (s.fld (MAC_CNTn_COUNT 20) + 1) 0xffffffff ∧
        OnlyBlocks s t [baseMAC])) ∧
      (s.flag CIPHER_STAT_HALTED = false → Gives (exec (.gackTx recn) s) (fun t => OnlyRegs s t [] ∧
        Asks s t (fun q => q.kind = .gack recn ∧ q.tstart = g.s0 + r.gackAt ∧ q.path = r.path ∧ q.ray = r.ray ∧
          ∃ tag, q.psdu = gackBody (s.fld MAC_NETID_NETID) g ++ tag)))) ∧
    (∀ (recn t0 : Nat) (r : SchedRec), s.sched recn = some r → r.kind = 1 → r.next = some t0 → s.wheelRuns = true →
      Gives (exec (.beaconTx recn) s) (fun t => OnlyRegs s t [] ∧
        (t.sched recn).any (fun q => q.words == r.words && q.next == (r.begin_ t0).next && q.occ == none) = true ∧
        (s.flag CIPHER_STAT_HALTED = true → t.seq.asks = s.seq.asks) ∧
        (s.flag CIPHER_STAT_HALTED = false → Asks s t (fun q => q.kind = .beacon recn ∧ q.tstart = t0 ∧ q.late = 0 ∧
          ∃ tag, q.psdu = s.beaconBody t0 (s.profOf r.profid) ++ tag)))) ∧
    (∀ (n : Nat) (a : AfterAck) (h : AssocHeld), s.mac.after.find? (fun a => a.slot == n) = some a → a.dataReq = true →
      s.mac.assoc.find? (fun h => h.ext == a.ext) = some h → Gives (exec (.assocResponse n) s) (fun t => OnlyRegs s t [] ∧
        t.mac.assoc = s.mac.assoc.erase h ∧
        Asks s t (fun q => q.tstart = a.ackEndUs + s.fld MAC_154CFG_DLGAP ∧ q.path = a.path ∧ q.ray = a.ray)))

/-- R224, R226: LOOKUP reports the entry of a key and class or that there is none, BLOCK and UNBLOCK set the bit of an entry and of its
resident context. R213: a join response of firmware joins the list, is not carried where it is full, and is discarded with a STATUS it
may not have. R224: CNTCLR. Where the spec leaves room it follows the model's choice in log entry 38. -/
def Obligations.MacDirectory : Prop :=
  ∀ s : State,
    (∀ cls, cls < 2 → let key := (s.rd MAC_DIRKEY).toNat
      Gives (exec (.dirLookup cls) s) (fun t => t.mac = s.mac ∧ OnlyRegs s t [MAC_DIRRES, MAC_DIRCTX] ∧
        t.fld MAC_DIRRES_SET = s.dirSet key ∧ t.fld MAC_DIRRES_FREE = s.dirFree (s.dirSet key) ∧
        (s.dirFind key cls = none → t.flag MAC_DIRRES_FOUND = false ∧ t.rd MAC_DIRCTX = s.rd MAC_DIRCTX &&& 0xfffc0000) ∧
        (∀ i, s.dirFind key cls = some i → t.flag MAC_DIRRES_FOUND = true ∧ t.fld MAC_DIRRES_WAY = i % 8 ∧
          t.flag MAC_DIRRES_PEND = (s.dirAt i).pend ∧ t.flag MAC_DIRRES_RES = (s.dirAt i).res ∧
          t.flag MAC_DIRRES_LOST = (s.dirAt i).lost ∧ t.flag MAC_DIRRES_BLOCK = (s.dirAt i).block ∧
          t.fld MAC_DIRCTX_CTX = (s.dirAt i).ctx % 2 ^ 18)) ∧
      (∀ i, s.dirFind key cls = some i → ∀ b : Bool,
        Gives (exec (if b then .dirBlock cls else .dirUnblock cls) s) (fun t =>
          OnlyRegs s t [MAC_DIRRES, MAC_DIRCTX, PAGER_STAT, PAGER_JSTAT] ∧ t.dirAt i = { s.dirAt i with block := b } ∧
          t.flag MAC_DIRRES_FOUND = true ∧ t.flag MAC_DIRRES_BLOCK = b ∧
          (s.isHot (s.dirAt i).ctx = true → s.pairStandby = false →
            (t.hot (s.dirAt i).ctx).any (fun h => h.ctx.block == b && h.dirty) = true)))) ∧
    (∀ v : Word, let st := v.toNat % 256
      let ok := st = Code.OK ∨ st = Code.SET_FULL ∨ st = Code.CAPACITY ∨ st = Code.BLOCKED
      (ok → s.mac.jresp.length < 32 → Gives (exec (.jrespPost v) s) (fun t => OnlyRegs s t [MAC_JRESPCMD] ∧
        t.mac.jresp = s.mac.jresp ++ [⟨some (bitsOf v.toNat 15 8),
          leBytes 4 (s.rd MAC_JRESPLO).toNat ++ leBytes 4 (s.rd MAC_JRESPHI).toNat, st⟩])) ∧
      (ok → 32 ≤ s.mac.jresp.length → Gives (exec (.jrespPost v) s) (fun t => t.mac = s.mac ∧
        t.flag MAC_IRQ_JRFULL = true ∧ OnlyRegs s t [MAC_IRQ])) ∧
      (¬ok → exec (.jrespPost v) s = .next (s.discard baseMAC))) ∧
    Gives (exec .macCntclr s) (fun t => (∀ n, n < 23 → t.rd (MAC_CNTn n) = 0) ∧ t.rd MAC_LAT = 0 ∧ t.mac = s.mac ∧
      OnlyRegs s t ((List.range 23).map MAC_CNTn ++ [MAC_LAT]))

/-- R216, R217: a posted downlink joins its queue, fails at once, or is discarded. R218, R281: a downlink window opens for its group until
its close; after an Imm-Ack the node's own entry, or the one to its address, is asked for. R219: an entry completes with the status of
its transmission, or expires, and entries come back in order. Where the spec leaves room it follows the model's choice in log entry 40. -/
def Obligations.MacDownlinks : Prop :=
  ∀ s : State,
    (∀ v : Word, let i := v.toNat % 512
      let d := s.dlEntry i
      let free := i < s.fld MAC_DLPOOL_COUNT ∧ (∀ x ∈ s.mac.dlq, x.ent ≠ i) ∧ (∀ x ∈ s.mac.dldone, x.1 ≠ i)
      (¬free → exec (.dlPost v) s = .next (s.discard baseMAC)) ∧
      (free → s.dlBad d = true → Gives (exec (.dlPost v) s) (fun t => t.mac.dlq = s.mac.dlq ∧
        t.mac.dldone = s.mac.dldone ++ [(i, Code.FMT_BAD)] ∧ t.flag MAC_IRQ_DLDONE = true ∧
        (∀ a, t.memRd a = if a = s.dlAddr i then BitVec.ofNat 8 Code.FMT_BAD else s.memRd a) ∧
        BlocksOnly s t [baseMAC])) ∧
      (free → s.dlBad d = false → d.ofNode = true → s.dirFind d.key d.cls = none → Gives (exec (.dlPost v) s) (fun t =>
        t.mac.dlq = s.mac.dlq ∧ t.mac.dldone = s.mac.dldone ++ [(i, Code.DL_NOADDR)] ∧ t.flag MAC_IRQ_DLDONE = true ∧
        (∀ a, t.memRd a = if a = s.dlAddr i then BitVec.ofNat 8 Code.DL_NOADDR else s.memRd a) ∧
        BlocksOnly s t [baseMAC])) ∧
      (free → s.dlBad d = false → (d.ofNode = true → s.dirFind d.key d.cls ≠ none) →
        (∀ x ∈ s.mac.dlq ++ [d], x.ofNode = true → ∀ h, s.ctxOfKey x.key x.cls = some h → h.2.ctx.txfc < 0xfffffffe) →
        Gives (exec (.dlPost v) s) (fun t => t.mac.dlq.map (·.ent) = (s.mac.dlq ++ [d]).map (·.ent) ∧ t.mac.dldone = s.mac.dldone ∧
          (s.mac.dlwins = [] → t.mac.dlq = s.mac.dlq ++ [d] ∧ OnlyRegs s t [MAC_DLSTAT]) ∧
          (d.ofNode = true → ∀ j, s.dirFind d.key d.cls = some j → (t.dirAt j).pend = true)))) ∧
    (s.mac.dldone = [] → Gives (exec .dlDoneqRead s) (fun t => t.rdata = 0 ∧ t.mac = s.mac ∧ OnlyRegs s t [])) ∧
    (∀ (e st : Nat) (l : List (Nat × Nat)), s.mac.dldone = (e, st) :: l → e < 512 → st < 256 →
      Gives (exec .dlDoneqRead s) (fun t => t.rdata.toNat = 2 ^ 31 + 2 ^ 16 * st + e ∧ t.mac.dldone = l ∧
        OnlyRegs s t [MAC_DLSTAT])) ∧
    (∀ (recn : Nat) (r : SchedRec) (o : RecOcc), s.sched recn = some r → r.kind = 2 → r.occ = some o →
      s.wheelRuns = true → s.inTurn (o.s0 + r.gackAt + r.dlofs) 0 0 = true → (∀ w ∈ s.mac.dlwins, w.grp ≠ r.grp) →
      (∀ g, s.gackOf recn o.s0 = some g → g.asked = true → g.ended = true) → Gives (exec (.dlWindowOpen recn) s) (fun t =>
        t.mac.dlwins.any (fun w => w.grp == r.grp && w.path == r.path && w.closeUs == o.s0 + r.occLen) = true ∧
        BlocksOnly s t [baseMAC, basePAGER, baseTMR] ∧ (s.mac.dlq = [] → SameMem s t ∧ t.seq = s.seq))) ∧
    (∀ (n : Nat) (a : AfterAck) (d : DlEnt), s.mac.after.find? (fun a => a.slot == n) = some a → s.dropExhausted = s →
      s.mac.dlq.find? (fun d => a.takes d && !(s.lateFor d (s.afterAckAt a))) = some d →
      (d.kind = 4 → Gives (exec (.dl154Send n) s) (fun t => OnlyRegs s t [] ∧ Asks s t (fun q =>
        q.kind = .downlink d.ent ∧ q.tstart = s.afterAckAt a ∧ q.path = a.path ∧ q.psdu = withFcs (s.dlData d)))) ∧
      (∀ (i : Nat) (h : HotCtx) (k : List Byte), d.kind = 3 → s.flag CIPHER_STAT_HALTED = false →
        s.ctxOfKey d.key 1 = some (i, h) → h.ctx.keyAt h.ctx.keyuse = some k → s.mayBuild i h.ctx = true →
        Gives (exec (.dl154Send n) s) (fun t => BlocksOnly s t [basePAGER] ∧
          (t.hot i).any (fun y => y.ctx.txfc == h.ctx.txfc + 1) = true ∧
          Asks s t (fun q => q.kind = .downlink d.ent ∧ q.tstart = s.afterAckAt a ∧ q.fc = h.ctx.txfc)))) ∧
    (∀ (e : Nat) (x : Nat × Nat × Bool) (r : TxReq) (d : DlEnt),
      s.txEnds.find? (fun x => (s.reqOf x.1).any (fun r => r.kind == .downlink e)) = some x → s.reqOf x.1 = some r →
      s.mac.dlq.find? (fun d => d.ent == e) = some d → Gives (exec (.dlComplete e) s) (fun t =>
        (e, x.2.1) ∈ t.mac.dldone ∧ (∀ y ∈ t.mac.dlq, y.ent ≠ e) ∧
        (x.2.1 = Code.OK → t.fld (MAC_CNTn_COUNT 21) = min (s.fld (MAC_CNTn_COUNT 21) + 1) 0xffffffff) ∧
        BlocksOnly s t [baseMAC, basePAGER])) ∧
    (∀ (e : Nat) (d : DlEnt), s.mac.dlq.find? (fun d => d.ent == e) = some d → d.sending = false →
      Gives (exec (.dlExpire e) s) (fun t => t.mac.dldone = s.mac.dldone ++ [(e, Code.DL_EXPIRED)] ∧
        t.mac.dlq = s.mac.dlq.filter (fun y => y.ent != e) ∧
        t.fld (MAC_CNTn_COUNT 22) = min (s.fld (MAC_CNTn_COUNT 22) + 1) 0xffffffff ∧
        (∀ a, t.memRd a = if a = s.dlAddr e then BitVec.ofNat 8 Code.DL_EXPIRED else s.memRd a) ∧
        BlocksOnly s t [baseMAC, baseTMR]))

/-! ### Node contexts and the pager (chapter 07) -/

/-- R249, R250, R253, R258, R260: a write of PAGER_CMD is discarded, or the command is issued with the outcome it is bound for:
STORE_DOWN while the store key is absent; PAIR_STANDBY for a command that changes contexts on the standby (the model's choice, log
entry 163); JOIN_EXISTS, CAPACITY or SET_FULL for a JOIN that finds no place; NO_CTX or CTX_DAMAGED where the context is not there;
OK. R238, R249–R252: what each command has done when it completes, and with which status. Where the spec leaves room it follows the
model's choices in log entries 44, 47, 163. -/
def Obligations.PagerCommands : Prop :=
  (∀ (i : Instr) (op cls : Nat) (s : State), PagerOp i op cls → cls < 2 →
     let key := (s.rd PAGER_KEY).toNat
     (pagerRefuses s op cls → exec i s = .next (s.discard basePAGER)) ∧
     (¬pagerRefuses s op cls → Gives (exec i s) (fun t => OnlyRegs s t [PAGER_RES] ∧ t.mac = s.mac ∧
       t.flag PAGER_RES_BUSY = true ∧ t.fld PAGER_RES_OP = op ∧
       ∃ k, t.pager = { s.pager with cmd := some k } ∧ k.op = op ∧ k.cls = cls ∧ k.key = key ∧ k.img = s.argCtx ∧
         (s.storeDown = true → k.status = Code.STORE_DOWN) ∧
         (s.storeDown = false → s.pairStandby = true → standbyBars op = true → k.status = Code.PAIR_STANDBY) ∧
         (s.storeDown = false → (s.pairStandby = true → standbyBars op = false) →
           (op = 1 → (s.ctxOf key cls ≠ none → k.status = Code.JOIN_EXISTS) ∧
             (s.ctxOf key cls = none → s.fld MAC_DIRSTAT_LIVE = 262144 → k.status = Code.CAPACITY) ∧
             (s.ctxOf key cls = none → s.fld MAC_DIRSTAT_LIVE ≠ 262144 →
               (8 ≤ s.setLive key → k.status = Code.SET_FULL) ∧ (s.setLive key < 8 → k.status = Code.OK))) ∧
           (op = 7 → k.status = Code.OK) ∧
           (2 ≤ op → op ≤ 6 → (s.ctxOf key cls = none → k.status = Code.NO_CTX) ∧
             (∀ c, s.ctxOf key cls = some c → k.ctx = c ∧
               k.status = (if op ≠ 2 ∧ c ∈ s.pager.damaged then Code.CTX_DAMAGED else Code.OK))))))) ∧
  (∀ (s : State) (k : PagerCmd) (bad : Bool) (die : DieEnd), s.pager.cmd = some k → k.ctx < 2 ^ 18 →
     let ends := fun (t : State) (status : Nat) => CmdEnds t k status ∧ t.pager = { s.pager with cmd := none } ∧ t.mac = s.mac ∧
       OnlyRegs s t [PAGER_RES, PAGER_IRQ, PAGER_KEYWn 0, PAGER_KEYWn 1, PAGER_KEYWn 2, PAGER_KEYWn 3]
     (k.status ≠ Code.OK → k.status < 256 → Gives (exec (.pagerCmdDone bad die) s) (fun t => ends t k.status)) ∧
     (k.status = Code.OK → s.storeDown = true → Gives (exec (.pagerCmdDone bad die) s) (fun t => ends t Code.STORE_DOWN)) ∧
     (k.status = Code.OK → s.storeDown = false → 3 ≤ k.op → k.op ≤ 6 → k.ctx ∈ s.pager.damaged →
       Gives (exec (.pagerCmdDone bad die) s) (fun t => ends t Code.CTX_DAMAGED)) ∧
     (k.status = Code.OK → s.storeDown = false → s.cmdWaits k = false → k.ctx ∉ s.pager.zeroed →
       (k.op = 1 → ∀ w, s.dirSlot k.key = some w → s.dirFind k.key k.cls = none →
         Gives (exec (.pagerCmdDone bad die) s) (fun t => CmdEnds t k Code.OK ∧ t.dirFind k.key k.cls = some w ∧
           (t.dirAt w).ctx = k.ctx ∧ (t.dirAt w).res = true ∧ HotIs t k.ctx (fun h => h.ctx = s.joinCtx k) ∧
           tblFind t.pager.store k.ctx ≠ none ∧ BlocksOnly s t (basePAGER :: baseMAC :: dieBlocks die) ∧ SameMem s t ∧ DieRetires s t .ctx die)) ∧
       (k.op = 2 → Gives (exec (.pagerCmdDone bad die) s) (fun t => CmdEnds t k Code.OK ∧
         tblFind t.pager.store k.ctx = none ∧ t.hot k.ctx = none ∧ t.outside k.ctx = none ∧
         (∀ e ∈ t.mac.frames, e.2.phase = .parked → e.2.ctx ≠ k.ctx) ∧
         (∀ d ∈ t.mac.dlq, d.ofNode = true → d.key = k.key → d.cls ≠ k.cls) ∧
         BlocksOnly s t (basePAGER :: baseMAC :: baseFACET :: dieBlocks die))) ∧
       (∀ h, s.hot k.ctx = some h → k.ctx ∉ s.pager.damaged →
         (k.op = 3 → h.ctx.keyuse ≤ 1 → Gives (exec (.pagerCmdDone bad die) s) (fun t => CmdEnds t k Code.OK ∧
           let ix := 1 - h.ctx.keyuse
           HotIs t k.ctx (fun y => y.ctx.keyAt ix = some k.img.key0 ∧ y.ctx.rxfc ix = 0 ∧ y.ctx.keyuse = h.ctx.keyuse ∧
             y.ctx.keyAt h.ctx.keyuse = h.ctx.keyAt h.ctx.keyuse) ∧ t.fld PAGER_RES_KEYIDX = ix ∧
           OnlyBlocks s t (basePAGER :: dieBlocks die))) ∧
         (k.op = 4 → Gives (exec (.pagerCmdDone bad die) s) (fun t => CmdEnds t k Code.OK ∧
           HotIs t k.ctx (fun y => y.ctx = { h.ctx with grp := k.img.grp, pos := k.img.pos, periodc := k.img.periodc,
                                                        phasec := k.img.phasec, miss := 0 }) ∧
           OnlyBlocks s t (basePAGER :: dieBlocks die))) ∧
         (k.op = 5 → Gives (exec (.pagerCmdDone bad die) s) (fun t => CmdEnds t k Code.OK ∧
           t.pager = { s.pager with cmd := none } ∧ OnlyBlocks s t (basePAGER :: dieBlocks die) ∧
           ∀ n, n < 64 → t.rd (PAGER_CTXn n) = BitVec.ofNat 32 (octLe h.ctx.bytes (4 * n) 4))) ∧
         (k.op = 6 → Gives (exec (.pagerCmdDone bad die) s) (fun t => CmdEnds t k Code.OK ∧
           HotIs t k.ctx (fun y => y.ctx = { h.ctx with app := s.appWords }) ∧ OnlyBlocks s t (basePAGER :: dieBlocks die)))) ∧
       (k.op = 7 → Gives (exec (.pagerCmdDone bad die) s) (fun t => CmdEnds t k Code.OK ∧
         (∀ e ∈ t.pager.hot, e.2.dirty = false) ∧ OnlyBlocks s t (basePAGER :: dieBlocks die) ∧
         ∃ c : JCommit, c.recs = s.snapshot.1 ∧ c.pages = commitPages c.recs ∧ c.seq0 = s.pager.storeSeq ∧ c.flush = false ∧
           t.pager.jpages = ({ s.pager with jpages := s.pager.jpages ++ c.written c.pages } : PagerState).prune.jpages ∧
           t.rd PAGER_JSEQ = BitVec.ofNat 32 ((c.seq0 + c.pages) % 2 ^ 32))) ∧
       (3 ≤ k.op → k.op ≤ 6 → k.ctx ∉ s.pager.damaged → s.hot k.ctx = none →
         (bad = true ∨ s.fetched k.ctx = none → Gives (exec (.pagerCmdDone bad die) s) (fun t =>
           CmdEnds t k Code.CTX_DAMAGED ∧ k.ctx ∈ t.pager.damaged ∧ t.flag PAGER_IRQ_DAMAGED = true)) ∧
         (bad = false → s.fetched k.ctx ≠ none → s.slotForCmd ≠ none → Gives (exec (.pagerCmdDone bad die) s) (fun t =>
           CmdEnds t k Code.OK ∧ t.hot k.ctx ≠ none)))))


/-- R229–R239, R246: the contexts due in a group cycle that is announced are pinned where they are resident and wanted where they are
not; the page of the context wanted first is read, and the context is resident with its parked frames resumed, or damaged, or the
fetch fails while the store key is absent; a victim newer than its copy is programmed before its slot is free; a resident context
with an uncorrectable slot is refetched, its outgoing counter past every value that may have been sent. R240–R247: a commit
snapshots the dirty contexts and is durable when its last page is; a reservation advances TX_RSV; the power-fail flush stops the
pager, which resumes when the warning is released; start-up rebuilds what the store says. R437, R440: a program that the die fails
retires its block, and nothing else shows. Where the spec leaves
room it follows the model's choices in log entries 45, 46, 106, 164, 165. -/
def Obligations.PagerResidencyAndCommits : Prop :=
  (∀ s : State,
     (∀ (recn t0 : Nat) (r : SchedRec), s.sched recn = some r → r.kind = 2 → r.next = some t0 → r.announced = false →
       s.wheelRuns = true → s.clocked = true → s.inTurn (t0 - 1000 * s.fld PAGER_CFG_LOOKAHEAD) 4 recn = true →
       s.flag PAGER_STAT_READY = true → s.flag PAGER_STAT_FLUSHED = false →
       s.pager.flushing = false → Gives (exec (.prefetchAnnounce recn) s) (fun t =>
         OnlyBlocks s t [basePAGER, baseTMR] ∧ t.pager.cycles = s.pager.cycles ++ [(r.grp, r.gseq)] ∧
         ∀ e ∈ s.allCtx, (s.placedFor e.2 r.grp r.gseq).due r.grp r.gseq = true → e.2.lost = false →
           (s.hot e.1 ≠ none → HotIs t e.1 (fun h => (r.grp, r.gseq) ∈ h.prefetch)) ∧
           (s.hot e.1 = none → e.1 ∉ s.pager.damaged → t.pager.wants.any (fun w => w.1 == e.1) = true))) ∧
     (∀ (bad : List Nat) (corr retry i : Nat) (demand : Bool), s.nextWant = some (i, demand) → s.dieReleased = true →
       s.pagerRuns = true →
       (s.storeDown = true → Gives (exec (.ctxFetchDone bad corr retry) s) (fun t =>
         t.pager.wants = s.pager.wants.filter (fun e => e.1 != i) ∧ t.pager.hot = s.pager.hot ∧
         (∀ e ∈ t.mac.frames, e.2.phase = .parked → e.2.ctx ≠ i) ∧ BlocksOnly s t [basePAGER, baseMAC, baseFACET])) ∧
       (s.storeDown = false →
         (∃ k p, s.pageOf i = some (k, p) ∧ p.members.filter (fun m => s.pager.wants.any (fun e => e.1 == m)) = [i]) →
         tblFind s.pager.store i ≠ none → i ∉ s.pager.zeroed →
         (i ∈ bad ∨ 7 < retry ∨ s.fetched i = none → Gives (exec (.ctxFetchDone bad corr retry) s) (fun t =>
           i ∈ t.pager.damaged ∧ t.flag PAGER_IRQ_DAMAGED = true ∧
           (∀ e ∈ t.pager.wants, e.1 ≠ i) ∧ (∀ e ∈ t.mac.frames, e.2.phase = .parked → e.2.ctx ≠ i) ∧
           BlocksOnly s t [basePAGER, baseMAC, baseFACET, baseLOG, baseNAND])) ∧
         (∀ (n : Nat) (d : Ctx), i ∉ bad → retry ≤ 7 → s.fetched i = some d → s.freeHot = some n →
           let c := (tblFind s.pager.cold i).getD d
           Gives (exec (.ctxFetchDone bad corr retry) s) (fun t => t.isHot i = true ∧
             HotIs t i (fun h => h.slot = n ∧ h.ctx.key = c.key ∧ h.ctx.rxfc0 = c.rxfc0 ∧ h.ctx.rxfc1 = c.rxfc1) ∧
             (∀ e ∈ t.pager.wants, e.1 ≠ i) ∧ (∀ e ∈ t.mac.frames, e.2.phase = .parked → e.2.ctx ≠ i) ∧
             (∀ j, s.dirFind c.key c.cls = some j → (t.dirAt j).res = true) ∧
             OnlyBlocks s t [basePAGER, baseLOG, baseNAND])))) ∧
     (∀ (v : Nat) (h : HotCtx) (key : List Byte), s.ctxWritable = true → s.pager.wants ≠ [] → s.freeHot = none →
       s.pagerRuns = true → s.pager.flushing = false → s.storeKey = some key → s.storeDown = false → s.resvCommit = false →
       s.pageVictim = some v → s.hot v = some h → v ∉ s.pager.zeroed →
       h.newer = true → ∀ die : DieEnd, Gives (exec (.victimWriteback die) s) (fun t => t.hot v = none ∧ DieRetires s t .ctx die ∧
         (s.pageOf v ≠ none → tblFind t.pager.store v = some ⟨h.ctx, key⟩) ∧
         t.fld (PAGER_CNTn_COUNT 7) = min (s.fld (PAGER_CNTn_COUNT 7) + 1) 0xffffffff ∧
         t.fld (PAGER_CNTn_COUNT 6) = min (s.fld (PAGER_CNTn_COUNT 6) + 1) 0xffffffff ∧ OnlyBlocks s t (basePAGER :: dieBlocks die))) ∧
     (∀ i : Nat, s.isHot i = true → Gives (exec (.hotSlotEcc i) s) (fun t => t.hot i = none ∧ (i, true) ∈ t.pager.wants ∧
       (∀ e ∈ t.mac.frames, e.2.phase = .auth → e.2.ctx ≠ i) ∧
       (s.pairStandby = false → ∀ c, s.outside i = some c → tblFind t.pager.cold i = some { c with txfc := c.txrsv }) ∧
       OnlyBlocks s t [basePAGER, baseLOG, baseMMU])) ∧
     (∀ (x : FeedItem) (l : List FeedItem), s.pager.feedOut = x :: l → s.pairActive = true →
       Gives (exec .feedSend s) (fun t => t.pager.feedOut = l ∧ t.pager.feedSeq = (s.pager.feedSeq + 1) % 2 ^ 32 ∧
         (s.linkUp = true → ∃ q, t.mirror.unacked = s.mirror.unacked ++ [⟨2, q, .feed false [(s.pager.feedSeq, x)], none⟩]) ∧
         OnlyRegs s t [])) ∧
     Gives (exec .pagerCntclr s) (fun t => (∀ n, n < 12 → t.rd (PAGER_CNTn n) = 0) ∧ t.pager = s.pager ∧
       OnlyRegs s t ((List.range 12).map PAGER_CNTn))) ∧
  (∀ s : State,
     (s.mayCommit = true → Gives (exec .journalCommit s) (fun t => OnlyBlocks s t [basePAGER, baseTMR] ∧
       s.pager.nextCommit ≤ t.clk.now ∧ t.pager.nextCommit = t.clk.now + us (100000 * s.fld PAGER_CFG_JCOMMIT) ∧
       (∀ e ∈ t.pager.hot, e.2.dirty = false) ∧
       ∃ c, t.pager.commit = some c ∧ c.recs = s.snapshot.1 ∧ c.flush = false ∧ c.pages = ceilDiv c.recs.length 256 ∧
         c.seq0 = s.pager.storeSeq ∧ t.pager.storeSeq = (s.pager.storeSeq + c.pages) % 2 ^ 32)) ∧
     (s.mayCommit = true → s.pager.resv ≠ [] → Gives (exec .reserveCommit s) (fun t => OnlyRegs s t [PAGER_STAT, PAGER_JSTAT] ∧
       t.pager.resv = [] ∧ ∃ c, t.pager.commit = some c ∧ c.immediate = true ∧ (∀ r ∈ c.recs, r.resv = true) ∧
         ∀ i ∈ s.pager.resv, ∀ h, s.hot i = some h → h.ctx.reserveRec (s.pager.resvNew.contains i) ∈ c.recs)) ∧
     (∀ c, s.pager.commit = some c → c.flush = false → ∀ die : DieEnd, Gives (exec (.commitDone die) s) (fun t =>
       OnlyBlocks s t (basePAGER :: baseTMR :: dieBlocks die) ∧ (0 < c.pages → DieRetires s t .ctx die) ∧ t.pager.commit = none ∧ c.startAt + us (270 * ceilDiv c.pages 2) ≤ t.clk.now ∧
       t.pager.jpages = ({ s.pager with jpages := s.pager.jpages ++ c.written c.pages } : PagerState).prune.jpages ∧
       t.rd PAGER_JSEQ = BitVec.ofNat 32 ((c.seq0 + c.pages) % 2 ^ 32) ∧
       t.fld (PAGER_CNTn_COUNT 8) = min (s.fld (PAGER_CNTn_COUNT 8) + 1) 0xffffffff ∧
       (∀ r h, c.recs = [r] → r.resv = true → s.pager.zeroed = [] → s.hot r.ctx = some h →
         HotIs t r.ctx (fun y => y.ctx = { h.ctx with txrsv := r.txv })))) ∧
     (s.flag PWR_STAT_VINWARN = true → s.clocked = true → s.ctxWritable = true → s.flag PAGER_STAT_READY = true →
       s.pager.flushing = false → s.flag PAGER_STAT_FLUSHED = false → Gives (exec .powerFailFlush s) (fun t =>
         OnlyBlocks s t [basePAGER] ∧ t.pager.flushing = true ∧ t.pager.cmd = none ∧ (∀ w ∈ t.pager.wants, w.2 = true) ∧
         (s.pager.cmd ≠ none → t.fld PAGER_RES_STATUS = Code.CMD_ABORTED) ∧
         ∃ c, t.pager.commit = some c ∧ c.flush = true ∧
           c.recs = mergeRecs ((s.pager.commit.map (·.recs)).getD []) s.snapshot.1 ∧ 0 < c.pages)) ∧
     (∀ c, s.pager.commit = some c → c.flush = true → ∀ die : DieEnd, Gives (exec (.flushDone die) s) (fun t =>
       BlocksOnly s t (basePAGER :: baseTMR :: baseMAC :: baseFACET :: dieBlocks die) ∧ t.flag PAGER_STAT_FLUSHED = s.flag PWR_STAT_VINWARN ∧
       t.flag PAGER_IRQ_FLUSHED = true ∧ t.pager.flushing = false ∧ (0 < c.pages → t.pager.cleanEnd = true) ∧
       t.pager.jpages = ({ s.pager with jpages := s.pager.jpages ++ c.written c.pages } : PagerState).prune.jpages ∧
       (∀ e ∈ t.mac.frames, e.2.phase ≠ .parked))) ∧
     (∀ bad : List Nat, s.mayRebuild = true → Gives (exec (.pagerRebuild bad) s) (fun t =>
       BlocksOnly s t [basePAGER, baseMAC, baseLOG, baseFACET] ∧ t.flag PAGER_STAT_READY = true ∧
       t.flag PAGER_IRQ_READY = true ∧ t.pager.store = s.pager.store ∧ (s.pager.store = [] → t.mac.dir = []) ∧
       (∀ i ∈ bad, tblFind s.pager.store i ≠ none → i ∈ t.pager.damaged) ∧
       (∀ i e c, s.pager.store = [(i, e)] → s.fetched i = some c → i ∉ bad → ∃ j, t.dirFind c.key c.cls = some j ∧
         (t.dirAt j).ctx = i ∧ (t.dirAt j).lost = c.lost ∧ (t.dirAt j).block = c.block) ∧
       (s.pager.header = none → t.rd PAGER_EPOCH = 1) ∧
       (∀ h, s.pager.header = some h → t.rd MAC_HSEED = BitVec.ofNat 32 h.hseed ∧
         (s.pager.cleanEnd = true → t.rd PAGER_EPOCH = BitVec.ofNat 32 h.epoch) ∧
         (s.pager.cleanEnd = false → t.rd PAGER_EPOCH = BitVec.ofNat 32 (h.epoch + 1) ∧
           t.flag PAGER_STAT_UNCLEAN = true)))))


/-! ### Network time and the slot sequencer (chapter 08) -/

/-- R261–R265: NETTIME is set while RUN = 0; slew accumulates and is worked off; references are latched and R is measured; NETTIME
resumes at an ST edge after a wake. R267–R270: the time source, what a sample does in each state of the discipline, and the entry
into holdover. Where the spec leaves room it follows the model's choices in log entries 50, 52, 53. -/
def Obligations.NetworkTime : Prop :=
  (∀ s : State,
     (∀ run, Gives (exec (.seqRunWrite run) s) (fun t => t.flag SEQ_CTRL_RUN = run ∧ t.seq = s.seq ∧ t.clk = s.clk ∧
       OnlyRegs s t [SEQ_CTRL])) ∧
     Gives (exec .seqCntclr s) (fun t => (∀ n, n < 12 → t.rd (SEQ_CNTn n) = 0) ∧ t.seq = s.seq ∧
       OnlyRegs s t ((List.range 12).map SEQ_CNTn)) ∧
     (∀ v : Word,
       (s.flag SEQ_CTRL_RUN = true → exec (.nettimeSet v) s = .next (s.discard baseSEQ)) ∧
       (s.flag SEQ_CTRL_RUN = false → Gives (exec (.nettimeSet v) s) (fun t =>
         t.clk.nt = (2 ^ 32 * s.seq.ntHiW + v.toNat) * 2 ^ 32 ∧ t.slew = 0 ∧ OnlyRegs s t [SEQ_SLEW])) ∧
       Gives (exec (.slewWrite v) s) (fun t =>
         t.slew = max (-(2 ^ 30)) (min (2 ^ 30) (s.slew + signedOf 32 v.toNat)) ∧ t.clk.nt = s.clk.nt ∧
         OnlyRegs s t [SEQ_SLEW])) ∧
     (s.slew ≠ 0 → Gives (exec .slewStep s) (fun t => s.clk.slewAt ≤ t.clk.now ∧ OnlyBlocks s t [baseSEQ, baseTMR] ∧
       t.slew = (if 0 < s.slew then s.slew - 1 else s.slew + 1) ∧
       (s.clk.slewAt ≤ s.clk.now → t.clk.nt = (if 0 < s.slew then s.clk.nt + 2 ^ 32 else s.clk.nt + 2 ^ 96 - 2 ^ 32) % 2 ^ 96))) ∧
     (s.seq.trefHold = false → Gives (exec .trefLatch s) (fun t => OnlyBlocks s t [baseSEQ, baseTMR] ∧
       t.rd SEQ_TREFTR = BitVec.ofNat 32 (trunkAt t.clk.now) ∧ t.rd SEQ_TREFNT = BitVec.ofNat 32 t.nettime)) ∧
     (∀ (c x new : Nat), s.seq.spanAt = some (c, x) → stEdges c + 1024 ≤ stEdges s.clk.now →
       Gives (exec (.slowRatioMeasure new) s) (fun t => t.seq.ratio = (3 * s.seq.ratio + new) / 4 ∧
         OnlyRegs s t [SEQ_SLOWRI, SEQ_SLOWRF])) ∧
     (∀ (e nt : Nat), s.seq.savedNt = some (e, nt) → s.clk.pll = true → s.flag SEQ_STAT_NTVALID = false →
       Gives (exec .nettimeResume s) (fun t => t.flag SEQ_STAT_NTVALID = true ∧ t.seq.savedNt = none ∧
         t.clk.nt = (nt + (stEdges t.clk.now - e) * s.seq.ratio) % 2 ^ 96 ∧ OnlyBlocks s t [baseSEQ, baseTMR]))) ∧
  (∀ s : State,
     (∀ v : Word,
       (v.toNat % 4 = 3 → exec (.tsrcModeWrite v) s = .next (s.discard baseSEQ)) ∧
       (v.toNat % 4 ≠ 3 → Gives (exec (.tsrcModeWrite v) s) (fun t => t.fld SEQ_TSRC_MODE = v.toNat % 4 ∧
         t.fld SEQ_STAT_TSTATE = (if v.toNat % 4 = 0 then 0 else max 1 (s.fld SEQ_STAT_TSTATE)) ∧
         t.rd SEQ_RATE = s.rd SEQ_RATE ∧ OnlyRegs s t [SEQ_TSRC, SEQ_STAT]))) ∧
     (∀ e : Int, s.seq.sample = some e →
       let win := 10 * s.fld SEQ_TLOOP_PPSWIN
       let reject := 2 ^ 31 ≤ e.natAbs ∨ (s.fld SEQ_STAT_TSTATE = 2 ∧ win < e.natAbs)
       Gives (exec .timeSample s) (fun t => t.seq.sample = none ∧
         OnlyRegs s t [SEQ_TERR, SEQ_SLEW, SEQ_RATE, SEQ_STAT, SEQ_IRQ, SEQ_CNTn 9, SEQ_CNTn 10] ∧
         (reject → t.flag SEQ_IRQ_PPSREJ = true ∧ CountsOne s t (SEQ_CNTn_COUNT 10) ∧
           t.fld SEQ_STAT_TSTATE = s.fld SEQ_STAT_TSTATE ∧ t.slew = s.slew ∧ t.rate = s.rate) ∧
         (¬reject → s.fld SEQ_STAT_TSTATE ≠ 0 → CountsOne s t (SEQ_CNTn_COUNT 9) ∧
           t.slew = max (-(2 ^ 30)) (min (2 ^ 30) (s.slew - e / 2 ^ s.fld SEQ_TLOOP_KP)) ∧
           (∀ t0, s.seq.lastOk = some t0 → t0 < s.clk.now → t.rate = max (-1048575) (min 1048575
             (s.rate - e * 2 ^ 32 / ((s.clk.now - t0) * 2 ^ s.fld SEQ_TLOOP_KI : Nat)))) ∧
           (s.fld SEQ_STAT_TSTATE = 2 → t.fld SEQ_STAT_TSTATE = 2) ∧
           (s.fld SEQ_STAT_TSTATE = 3 → t.fld SEQ_STAT_TSTATE = 1) ∧
           (s.fld SEQ_STAT_TSTATE = 1 → e.natAbs ≤ win →
             (s.seq.good + 1 < s.fld SEQ_TLOOP_LOCKN → t.fld SEQ_STAT_TSTATE = 1 ∧ t.seq.good = s.seq.good + 1) ∧
             (s.fld SEQ_TLOOP_LOCKN ≤ s.seq.good + 1 → t.fld SEQ_STAT_TSTATE = 2 ∧ t.flag SEQ_IRQ_LOCKED = true))))) ∧
     (∀ t0 : Nat, s.fld SEQ_STAT_TSTATE = 2 →
       ((s.fld SEQ_TSRC_MODE = 1 ∧ s.seq.lastOk = some t0) ∨
         (s.fld SEQ_TSRC_MODE = 2 ∧ (s.link (s.fld SEQ_TSRC_NB)).st = .search ∧ t0 = 0)) →
       Gives (exec .holdoverEnter s) (fun t => t.fld SEQ_STAT_TSTATE = 3 ∧ t.flag SEQ_IRQ_HOLDOVER = true ∧
         t.rd SEQ_RATE = s.rd SEQ_RATE ∧ (s.fld SEQ_TSRC_MODE = 1 → t0 + us 3000000 ≤ t.clk.now) ∧
         OnlyBlocks s t [baseSEQ, baseLOG, baseTMR])))


/-- R274–R276, R302: schedule records are written, read and cleared. R281: a group's uplink window opens with its GACK record, as far
as those are not past, and closes; its downlink window closes and the occurrence ends.
R145, R278, R293, R294, R297: the request that is decided next is ended RL_QUIET, refused and counted, or approved, after a listen
interval where its channel asks for one; a listen interval starts the meter, and its report approves or refuses. Where the spec
leaves room it follows the model's choices in log entries 29, 48, 49, 51. -/
def Obligations.SequencerRecordsAndRequests : Prop :=
  (∀ s : State,
     (let n := s.fld SEQ_RECSEL_REC
       let r := s.stagedRec
       ((s.activePlan = none ∨ r.fieldsOk = false ∨ s.recClash n r = true ∨ s.recBad n r = true) →
         exec .recordWrite s = .next (s.discard baseSEQ)) ∧
       (s.recBad n r = false → Gives (exec .recordWrite s) (fun t => OnlyRegs s t [] ∧
         (∀ m, m ≠ n → t.sched m = s.sched m) ∧
         (r.kind = 0 → t.sched n = none) ∧
         (r.kind ≠ 0 → t.sched n = some { r with next := some (timeOf32 s.sqt (r.word 1)).toNat } ∧
           (r.kind = 3 → t.link r.nb = { st := .search })))) ∧
       Gives (exec .recordClear s) (fun t => OnlyRegs s t [] ∧ t.sched n = none ∧ (∀ m, m ≠ n → t.sched m = s.sched m) ∧
         (∀ q, s.sched n = some q → q.kind = 3 → t.link q.nb = {})) ∧
       Gives (exec .recordRead s) (fun t => t.seq = s.seq ∧ OnlyRegs s t ((List.range 8).map SEQ_RECWn) ∧
         (∀ k, k < 7 → t.rd (SEQ_RECWn k) = BitVec.ofNat 32 (((s.sched n).getD {}).word k)) ∧
         t.rd (SEQ_RECWn 7) = BitVec.ofNat 32 ((((s.sched n).getD {}).nextFrom s.sqt).getD 0))) ∧
     (∀ (recn : Nat) (r : SchedRec), s.sched recn = some r → r.kind = 2 → s.wheelRuns = true →
       (∀ t0, r.next = some t0 → r.occ = none → s.inTurn t0 4 recn = true → Gives (exec (.uplinkOpen recn) s) (fun t =>
         OnlyBlocks s t [basePAGER, baseTMR] ∧
         (∃ q, t.sched recn = some q ∧ q.occ = some { s0 := t0, upOpen := decide (t.sqt < t0 + r.uplen) } ∧
           q.gseq = (r.gseq + 1) % 65536 ∧ q.next = (if r.word 2 = 0 then none else some (t0 + r.word 2))) ∧
         (s.gackOf recn t0 = none → t.sqt ≤ t0 + r.gackAt - s.fld MAC_GACKCFG_BUILD →
           t.gackOf recn t0 = some { recn := recn, grp := r.grp, gseq := r.gseq, npos := r.npos, s0 := t0 }))) ∧
       (∀ o, r.occ = some o → o.upOpen = true → s.inTurn (o.s0 + r.uplen) 0 0 = true →
         Gives (exec (.uplinkClose recn) s) (fun t => OnlyBlocks s t [baseTMR] ∧
           t.sched recn = some { r with occ := some { o with upOpen := false } } ∧
           (∀ g ∈ t.mac.gacks, g.recn = recn → o.s0 ≤ g.s0))) ∧
       (∀ o, r.occ = some o → o.upOpen = false → s.inTurn (o.s0 + r.occLen) 3 recn = true →
         Gives (exec (.dlWindowClose recn) s) (fun t => OnlyBlocks s t [baseTMR] ∧
           t.sched recn = some r.finish ∧ (∀ w ∈ t.mac.dlwins, w.grp ≠ r.grp))))) ∧
  (∀ s : State,
     (∀ r : TxReq, nextAsk s.seq.asks = some r → s.txEnds = [] →
       let rest := s.seq.asks.filter (fun x => x.id != r.id)
       (s.quietBars r = true → Gives (exec .txRequest s) (fun t => t.seq.asks = rest ∧ t.seq.approved = s.seq.approved ∧
         t.acct = s.acct ∧ OnlyRegs s t [])) ∧
       (s.quietBars r = false →
         (∀ n, s.reqCheck r ≠ Code.OK → refuseCnt (s.reqCheck r) = some n → Gives (exec .txRequest s) (fun t =>
           t.seq.approved = s.seq.approved.filter (fun x => x.id != r.id) ∧ t.flag SEQ_IRQ_REFUSE = true ∧
           CountsOne s t (SEQ_CNTn_COUNT n) ∧ t.acct = s.acct ∧ BlocksOnly s t [baseSEQ, baseMAC, basePAGER] ∧
           ((∀ e, r.kind ≠ .downlink e) → t.seq.asks = rest ∧ OnlyBlocks s t [baseSEQ, baseMAC]))) ∧
         (s.reqCheck r = Code.OK → s.needsLbt r = true → Gives (exec .txRequest s) (fun t => OnlyRegs s t [] ∧
           t.seq.asks = rest ∧
           ∃ q, t.seq.approved = s.seq.approved ++ [q] ∧ q.id = r.id ∧ q.psdu = r.psdu ∧ q.tstart = r.tstart ∧ q.charged = true ∧
             q.lbtDue = some (s.lbtT0 r))) ∧
         (s.reqCheck r = Code.OK → s.needsLbt r = false → (∀ e, r.kind ≠ .downlink e) → Gives (exec .txRequest s) (fun t =>
           t.seq.asks = rest)))) ∧
     (∀ (p : PathId) (r : TxReq) (t0 : Int), s.nextLbt p = some (r, t0) → (s.rf p).seqMeter = none →
       Gives (exec (.lbtMeasureStart p) s) (fun t => OnlyBlocks s t [baseTMR] ∧
         (t.rf p).seqMeter.any (fun m => m.ray == r.ray && m.durUs == s.lbtUs r) = true ∧
         ∀ q ∈ t.seq.approved, q.id = r.id → q.lbtReady.isSome = true)) ∧
     (∀ (p : PathId) (mean : QdB) (m : Meter) (r : TxReq), (s.rf p).seqMeter = some m →
       s.seq.approved.find? (fun r => r.path == p && r.lbtReady.isSome) = some r → s.txEnds = [] →
       let v := (s.advanceTo m.readyAt).reported p m mean mean
       let thr := (s.profOf r.profid).lbtthr
       (90 ≤ v.1 → v.2.1 ≤ thr → Gives (exec (.lbtMeasureDone p mean) s) (fun t => (t.rf p).seqMeter = none ∧
         m.readyAt ≤ t.clk.now)) ∧
       (v.1 < 90 → Gives (exec (.lbtMeasureDone p mean) s) (fun t => (t.rf p).seqMeter = none ∧ m.readyAt ≤ t.clk.now ∧
         CountsOne s t (SEQ_CNTn_COUNT 3) ∧ (∀ q ∈ t.seq.approved, q.id ≠ r.id) ∧
         BlocksOnly s t [baseSEQ, baseMAC, baseTMR, basePAGER])) ∧
       (90 ≤ v.1 → thr < v.2.1 → Gives (exec (.lbtMeasureDone p mean) s) (fun t => (t.rf p).seqMeter = none ∧
         CountsOne s t (SEQ_CNTn_COUNT 2) ∧ (∀ q ∈ t.seq.approved, q.id ≠ r.id) ∧
         BlocksOnly s t [baseSEQ, baseMAC, baseTMR, basePAGER]))))

/-- R279, R506: a calibration, tuner or self-test window whose path is not free over DUR + 12 µs is skipped and counted; a free one is
granted: a calibration window, where no BIST rerun is pending, starts the calibrations that are due and fit; a tuner window opens for
a search that is due where it fits and its probe passes R294, and is skipped where the probe does not; a self-test window grants the
slice. R292: at a hop boundary every ray of the sequence that can take its next channel is told to. Where the spec leaves
room it follows the model's choices in log entries 21, 54. -/
def Obligations.SequencerWindows : Prop :=
  ∀ s : State, s.wheelRuns = true →
    (∀ (recn t0 : Nat) (r : SchedRec), s.sched recn = some r → r.next = some t0 → s.inTurn t0 4 recn = true →
      let s1 := s.atWindow recn r t0
      let grant : Grant := ⟨r.path, t0, t0 + r.dur + 12⟩
      let skipped := fun (t : State) => CountsOne s t (SEQ_CNTn_COUNT 8) ∧ t.seq.grants = s.seq.grants ∧
        t.sched recn = s1.sched recn ∧ OnlyBlocks s t [baseSEQ, baseTMR]
      (s1.windowFree r.path t0 (t0 + r.dur + 12) = false → ∀ i,
        ((i = .calWindow recn ∧ r.kind = 4) ∨ (i = .tuneWindow recn ∧ r.kind = 5) ∨ (i = .bistWindow recn ∧ r.kind = 6)) →
        Gives (exec i s) skipped) ∧
      (s1.windowFree r.path t0 (t0 + r.dur + 12) = true →
        (r.kind = 4 → s1.calRerun r.path r.dur = false → s.pst r.path = .rx → (s.rf r.path).winPend = none →
          Gives (exec (.calWindow recn) s) (fun t => grant ∈ t.seq.grants ∧
            let syn := s.flag (RFx_STATE_SYNDUE r.path) = true ∧ 150 ≤ r.dur
            (syn → t.pst r.path = .syncal ∧
              (s.flag (RFx_STATE_IRCDUE r.path) = true → 270 ≤ r.dur → (t.rf r.path).ircReq = true)) ∧
            (¬syn → s.flag (RFx_STATE_IRCDUE r.path) = true → 120 ≤ r.dur → t.pst r.path = .ircal) ∧
            (¬syn → ¬(s.flag (RFx_STATE_IRCDUE r.path) = true ∧ 120 ≤ r.dur) →
              t.pst r.path = .rx ∧ OnlyBlocks s t [baseTMR]))) ∧
        (r.kind = 5 →
          (s.searchDue r.path = false ∨ r.dur < 376 → Gives (exec (.tuneWindow recn) s) (fun t =>
            grant ∈ t.seq.grants ∧ OnlyBlocks s t [baseTMR] ∧ t.rf r.path = s.rf r.path)) ∧
          (s.searchDue r.path = true → 376 ≤ r.dur → s1.probeOk r.path s1.sqt = true →
            Gives (exec (.tuneWindow recn) s) (fun t => grant ∈ t.seq.grants ∧
              (t.rf r.path).tuneUntil = some (t.sqt + r.dur) ∧ OnlyBlocks s t [baseTMR])) ∧
          (s.searchDue r.path = true → 376 ≤ r.dur → s1.probeOk r.path s1.sqt = false →
            Gives (exec (.tuneWindow recn) s) skipped)) ∧
        (r.kind = 6 → Gives (exec (.bistWindow recn) s) (fun t => grant ∈ t.seq.grants ∧
          t.bist.slice.any (fun x => x.path == r.path && x.endAt == t.clk.now + us r.dur) = true ∧
          t.flag BIST_STAT_SLICE = true ∧ OnlyBlocks s t [baseTMR, baseBIST])))) ∧
    (∀ (q : Plan) (hopid : Nat) (h : PlanHop), s.activePlan = some q → q.hop hopid = some h →
      h.hopMs ≠ 0 → s.inTurn (s.hopDue h) 2 hopid = true →
      Gives (exec (.hopRetune hopid) s) (fun t => OnlyBlocks s t [basePRISM, baseTMR] ∧
        ∀ r ∈ q.rays, r.hop = some hopid → ((s.ray r.path r.ray).st = .live ∨ (s.ray r.path r.ray).st = .parked) →
          s.tuneOk r.path (s.ray r.path r.ray) (h.centreAt t.sqt) = true →
          (t.ray r.path r.ray).tune = some (h.centreAt t.sqt, t.clk.now)))


/-! ### Register writes and the debug port (chapters 00 and 18) -/

/-- R5–R10, R12: narrow writes, reserved encodings and writes where no register lies are recorded and change nothing else;
a W1C bit is cleared by a 1, a RW bit takes what is written; BLOCK_CFGSTAT is cleared before a discard of the same cycle is
recorded. Where the spec leaves
room it follows the model's choices in log entries 10, 11. -/
def Obligations.RegisterWrites : Prop :=
  ∀ (s : State) (a : Nat) (v : Word), inWindows a = true →
    let b := blockBase a
    (∀ (r : Requester) (row : RegRow), findRow (a / 4 * 4) = some row →
      (∀ w : Width, w ≠ .word → Gives (exec (.registerWrite r a w v) s) (fun t => Recorded s t b false)) ∧
      (a % 4 = 0 → a % 0x10000 ≠ 0xffc → s.badWrite r a v.toNat = true →
        Gives (exec (.registerWrite r a .word v) s) (fun t => Recorded s t b false)) ∧
      (a ∈ irqRegs → Gives (exec (.registerWrite r a .word v) s) (fun t => OnlyRegs s t [a] ∧
        ∀ i, row.w1c.testBit i = true → (t.rd a).getLsbD i = ((s.rd a).getLsbD i && !(v.getLsbD i)))) ∧
      (a ∈ irqEnables → Gives (exec (.registerWrite r a .word v) s) (fun t => OnlyRegs s t [a] ∧
        ∀ i, i < 32 → row.rw.testBit i = true → (t.rd a).getLsbD i = v.getLsbD i))) ∧
    (findRow (a / 4 * 4) = none → Gives (exec (.unmappedWrite a) s) (fun t => Recorded s t b true)) ∧
    (∀ rsvd unmap : Bool, Gives (exec (.cfgstatClear a v rsvd unmap) s) (fun t =>
      t.flag (CFGSTAT_RSVD_WR b) = (rsvd || (s.flag (CFGSTAT_RSVD_WR b) && !(v.getLsbD 0))) ∧
      t.flag (CFGSTAT_UNMAP_WR b) = (unmap || (s.flag (CFGSTAT_UNMAP_WR b) && !(v.getLsbD 1))) ∧
      t.fld (CFGSTAT_CFG_ERR b) = min ((if v.getLsbD 0 then 0 else s.fld (CFGSTAT_CFG_ERR b)) +
        (if rsvd then 1 else 0) + (if unmap then 1 else 0)) 0xffff ∧ OnlyRegs s t [CFGSTAT b]))

/-- R538: what each request of the debug port reads, writes or does at each level, and what is refused. Where the spec leaves
room it follows the model's choices in log entries 72, 73, 74. -/
def Obligations.DebugPort : Prop :=
  ∀ s : State,
    Gives (exec .debugSessionOpen s) (fun t => t.flag SYS_DBGCTL_CONN = true ∧ t.fld SYS_DBGCTL_LEVEL = s.fld SYS_DBGCTL_LEVEL ∧
      OnlyRegs s t [SYS_DBGCTL]) ∧
    Gives (exec .debugSessionClose s) (fun t => t.flag SYS_DBGCTL_CONN = false ∧
      t.fld SYS_DBGCTL_LEVEL = s.fld SYS_DBGCTL_LEVEL ∧ OnlyRegs s t [SYS_DBGCTL]) ∧
    (s.clocked = true →
      (∀ i, DbgCmd i false → exec i s = .next (s.dbgEnd 4)) ∧
      exec (.dbgCread true 0) s = .next (s.dbgOk 0x85120001) ∧
      (s.dbgLevel = 0 → ∀ i, DbgCmd i true → i ≠ .dbgCread true 0 → exec i s = .next (s.dbgEnd 4)) ∧
      (s.dbgLevel ≠ 0 →
        Gives (exec (.dbgCread true 4) s) (fun t => t.dbgAck = 1 ∧ OnlyRegs s t [] ∧
          ∀ c, s.dbgCore c = true → t.dbgData.getLsbD (coreNum c) = (s.core c).dbgHalt) ∧
        (∀ m, m < 16 → (∀ c, bitAt m (coreNum c) = true → s.dbgCore c = true) → ∀ h : Bool,
          Gives (exec (if h then .dbgHalt true m else .dbgResume true m) s) (fun t => t.dbgAck = 1 ∧ OtherRegs s t [] ∧
            SameMem s t ∧ ∀ c, t.core c = (if bitAt m (coreNum c) then { s.core c with dbgHalt := h } else s.core c))) ∧
        (∀ v, v = 1 → s.pwr.phase = .awake →
          Gives (exec (.dbgReset true v) s) (fun t => t.dbgAck = 1 ∧ t.fld PWR_RSTCAUSE_CAUSE = 6)) ∧
        (∀ c : CoreId, s.dbgCore c = true → (s.core c).dbgHalt = true →
          let at_ (k : Nat) := 0x40 + 0x10 * coreNum c + 4 * k
          (∀ k, k < 4 → exec (.dbgCread true (at_ k)) s = .next (s.dbgOk ((s.core c).dbgReg k))) ∧
          (∀ v : Word, Gives (exec (.dbgCwriteReg true (at_ 0) v) s) (fun t => t.dbgAck = 1 ∧
            t.core c = { s.core c with pc := v } ∧ (∀ d, d ≠ c → t.core d = s.core d) ∧ OtherRegs s t [] ∧ SameMem s t)) ∧
          (∀ k (v : Word), k = 2 ∨ k = 3 → v.toNat % 4 = 0 → (s.core c).bankNo < 3 →
            Gives (exec (.dbgCwriteReg true (at_ k) v) s) (fun t => t.dbgAck = 1 ∧ (t.core c).dbgReg k = v ∧
              (∀ d, d ≠ c → t.core d = s.core d) ∧ OtherRegs s t [] ∧ SameMem s t)) ∧
          (∀ v : Word, pswLegal c v = true → Gives (exec (.dbgCwriteReg true (at_ 1) v) s) (fun t => t.dbgAck = 1 ∧
            t.core c = { s.core c with psw := v &&& 0x307 } ∧ (∀ d, d ≠ c → t.core d = s.core d) ∧ OtherRegs s t [] ∧
            SameMem s t)) ∧
          (s.executes c = true → ∀ (p : Prefix) (op : VOp) (x : Option VOp),
            exec (.dbgStep true c p op x) s = .next ((s.instr c p op x).dbgEnd 1))) ∧
        (∀ c : CoreId, s.dbgCore c = false ∨ (s.core c).dbgHalt = false →
          (∀ k, k < 4 → exec (.dbgCread true (0x40 + 0x10 * coreNum c + 4 * k)) s = .next (s.dbgEnd 4)) ∧
          (∀ k (v : Word), k < 4 → exec (.dbgCwriteReg true (0x40 + 0x10 * coreNum c + 4 * k) v) s = .next (s.dbgEnd 4)) ∧
          ∀ (p : Prefix) (op : VOp) (x : Option VOp), exec (.dbgStep true c p op x) s = .next (s.dbgEnd 4)) ∧
        (∀ (a : Nat) (v : Word), a % 4 = 0 →
          (s.dbgShut a = true → exec (.dbgRead true a) s = .next (s.dbgEnd 4) ∧ exec (.dbgWrite true a v) s = .next (s.dbgEnd 4)) ∧
          (dataMem a = true → s.poisoned a = false →
            (s.kernelColumn s.dbgAs .load a = none → Gives (exec (.dbgRead true a) s) (fun t => t.dbgAck = 1 ∧
              t.dbgData = BitVec.ofNat 32 (s.memLe a 4) ∧ OnlyRegs s t [])) ∧
            (s.kernelColumn s.dbgAs .store a = none → Gives (exec (.dbgWrite true a v) s) (fun t => t.dbgAck = 1 ∧
              t.memLe a 4 = v.toNat ∧ MemBut s t a 4 ∧ OtherRegs s t [] ∧ SameCores s t))) ∧
          (∀ x, s.dbgShut a = false → s.kernelColumn s.dbgAs .load a = some x → exec (.dbgRead true a) s = .next (s.dbgEnd 4)) ∧
          (∀ x, s.dbgShut a = false → s.kernelColumn s.dbgAs .store a = some x →
            exec (.dbgWrite true a v) s = .next (s.dbgEnd 4)) ∧
          (s.dbgShut a = false → regionOf a = .periph → s.poisoned a = false →
            Gives (exec (.dbgRead true a) s) (fun t => t.dbgAck = 1 ∧ t.dbgData = (s.regRead a).1) ∧
            exec (.dbgWrite true a v) s = .next ((s.busWrite .debug a .word v).dbgEnd 1)))))

/-! ### Memory management, tasks and DMA (chapter 10) -/

/-- R337, R340, R343, R347: what a page miss does to each requester, and how the fetch of the page ends. Where the spec leaves
room it follows the model's choices in log entries 77, 78, 87. -/
def Obligations.PageMisses : Prop :=
  ∀ s : State,
    (∀ (c : CoreId) (va pte : Nat), (s.core c).st = .run → s.clocked = true →
      (∀ n, n < 8 → (s.core c).bankNo = 0 → (s.tasksOf c).cur = some n → ((s.tasksOf c).slot n).leaving = false →
        (s.core c).CachesFit → (s.translate (coreNum c) n (s.slotTtb c n) true .load (fun _ => none) va).1 = .miss pte →
        Gives (exec (.pageMiss (.core c) va) s) (fun t => Fetching t pte ∧ TcbSaved s t c n ∧
          ((t.tasksOf c).slot n).st = slotWaitPage ∧ ((t.tasksOf c).slot n).waitPte = pte ∧ (t.tasksOf c).cur ≠ some n ∧
          t.memW (s.tcbAt c n + 0x38) = BitVec.ofNat 32 va ∧
          t.fld (MMU_TSWc_PARKS (coreNum c)) = min (s.fld (MMU_TSWc_PARKS (coreNum c)) + 1) 0xffff ∧
          OnlyCore s t c (schedRegs c))) ∧
      (∀ l1, (s.core c).bankNo = 1 → s.tableOf c 8 = some l1 →
        (s.translate (coreNum c) 8 l1 false .load (fun _ => none) va).1 = .miss pte →
        Gives (exec (.pageMiss (.core c) va) s) (fun t => (∃ f ∈ t.mmu.fetches, f.pte = pte ∧ f.kern = true) ∧
          OnlyBlocks s t [baseTMR])) ∧
      (∀ l1, (s.core c).bankNo = 2 → s.tableOf c 8 = some l1 →
        (s.translate (coreNum c) 8 l1 false .load (fun _ => none) va).1 = .miss pte →
        Gives (exec (.pageMiss (.core c) va) s) (fun t => (c = .kc → t.fld PWR_RSTCAUSE_CAUSE = 7) ∧
          (c ≠ .kc → (t.core c).st = .fatal ∧ (t.core c).fpc = (s.core c).pc ∧ (∀ d, d ≠ c → t.core d = s.core d) ∧
            SameMem s t ∧ ∀ a, blockBase a ∉ [baseTMR, baseLOG] → t.rd a = s.rd a)))) ∧
    (∀ ch va pte, ch < 16 → s.fld (DMA_CHnSTAT_STATE ch) = 1 →
      (s.translate 4 ch (1024 * s.fld (DMA_CHnTTB_L1 ch)) false .load (fun _ => none) va).1 = .miss pte →
      Gives (exec (.pageMiss (.dma ch) va) s) (fun t => Fetching t pte ∧ t.fld (DMA_CHnSTAT_STATE ch) = 2 ∧
        tblFind t.dma.wait ch = some pte ∧ OnlyRegs s t [DMA_CHnSTAT ch])) ∧
    (∀ (f : PageFetch) (n corr retry : Nat), s.mmu.fetches.find? (fun x => x.pte == f.pte) = some f →
      s.fetchAliased f = false → (s.fetchFrame f).1 = some n → n < 1024 → (∀ e ∈ s.dma.wait, e.1 < 16) →
      (∀ b, PageReads s f retry b → f.pte + 4 ≤ frameBase n ∨ frameBase n + 4096 ≤ f.pte →
        Gives (exec (.pageFetchDone f.pte corr retry) s) (fun t => ¬Fetching t f.pte ∧
          (∀ i, i < 4096 → t.memRd (frameBase n + i) = b.getD i 0) ∧
          pteNum (t.pteRd f.pte) = n ∧ pteTyp (t.pteRd f.pte) = 2 ∧ pteD (t.pteRd f.pte) = f.zero ∧
          pteA (t.pteRd f.pte) = false ∧ pteZ (t.pteRd f.pte) = false ∧
          bitsOf (t.pteRd f.pte) 4 2 = bitsOf (s.pteRd f.pte) 4 2 ∧
          tblFind t.mmu.frames n = some ⟨f.pte, f.bidx⟩ ∧ (∀ e ∈ t.mmu.tlb, e.pteAt ≠ f.pte) ∧ Resumed s t f.pte 1 ∧
          OnlyIdle s t ∧ (∀ x, (x < f.pte ∨ f.pte + 4 ≤ x) → (x < frameBase n ∨ frameBase n + 4096 ≤ x) →
            t.memRd x = s.memRd x) ∧ ∀ a, blockBase a ∉ [baseMMU, baseDMA, baseNAND, baseLOG] → t.rd a = s.rd a)) ∧
      (∀ p k, f.zero = false → s.dieReleased = true → s.pager.flushing = false → s.aesRuns = true → tblFind s.mmu.store f.bidx = some p →
        (s.keySlot (s.fld MMU_KEYSLOT_SLOT)).key = some k →
        retry ≤ 7 → (cmac k (p.bytes ++ leBytes 4 f.bidx)).take 8 ≠ p.tag →
        Gives (exec (.pageFetchDone f.pte corr retry) s) (fun t => ¬Fetching t f.pte ∧ t.flag MMU_IRQ_BADTAG = true ∧
          t.flag MMU_IRQ_UNCORR = true ∧ t.fld MMU_ECCSTAT_UNCORR = min (s.fld MMU_ECCSTAT_UNCORR + 1) 255 ∧
          Resumed s t f.pte 4 ∧ OnlyIdle s t ∧ SameMem s t ∧
          ∀ a, blockBase a ∉ [baseMMU, baseDMA, baseNAND, baseLOG] → t.rd a = s.rd a)))

/-- R338, R352–R354, R357: the clock's victim, the end of a write-back, the page commands, and what corrected and uncorrectable
reads leave. Where the spec leaves
room it follows the model's choices in log entries 79, 80, 85. -/
def Obligations.PageReplacement : Prop :=
  ∀ s : State,
    (∀ (n : Nat) (f : PoolFrame) (pre post : List (Nat × PoolFrame)), s.clockOrder = pre ++ (n, f) :: post →
      s.freeFrames.length < s.fld MMU_POOL_FREEMIN → (∀ e ∈ pre, s.framePinned e.1 e.2 = true) →
      s.framePinned n f = false → pteA (s.pteRd f.pte) = false → tblFind s.mmu.frames n = some f →
      (s.frameDirty f = false → Gives (exec .clockSweep s) (fun t => PageLeft t n f ∧ t.mmu.hand = n + 1 ∧
        MemBut s t f.pte 4 ∧ OtherRegs s t [] ∧ SameCores s t)) ∧
      (s.frameDirty f = true → s.pageWritable = true → Gives (exec .clockSweep s) (fun t =>
        tblFind t.mmu.writebacks n = some f ∧ t.mmu.frames = s.mmu.frames ∧ t.mmu.hand = n + 1 ∧ OnlyRegs s t []))) ∧
    (∀ (m n : Nat) (g f : PoolFrame) (pre mid post : List (Nat × PoolFrame)),
      s.clockOrder = pre ++ (m, g) :: mid ++ (n, f) :: post → s.freeFrames.length < s.fld MMU_POOL_FREEMIN →
      (∀ e ∈ pre ++ mid, s.framePinned e.1 e.2 = true) → s.framePinned m g = false → s.framePinned n f = false →
      pteA (s.pteRd g.pte) = true → pteA (s.pteRd f.pte) = false → (g.pte + 4 ≤ f.pte ∨ f.pte + 4 ≤ g.pte) →
      Gives (exec .clockSweep s) (fun t => pteA (t.pteRd g.pte) = false ∧ t.mmu.hand = n + 1 ∧ OtherRegs s t [] ∧
        SameCores s t)) ∧
    (∀ (n : Nat) (f : PoolFrame) (k : List Byte), tblFind s.mmu.writebacks n = some f → tblFind s.mmu.frames n = some f →
      s.dieReleased = true → s.pager.flushing = false → s.aesRuns = true →
      (s.keySlot (s.fld MMU_KEYSLOT_SLOT)).key = some k →
      ∀ die : DieEnd, Gives (exec (.pageWritebackDone n die) s) (fun t => DieRetires s t .page die ∧
        let b := s.memBytes (frameBase n) 4096
        tblFind t.mmu.store f.bidx = some ⟨b, (cmac k (b ++ leBytes 4 f.bidx)).take 8⟩ ∧ PageLeft t n f ∧
        tblFind t.mmu.writebacks n = none ∧
        (s.mmu.evict = some f.pte → PageCmdEnds t Code.OK) ∧ (s.mmu.evict ≠ some f.pte → t.rd MMU_PCMD = s.rd MMU_PCMD) ∧
        MemBut s t f.pte 4 ∧ (∀ a, a ≠ MMU_PCMD → blockBase a ∉ dieBlocks die → t.rd a = s.rd a) ∧ SameCores s t)) ∧
    (∀ (c : CoreId) (asid : Nat), s.flag MMU_PCMD_BUSY = true ∨ 8 < asid →
      ∀ i : Instr, (i = .pageEvict c asid ∨ i = .pagePin c asid ∨ i = .pageUnpin c asid) → exec i s = .next (s.discard baseMMU)) ∧
    (s.flag MMU_PCMD_BUSY = true → exec .tlbinv s = .next (s.discard baseMMU)) ∧
    (s.flag MMU_PCMD_BUSY = false →
      Gives (exec .tlbinv s) (fun t => t.mmu.tlb = [] ∧ PageCmdEnds t Code.OK ∧ OnlyRegs s t [MMU_PCMD]) ∧
      ∀ (c : CoreId) (asid : Nat), asid ≤ 8 →
        (s.pcmdPte c asid = none → ∀ i : Instr, (i = .pageEvict c asid ∨ i = .pagePin c asid ∨ i = .pageUnpin c asid) →
          Gives (exec i s) (fun t => PageCmdEnds t Code.DMA_ABSENT ∧ t.mmu = s.mmu ∧ OnlyRegs s t [MMU_PCMD])) ∧
        (∀ a, s.pcmdPte c asid = some a → Gives (exec (.pageUnpin c asid) s) (fun t => PageCmdEnds t Code.OK ∧
          a ∉ t.mmu.pins ∧ OnlyRegs s t [MMU_PCMD])) ∧
        (∀ n f, (s.pcmdPte c asid).bind s.frameOf = some (n, f) →
          Gives (exec (.pagePin c asid) s) (fun t => PageCmdEnds t Code.OK ∧ f.pte ∈ t.mmu.pins ∧
            t.framePinned n f = true ∧ OnlyRegs s t [MMU_PCMD]) ∧
          (tblHas s.mmu.writebacks n = false → tblFind s.mmu.frames n = some f →
            (s.frameDirty f = false → Gives (exec (.pageEvict c asid) s) (fun t => PageCmdEnds t Code.OK ∧ PageLeft t n f ∧
              MemBut s t f.pte 4 ∧ OtherRegs s t [MMU_PCMD] ∧ SameCores s t)) ∧
            (s.frameDirty f = true → s.pageWritable = true → Gives (exec (.pageEvict c asid) s) (fun t =>
              t.flag MMU_PCMD_BUSY = true ∧ t.mmu.evict = some f.pte ∧ tblFind t.mmu.writebacks n = some f ∧
              OnlyRegs s t [MMU_PCMD]))))) ∧
    Gives (exec .mmuCntclr s) (fun t => t.rd MMU_ECCSTAT = 0 ∧ (∀ n, n < 4 → t.rd (MMU_TSWc n) = 0) ∧ t.mmu = s.mmu ∧
      OnlyRegs s t (MMU_ECCSTAT :: (List.range 4).map MMU_TSWc)) ∧
    (∀ a, a < 2 ^ 32 → eccMem a = true → s.poisoned a = false →
      Gives (exec (.eccCorrected a false) s) (fun t => t.fld MMU_ECCSTAT_CORR = min (s.fld MMU_ECCSTAT_CORR + 1) 0xffff ∧
        t.fld MMU_ECCADDR_LINE = a / 16 ∧ t.mmu = s.mmu ∧ OnlyRegs s t [MMU_ECCSTAT, MMU_ECCADDR]) ∧
      (∀ m k, s.spareOf a = some (m, k) → s.poolFrameOf a = none →
        ((s.mmu.retired.filter (fun e => e.1 == m)).length < k → Gives (exec (.eccCorrected a true) s) (fun t =>
          (m, a / 4096) ∈ t.mmu.retired ∧ t.fld MMU_ECCSTAT_RETIRED = min (s.fld MMU_ECCSTAT_RETIRED + 1) 255 ∧
          t.flag MMU_IRQ_RETIRED = true ∧ t.flag MMU_IRQ_NOSPARE = s.flag MMU_IRQ_NOSPARE ∧
          OnlyBlocks s t [baseMMU, baseLOG])) ∧
        (k ≤ (s.mmu.retired.filter (fun e => e.1 == m)).length → Gives (exec (.eccCorrected a true) s) (fun t =>
          t.mmu = s.mmu ∧ t.flag MMU_IRQ_NOSPARE = true ∧ t.fld MMU_ECCSTAT_RETIRED = s.fld MMU_ECCSTAT_RETIRED ∧
          OnlyBlocks s t [baseMMU, baseLOG]))) ∧
      (∀ n, s.poolFrameOf a = some n → Gives (exec (.eccCorrected a true) s) (fun t => n ∈ t.mmu.removed ∧
        t.mmu.retired = s.mmu.retired ∧ t.flag MMU_IRQ_RETIRED = true ∧ BlocksOnly s t [baseMMU, baseLOG]))) ∧
    (∀ o, s.flag MMU_SCRUB_EN = true → s.clocked = true →
      let a := scrubAddr s.mmu.scrub
      (s.poisoned a = false → o = 0 → Gives (exec (.scrubRead o) s) (fun t =>
        t.mmu = { s.mmu with scrub := (s.mmu.scrub + 1) % scrubLines } ∧ OnlyRegs s t [])) ∧
      (s.poisoned a = true ∨ 2 < o → s.cleanPage a = none → Gives (exec (.scrubRead o) s) (fun t =>
        t.mmu.scrub = (s.mmu.scrub + 1) % scrubLines ∧ a / 16 ∈ t.mmu.poison ∧ t.flag MMU_IRQ_UNCORR = true ∧
        t.fld MMU_ECCSTAT_UNCORR = min (s.fld MMU_ECCSTAT_UNCORR + 1) 255 ∧ OnlyBlocks s t [baseMMU, baseLOG])) ∧
      (∀ n, s.poisoned a = true ∨ 2 < o → s.cleanPage a = some n → Gives (exec (.scrubRead o) s) (fun t =>
        t.mmu.scrub = (s.mmu.scrub + 1) % scrubLines ∧ a / 16 ∉ t.mmu.poison ∧ tblFind t.mmu.frames n = none ∧
        BlocksOnly s t [baseMMU, baseLOG])))

/-- R341–R345: the slot commands, and the switches of the scheduler. Where the spec leaves
room it follows the model's choices in log entries 81, 82. -/
def Obligations.TaskSlots : Prop :=
  ∀ (s : State) (c : CoreId) (n : Nat), n < 8 →
    let x := (s.tasksOf c).slot n
    let tcmdRegs := schedRegs c
    (∀ (r : Requester) (prio : Nat), mayWriteSet r c = true → prio < 8 →
      (x.st = slotEmpty ∨ x.st = slotStopped → Gives (exec (.taskStart r c n prio) s) (fun t =>
        let y := (t.tasksOf c).slot n
        y.prio = prio ∧ (y.st = slotReady ∨ (y.st = slotRun ∧ (s.core c).st = .idle)) ∧
        ((s.core c).st ≠ .idle → t.core c = s.core c) ∧ SameMem s t ∧ OnlyCore s t c tcmdRegs)) ∧
      (x.st ≠ slotEmpty → Gives (exec (.taskPrio r c n prio) s) (fun t =>
        (t.tasksOf c).slot n = { x with prio := prio } ∧ OnlyRegs s t tcmdRegs)) ∧
      (x.st ≠ slotEmpty → Gives (exec (.taskStop r c n) s) (fun t =>
        (t.tasksOf c).slot n = { x with st := slotStopped, leaving := x.leaving || (s.tasksOf c).cur == some n } ∧
        OnlyRegs s t tcmdRegs)) ∧
      (x.st ≠ slotEmpty → Gives (exec (.taskSleep r c n) s) (fun t =>
        (t.tasksOf c).slot n = { x with st := slotSleep, leaving := x.leaving || (s.tasksOf c).cur == some n } ∧
        OnlyRegs s t tcmdRegs)) ∧
      (x.st = slotSleep → Gives (exec (.taskWake r c n) s) (fun t =>
        let y := (t.tasksOf c).slot n
        y.prio = x.prio ∧ (y.st = slotReady ∨ (y.st = slotRun ∧ (s.core c).st = .idle)) ∧
        ((s.core c).st ≠ .idle → t.core c = s.core c) ∧ SameMem s t ∧ OnlyCore s t c tcmdRegs)) ∧
      (x.st = slotStopped → Gives (exec (.taskFree r c n) s) (fun t =>
        (t.tasksOf c).slot n = { x with st := slotEmpty } ∧ OnlyRegs s t tcmdRegs)) ∧
      (∀ i : Instr, ((i = .taskStart r c n prio ∧ x.st ≠ slotEmpty ∧ x.st ≠ slotStopped) ∨
          ((i = .taskPrio r c n prio ∨ i = .taskStop r c n ∨ i = .taskSleep r c n) ∧ x.st = slotEmpty) ∨
          (i = .taskWake r c n ∧ x.st ≠ slotSleep) ∨ (i = .taskFree r c n ∧ x.st ≠ slotStopped)) →
        exec i s = .next (s.inc (CFGSTAT_CFG_ERR baseMMU)))) ∧
    (∀ (r : Requester) (prio : Nat), mayWriteSet r c = false → ∀ i : Instr,
      (i = .taskStart r c n prio ∨ i = .taskPrio r c n prio ∨ i = .taskStop r c n ∨ i = .taskSleep r c n ∨
        i = .taskWake r c n ∨ i = .taskFree r c n) → exec i s = .next (s.discard baseMMU)) ∧
    ((s.tasksOf c).cur = some n → s.inTask c = true → x.leaving = false → (s.core c).CachesFit →
      (∀ m, (s.tasksOf c).best = some m → ((s.tasksOf c).slot m).prio < x.prio →
        Gives (exec (.taskSwitch c) s) (fun t => RunsSlot s t c m ∧ ((t.tasksOf c).slot n).st = slotReady ∧
          TcbSaved s t c n ∧ OnlyCore s t c tcmdRegs)) ∧
      (∀ m, s.fld (MMU_TQUANTc_QUANT (coreNum c)) ≠ 0 → m < 8 → m ≠ n → ((s.tasksOf c).slot m).st = slotReady →
        ((s.tasksOf c).slot m).prio = x.prio →
        (∀ k, ((s.tasksOf c).slot k).st = slotReady → ((s.tasksOf c).slot k).order < (s.tasksOf c).stamp) →
        Gives (exec (.quantumExpire c) s) (fun t => (∃ k, k ≠ n ∧ RunsSlot s t c k) ∧
          ((t.tasksOf c).slot n).st = slotReady ∧ TcbSaved s t c n ∧
          x.since + s.fld (MMU_TQUANTc_QUANT (coreNum c)) ≤ t.clk.now ∧ OnlyCore s t c tcmdRegs)))

/-- R348–R351: the channel commands; a granted burst or a requested element moves its bytes, and ends the channel with the
last; a page miss parks the channel before any byte moves. Where the spec leaves
room it follows the model's choices in log entries 83, 84, 85, 86. -/
def Obligations.DmaChannels : Prop :=
  ∀ (s : State) (ch : Nat), ch < 16 →
    let st := s.dmaSt ch
    let done := s.fld (DMA_CHnDONE_DONE ch)
    let regs := [DMA_CHnSTAT ch, DMA_CHnDONE ch, DMA_IRQ]
    ((st = dmaIdle ∨ st = dmaDone) ∧ s.dmaMisfit ch = false → Gives (exec (.dmaStart ch) s) (fun t =>
      t.fld (DMA_CHnDONE_DONE ch) = 0 ∧ t.dmaHeld ch = [] ∧
      t.dmaSt ch = (if s.fld (DMA_CHnCFG_REQ ch) = 0 then dmaRun else dmaWaitReq) ∧
      OnlyRegs s t [DMA_CHnSTAT ch, DMA_CHnDONE ch])) ∧
    (¬((st = dmaIdle ∨ st = dmaDone) ∧ s.dmaMisfit ch = false) → exec (.dmaStart ch) s = .next (s.discard baseDMA)) ∧
    (st = dmaFault → Gives (exec (.dmaResume ch) s) (fun t => t.dmaSt ch = dmaRun ∧ t.dma = s.dma ∧
      OnlyRegs s t [DMA_CHnSTAT ch])) ∧
    (st ≠ dmaFault → exec (.dmaResume ch) s = .next (s.discard baseDMA)) ∧
    (st ∈ [dmaRun, dmaWaitPg, dmaWaitReq, dmaFault] → Gives (exec (.dmaAbort ch) s) (fun t => t.dmaSt ch = dmaIdle ∧
      t.fld (DMA_CHnSTAT_STATUS ch) = Code.DMA_ABORTED ∧ t.dmaHeld ch = [] ∧ tblFind t.dma.wait ch = none ∧
      OnlyRegs s t [DMA_CHnSTAT ch])) ∧
    (st ∉ [dmaRun, dmaWaitPg, dmaWaitReq, dmaFault] → exec (.dmaAbort ch) s = .next (s.discard baseDMA)) ∧
    (s.clocked = true → s.dmaGrant = some ch →
      (∀ k, k < 16 → s.dmaSt k = dmaRun → s.fld (DMA_CHnCFG_PRIO ch) ≤ s.fld (DMA_CHnCFG_PRIO k)) ∧
      (done < s.fld (DMA_CHnLEN_LEN ch) → s.flag (DMA_CHnCFG_SRCINC ch) = true → s.flag (DMA_CHnCFG_DSTINC ch) = true →
        s.fld (DMA_CHnCFG_REQ ch) = 0 → s.dmaHeld ch = [] →
        let n := s.dmaLen ch
        let from_ := s.dmaSide ch (s.dmaSrc ch) true (s.flag (DMA_CHnCFG_SRCV ch)) .load
        let to_ := from_.2.dmaSide ch (s.dmaDst ch) true (s.flag (DMA_CHnCFG_DSTV ch)) .store
        (n ≤ 16 ∧ n ≤ s.fld (DMA_CHnLEN_LEN ch) - done ∧ s.dmaSrc ch % 16 + n ≤ 16 ∧ s.dmaDst ch % 16 + n ≤ 16) ∧
        (∀ a b, from_.1 = .mem a → to_.1 = .mem b → s.poisoned a = false → s.poisoned b = false →
          Gives (exec .dmaBurst s) (fun t => (∀ i, i < n → t.memRd (b + i) = to_.2.memRd (a + i)) ∧
            (∀ x, x < b ∨ b + n ≤ x → t.memRd x = to_.2.memRd x) ∧ t.fld (DMA_CHnDONE_DONE ch) = done + n ∧
            (done + n = s.fld (DMA_CHnLEN_LEN ch) → t.dmaSt ch = dmaDone ∧ t.fld (DMA_CHnSTAT_STATUS ch) = Code.OK ∧
              (s.flag (DMA_CHnCFG_IRQDONE ch) = true → t.flag (DMA_IRQ_DONE.bit ch) = true)) ∧
            (done + n < s.fld (DMA_CHnLEN_LEN ch) → t.dmaSt ch = dmaRun) ∧
            (∀ x, x ∉ regs → blockBase x ≠ baseTMR → t.rd x = s.rd x) ∧ SameCores s t)) ∧
        (∀ a pte, from_.1 = .mem a → s.poisoned a = false → to_.1 = .miss pte →
          Gives (exec .dmaBurst s) (fun t => t.dmaSt ch = dmaWaitPg ∧ Fetching t pte ∧ t.fld (DMA_CHnDONE_DONE ch) = done ∧
            (∀ x, t.memRd x = to_.2.memRd x) ∧ SameCores s t)) ∧
        (∀ code, from_.1 = .bad code → Gives (exec .dmaBurst s) (fun t => t.dmaSt ch = dmaFault ∧
          t.fld (DMA_CHnSTAT_STATUS ch) = code % 256 ∧ t.flag (DMA_CHnSTAT_SIDE ch) = false ∧
          t.flag (DMA_IRQ_FAULT.bit ch) = true ∧ t.fld (DMA_CHnDONE_DONE ch) = done ∧ SameMem s t ∧ SameCores s t)))) ∧
    (∀ b, s.clocked = true → st = dmaWaitReq → s.fld (DMA_CHnCFG_REQ ch) = 1 → s.uart0.rx ≠ [] → s.dmaHeld ch = [] →
      s.flag (DMA_CHnCFG_SRCINC ch) = false → s.flag (DMA_CHnCFG_DSTINC ch) = true → s.flag (DMA_CHnCFG_DSTV ch) = false →
      s.rd (DMA_CHnSRC ch) = BitVec.ofNat 32 (UART_DATAn 0) → s.fld (DMA_CHnCFG_WIDTH ch) = 0 → s.dmaDst ch = b →
      regionOf b ≠ .paged → s.dmaColumn ch b = none → s.poisoned b = false → done < s.fld (DMA_CHnLEN_LEN ch) →
      Gives (exec (.dmaRequest ch) s) (fun t => t.uart0.rx = s.uart0.rx.drop 1 ∧
        t.memRd b = (s.uartRead 0).1.setWidth 8 ∧ MemBut s t b 1 ∧ t.fld (DMA_CHnDONE_DONE ch) = done + 1 ∧
        t.dmaHeld ch = [] ∧
        t.dmaSt ch = (if done + 1 = s.fld (DMA_CHnLEN_LEN ch) then dmaDone else dmaWaitReq) ∧
        OtherRegs s t (regs ++ [UART_STATn 0]) ∧ SameCores s t))
/-! ### The Volac cores (chapter 09) -/

/-- R304, R310, R313, R317–R319: an instruction that touches the data stack and C alone takes its operands, the last of which
is the literal where it has a prefix, leaves its results, sets C as the table says, moves PC past itself and takes its cycles;
nothing else of the state changes.
R313: BR goes to its target; BZ and BNZ do where the flag says so, at a cycle more; CALL also pushes the address after
itself; RET goes where the return stack says; LOOP counts RC down and branches while it is not 0, and at RC = 0 neither. Where the spec leaves
room it follows the model's choice in log entry 55. -/
def Obligations.VolacStackAndBranches : Prop :=
  (∀ (i : Instr) (c : CoreId) (p : Prefix) (op : VOp) (s f : State) (args rest r : List Word),
     CmdOf i c p op → Fetched c (instrLen p op) s f → op.isAlu = true →
     (p = .none ∨ (p.la.isSome = true ∧ op.lit = .op)) →
     (f.core c).bank.d.cache = args.reverse ++ rest →
     args.length = op.pops - p.la.toList.length →
     op.alu (bitAt (f.core c).psw.toNat 0) (f.core c).crccfg (f.core c).crcpoly (args ++ p.la.toList) = some r →
     (op.divides = true → (args ++ p.la.toList).getLast? ≠ some 0) → r.length + rest.length ≤ 16 →
     exec i s = .next (f.setCore c (afterInstr (f.core c) p op
       ((f.core c).bank.withData p (r.reverse ++ rest))
       (((f.core c).psw &&& ~~~(1 : Word)) |||
         boolWord (op.carry (bitAt (f.core c).psw.toNat 0) (args ++ p.la.toList))) 0))) ∧
  (∀ (c : CoreId) (p : Prefix) (s f : State) (t : Word) (l : List Word), plainPrefix p → Fetched c (p.len + 1) s f →
     targetOf ((f.core c).pc + BitVec.ofNat 32 (p.len + 1)) p (f.core c).bank.d.cache = some (t, l) →
     exec (.br c p) s = .next (f.setCore c { afterInstr (f.core c) p .br ((f.core c).bank.withData p l) (f.core c).psw 0 with
       pc := t }) ∧
     (∀ (g : Word) (m : List Word), l = g :: m →
       exec (.bz c p) s = .next (f.setCore c (if g = 0 then
           { afterInstr (f.core c) p .bz ((f.core c).bank.withData p m) (f.core c).psw 1 with pc := t }
         else afterInstr (f.core c) p .bz ((f.core c).bank.withData p m) (f.core c).psw 0)) ∧
       exec (.bnz c p) s = .next (f.setCore c (if g ≠ 0 then
           { afterInstr (f.core c) p .bnz ((f.core c).bank.withData p m) (f.core c).psw 1 with pc := t }
         else afterInstr (f.core c) p .bnz ((f.core c).bank.withData p m) (f.core c).psw 0))) ∧
     ((f.core c).bank.r.cache.length < 8 →
       exec (.call c p) s = .next (f.setCore c { afterInstr (f.core c) p .call
         (((f.core c).bank.withData p l).withRet
           (((f.core c).pc + BitVec.ofNat 32 (p.len + 1)) :: (f.core c).bank.r.cache)) (f.core c).psw 0 with pc := t })) ∧
     (∀ (a : Word) (m : List Word), p = .none → (f.core c).bank.r.cache = a :: m →
       exec (.ret c p) s = .next (f.setCore c { afterInstr (f.core c) p .ret ((f.core c).bank.withRet m) (f.core c).psw 0 with
         pc := a })) ∧
     exec (.loop c p) s = .next (f.setCore c (
       if (f.core c).bank.rc = 0 then afterInstr (f.core c) p .loop ((f.core c).bank.withData p l) (f.core c).psw 0
       else if (f.core c).bank.rc = 1 then
         afterInstr (f.core c) p .loop { (f.core c).bank.withData p l with rc := 0 } (f.core c).psw 0
       else { afterInstr (f.core c) p .loop { (f.core c).bank.withData p l with rc := (f.core c).bank.rc - 1 }
         (f.core c).psw 1 with pc := t })))

/-- R313, R314, R331: LDW, LDH, LDHU, LDB and LDBU replace the address, to which a literal is added, by the bytes there,
extended; LDWA and LDBA push what is at A and advance A. A load waits the time of its memory. Nothing else changes.
R313, R314: STW, STH and STB store the low bytes of x at the address, to which a literal is added; STWB, STBB and FILLW
store at B and advance it, FILLW keeping its operand. The bytes stored are those of the width at that address; every other
byte and the rest of the state are as before. Where the spec leaves
room it follows the model's choices in log entries 55, 56, 57. -/
def Obligations.VolacLoadsAndStores : Prop :=
  ((∀ (i : Instr) (c : CoreId) (p : Prefix) (op : VOp) (w : Width) (e : Word → Word) (s f : State) (a : Word) (rest : List Word),
     CmdOf i c p op → loadKind op = some (w, e) → Fetched c (instrLen p op) s f → plainPrefix p →
     (f.core c).bank.d.cache = a :: rest → rest.length < 16 → PlainAt f c .load (a + p.la.getD 0) w →
     exec i s = .next (f.setCore c (afterInstr (f.core c) p op
       ((f.core c).bank.withData p (e (f.loaded (a + p.la.getD 0) w) :: rest)) (f.core c).psw
       (accessTime c (a + p.la.getD 0).toNat - 1)))) ∧
   (∀ (i : Instr) (c : CoreId) (op : VOp) (w : Width) (s f : State),
     CmdOf i c .none op → (op = .ldwa ∧ w = .word) ∨ (op = .ldba ∧ w = .byte) → Fetched c 1 s f →
     (f.core c).bank.d.cache.length < 16 → PlainAt f c .load (f.core c).bank.a w →
     exec i s = .next (f.setCore c (afterInstr (f.core c) .none op
       { (f.core c).bank.withData .none (f.loaded (f.core c).bank.a w :: (f.core c).bank.d.cache) with
           a := (f.core c).bank.a + BitVec.ofNat 32 w.bytes } (f.core c).psw
       (accessTime c (f.core c).bank.a.toNat - 1))))) ∧
  ((∀ (i : Instr) (c : CoreId) (p : Prefix) (op : VOp) (w : Width) (s f : State) (a v : Word) (rest : List Word),
     CmdOf i c p op → storeKind op = some w → Fetched c (instrLen p op) s f → plainPrefix p →
     (f.core c).bank.d.cache = a :: v :: rest → PlainAt f c .store (a + p.la.getD 0) w →
     exec i s = .next ((f.setCore c ((afterInstr (f.core c) p op ((f.core c).bank.withData p rest) (f.core c).psw 0).stored c
       (a + p.la.getD 0))).memPutLe (a + p.la.getD 0).toNat w.bytes v.toNat)) ∧
   (∀ (i : Instr) (c : CoreId) (op : VOp) (w : Width) (s f : State) (v : Word) (rest : List Word),
     CmdOf i c .none op → (op = .stwb ∧ w = .word) ∨ (op = .stbb ∧ w = .byte) ∨ (op = .fillw ∧ w = .word) →
     Fetched c 1 s f → (f.core c).bank.d.cache = v :: rest → rest.length < 16 → PlainAt f c .store (f.core c).bank.b w →
     exec i s = .next ((f.setCore c ((afterInstr (f.core c) .none op
       { (f.core c).bank.withData .none (if op = .fillw then v :: rest else rest) with
           b := (f.core c).bank.b + BitVec.ofNat 32 w.bytes } (f.core c).psw 0).stored c (f.core c).bank.b)).memPutLe
       (f.core c).bank.b.toNat w.bytes v.toNat)))


/-- R313, R315, R318: MOVW and MOVB copy from A to B and advance both; XCHG and CASW exchange a word with memory in one
instruction, CASW only where the word is the one expected; CRCA and CRC32A run a CRC step on the byte at A and advance A. Where the spec leaves
room it follows the model's choices in log entries 57, 64. -/
def Obligations.VolacMemoryPairs : Prop :=
  (∀ (i : Instr) (c : CoreId) (op : VOp) (w : Width) (s f : State),
    CmdOf i c .none op → (op = .movw ∧ w = .word) ∨ (op = .movb ∧ w = .byte) → Fetched c 1 s f →
    PlainAt f c .load (f.core c).bank.a w → PlainAt f c .store (f.core c).bank.b w →
    exec i s = .next ((f.setCore c ((afterInstr (f.core c) .none op
      { (f.core c).bank with a := (f.core c).bank.a + BitVec.ofNat 32 w.bytes,
                             b := (f.core c).bank.b + BitVec.ofNat 32 w.bytes } (f.core c).psw
      (accessTime c (f.core c).bank.a.toNat - 1)).stored c (f.core c).bank.b)).memPutLe
      (f.core c).bank.b.toNat w.bytes (f.loaded (f.core c).bank.a w).toNat)) ∧
  (∀ (c : CoreId) (s f : State) (a v : Word) (rest : List Word),
    Fetched c 1 s f → (f.core c).bank.d.cache = a :: v :: rest → rest.length < 16 →
    PlainAt f c .load a .word → PlainAt f c .store a .word →
    exec (.xchg c .none) s = .next ((f.setCore c ((afterInstr (f.core c) .none .xchg
      ((f.core c).bank.withData .none (f.loaded a .word :: rest)) (f.core c).psw (accessTime c a.toNat - 1)).stored c a)).memPutLe
      a.toNat 4 v.toNat)) ∧
  (∀ (c : CoreId) (s f : State) (a new exp : Word) (rest : List Word),
    Fetched c 2 s f → (f.core c).bank.d.cache = a :: new :: exp :: rest → rest.length < 16 →
    PlainAt f c .load a .word → PlainAt f c .store a .word →
    exec (.casw c .none) s =
      if f.loaded a .word = exp then .next ((f.setCore c ((afterInstr (f.core c) .none .casw
          ((f.core c).bank.withData .none (f.loaded a .word :: rest)) (f.core c).psw (accessTime c a.toNat - 1)).stored c
          a)).memPutLe a.toNat 4 new.toNat)
      else .next (f.setCore c (afterInstr (f.core c) .none .casw
          ((f.core c).bank.withData .none (f.loaded a .word :: rest)) (f.core c).psw (accessTime c a.toNat - 1)))) ∧
  (∀ (i : Instr) (c : CoreId) (op : VOp) (s f : State) (crc : Word) (rest : List Word),
    CmdOf i c .none op → (op = .crca ∨ op = .crc32a) → Fetched c 2 s f → (f.core c).bank.d.cache = crc :: rest →
    rest.length < 16 → PlainAt f c .load (f.core c).bank.a .byte →
    exec i s = .next (f.setCore c (afterInstr (f.core c) .none op
      { (f.core c).bank.withData .none
          ((if op = .crca then crcStep (f.core c).crccfg (f.core c).crcpoly crc (f.loaded (f.core c).bank.a .byte)
            else crc32Step crc (f.loaded (f.core c).bank.a .byte)) :: rest) with
          a := (f.core c).bank.a + 1 } (f.core c).psw (accessTime c (f.core c).bank.a.toNat - 1))))

/-- R305, R313: TOR, FROMR, RFETCH and RDROP move entries between the cached data and return stacks; DEPTH pushes the number
of entries, in the cache and in memory; PICK copies an entry of the cache.
R313: SETA, SETB, GETA, GETB, ADDA, ADDB, SETRC and GETRC move between the data stack and A, B and RC of the bank in use;
ADDA, ADDB and SETRC take a literal. Where the spec leaves
room it follows the model's choice in log entry 55. -/
def Obligations.VolacMoves : Prop :=
  (∀ (c : CoreId) (s f : State), Fetched c 1 s f → (f.core c).bank.d.cache.length < 16 → (f.core c).bank.r.cache.length < 8 →
     (∀ (a : Word) (l : List Word), (f.core c).bank.d.cache = a :: l →
       exec (.tor c .none) s = .next (f.setCore c (afterInstr (f.core c) .none .tor
         (((f.core c).bank.withData .none l).withRet (a :: (f.core c).bank.r.cache)) (f.core c).psw 0))) ∧
     (∀ (a : Word) (l : List Word), (f.core c).bank.r.cache = a :: l →
       exec (.fromr c .none) s = .next (f.setCore c (afterInstr (f.core c) .none .fromr
         (((f.core c).bank.withData .none (a :: (f.core c).bank.d.cache)).withRet l) (f.core c).psw 0)) ∧
       exec (.rfetch c .none) s = .next (f.setCore c (afterInstr (f.core c) .none .rfetch
         ((f.core c).bank.withData .none (a :: (f.core c).bank.d.cache)) (f.core c).psw 0)) ∧
       exec (.rdrop c .none) s = .next (f.setCore c (afterInstr (f.core c) .none .rdrop
         ((f.core c).bank.withRet l) (f.core c).psw 0))) ∧
     exec (.depth c .none) s = .next (f.setCore c (afterInstr (f.core c) .none .depth
       ((f.core c).bank.withData .none (BitVec.ofNat 32 ((f.core c).bank.d.cache.length +
         ((f.core c).bank.d.base - (f.core c).bank.d.ptr).toNat / 4) :: (f.core c).bank.d.cache)) (f.core c).psw 0)) ∧
     (∀ (n w : Word) (l : List Word), (f.core c).bank.d.cache = n :: l → l[n.toNat]? = some w →
       exec (.pick c .none) s = .next (f.setCore c (afterInstr (f.core c) .none .pick
         ((f.core c).bank.withData .none (w :: l)) (f.core c).psw 0)))) ∧
  (∀ (c : CoreId) (p : Prefix) (s f : State) (w : Word) (l : List Word), plainPrefix p → Fetched c (p.len + 1) s f →
     (operandOf p (f.core c).bank.d.cache = some (w, l) →
       (p = .none →
         exec (.seta c p) s = .next (f.setCore c (afterInstr (f.core c) p .seta
           { (f.core c).bank.withData p l with a := w } (f.core c).psw 0)) ∧
         exec (.setb c p) s = .next (f.setCore c (afterInstr (f.core c) p .setb
           { (f.core c).bank.withData p l with b := w } (f.core c).psw 0))) ∧
       exec (.adda c p) s = .next (f.setCore c (afterInstr (f.core c) p .adda
         { (f.core c).bank.withData p l with a := (f.core c).bank.a + w } (f.core c).psw 0)) ∧
       exec (.addb c p) s = .next (f.setCore c (afterInstr (f.core c) p .addb
         { (f.core c).bank.withData p l with b := (f.core c).bank.b + w } (f.core c).psw 0)) ∧
       exec (.setrc c p) s = .next (f.setCore c (afterInstr (f.core c) p .setrc
         { (f.core c).bank.withData p l with rc := w } (f.core c).psw 0))) ∧
     (p = .none → (f.core c).bank.d.cache.length < 16 →
       exec (.geta c p) s = .next (f.setCore c (afterInstr (f.core c) p .geta
         ((f.core c).bank.withData p ((f.core c).bank.a :: (f.core c).bank.d.cache)) (f.core c).psw 0)) ∧
       exec (.getb c p) s = .next (f.setCore c (afterInstr (f.core c) p .getb
         ((f.core c).bank.withData p ((f.core c).bank.b :: (f.core c).bank.d.cache)) (f.core c).psw 0)) ∧
       exec (.getrc c p) s = .next (f.setCore c (afterInstr (f.core c) p .getrc
         ((f.core c).bank.withData p ((f.core c).bank.rc :: (f.core c).bank.d.cache)) (f.core c).psw 0))))



/-- R316, R324: in the task and kernel banks an exception saves PC and then PSW on the kernel bank's return stack, writes
ECAUSE and EADDR, sets GD, and fetches from VBASE + 16 × VEC four cycles later; everything else of the core is as before the
instruction. SYSCALL and BRK save the address after themselves, an undefined opcode its own.
R311, R314, R315, R313: a prefix in front of an instruction without a literal kind raises ILLEGAL_PREFIX with INFO 1, one in
front of another prefix with INFO 2; a K instruction raises PRIV in the task bank; a zero divisor raises DIVZ; a misaligned
address raises ALIGN. The saved PC is that of the instruction's first byte. Where the spec leaves
room it follows the model's choices in log entries 61, 63, 65, 71. -/
def Obligations.VolacTrapsAndFaults : Prop :=
  (∀ (c : CoreId) (p : Prefix) (s f : State), (s.core c).bankNo ≠ 2 → (s.core c).kernel.r.cache.length ≤ 6 →
     (∀ (n : Word) (l : List Word), plainPrefix p → Fetched c (p.len + 1) s f →
       operandOf p (f.core c).bank.d.cache = some (n, l) →
       exec (.syscall c p) s = .next (f.setCore c (inHandler (s.startCore c) vecSyscall (n.toNat % 65536) 0
         ((s.core c).pc + BitVec.ofNat 32 (p.len + 1))))) ∧
     (Fetched c 1 s f →
       exec (.brk c .none) s = .next (f.setCore c (inHandler (s.startCore c) vecBrk 0 0 ((s.core c).pc + 1)))) ∧
     (∀ (e : Bool) (b : BitVec 8), plainPrefix p → undefByte e b = true →
       Fetched c (p.len + (if e then 2 else 1)) s f →
       exec (.undefinedOpcode c p e b) s = .next (f.setCore c (inHandler (s.startCore c) vecUndef
         (b.toNat + (if e then 0x100 else 0)) 0 (s.core c).pc)))) ∧
  (∀ (i : Instr) (c : CoreId) (p : Prefix) (op : VOp) (s f : State), CmdOf i c p op → op.len ≠ 0 → (∀ e b, op ≠ .undef e b) →
     (s.core c).bankNo ≠ 2 → (s.core c).kernel.r.cache.length ≤ 6 → op ≠ .rep → Fetched c (instrLen p op) s f →
     (∀ n, p = .double n → exec i s = .next (f.setCore c (inHandler (s.startCore c) vecIllegalPrefix 2 0 (s.core c).pc))) ∧
     (p.la.isSome = true → op.lit = .none →
       exec i s = .next (f.setCore c (inHandler (s.startCore c) vecIllegalPrefix 1 0 (s.core c).pc))) ∧
     (p = .none → op.kOnly = true → (s.core c).bankNo = 0 →
       exec i s = .next (f.setCore c (inHandler (s.startCore c) vecPriv op.info 0 (s.core c).pc))) ∧
     (∀ (a : Word) (l : List Word), p = .none → op.divides = true → (f.core c).bank.d.cache = 0 :: a :: l →
       exec i s = .next (f.setCore c (inHandler (s.startCore c) vecDivz 0 0 (s.core c).pc))) ∧
     (∀ (a : Word) (l : List Word) (w : Width) (e : Word → Word), p = .none → loadKind op = some (w, e) →
       (f.core c).bank.d.cache = a :: l → a.toNat % w.bytes ≠ 0 →
       exec i s = .next (f.setCore c (inHandler (s.startCore c) vecAlign 0 a (s.core c).pc))))


/-- R320–R322: REP sets RC and RPT and leaves PC at its target, or skips the target where the count is 0; a target that REP may
not repeat raises ILLEGAL_PREFIX with INFO 3, whatever the count; an iteration does what its target does, counts RC down, and at
0 clears RPT and leaves PC past the target.
R308, R323: RDSR pushes a special register, CYCLO latching CYCHI; WRSR writes PSW, VBASE, CRCCFG and CRCPOLY, and a stack
register of the bank in use, which discards the cached entries of that stack. Where the spec leaves
room it follows the model's choices in log entries 60, 66, 69. -/
def Obligations.VolacRepetitionAndSpecials : Prop :=
  ((∀ (c : CoreId) (p : Prefix) (t : VOp) (s f : State) (n : Word) (l : List Word), plainPrefix p → t.repeatable = true →
     Fetched c (p.len + 1 + (if t.ext then 2 else 1)) s f → operandOf p (f.core c).bank.d.cache = some (n, l) →
     exec (.rep c p (some t)) s = .next (f.setCore c (
       if n = 0 then { afterInstr (f.core c) p .rep { (f.core c).bank.withData p l with rc := 0 } (f.core c).psw 0 with
         pc := (f.core c).pc + BitVec.ofNat 32 (p.len + 1) + BitVec.ofNat 32 t.len }
       else { afterInstr (f.core c) p .rep { (f.core c).bank.withData p l with rc := n } ((f.core c).psw ||| 4) 0 with
         repNew := true }))) ∧
   (∀ (c : CoreId) (p : Prefix) (t : Option VOp) (s f : State), plainPrefix p → (∀ o, t = some o → o.repeatable = false) →
     (s.core c).bankNo ≠ 2 → (s.core c).kernel.r.cache.length ≤ 6 → Fetched c (p.len + 1 + repLook .rep t) s f →
     exec (.rep c p t) s = .next (f.setCore c (inHandler (s.startCore c) vecIllegalPrefix 3 0 (s.core c).pc))) ∧
   (∀ (c : CoreId) (op : VOp) (s f : State) (args rest r : List Word), FetchedAs true c op.len s f → op.isAlu = true →
     (f.core c).bank.d.cache = args.reverse ++ rest → args.length = op.pops →
     op.alu (bitAt (f.core c).psw.toNat 0) (f.core c).crccfg (f.core c).crcpoly args = some r →
     (op.divides = true → args.getLast? ≠ some 0) → r.length + rest.length ≤ 16 →
     exec (.repIteration c op) s = .next (f.setCore c (iterate (s.core c).pc (afterInstr (f.core c) .none op
       ((f.core c).bank.withData .none (r.reverse ++ rest))
       (((f.core c).psw &&& ~~~(1 : Word)) ||| boolWord (op.carry (bitAt (f.core c).psw.toNat 0) args)) 0))))) ∧
  (∀ (c : CoreId) (p : Prefix) (s f : State) (idx : Word) (l : List Word), plainPrefix p → Fetched c (p.len + 1) s f →
     operandOf p (f.core c).bank.d.cache = some (idx, l) →
     (∀ w : Word, l.length < 16 → (f.core c).special c f.clk.now idx.toNat = some w →
       ((f.core c).bankNo ≠ 0 ∨ specialTaskRead idx.toNat = true) →
       (idx.toNat ≠ 0x0c ∨ (p = .none ∧ (f.core c).bankNo ≠ 0)) → (f.core c).bank.d.cache = idx :: l → p = .none →
       exec (.rdsr c p) s = .next (f.setCore c (afterInstr
         (if idx.toNat = 0x0c then { f.core c with cychi := BitVec.ofNat 32 ((f.clk.now - (f.core c).cyc0) / 2 ^ 32) }
           else f.core c) p .rdsr ((f.core c).bank.withData p (w :: l)) (f.core c).psw 0))) ∧
     (∀ (w : Word) (m : List Word), l = w :: m → (f.core c).bankNo ≠ 0 →
       (idx = 0 → exec (.wrsr c p) s = .next (f.setCore c (afterInstr (f.core c) p .wrsr ((f.core c).bank.withData p m)
         (((f.core c).psw &&& ~~~(3 : Word)) ||| (w &&& 3)) 0))) ∧
       (idx = 3 → w.toNat % 256 = 0 → exec (.wrsr c p) s = .next (f.setCore c { afterInstr (f.core c) p .wrsr
         ((f.core c).bank.withData p m) (f.core c).psw 0 with vbase := w })) ∧
       (idx = 0x0a → exec (.wrsr c p) s = .next (f.setCore c { afterInstr (f.core c) p .wrsr
         ((f.core c).bank.withData p m) (f.core c).psw 0 with crccfg := w &&& 0x3f })) ∧
       (idx = 0x0b → exec (.wrsr c p) s = .next (f.setCore c { afterInstr (f.core c) p .wrsr
         ((f.core c).bank.withData p m) (f.core c).psw 0 with crcpoly := w })) ∧
       (4 ≤ idx.toNat → idx.toNat ≤ 6 → w.toNat % 4 = 0 → exec (.wrsr c p) s = .next (f.setCore c (afterInstr (f.core c) p
         .wrsr { (f.core c).bank.withData p [] with d := (f.core c).bank.d.setReg (idx.toNat - 4) w } (f.core c).psw 0))) ∧
       (7 ≤ idx.toNat → idx.toNat ≤ 9 → w.toNat % 4 = 0 → exec (.wrsr c p) s = .next (f.setCore c (afterInstr (f.core c) p
         .wrsr { (f.core c).bank.withData p m with r := (f.core c).bank.r.setReg (idx.toNat - 7) w } (f.core c).psw 0)))))


/-- R315, R325, R343, R345: ERET takes PSW and then PC from the return stack and continues in the bank that PSW names; DI and EI
set and clear GD; WAIT stops fetch while nothing is pending for the core; FENCE waits for the stores that drain; YIELD gives the
core back to its scheduler in the task bank and does nothing elsewhere.
R306, R308, R315: DSFLUSH and RSFLUSH spill every cached entry, the oldest first, so that the pointer has moved down by four
bytes an entry and the memory from it up holds the entries, top first; TPOP and TPUSH move an entry between the data stacks of
the task bank and the bank in use. Where the spec leaves
room it follows the model's choices in log entries 69, 70. -/
def Obligations.VolacSystem : Prop :=
  (∀ (c : CoreId) (s f : State), Fetched c 2 s f →
     (∀ (w pc : Word) (l : List Word), (f.core c).bankNo ≠ 0 → (f.core c).bank.r.cache = w :: pc :: l → pswLegal c w = true →
       exec (.eret c .none) s =
         (let t := f.setCore c { afterInstr (f.core c) .none .eret ((f.core c).bank.withRet l) (w &&& 0x307) 0 with pc := pc }
          .next (if bitsOf w.toNat 9 8 = 0 then t.enterTask c else t))) ∧
     ((f.core c).bankNo ≠ 0 →
       exec (.di c .none) s = .next (f.setCore c (afterInstr (f.core c) .none .di (f.core c).bank ((f.core c).psw ||| 2) 0)) ∧
       exec (.ei c .none) s = .next (f.setCore c (afterInstr (f.core c) .none .ei (f.core c).bank
         ((f.core c).psw &&& ~~~(2 : Word)) 0)) ∧
       (f.pendingOf c = [] → exec (.wait c .none) s = .next (f.setCore c
         { afterInstr (f.core c) .none .wait (f.core c).bank (f.core c).psw 0 with st := .wait }))) ∧
     exec (.fence c .none) s = .next (f.setCore c { afterInstr (f.core c) .none .fence (f.core c).bank (f.core c).psw 0 with
       ready := max ((f.core c).ready + 2) ((f.core c).drain + 2) }) ∧
     exec (.yield c .none) s =
       (let t := f.setCore c (afterInstr (f.core c) .none .yield (f.core c).bank (f.core c).psw 0)
        .next (if (f.core c).bankNo = 0 then t.switchTo c slotReady else t))) ∧
  (∀ (c : CoreId) (s f : State), Fetched c 2 s f → ((f.core c).bankNo = 1 ∨ (f.core c).bankNo = 2) →
     ((∀ k, k < (f.core c).bank.d.cache.length →
         PlainAt f c .store ((f.core c).bank.d.ptr - BitVec.ofNat 32 (4 * (k + 1))) .word) →
       (f.core c).bank.d.lim.toNat + 4 * (f.core c).bank.d.cache.length ≤ (f.core c).bank.d.ptr.toNat →
       Gives (exec (.dsflush c .none) s) (fun t =>
         (t.core c).bank.d = { (f.core c).bank.d with
           cache := [], ptr := (f.core c).bank.d.ptr - BitVec.ofNat 32 (4 * (f.core c).bank.d.cache.length) } ∧
         ∀ k (h : k < (f.core c).bank.d.cache.length),
           t.memW ((f.core c).bank.d.ptr.toNat - 4 * (f.core c).bank.d.cache.length + 4 * k) = (f.core c).bank.d.cache[k])) ∧
     ((∀ k, k < (f.core c).bank.r.cache.length →
         PlainAt f c .store ((f.core c).bank.r.ptr - BitVec.ofNat 32 (4 * (k + 1))) .word) →
       (f.core c).bank.r.lim.toNat + 4 * (f.core c).bank.r.cache.length ≤ (f.core c).bank.r.ptr.toNat →
       Gives (exec (.rsflush c .none) s) (fun t =>
         (t.core c).bank.r = { (f.core c).bank.r with
           cache := [], ptr := (f.core c).bank.r.ptr - BitVec.ofNat 32 (4 * (f.core c).bank.r.cache.length) } ∧
         ∀ k (h : k < (f.core c).bank.r.cache.length),
           t.memW ((f.core c).bank.r.ptr.toNat - 4 * (f.core c).bank.r.cache.length + 4 * k) = (f.core c).bank.r.cache[k])) ∧
     (∀ (w : Word) (l : List Word), (f.core c).task.d.cache = w :: l → (f.core c).bank.d.cache.length < 16 →
       exec (.tpop c .none) s = .next (f.setCore c { afterInstr (f.core c) .none .tpop
         ((f.core c).bank.withData .none (w :: (f.core c).bank.d.cache)) (f.core c).psw 0 with
           task := (f.core c).task.withData .none l })) ∧
     (∀ (w : Word) (l : List Word), (f.core c).bank.d.cache = w :: l → (f.core c).task.d.cache.length < 16 →
       exec (.tpush c .none) s = .next (f.setCore c { afterInstr (f.core c) .none .tpush
         ((f.core c).bank.withData .none l) (f.core c).psw 0 with
           task := (f.core c).task.withData .none (w :: (f.core c).task.d.cache) })))


/-- R361–R364: at a boundary the core takes the source that R361 selects: PC and PSW go on the return stack of the kernel bank,
or of the fast bank for a fast source, GD is set, fetch goes on at VBASE + 0x100 or 0x180, and at the commit the source becomes
active and shows in CUR or FCUR; ECAUSE and EADDR stay.
R11: an access outside every region is a BUSERR exception for a core, with INFO 0 for a fetch and 1 for data; it leaves a
DMA channel in FAULT with DMA_BUSERR; no block is affected. Where the spec leaves
room it follows the model's choices in log entries 58, 61, 144. -/
def Obligations.InterruptsAndBusErrors : Prop :=
  (∀ (c : CoreId) (src : Nat) (s : State), s.atBoundary c = true → (s.core c).ready ≤ s.clk.now →
     s.pickSrc c (decide ((s.core c).bankNo = 2)) (bitAt (s.core c).psw.toNat 1) = some src →
     (s.core c).kernel.r.cache.length ≤ 6 → (s.core c).fast.r.cache.length ≤ 6 → (s.core c).sbuf = [] →
     exec (.interruptEntry c none) s = .next
       ((s.setCore c (
         let x := s.core c
         if s.srcFast src then
           { x with fast := x.fast.withRet (x.psw :: x.pc :: x.fast.r.cache), psw := handlerPsw 2 x.psw,
                    pc := x.vbase + 0x180, st := .run, ready := s.clk.now + 4 }
         else
           { x with kernel := x.kernel.withRet (x.psw :: x.pc :: x.kernel.r.cache), psw := handlerPsw 1 x.psw,
                    pc := x.vbase + 0x100, st := .run, ready := s.clk.now + 4 })).deliver c src)) ∧
  (∀ (s : State) (a : Nat), regionOf a = .hole → a < 2 ^ 32 →
     (∀ (c : CoreId) (fetch : Bool), (s.core c).st = .run → s.clocked = true → (s.core c).ready ≤ s.clk.now →
       (s.core c).sbuf = [] → (s.core c).bankNo ≠ 2 → (s.core c).kernel.r.cache.length ≤ 6 →
       exec (.busError (.core c) a fetch) s = .next (s.setCore c (inHandler { s.core c with ready := s.clk.now } vecBus
         (if fetch then 0 else 1) (BitVec.ofNat 32 a) (s.core c).pc))) ∧
     (∀ ch, ch < 16 → s.fld (DMA_CHnSTAT_STATE ch) = 1 →
       Gives (exec (.busError (.dma ch) a false) s) (fun t =>
         t.fld (DMA_CHnSTAT_STATE ch) = 4 ∧ t.fld (DMA_CHnSTAT_STATUS ch) = Code.DMA_BUSERR ∧ SameMem s t ∧ SameCores s t)))


/-! ### Interrupts, timers and capture (chapters 11 and 12) -/

/-- R359, R366, R370, R372: an EOI ends the source it may end and is counted otherwise; the software lines follow SWISET and
SWICLR; a latch takes an enabled edge or records the overrun, and a 1 clears it. Where the spec leaves
room it follows the model's choices in log entries 88, 92. -/
def Obligations.InterruptController : Prop :=
  ∀ (s : State) (v : Word),
    (∀ (r : Requester) (a : ActiveSrc), a ∈ s.icu.active → a.src = bitsOf v.toNat 10 0 → r = .core a.core →
      (∀ x ∈ s.icu.active, x.src = a.src → x = a) → Gives (exec (.eoi r v) s) (fun t => t.srcActive a.src = false ∧
        t.icu = { s.icu with active := s.icu.active.filter (fun x => x.src != a.src) } ∧
        (∀ p, p < 8 → bitAt (t.fld (ICU_ACTc_PRIOS (coreNum a.core))) p =
          t.icu.active.any (fun x => x.core == a.core && !x.fast && x.prio == p)) ∧
        OnlyRegs s t [ICU_ACTc (coreNum a.core)])) ∧
    (∀ r : Requester, (∀ x ∈ s.icu.active, x.src = bitsOf v.toNat 10 0 → r ≠ .core x.core) →
      Gives (exec (.eoi r v) s) (fun t => t.icu = s.icu ∧ t.fld ICU_BADEOI_LAST = bitsOf v.toNat 10 0 ∧
        t.fld ICU_BADEOI_COUNT = min (s.fld ICU_BADEOI_COUNT + 1) 0xffff ∧ OnlyRegs s t [ICU_BADEOI])) ∧
    Gives (exec (.swiSet v) s) (fun t => OnlyRegs s t [ICU_SWISET] ∧
      ∀ n, n < 8 → t.line (128 + n) = (s.line (128 + n) || v.getLsbD n)) ∧
    Gives (exec (.swiClear v) s) (fun t => OnlyRegs s t [ICU_SWISET] ∧
      ∀ n, n < 8 → t.line (128 + n) = (s.line (128 + n) && !(v.getLsbD n))) ∧
    Gives (exec .icuCntclr s) (fun t => t.rd ICU_BADEOI = 0 ∧ (∀ n, n < 4 → t.rd (ICU_STATc n) = 0) ∧ t.icu = s.icu ∧
      OnlyRegs s t (ICU_BADEOI :: (List.range 4).map ICU_STATc)) ∧
    (∀ (n : Nat) (level : Bool), n < 26 → (n < 20 → s.gpioDrives n = none) → (n = 22 → s.mirror.drives = false) →
      bitAt s.icu.pins n ≠ level → Gives (exec (.alatchEdge n level) s) (fun t => bitAt t.icu.pins n = level ∧
        (s.latchEdge n level = false → OnlyRegs s t []) ∧
        (s.latchEdge n level = true → bitAt (t.fld ICU_ALSTAT_LATCH) n = true ∧ OnlyRegs s t [ICU_ALSTAT, ICU_ALOVR] ∧
          bitAt (t.fld ICU_ALOVR_LATCH) n = (bitAt (s.fld ICU_ALSTAT_LATCH) n || bitAt (s.fld ICU_ALOVR_LATCH) n)))) ∧
    (∀ ovr : Bool, let a := if ovr then ICU_ALOVR else ICU_ALSTAT
      Gives (exec (.alatchClear ovr v) s) (fun t => OnlyRegs s t [a] ∧
        ∀ n, n < 28 → (t.rd a).getLsbD n = ((s.rd a).getLsbD n && !(v.getLsbD n))))

/-- R374–R376, R378–R382: counters start, stop and wrap; units are configured, armed and fire. Where the spec leaves
room it follows the model's choice in log entry 89. -/
def Obligations.TimersAndCompares : Prop :=
  ∀ (s : State) (v : Word),
    Gives (exec (.tmrRunWrite v) s) (fun t => t.fld TMR_RUN_RUN = v.toNat % 256 ∧
      OnlyRegs s t (TMR_RUN :: (List.range 8).map TMR_CNTn) ∧
      ∀ n, n < 8 → (s.fld (TMR_CFGn_CLK n) ≠ 3 → t.rd (TMR_CNTn n) = s.rd (TMR_CNTn n)) ∧
        (s.tmrRuns n = false → v.getLsbD n = true → t.tmrPhase n = 0) ∧
        (s.tmrRuns n = true → v.getLsbD n = false → t.fld (TMR_CNTn_COUNT n) = s.tmrNow n)) ∧
    Gives (exec .tmrCntclr s) (fun t => t.fld TMR_PPSSTAT_DROP = 0 ∧ t.fld TMR_PPSSTAT_GLITCH = 0 ∧
      t.fld TMR_PPSSTAT_OVR = 0 ∧ t.flag TMR_PPSSTAT_CAPNEW = s.flag TMR_PPSSTAT_CAPNEW ∧
      (∀ u, u < 32 → t.fld (TMR_UuSTAT_OVR u) = 0 ∧ t.flag (TMR_UuSTAT_CAPNEW u) = s.flag (TMR_UuSTAT_CAPNEW u)) ∧
      t.tmr = s.tmr ∧ OnlyRegs s t (TMR_PPSSTAT :: (List.range 32).map TMR_UuSTAT)) ∧
    (∀ n, n < 8 → s.tmrRuns n = true → s.fld (TMR_CFGn_CLK n) = 0 → s.clk.pll = true → s.clocked = true →
      s.tmrPhase n < s.tmrPeriod n → Gives (exec (.counterWrap n) s) (fun t => t.fld (TMR_CNTn_COUNT n) = 0 ∧
        t.flag (TMR_IRQ1_OVF.bit n) = true ∧ OnlyBlocks s t [baseTMR] ∧
        t.clk.now = s.clk.now + ((2 ^ 32 - s.fld (TMR_CNTn_COUNT n)) * s.tmrPeriod n - s.tmrPhase n))) ∧
    (∀ u, u < 32 →
      let cnt := s.tmrNow (s.unitCnt u)
      let mode := s.fld (TMR_UuCFG_MODE u)
      (mode = 1 → Gives (exec (.compareArm u v) s) (fun t => t.rd (TMR_UuVAL u) = v ∧ t.flag (TMR_UuSTAT_ARMED u) = true ∧
        t.flag (TMR_UuSTAT_FIRED u) = false ∧ OnlyRegs s t [TMR_UuVAL u, TMR_UuSTAT u] ∧
        tblFind t.tmr.lateNext u = (if reached 32 cnt v.toNat then some (s.clk.now + 1, cnt != v.toNat) else none))) ∧
      (mode = 2 → exec (.compareArm u v) s = .next (s.discard baseTMR)) ∧
      (mode = 0 → Gives (exec (.compareArm u v) s) (fun t => t.rd (TMR_UuVAL u) = v ∧ OnlyRegs s t [TMR_UuVAL u])) ∧
      (mode = 0 → s.unitCfgBad u v = true → exec (.unitCfgWrite u v) s = .next (s.discard baseTMR)) ∧
      (mode = 0 → s.unitCfgBad u v = false → Gives (exec (.unitCfgWrite u v) s) (fun t => OnlyRegs s t [TMR_UuCFG u] ∧
        ∀ f ∈ [TMR_UuCFG_MODE u, TMR_UuCFG_CNT u, TMR_UuCFG_RELOAD u, TMR_UuCFG_OUT u, TMR_UuCFG_INSEL u, TMR_UuCFG_EDGE u,
          TMR_UuCFG_FILT u, TMR_UuCFG_PRE u], t.fld f = bitsOf v.toNat f.hi f.lo)) ∧
      (mode ≠ 0 → let same := v.toNat % 4 = 0 ∧ unitFields v.toNat = unitFields (s.rd (TMR_UuCFG u)).toNat
        (same → Gives (exec (.unitCfgWrite u v) s) (fun t => t.fld (TMR_UuCFG_MODE u) = 0 ∧
          t.flag (TMR_UuSTAT_ARMED u) = false ∧ t.fld (TMR_UuSTAT_PRECNT u) = 0 ∧
          t.flag (TMR_UuSTAT_CAPNEW u) = s.flag (TMR_UuSTAT_CAPNEW u) ∧ t.fld (TMR_UuSTAT_OVR u) = s.fld (TMR_UuSTAT_OVR u) ∧
          OnlyRegs s t [TMR_UuCFG u, TMR_UuSTAT u])) ∧
        (¬same → exec (.unitCfgWrite u v) s = .next (s.discard baseTMR))) ∧
      (mode = 1 → s.flag (TMR_UuSTAT_ARMED u) = true →
        let old := (s.rd (TMR_UuVAL u)).toNat
        let fired (t : State) : Prop := t.flag (TMR_IRQ0_U.bit u) = true ∧ t.flag (TMR_UuSTAT_FIRED u) = true ∧
          bitAt (t.fld GPIO_TOUT_TOUT) u = (match s.fld (TMR_UuCFG_OUT u) with
            | 1 => true
            | 2 => false
            | 3 => !(bitAt (s.fld GPIO_TOUT_TOUT) u)
            | _ => bitAt (s.fld GPIO_TOUT_TOUT) u) ∧
          (s.flag (TMR_UuCFG_RELOAD u) = false → t.flag (TMR_UuSTAT_ARMED u) = false ∧ t.rd (TMR_UuVAL u) = s.rd (TMR_UuVAL u)) ∧
          (s.flag (TMR_UuCFG_RELOAD u) = true → t.flag (TMR_UuSTAT_ARMED u) = true ∧
            t.rd (TMR_UuVAL u) = s.rd (TMR_UuVAL u) + s.rd (TMR_UuPER u)) ∧
          OnlyBlocks s t [baseTMR, baseGPIO, baseICU]
        (∀ w late, tblFind s.tmr.lateNext u = some (w, late) → Gives (exec (.compareFire u) s) (fun t => fired t ∧
          t.flag (TMR_UuSTAT_LATE u) = late ∧ w ≤ t.clk.now)) ∧
        (tblFind s.tmr.lateNext u = none → s.tmrRuns (s.unitCnt u) = true → s.fld (TMR_CFGn_CLK (s.unitCnt u)) = 0 →
          s.clk.pll = true → s.clocked = true → s.tmrPhase (s.unitCnt u) < s.tmrPeriod (s.unitCnt u) →
          (u ∈ s.tmr.lateTick → Gives (exec (.compareFire u) s) (fun t => fired t ∧ t.flag (TMR_UuSTAT_LATE u) = true)) ∧
          (u ∉ s.tmr.lateTick → reached 32 cnt old = false → Gives (exec (.compareFire u) s) (fun t => fired t ∧
            t.flag (TMR_UuSTAT_LATE u) = false ∧ t.fld (TMR_CNTn_COUNT (s.unitCnt u)) = old)))))

/-- R384, R385, R387–R389, R391–R393: captures and their reads, PPS edges, SLOWCNT and its compares. Where the spec leaves
room it follows the model's choices in log entries 90, 91. -/
def Obligations.CaptureAndSlowTime : Prop :=
  ∀ (s : State) (v : Word),
    (∀ u, u < 32 → s.fld (TMR_UuCFG_MODE u) = 2 → exec (.compareArm u v) s = .next (s.discard baseTMR) ∧
      let seen := s.fld (TMR_UuSTAT_PRECNT u) + 1
      let n := s.unitCnt u
      let d := if s.fld (TMR_UuCFG_INSEL u) > 22 then 0 else filterDelay (s.fld (TMR_UuCFG_FILT u))
      (s.clocked = true → seen < 2 ^ s.fld (TMR_UuCFG_PRE u) → Gives (exec (.capture u) s) (fun t =>
        t.fld (TMR_UuSTAT_PRECNT u) = seen ∧ t.rd (TMR_UuVAL u) = s.rd (TMR_UuVAL u) ∧ OnlyRegs s t [TMR_UuSTAT u])) ∧
      (s.clocked = true → 2 ^ s.fld (TMR_UuCFG_PRE u) ≤ seen → Gives (exec (.capture u) s) (fun t =>
        t.fld (TMR_UuSTAT_PRECNT u) = 0 ∧ t.flag (TMR_UuSTAT_CAPNEW u) = true ∧ t.flag (TMR_IRQ0_U.bit u) = true ∧
        (s.flag (TMR_UuSTAT_CAPNEW u) = true → t.flag TMR_IRQ1_CAPOVR = true ∧
          t.fld (TMR_UuSTAT_OVR u) = min (s.fld (TMR_UuSTAT_OVR u) + 1) 255) ∧
        (s.flag (TMR_UuSTAT_CAPNEW u) = false → t.rd TMR_IRQ1 = s.rd TMR_IRQ1 ∧
          t.fld (TMR_UuSTAT_OVR u) = s.fld (TMR_UuSTAT_OVR u)) ∧
        (s.fld (TMR_CFGn_CLK n) = 0 → s.fld (TMR_CFGn_DIV n) = 0 → s.tmrRuns n = true → s.clk.pll = true →
          s.tmrPhase n < s.tmrPeriod n → tblGet 0 s.tmr.started n + d ≤ s.clk.now →
          t.rd (TMR_UuVAL u) = s.rd (TMR_CNTn n) - BitVec.ofNat 32 d) ∧
        OnlyRegs s t [TMR_UuVAL u, TMR_UuSTAT u, TMR_IRQ0, TMR_IRQ1])) ∧
      Gives (exec (.captureRead u) s) (fun t => t.rdata = s.rd (TMR_UuVAL u) ∧ t.rd (TMR_UuVAL u) = s.rd (TMR_UuVAL u) ∧
        t.flag (TMR_UuSTAT_CAPNEW u) = false ∧ OnlyRegs s t [TMR_UuSTAT u])) ∧
    (s.flag TMR_PPSCFG_EN = true → s.clocked = true →
      let inside := s.fld TMR_PPSCFG_GUARD ≠ 0 ∧ ∃ t0, s.tmr.ppsLast = some t0 ∧
        s.clk.now < t0 + s.fld TMR_PPSCFG_GUARD * 200000
      (inside → Gives (exec .ppsEdge s) (fun t => t.tmr = s.tmr ∧ t.flag TMR_IRQ1_PPSGLITCH = true ∧
        t.fld TMR_PPSSTAT_GLITCH = min (s.fld TMR_PPSSTAT_GLITCH + 1) 255 ∧ OnlyRegs s t [TMR_PPSSTAT, TMR_IRQ1])) ∧
      (¬inside → Gives (exec .ppsEdge s) (fun t => t.tmr.ppsLast = some s.clk.now ∧ t.flag TMR_PPSSTAT_CAPNEW = true ∧
        (s.flag TMR_PPSSTAT_CAPNEW = true → t.flag TMR_IRQ1_CAPOVR = true ∧
          t.fld TMR_PPSSTAT_OVR = min (s.fld TMR_PPSSTAT_OVR + 1) 255) ∧
        (s.flag SEQ_STAT_NTVALID = false → t.flag TMR_IRQ1_PPSDROP = true ∧ t.seq = s.seq ∧
          t.fld TMR_PPSSTAT_DROP = min (s.fld TMR_PPSSTAT_DROP + 1) 255 ∧ t.flag TMR_IRQ1_PPS = s.flag TMR_IRQ1_PPS ∧
          t.rd TMR_PPSNTLO = BitVec.ofNat 32 (s.clk.nt / 2 ^ 32)) ∧
        (s.flag SEQ_STAT_NTVALID = true → t.flag TMR_IRQ1_PPS = true ∧
          (s.rate = 0 → filterDelay (s.fld TMR_PPSCFG_FILT) ≤ s.clk.nt / 2 ^ 32 →
            t.rd TMR_PPSNTLO = BitVec.ofNat 32 (s.clk.nt / 2 ^ 32 - filterDelay (s.fld TMR_PPSCFG_FILT))) ∧
          (s.fld SEQ_TSRC_MODE = 1 → t.seq.sample ≠ none ∧ t.fld SEQ_GNSSSEC_SEC = (s.fld SEQ_GNSSSEC_SEC + 1) % 2 ^ 32) ∧
          (s.fld SEQ_TSRC_MODE ≠ 1 → t.seq = s.seq ∧ t.rd SEQ_GNSSSEC = s.rd SEQ_GNSSSEC)) ∧
        OnlyRegs s t [TMR_PPSNTLO, TMR_PPSSTAT, TMR_IRQ1, SEQ_GNSSSEC]))) ∧
    Gives (exec .ppsRead s) (fun t => t.rdata = s.rd TMR_PPSNTLO ∧ t.rd TMR_PPSNTHI = BitVec.ofNat 32 s.tmr.ppsHi ∧
      t.flag TMR_PPSSTAT_CAPNEW = false ∧ OnlyRegs s t [TMR_PPSNTHI, TMR_PPSSTAT]) ∧
    Gives (exec .slowcntRead s) (fun t => t.rdata = BitVec.ofNat 32 s.clk.slowcnt ∧
      t.rd TMR_SLOWHI = BitVec.ofNat 32 (s.clk.slowcnt / 2 ^ 32) ∧ t.clk = s.clk ∧ OnlyRegs s t [TMR_SLOWHI]) ∧
    exec (.slowCompareArm 0 v) s = .next (s.discard baseTMR) ∧
    (∀ n, 0 < n → n < 4 → Gives (exec (.slowCompareArm n v) s) (fun t => (t.scmp n).armed = true ∧
      (t.scmp n).v = (s.rd (TMR_SCMPnHI n)).toNat % 2 ^ 16 * 2 ^ 32 + v.toNat ∧ bitAt (t.fld TMR_SCMPCTL_ARMED) n = true ∧
      t.rd (TMR_SCMPnLO n) = v ∧ OnlyRegs s t [TMR_SCMPnLO n, TMR_SCMPCTL])) ∧
    (∀ n, n < 4 → (s.scmp n).armed = true → s.scmpOn n = true →
      (reached 48 s.clk.slowcnt (s.scmp n).v = true ∨
        (s.clk.slowOn = true ∧ (s.scmp n).v < 2 ^ 48 ∧ s.clk.slowcnt < 2 ^ 48)) →
      Gives (exec (.slowCompareFire n) s) (fun t => (t.scmp n).armed = false ∧ bitAt (t.fld TMR_SCMPCTL_FIRED) n = true ∧
        bitAt (t.fld TMR_IRQ1_SCMP) n = true ∧ (s.flag ICU_ALEN_SLOWCMP = true → bitAt (t.fld ICU_ALSTAT_LATCH) 27 = true) ∧
        (s.flag ICU_ALEN_SLOWCMP = false → t.rd ICU_ALSTAT = s.rd ICU_ALSTAT) ∧
        (reached 48 s.clk.slowcnt (s.scmp n).v = false → t.clk.slowcnt = (s.scmp n).v) ∧
        OnlyBlocks s t [baseTMR, baseICU]))

/-! ### Resets, start-up and Saddle (chapter 13) -/

/-- R397–R401, R410: start-up, the resets and what each keeps, the clocks, and the release and hold of cores. Where the spec leaves
room it follows the model's choices in log entries 3, 93. -/
def Obligations.Resets : Prop :=
  ∀ s : State,
    (s.pwr.phase = .off → Gives (exec .vinRise s) (fun t => t.pwr.phase = .softStart ∧ t.pwr.vinAt = s.clk.now ∧
      OnlyRegs s t [])) ∧
    (∀ (rails frc : Nat) (compat : Bool) (boot : Nat) (vio33 : Bool), s.pwr.phase = .softStart → s.pwr.nrstLow = false →
      s.pwr.vioLow = false → rails ≤ us 3000 → frc ≤ us 20 → Gives (exec (.porEnd rails frc compat boot vio33) s) (fun t =>
        t.pwr.phase = .awake ∧ s.pwr.vinAt + rails + frc ≤ t.clk.now ∧ Released s t .kc ∧
        (∀ c, c ≠ .kc → t.core c = s.core c) ∧ t.rd SYS_COMPAT = BitVec.ofNat 32 ((if compat then 3 else 0) + 16 * (boot % 4)))) ∧
    (s.pwr.phase = .off ∨ s.pwr.phase = .softStart → exec (.powerOnReset true) s = .next s) ∧
    (∀ brownout : Bool, (brownout = true → s.pwr.phase ≠ .off ∧ s.pwr.phase ≠ .softStart) →
      Gives (exec (.powerOnReset brownout) s) (fun t =>
      t.fld PWR_RSTCAUSE_CAUSE = (if brownout then 2 else 1) ∧ (∀ a, a ≠ PWR_RSTCAUSE → t.rd a = resetOf a) ∧
      (∀ c, (t.core c).st = .held) ∧ t.clk.slowcnt = 0 ∧ t.tmr.scmp = [] ∧ t.log.ring = [] ∧ t.plan = {} ∧
      t.cipher = {} ∧ t.otp.words = s.otp.words ∧ t.pager.store = s.pager.store ∧
      (s.pager.commit = none → t.pager.jpages = s.pager.jpages))) ∧
    (∀ cause, s.Canonical → 4 ≤ cause → cause ≤ 7 → s.pwr.phase ≠ .off → s.pwr.phase ≠ .softStart → s.pwr.nrstLow = false →
      s.pwr.vioLow = false → Gives (exec (.systemReset cause) s) (fun t => SystemResetDone s t cause)) ∧
    (s.Canonical → s.pwr.nrstLow = false → s.pwr.vioLow = false → Gives (exec (.sysrst (.core .kc)) s) (fun t => SystemResetDone s t 5)) ∧
    (∀ r : Requester, r ≠ .core .kc → exec (.sysrst r) s = .next (s.discard baseSYS) ∧
      ∀ c : CoreId, exec (.coreRelease r c) s = .next (s.discard baseSYS) ∧
        exec (.coreHold r c) s = .next (s.discard baseSYS)) ∧
    (∀ i : Instr, (i = .nrstAssert ∧ s.pwr.nrstLow = false) ∨ (i = .vioLow ∧ s.pwr.vioLow = false) → s.pwr.phase = .awake →
      Gives (exec i s) (fun t => t.pwr.phase = .inReset ∧ t.fld PWR_RSTCAUSE_CAUSE = 4 ∧ s.clk.now + us 1 ≤ t.clk.now ∧
        (t.core .kc).st = .held ∧ (t.pwr.nrstLow = true ∨ t.pwr.vioLow = true))) ∧
    (∀ (compat : Bool) (boot : Nat) (vio33 : Bool), s.pwr.phase = .inReset → ∀ i : Instr,
      (i = .nrstRelease compat boot vio33 ∧ s.pwr.nrstLow = true ∧ s.pwr.vioLow = false) ∨
        (i = .vioRestore compat boot vio33 ∧ s.pwr.vioLow = true ∧ s.pwr.nrstLow = false) →
      Gives (exec i s) (fun t => t.pwr.phase = .awake ∧ Released s t .kc ∧ t.pwr.nrstLow = false ∧ t.pwr.vioLow = false ∧
        t.rd SYS_COMPAT = BitVec.ofNat 32 ((if compat then 3 else 0) + 16 * (boot % 4)))) ∧
    (s.pwr.phase = .awake → s.flag PWR_STAT_XREFOK = false → Gives (exec .xrefStable s) (fun t =>
      t.flag PWR_STAT_XREFOK = true ∧ s.pwr.xrefAt ≤ t.clk.now ∧ OnlyBlocks s t [baseSYS, baseTMR])) ∧
    (s.pwr.phase = .awake → s.flag PWR_STAT_XREFOK = true → s.clk.pll = false →
      (∀ d, d ≤ us 100 → Gives (exec (.syspllLock d) s) (fun t => t.clk.pll = true ∧ t.flag PWR_STAT_CLK = true ∧
        s.pwr.pllAt + d ≤ t.clk.now ∧ (s.seq.savedNt = none → t.flag SEQ_STAT_NTVALID = true) ∧
        (∀ p, s.flag (RFx_CTRL_EN p) = true → s.pst p = .off → t.pst p = .startup))) ∧
      Gives (exec .xrefFail s) (fun t => t.clk.pll = false ∧ s.pwr.pllAt + us 100 ≤ t.clk.now ∧
        t.pwr.pllAt = s.pwr.pllAt + us 1000 ∧ (s.pwr.xrefFailed = false → t.flag PWR_IRQ_XREFFAIL = true) ∧
        OnlyBlocks s t [baseSYS, baseTMR, baseLOG])) ∧
    (s.pwr.phase = .awake → s.clk.slowOn = false → Gives (exec .xslowStable s) (fun t => t.clk = { s.clk with slowOn := true } ∧
      t.flag PWR_STAT_SLOWOK = true ∧ t.flag PWR_IRQ_SLOWOK = true ∧ OnlyRegs s t [PWR_STAT, PWR_IRQ])) ∧
    (∀ (c : CoreId) (f : Fld), coreRun c = some f →
      (s.flag f = false → Gives (exec (.coreRelease (.core .kc) c) s) (fun t => t.flag f = true ∧ Released s t c ∧
        (∀ d, d ≠ c → t.core d = s.core d) ∧ SameMem s t ∧
        OtherRegs s t [PWR_CORECTL, MMU_TSTATc (coreNum c), ICU_ACTc (coreNum c)])) ∧
      Gives (exec (.coreHold (.core .kc) c) s) (fun t => t.flag f = false ∧ (t.core c).st = .held ∧
        (∀ d, d ≠ c → t.core d = s.core d) ∧ SameMem s t ∧ OtherRegs s t [PWR_CORECTL]))

/-- R402–R409, R413: the VIN monitor, the idle timer and its votes, entry, abort, wake and wake failure, and the refresh
interval. Where the spec leaves
room it follows the model's choices in log entries 94, 95, 96, 97. -/
def Obligations.SaddleAndSupply : Prop :=
  ∀ s : State,
    (s.pwr.phase = .awake → Gives (exec .enter s) (fun t => t.pwr = { s.pwr with enterReq := true } ∧ OnlyRegs s t [])) ∧
    (s.pwr.phase = .entry ∨ s.pwr.phase = .wake → Gives (exec .enter s) (fun t => t.pwr = s.pwr ∧
      t.fld PWR_SADCNT2_IGNORED = min (s.fld PWR_SADCNT2_IGNORED + 1) 255 ∧ OnlyRegs s t [PWR_SADCNT2])) ∧
    Gives (exec .pwrCntclr s) (fun t => t.rd PWR_SADCNT = 0 ∧ t.rd PWR_SADCNT2 = 0 ∧ (∀ n, n < 8 → t.rd (PWR_REFUSEn n) = 0) ∧
      OnlyRegs s t (PWR_SADCNT :: PWR_SADCNT2 :: (List.range 8).map PWR_REFUSEn)) ∧
    (s.pwr.phase = .awake → s.clk.slowOn = true → s.quiet = true → s.flag PWR_SADDLECFG_SADDLE_EN = true →
      let x := s.advanceTo (stEdgeAt s.expiryEdge)
      Gives (exec .idleExpiry s) (fun t => stEdges t.clk.now = s.expiryEdge ∧ t.pwr.idle = s.expiryEdge ∧
        t.pwr.enterReq = false ∧ OnlyBlocks s t [baseSYS, baseTMR, baseSEQ] ∧
        (s.pwr.enterReq = false →
          max s.pwr.idle s.pwr.holdUntil + s.fld PWR_SADDLECFG_SADDLE_IDLE ≤ stEdges t.clk.now) ∧
        (x.wakeLatches ≠ 0 → t.pwr.phase = .awake ∧
          t.fld (PWR_REFUSEn_CNTB 7) = min (s.fld (PWR_REFUSEn_CNTB 7) + 1) 0xffff) ∧
        (x.wakeLatches = 0 → x.votes.any id = true → t.pwr.phase = .awake ∧
          t.fld PWR_SADCNT2_REFUSED = min (s.fld PWR_SADCNT2_REFUSED + 1) 255 ∧
          ∀ i, i < 15 → x.votes.getD i false = true →
            let f := if i % 2 = 0 then PWR_REFUSEn_CNTA (i / 2) else PWR_REFUSEn_CNTB (i / 2)
            t.fld f = min (s.fld f + 1) 0xffff) ∧
        (x.wakeLatches = 0 → x.votes.any id = false → t.pwr.phase = .entry ∧ t.pwr.xAt = t.clk.now ∧
          t.fld PWR_STAT_PHASE = 1))) ∧
    (s.pwr.phase = .entry → s.wakeLatches = 0 → Gives (exec .saddleEntry s) (fun t => t.pwr.phase = .saddle ∧
      t.fld PWR_SADCNT_ENTRIES = min (s.fld PWR_SADCNT_ENTRIES + 1) 0xffff ∧
      stEdgeAt (stEdges s.pwr.xAt + 1) + us 1 ≤ t.clk.now ∧ t.clk.pll = false ∧ t.flag PWR_STAT_CLK = false ∧
      t.flag SEQ_STAT_NTVALID = false ∧ t.mmu.tlb = [] ∧ t.facet.facets = [] ∧
      (∀ p, s.pst p = .rx → t.pst p = .off ∧ (t.rf p).calRec ≠ none) ∧
      (s.mmu.frames = [] → ∀ a, s.kept a = true → t.memRd a = s.memRd a) ∧ SameCores s t)) ∧
    (∀ d, s.pwr.phase = .entry → s.wakeLatches ≠ 0 → s.pwr.xAt + d < stEdgeAt (stEdges s.pwr.xAt + 1) + us 1 →
      Gives (exec (.entryAbort d) s) (fun t => Woken s t ∧ s.pwr.xAt + d ≤ t.clk.now ∧
        t.fld PWR_SADCNT_ABORTS = min (s.fld PWR_SADCNT_ABORTS + 1) 0xffff ∧
        t.fld PWR_SADCNT_ENTRIES = s.fld PWR_SADCNT_ENTRIES)) ∧
    (∀ rail frc, rail ≤ us 100 → frc ≤ us 20 →
      (s.pwr.phase = .saddle → s.wakeDue = true →
        let w := stEdgeAt (if s.wakeLatches = 0 then max s.wakeEdge (stEdges (s.pwr.alarmAt.getD 0) + 1) else s.wakeEdge)
        let first := stEdgeAt (stEdges w + 1)
        Gives (exec (.saddleWake rail frc) s) (fun t => Woken s t ∧
          t.fld PWR_SADCNT2_RETRIES = s.fld PWR_SADCNT2_RETRIES ∧
          t.pwr.holdUntil = stEdges t.clk.now + s.fld PWR_SADDLECFG_SADDLE_MINAWAKE ∧
          (w + rail + frc ≤ first → t.clk.now = first ∧ t.fld PWR_SADCNT2_SLOWWAKE = s.fld PWR_SADCNT2_SLOWWAKE) ∧
          (first < w + rail + frc → w + rail + frc ≤ t.clk.now ∧ stEdgeAt (stEdges t.clk.now) = t.clk.now ∧
            t.fld PWR_SADCNT2_SLOWWAKE = min (s.fld PWR_SADCNT2_SLOWWAKE + 1) 255))) ∧
      (s.pwr.phase = .wake → Gives (exec (.saddleWake rail frc) s) (fun t => Woken s t ∧
        t.fld PWR_SADCNT2_RETRIES = min (s.fld PWR_SADCNT2_RETRIES + 1) 255 ∧ t.flag PWR_IRQ_WAKERETRY = true))) ∧
    (∀ (frcLate : Bool) (rail : Nat), rail ≤ us 100 →
      (s.pwr.phase = .saddle → s.wakeDue = true → Gives (exec (.wakeFail frcLate rail) s) (fun t => t.pwr.phase = .wake ∧
        t.fld PWR_STAT_PHASE = 2 ∧ t.pwr.wAt = stEdgeAt (stEdges t.clk.now + 1) ∧
        stEdgeAt s.wakeEdge + (if frcLate then rail + us 20 else us 100) ≤ t.clk.now ∧ OnlyBlocks s t [baseSYS, baseTMR])) ∧
      (s.pwr.phase = .wake → Gives (exec (.wakeFail frcLate rail) s) (fun t => t.fld PWR_RSTCAUSE_CAUSE = 3 ∧
        (∀ c, (t.core c).st = .held) ∧ t.log.ring = s.log.ring ∧ t.clk.slowcnt = 0))) ∧
    (∀ vin, s.pwr.phase = .awake →
      (s.flag PWR_STAT_VINWARN = false → 20 * vin < 100 * s.fld PWR_VINMON_WARN → Gives (exec (.vinWarn vin) s) (fun t =>
        t.flag PWR_STAT_VINWARN = true ∧ t.flag PWR_IRQ_VINWARN = true ∧ bitAt (t.fld ICU_ALSTAT_LATCH) 26 = true ∧
        (s.ctxWritable = true → s.flag PAGER_STAT_READY = true → s.flag PAGER_STAT_FLUSHED = false →
          t.pager.flushing = true) ∧ (∀ p e, p < 2 → t.eraseOn p = some e → e.suspended = true) ∧
        OnlyBlocks s t [baseSYS, baseICU, baseLOG, basePAGER, baseNAND])) ∧
      (s.flag PWR_STAT_VINWARN = true → 100 * s.fld PWR_VINMON_WARN + 500 < 20 * vin → Gives (exec (.vinOk vin) s) (fun t =>
        t.flag PWR_STAT_VINWARN = false ∧ t.flag PWR_IRQ_VINOK = true ∧ t.flag PAGER_STAT_FLUSHED = false ∧
        OnlyBlocks s t [baseSYS, baseLOG, basePAGER]))) ∧
    (∀ temp : Int, s.clk.slowOn = true →
      let cur := s.fld PWR_STAT_REFINT
      let level (t : Int) : Nat := if t ≤ 45 then 0 else if t ≤ 65 then 1 else if t ≤ 85 then 2 else 3
      Gives (exec (.refreshTempSample temp) s) (fun t => stEdges t.clk.now % 32 = 0 ∧
        (-128 ≤ temp → temp ≤ 127 → t.sfld PWR_STAT_TEMP = temp) ∧
        (cur ≤ level temp → t.fld PWR_STAT_REFINT = level temp) ∧
        (level temp < cur → t.fld PWR_STAT_REFINT = min cur (level (temp + 2))) ∧ OnlyBlocks s t [baseSYS, baseTMR]))

/-! ### NAND (chapter 14) -/

/-- R426–R430: the launch sequence, what breaks it, the tests at launch, and what READ, PROGRAM and their end leave. Where the spec leaves
room it follows the model's choices in log entries 101, 104. -/
def Obligations.NandCommands : Prop :=
  ∀ s : State,
    (∀ (c : CoreId) (v : Word), s.nand.seqOwner = none → v.toNat % 65536 = 0x6c3e → s.flag NAND_FSTAT_BUSY = false →
      (s.dieReleased = true ∨ c = .kc) → Gives (exec (.nandFkeyWrite (.core c) v) s) (fun t => SeqAt t c 1 ∧
        t.fld NAND_FSTAT_OWNER = coreNum c ∧ OnlyRegs s t [NAND_FSTAT])) ∧
    (∀ (c : CoreId) (v : Word), SeqAt s c 1 → v.toNat % 65536 = 0x93c1 →
      Gives (exec (.nandFkeyWrite (.core c) v) s) (fun t => SeqAt t c 2 ∧ OnlyRegs s t [NAND_FSTAT])) ∧
    (∀ (c : CoreId) (v : Word) (n : Nat), SeqAt s c n → ¬(n = 1 ∧ v.toNat % 65536 = 0x93c1) →
      Gives (exec (.nandFkeyWrite (.core c) v) s) (fun t => SeqRelocked t ∧ t.flag (CFGSTAT_RSVD_WR baseNAND) = true ∧
        OnlyRegs s t [NAND_FSTAT, NAND_IRQ, CFGSTAT baseNAND])) ∧
    (∀ (c : CoreId) (n : Nat) (r : Requester) (v : Word), SeqAt s c n → r ≠ .core c →
      exec (.nandFkeyWrite r v) s = .next (s.discard baseNAND)) ∧
    (∀ (c : CoreId) (v : Word), SeqAt s c 2 → 1 ≤ v.toNat % 8 → v.toNat % 8 ≤ 3 →
      Gives (exec (.registerWrite (.core c) NAND_FCMD .word v) s) (fun t => SeqAt t c 3 ∧ t.nand.seqOp = v.toNat % 8 ∧
        OnlyRegs s t [NAND_FSTAT])) ∧
    (∀ (c : CoreId) (v : Word), SeqAt s c 3 → (s.nand.seqOp = 3 → v.toNat % 64 = 0) →
      Gives (exec (.registerWrite (.core c) NAND_FADDR .word v) s) (fun t => SeqAt t c 4 ∧ t.nand.seqAddr = v.toNat % 2 ^ 20 ∧
        OnlyRegs s t [NAND_FSTAT])) ∧
    (∀ (c : CoreId) (v : Word), SeqAt s c 4 →
      let a := v.toNat / 16 * 16
      let k : NandCmd := { op := s.nand.seqOp, block := s.nand.seqAddr / 64, page := s.nand.seqAddr % 64, buf := a, core := c }
      (if k.op = 3 then a = 0 else s.nandBufOk c a = true) →
      let lost := s.erasing k.block
      let st := if partOk c k.block = false then Code.PART_LOCKED
        else if k.op ≠ 1 ∧ s.nandBad k.block = true then Code.BAD_BLOCK
        else if k.op ≠ 1 ∧ lost = true then Code.BLK_BUSY
        else if k.op = 1 ∧ lost = true then Code.BLK_SUSPENDED else Code.OK
      Gives (exec (.registerWrite (.core c) NAND_FBUF .word v) s) (fun t => t.nand.seqOwner = none ∧
        t.fld NAND_FSTAT_SEQ = 0 ∧ OtherRegs s t [NAND_FSTAT, NAND_FRES, NAND_IRQ] ∧ SameCores s t ∧
        (st = Code.OK → t.nand.cmd = some k ∧ t.flag NAND_FSTAT_BUSY = true ∧ SameMem s t) ∧
        (st ≠ Code.OK → NandEnds t st 0 0 0 ∧
          (st ≠ Code.BLK_SUSPENDED → SameMem s t) ∧
          (st = Code.BLK_SUSPENDED → MemBut s t a 4160 ∧ ∀ i, i < 4160 → t.memRd (a + i) = 0xff)))) ∧
    (∀ k e, s.nand.cmd = some k → k.started = false →
      s.flag PWR_STAT_VINWARN = true ∨ (s.eraseOn (planeOf k.block) = some e ∧ e.suspended = false) →
      (∀ corr retry, exec (.nandRead corr retry) s = .next s) ∧ ∀ fail time, exec (.nandProgram fail time) s = .next s) ∧
    (s.nand.seqOwner ≠ none → Gives (exec .nandSeqTimeout s) (fun t => SeqRelocked t ∧ s.nand.seqAt + 10000 ≤ t.clk.now ∧
      OnlyBlocks s t [baseNAND, baseTMR])) ∧
    (∀ k, Launched s k 1 → ∀ corr retry,
      let row := 64 * k.block + k.page
      (tblFind s.nand.pages row = none → Gives (exec (.nandRead corr retry) s) (fun t =>
        t.nand.cmd = some { k with started := true, status := Code.PAGE_ERASED } ∧
        (∀ i, i < 4160 → t.memRd (k.buf + i) = 0xff) ∧ MemBut s t k.buf 4160 ∧ OtherRegs s t [NAND_CNTn 0] ∧ SameCores s t)) ∧
      (∀ b, tblFind s.nand.pages row = some (.data b) → b.length = 4160 → readsErased b = false →
        (retry ≤ 7 → Gives (exec (.nandRead corr retry) s) (fun t =>
          t.nand.cmd = some { k with started := true, status := Code.OK, corr := min corr 24, retry := retry } ∧
          (∀ i, i < 4160 → t.memRd (k.buf + i) = b.getD i 0) ∧ MemBut s t k.buf 4160 ∧
          (retry = 0 → min corr 24 < s.fld NAND_CFG_EWARN → OtherRegs s t [NAND_CNTn 0]) ∧
          (retry = 0 → s.fld NAND_CFG_EWARN ≤ min corr 24 → t.flag NAND_IRQ_CORRHIGH = true) ∧
          (0 < retry → t.flag NAND_IRQ_RETRY = true) ∧
          (∀ a, blockBase a ∉ [baseNAND, baseLOG] → t.rd a = s.rd a) ∧ SameCores s t)) ∧
        (7 < retry → Gives (exec (.nandRead corr retry) s) (fun t =>
          t.nand.cmd = some { k with started := true, status := Code.NAND_UNCORR } ∧ MemBut s t k.buf 4160 ∧
          t.flag NAND_IRQ_UNCORR = true ∧ OtherRegs s t [NAND_CNTn 0, NAND_CNTn 5, NAND_IRQ] ∧ SameCores s t)))) ∧
    (∀ k, Launched s k 2 → ∀ (fail : Bool) (time : Nat),
      let row := 64 * k.block + k.page
      (fail = false → time ≤ 1000 → tblGet 0 s.nand.nextPage k.block ≤ k.page → k.page < 64 →
        Gives (exec (.nandProgram fail time) s) (fun t => tblFind t.nand.pages row = some (.data (s.memBytes k.buf 4160)) ∧
          t.nand.cmd = some { k with started := true, status := Code.OK, us := time } ∧ t.nand.bad = s.nand.bad ∧
          (350 < time → t.flag NAND_IRQ_SLOW = true) ∧
          CountsOne s t (NAND_CNTn_COUNT 1) ∧ OnlyBlocks s t [baseNAND, baseLOG])) ∧
      (fail = true ∨ 1000 < time → Gives (exec (.nandProgram fail time) s) (fun t => k.block ∈ t.nand.bad ∧
        t.nand.cmd = some { k with started := true, status := Code.PROG_FAIL, us := time } ∧ t.flag NAND_IRQ_RETIRED = true ∧
        OnlyBlocks s t [baseNAND, baseLOG]))) ∧
    (∀ k, s.nand.cmd = some k → k.started = true → k.op ≠ 3 → k.status < 256 → k.corr < 32 → k.retry < 8 →
      Gives (exec .nandCmdDone s) (fun t => NandEnds t k.status k.corr k.retry (if k.op = 2 then k.us else 0) ∧
        OnlyRegs s t [NAND_FRES, NAND_FSTAT, NAND_IRQ]))

/-- R431, R432, R434, R437, R438, R440, R444: erases run behind their flag cell, are suspended and resumed, and are redone at start-up;
the bad-block query; garbage collection and wear levelling. Where the spec leaves
room it follows the model's choices in log entries 102, 103, 143. -/
def Obligations.NandErasesAndWear : Prop :=
  ∀ s : State,
    (∀ k, Launched s k 3 → s.eraseOn (planeOf k.block) = none → ∀ (fail : Bool) (time : Nat),
      Gives (exec (.nandErase fail time) s) (fun t => tblFind t.nand.flags (planeOf k.block) = some k.block ∧
        (∃ e, t.eraseOn (planeOf k.block) = some e ∧ e.block = k.block ∧ e.suspended = false) ∧
        t.nand.cmd = some { k with started := true, us := time } ∧ t.nand.pages = s.nand.pages ∧
        CountsOne s t (NAND_CNTn_COUNT 2) ∧ OnlyRegs s t [NAND_CNTn 2, NAND_FSTAT])) ∧
    (∀ k e, s.nand.cmd = some k → k.started = true → k.op = 3 → s.eraseOn (planeOf k.block) = some e → e.suspended = false →
      (e.fail = false → Gives (exec .nandCmdDone s) (fun t => NandEnds t Code.OK 0 0 e.us ∧ BlockErased s t e.block ∧
        tblFind t.nand.flags (planeOf k.block) = none ∧ t.eraseOn (planeOf k.block) = none ∧
        OnlyBlocks s t [baseNAND, baseLOG])) ∧
      (e.fail = true → Gives (exec .nandCmdDone s) (fun t => NandEnds t Code.ERASE_FAIL 0 0 e.us ∧ e.block ∈ t.nand.bad ∧
        tblFind t.nand.flags (planeOf k.block) = none ∧ t.flag NAND_IRQ_RETIRED = true ∧
        OnlyBlocks s t [baseNAND, baseLOG]))) ∧
    (∀ p e, p < 2 → s.eraseOn p = some e →
      (e.suspended = false → Gives (exec (.eraseSuspend p) s) (fun t => t.eraseOn p = some { e with suspended := true } ∧
        e.runAt + us (s.fld NAND_CFG_RUNMIN) ≤ t.clk.now ∧ CountsOne s t (NAND_CNTn_COUNT 6) ∧
        OnlyBlocks s t [baseNAND, baseTMR])) ∧
      (e.suspended = true → s.flag PWR_STAT_VINWARN = false →
        (∀ k, s.nand.cmd = some k → k.started = false → k.op ≠ 3 → planeOf k.block ≠ p) → Gives (exec (.eraseResume p) s) (fun t =>
          t.eraseOn p = some { e with suspended := false, runAt := s.clk.now } ∧ OnlyRegs s t [NAND_FSTAT])) ∧
      (e.suspended = true → s.flag PWR_STAT_VINWARN = true → exec (.eraseResume p) s = .next s)) ∧
    (∀ r : Requester, r ≠ .core .kc → exec (.nandRelease r) s = .next (s.discard baseNAND) ∧
      ∀ f0 f1, exec (.nandRedo r f0 f1) s = .next (s.discard baseNAND)) ∧
    Gives (exec (.nandRelease (.core .kc)) s) (fun t => t.dieReleased = true ∧ t.fld NAND_HEALTH_CTXRSV = s.reserveOf .ctx ∧
      t.fld NAND_HEALTH_PAGERSV = s.reserveOf .page ∧ (s.reserveOf .page = 0 → t.flag NAND_HEALTH_PAGERO = true) ∧
      OnlyBlocks s t [baseNAND, baseLOG]) ∧
    (∀ f0 f1 : Bool, Gives (exec (.nandRedo (.core .kc) f0 f1) s) (fun t =>
      tblFind t.nand.flags 0 = none ∧ tblFind t.nand.flags 1 = none ∧
      (∀ b, tblFind s.nand.flags 0 = some b → tblFind s.nand.flags 1 ≠ some b → f0 = false → BlockErased s t b) ∧
      (∀ b, tblFind s.nand.flags 1 = some b → f1 = true → b ∈ t.nand.bad) ∧ OnlyBlocks s t [baseNAND, baseLOG])) ∧
    (∀ v : Word, Gives (exec (.bbqQuery v) s) (fun t => t.fld NAND_BBQ_BLOCK = v.toNat % 2 ^ 14 ∧
      t.flag NAND_BBQ_BAD = s.nandBad (v.toNat % 2 ^ 14) ∧
      t.flag NAND_BBQ_FACTORY = s.nand.factory.contains (v.toNat % 2 ^ 14) ∧ OnlyRegs s t [NAND_BBQ])) ∧
    Gives (exec .nandCntclr s) (fun t => (∀ n, n < 8 → t.rd (NAND_CNTn n) = 0) ∧ t.nand = s.nand ∧
      OnlyRegs s t ((List.range 8).map NAND_CNTn)) ∧
    (∀ (p : HwPart) (b : Nat), s.dieReleased = true → hwPartOf b = some p → b ∈ s.nand.full →
      (s.liveIn p b).length ≤ 64 → (∀ x n, s.hwOpen p = some (x, n) → x ≠ b ∧ n < 64) →
      ((s.freeBlocks p).length < 32 → s.freeBlocks p ≠ [] →
        (∀ die : DieEnd, Gives (exec (.garbageCollect p b die) s) (fun t => OnlyBlocks s t (dieBlocks die) ∧
          (∀ id ∈ s.liveIn p b, ∃ r, tblFind (t.hwRows p) id = some r ∧ r / 64 ≠ b) ∧ DieDoes s t b die))) ∧
      (∀ f x y, f ∈ s.freeBlocks p → (∀ n, s.pecOf n < 2 ^ 32) →
        (∀ z ∈ s.nand.full, hwPartOf z = some p → z ≠ b → s.wearRank b < s.wearRank z) →
        (∀ z ∈ s.freeBlocks p, z ≠ f → s.wearRank z < s.wearRank f) →
        hwPartOf x = some p → hwPartOf y = some p → s.nandBad x = false → s.nandBad y = false →
        s.pecOf y + 2000 < s.pecOf x → ∀ die : DieEnd, Gives (exec (.wearLevel p die) s) (fun t => f ∈ t.nand.full ∧
          OnlyBlocks s t (dieBlocks die) ∧ DieDoes s t b die ∧
          ∀ id ∈ s.liveIn p b, ∃ r, tblFind (t.hwRows p) id = some r ∧ r / 64 = f)))

/-! ### Cipher, lattice and OTP (chapter 15) -/

/-- R447–R451: a post, the checks of a job's start in their order, what each mode writes and how it ends, and the done
queue. Where the spec leaves
room it follows the model's choices in log entries 107, 111, 113. -/
def Obligations.CipherJobs : Prop :=
  ∀ s : State,
    (∀ (c : CoreId) (v : Word), (s.cipher.jobs.length < 16 → Gives (exec (.jobPost c v) s) (fun t =>
        t.cipher.jobs = s.cipher.jobs ++ [{ addr := v.toNat / 32 * 32, core := c }] ∧
        t.fld CIPHER_STAT_QUEUED = s.cipher.jobs.length + 1 ∧ OnlyRegs s t [CIPHER_STAT])) ∧
      (16 ≤ s.cipher.jobs.length → exec (.jobPost c v) s = .next (s.discard baseCIPHER))) ∧
    (∀ l1 j l2, s.cipher.jobs = l1 ++ j :: l2 → (∀ k ∈ l1, k.run.isSome = true) → j.run = none →
      (s.aesRuns = false → exec .jobStart s = .next s) ∧ (s.aesRuns = true →
      let d := s.jobDesc j.addr
      let k := s.keySlot d.slot
      let w := s.keySlot d.kslot
      let modeOk := if d.mode = 4 then bitAt k.attr 1 else if d.mode = 9 then bitAt k.attr 3 && bitAt w.attr 4
        else if d.mode = 10 then bitAt k.attr 3 && w.key.isNone else bitAt k.attr 0
      let st := if d.fieldsOk = false ∨ s.jobAddrOk j.core j.addr d = false then Code.BAD_DESC
        else if k.key = none ∨ (d.mode = 9 ∧ w.key = none) then Code.KEY_EMPTY
        else if modeOk = false ∨ bitAt k.attr (11 + coreNum j.core) = false then Code.KEY_USAGE else Code.OK
      (st = Code.OK → Gives (exec .jobStart s) (fun t =>
        t.cipher.jobs = l1 ++ { j with run := some d, startAt := s.clk.now } :: l2 ∧ OnlyRegs s t [])) ∧
      (st ≠ Code.OK → Gives (exec .jobStart s) (fun t => JobEnds s t s j st ∧ t.cipher.keys = s.cipher.keys)))) ∧
    (∀ (n : Nat) (j : CipherJob) (d : JobDesc), s.cipher.jobs[n]? = some j → j.run = some d → s.aesRuns = true →
      let least := j.startAt + 40 + jobBlocks d * aesCycles ((s.keySlot d.slot).key.getD [])
      (d.mode ≠ 9 → Gives (exec (.jobComplete n) s) (fun t => least ≤ t.clk.now)) ∧
      let key := (s.keySlot d.slot).key.getD []
      let src := s.memBytes d.src d.len
      let iv := s.memBytes d.iv d.ivlen
      let aad := s.memBytes d.aad d.aadlen
      let tag := s.memBytes d.tag d.taglen
      (∀ out, (d.mode = 1 ∧ out = ctrMode key iv src) ∨ (d.mode = 2 ∧ out = cbcEnc key iv src) ∨
        (d.mode = 3 ∧ out = cbcDec key iv src) ∨ (d.mode = 9 ∧ out = kwWrap key ((s.keySlot d.kslot).key.getD [])) →
        Gives (exec (.jobComplete n) s) (fun t => JobEnds s t (s.memPut d.dst out) j Code.OK ∧ t.cipher.keys = s.cipher.keys)) ∧
      (d.mode = 4 → Gives (exec (.jobComplete n) s) (fun t =>
        JobEnds s t (s.memPut d.tag ((cmac (key.take 32) src).take d.taglen)) j Code.OK ∧ t.cipher.keys = s.cipher.keys)) ∧
      (∀ out g, (d.mode = 5 ∧ ccmSeal key iv aad src d.taglen = (out, g)) ∨
        (d.mode = 7 ∧ out = gcmStream key iv src ∧ g = (gcmTag key iv aad out).take d.taglen) →
        Gives (exec (.jobComplete n) s) (fun t => JobEnds s t ((s.memPut d.dst out).memPut d.tag g) j Code.OK ∧
          t.cipher.keys = s.cipher.keys)) ∧
      (∀ opened : Option (List Byte), (d.mode = 6 ∧ opened = ccmOpen key iv aad src tag) ∨
        (d.mode = 8 ∧ opened = if (gcmTag key iv aad src).take d.taglen = tag then some (gcmStream key iv src) else none) →
        Gives (exec (.jobComplete n) s) (fun t => t.cipher.keys = s.cipher.keys ∧ match opened with
          | some out => JobEnds s t (s.memPut d.dst out) j Code.OK
          | none => JobEnds s t (s.memPut d.dst (zeros d.len)) j Code.TAG_FAIL)) ∧
      (d.mode = 10 → (s.rd CIPHER_ALARM = 0 → (s.keySlot d.kslot).key = none → Gives (exec (.jobComplete n) s) (fun t => match kwUnwrap key src with
          | some k => JobEnds s t s j Code.OK ∧ t.keySlot d.kslot = ⟨some k, blobType d.len, d.iv⟩ ∧
              ∀ m, m ≠ d.kslot → t.keySlot m = s.keySlot m
          | none => JobEnds s t s j Code.TAG_FAIL ∧ t.cipher.keys = s.cipher.keys)) ∧
        (s.rd CIPHER_ALARM = 0 → (s.keySlot d.kslot).key ≠ none → Gives (exec (.jobComplete n) s) (fun t =>
          JobEnds s t s j Code.KEY_USAGE ∧ t.cipher.keys = s.cipher.keys)) ∧
        (s.rd CIPHER_ALARM ≠ 0 → Gives (exec (.jobComplete n) s) (fun t => JobEnds s t s j Code.ZEROISED ∧
          t.cipher.keys = s.cipher.keys)))) ∧
    (s.cipher.doneq = [] → exec .cipherDoneqRead s = .next { s with rdata := 0 }) ∧
    (∀ a l, s.cipher.doneq = a :: l → Gives (exec .cipherDoneqRead s) (fun t => t.rdata = BitVec.ofNat 32 (a + 1) ∧
      t.cipher.doneq = l ∧ OnlyRegs s t [CIPHER_STAT])) ∧
    Gives (exec .cipherCntclr s) (fun t => t.rd CIPHER_CNT = 0 ∧ t.cipher = s.cipher ∧ OnlyRegs s t [CIPHER_CNT])

/-- R452–R461: what fills and clears a key slot, the random word port and the TRNG, a halt and its end, and an alarm. Where the spec leaves
room it follows the model's choices in log entries 98, 108, 109, 114. -/
def Obligations.KeysAndAlarms : Prop :=
  ∀ s : State,
    (∀ (typ slot : Nat) (c : Instr), c = .keyLoad typ slot ∨ c = .keyDerive typ slot →
      let bad := 3 ≤ typ ∨ 32 ≤ slot ∨ s.slotNamed slot = true ∨ (s.keySlot slot).key.isSome = true ∨
        attrBad typ (s.rd CIPHER_KEYATTR).toNat = true
      (bad → exec c s = .next (s.discard baseCIPHER)) ∧
      (¬bad → s.rd CIPHER_ALARM ≠ 0 → Gives (exec c s) (fun t => KeyEnds s t Code.ZEROISED ∧ t.cipher = s.cipher)) ∧
      (¬bad → s.rd CIPHER_ALARM = 0 →
        let revoked := c = .keyDerive typ slot ∧ s.otpFlag 1 = true
        let blank := c = .keyDerive typ slot ∧ s.hukBlank = true
        let k := if c = .keyLoad typ slot then s.keyWords.take (keyLen typ)
          else shake256 (s.huk ++ s.keyWords.take 32) (keyLen typ)
        Gives (exec c s) (fun t => (revoked → KeyEnds s t Code.REVOKED ∧ t.cipher = s.cipher) ∧
          (¬revoked → blank → KeyEnds s t Code.KEY_EMPTY ∧ t.cipher = s.cipher) ∧
          (¬revoked → ¬blank → KeyEnds s t Code.OK ∧ t.flag ⟨CIPHER_KEYSTAT, slot, slot⟩ = true ∧
            t.keySlot slot = ⟨some k, typ, (s.rd CIPHER_KEYATTR).toNat⟩ ∧ ∀ m, m ≠ slot → t.keySlot m = s.keySlot m)))) ∧
    (∀ slot, (32 ≤ slot ∨ s.slotNamed slot = true → exec (.keyClear slot) s = .next (s.discard baseCIPHER)) ∧
      (slot < 32 → s.slotNamed slot = false → Gives (exec (.keyClear slot) s) (fun t => t.keySlot slot = {} ∧
        (∀ m, m ≠ slot → t.keySlot m = s.keySlot m) ∧ t.flag ⟨CIPHER_KEYSTAT, slot, slot⟩ = false ∧ KeyEnds s t Code.OK))) ∧
    (∀ w l, s.cipher.rng = w :: l → s.fld CIPHER_STAT_TRNG = 0 ∨ s.cipher.seeded = true → Gives (exec .rngRead s) (fun t =>
      t.rdata = w ∧ t.cipher.rng = l ∧ t.clk = s.clk ∧ OnlyRegs s t [CIPHER_STAT])) ∧
    (s.cipher.rng = [] → s.fld CIPHER_STAT_TRNG = 0 → s.cipher.nextOut ≤ s.clk.now + us 128 → Gives (exec .rngRead s) (fun t =>
      t.cipher.rng.length = 7 ∧ t.clk.now ≤ s.clk.now + us 256 ∧ OnlyBlocks s t [baseCIPHER, baseTMR])) ∧
    (s.fld CIPHER_STAT_TRNG ≠ 0 → s.cipher.seeded = false → Gives (exec .rngRead s) (fun t => t.rdata = 0 ∧
      t.flag CIPHER_IRQ_HALT = true ∧ OnlyRegs s t [CIPHER_IRQ])) ∧
    (s.clocked = true → s.fld CIPHER_STAT_TRNG = 0 → Gives (exec .trngOutput s) (fun t => s.cipher.nextOut ≤ t.clk.now ∧
      t.cipher.nextOut = s.cipher.nextOut + us 128 ∧
      (s.cipher.outs % 4 = 0 → t.cipher.rng = s.cipher.rng ∧ t.cipher.seeded = true ∧ t.cipher.outs = 1) ∧
      (s.cipher.outs % 4 ≠ 0 → t.cipher.outs = s.cipher.outs + 1 ∧
        ∃ l : List Word, l.length = 8 ∧ t.cipher.rng = (s.cipher.rng ++ l).take 16) ∧
      OnlyBlocks s t [baseCIPHER, baseTMR])) ∧
    (s.clocked = true → s.flag CIPHER_STAT_HALTED = false → Gives (exec .trngHealthFail s) (fun t => Halted s t ∧
      (if s.cipher.restarted = true ∧ s.cipher.testEnd = some (s.clk.now + us 256) then t.fld CIPHER_STAT_TRNG = 1 ∧
          t.cipher.testEnd = some (s.clk.now + us 256) else t.fld CIPHER_STAT_TRNG = 2 ∧ t.cipher.testEnd = none) ∧
      BlocksOnly s t [baseCIPHER, baseLATTICE, baseMAC, baseLOG])) ∧
    Gives (exec .restart s) (fun t => t.fld CIPHER_STAT_TRNG = 1 ∧
      t.cipher = { s.cipher with restarted := true, testEnd := some (s.clk.now + us 256) } ∧ OnlyRegs s t [CIPHER_STAT]) ∧
    (∀ e, s.cipher.testEnd = some e → Gives (exec (.startupTestDone true) s) (fun t => e ≤ t.clk.now ∧
        t.fld CIPHER_STAT_TRNG = 0 ∧ t.flag CIPHER_STAT_HALTED = (s.flag CIPHER_STAT_HALTED && !s.cipher.restarted) ∧
        t.flag CIPHER_IRQ_RESTARTED = true ∧
        t.cipher.seeded = true ∧ t.cipher.testEnd = none ∧
        (∃ l : List Word, l.length = 8 ∧ t.cipher.rng = (s.cipher.rng ++ l).take 16) ∧
        OnlyBlocks s t [baseCIPHER, baseTMR]) ∧
      Gives (exec (.startupTestDone false) s) (fun t => e ≤ t.clk.now ∧ t.fld CIPHER_STAT_TRNG = 2 ∧
        t.flag CIPHER_STAT_HALTED = true ∧ t.cipher.testEnd = none ∧ (s.flag CIPHER_STAT_HALTED = false → Halted s t) ∧
        (s.flag CIPHER_STAT_HALTED = true → OnlyBlocks s t [baseCIPHER, baseLOG, baseTMR]))) ∧
    (∀ k, k < 4 → s.clocked = true ∨ (2 ≤ k ∧ s.pwr.phase ≠ .off ∧ s.pwr.phase ≠ .softStart) → Gives (exec (.alarm k) s) (fun t => t.flag ⟨CIPHER_ALARM, k, k⟩ = true ∧
      t.flag CIPHER_IRQ_ALARM = true ∧ t.fld CIPHER_CNT_ALARMS = min (s.fld CIPHER_CNT_ALARMS + 1) 255 ∧
      (∀ n, n < 32 → t.keySlot n = {}) ∧ t.rd CIPHER_KEYSTAT = 0 ∧ t.lat.idKey = none ∧
      (s.lat.idKey.isSome = true → t.flag LATTICE_IRQ_IDLOST = true ∧ t.flag LATTICE_STAT_IDKEY = false) ∧
      JobsCut s t Code.ZEROISED ∧ LatCut s t Code.ZEROISED ∧ (s.otpFlag 0 = true → t.otpFlag 1 = true) ∧
      (s.otpFlag 0 = false → t.otp = s.otp) ∧ t.flag PAGER_IRQ_STOREDOWN = true ∧
      (∀ i h, tblFind t.pager.hot i = some h → h.ctx.key0 = [] ∧ h.ctx.key1 = []) ∧ t.rd SYS_DBGCTL = 0 ∧
      BlocksOnly s t [baseCIPHER, baseLATTICE, basePAGER, baseLOG, baseSYS])) ∧
    (∀ (v : Word) (h : Nat), Gives (exec (.alarmClear v h) s) (fun t => (∀ k, k < 4 → t.flag ⟨CIPHER_ALARM, k, k⟩ =
      (s.flag ⟨CIPHER_ALARM, k, k⟩ && (!(bitAt v.toNat k) || bitAt h k))) ∧ OnlyRegs s t [CIPHER_ALARM]))

/-- R462–R471: lattice operations are taken in turn and end with their results; the fuses of OTP. Where the spec leaves
room it follows the model's choices in log entries 107, 110, 111. -/
def Obligations.LatticeAndOtp : Prop :=
  ∀ s : State,
    (∀ c op pkh meas, LatCommand c op pkh meas → (∀ o ∈ s.lat.wait, o.loader = true) → pkh ≤ 6 →
      let o : LatOp := { op := op, args := (List.range 4).map (fun n => (s.rd (LATTICE_ARGn n)).toNat), pkh := pkh,
                         meas := meas % 4 }
      let cut := s.flag CIPHER_STAT_HALTED = true ∧ o.secret = true
      Gives (exec c s) (fun t => OnlyRegs s t [LATTICE_STAT, LATTICE_TIME, LATTICE_IRQ] ∧
        (s.lat.cur = none → s.lat.wait = [] → cut → LatRefused t s.lat.wait Code.TRNG_FAIL) ∧
        (s.lat.cur = none → s.lat.wait = [] → ¬cut → t.lat = { s.lat with cur := some { o with startAt := s.clk.now } } ∧
          t.flag LATTICE_STAT_BUSY = true) ∧
        (s.lat.cur ≠ none ∨ s.lat.wait ≠ [] → t.lat = { s.lat with wait := s.lat.wait ++ [o] } ∧
          t.flag LATTICE_STAT_QUEUED = true))) ∧
    (∀ c op pkh meas, LatCommand c op pkh meas → (∃ o ∈ s.lat.wait, o.loader = false) →
      exec c s = .next (s.discard baseLATTICE)) ∧
    (∀ o l, s.lat.cur = none → s.lat.wait = o :: l → Gives (exec .latticeStart s) (fun t =>
      let cut := s.flag CIPHER_STAT_HALTED = true ∧ o.secret = true
      (cut → LatRefused t l Code.TRNG_FAIL) ∧
      (¬cut → t.lat = { s.lat with cur := some { o with startAt := s.clk.now }, wait := l } ∧
        t.flag LATTICE_STAT_BUSY = true) ∧
      OnlyRegs s t [LATTICE_STAT, LATTICE_TIME, LATTICE_IRQ])) ∧
    (∀ o d, s.lat.cur = some o → o.loader = false →
      let a := fun n : Nat => o.args.getD n 0
      let ok := s.coreRegion .kc
      let x := s.advanceTo (o.startAt + us 2)
      let halted := s.flag CIPHER_STAT_HALTED
      (o.op = 1 → d ≤ us 1200 + 24 * ceilDiv (a 1) 136 → ok (a 0) (a 1) = true → a 1 < 2 ^ 24 → ok (a 2) 1952 = true →
        ok (a 3) 3309 = true → Gives (exec (.latticeDone d) s) (fun t => SameMem s t ∧ LatEnds s t o d
          (if o.pkh ≠ 0 ∧ (s.otpHash o.pkh).all (fun b => b == 0) = true then Code.KEY_EMPTY
           else if o.pkh ≠ 0 ∧ shake256 (s.memBytes (a 2) 1952) 32 ≠ s.otpHash o.pkh then Code.PK_MISMATCH
           else if Config.mldsaVerify (s.memBytes (a 2) 1952) [] (s.memBytes (a 0) (a 1)) (s.memBytes (a 3) 3309) then Code.OK
           else Code.SIG_FAIL))) ∧
      (o.op = 2 → d ≤ us 32450 → ok (a 0) (a 1) = true → a 1 < 2 ^ 24 → ok (a 2) 3309 = true → a 3 = 0 →
        (halted = true ∨ s.lat.idKey = none → Gives (exec (.latticeDone d) s) (fun t => SameMem s t ∧
          LatEnds s t o d (if halted then Code.TRNG_FAIL else Code.KEY_EMPTY))) ∧
        (∀ k, halted = false → s.lat.idKey = some k →
          let g := Config.mldsaSign k [] (s.memBytes (a 0) (a 1)) s.nextRandom
          (d ≠ us 450 + us 500 * min 64 g.2 → exec (.latticeDone d) s = .next s) ∧
          (d = us 450 + us 500 * min 64 g.2 → Gives (exec (.latticeDone d) s) (fun t =>
            t.fld LATTICE_STAT_ITER = min 64 g.2 ∧ LatEnds s t o d (if 64 ≤ g.2 then Code.SIGN_LIMIT else Code.OK) ∧
            ∀ y, t.memRd y = (if 64 ≤ g.2 then s else s.memPut (a 2) g.1).memRd y)))) ∧
      (o.op = 3 → d ≤ us 1000 → a 0 = 0 → a 1 = 0 → ok (a 2) 1952 = true → a 3 = 0 → halted = false →
        let seed := Config.seedDecrypt (shake256 (s.huk ++ idLabel) 32) (s.otpBytes 8 32)
        let blank := s.hukBlank || (s.otpBytes 8 32).all (fun b => b == 0)
        let refused := s.rd CIPHER_ALARM ≠ 0 ∨ s.otpFlag 1 = true ∨ blank = true
        Gives (exec (.latticeDone d) s) (fun t => (refused → SameMem s t ∧ t.lat.idKey = s.lat.idKey ∧
            LatEnds s t o d (if s.rd CIPHER_ALARM ≠ 0 then Code.ZEROISED
              else if s.otpFlag 1 then Code.REVOKED else Code.KEY_EMPTY)) ∧
          (¬refused → LatEnds s t o d Code.OK ∧ t.lat.idKey = some seed ∧ t.flag LATTICE_STAT_IDKEY = true ∧
            ∀ y, t.memRd y = (s.memPut (a 2) (Config.mldsaPub seed)).memRd y))) ∧
      (o.op = 4 → d = 24 * ceilDiv (a 1) 136 + 24 * ceilDiv (a 3) 136 + 200 → ok (a 0) (a 1) = true → ok (a 2) (a 3) = true →
        1 ≤ a 3 → a 3 ≤ 4096 → Gives (exec (.latticeDone d) s) (fun t => LatEnds s t o d Code.OK ∧
          ∀ y, t.memRd y = (s.memPut (a 2) (shake256 (s.memBytes (a 0) (a 1)) (a 3))).memRd y)) ∧
      (o.op = 5 → d ≤ us 2 → o.meas < 4 → ok (a 0) 32 = true → a 1 = 0 → a 2 = 0 → a 3 = 0 →
        let v := shake256 (s.meas o.meas ++ s.memBytes (a 0) 32) 32
        Gives (exec (.latticeDone d) s) (fun t => LatEnds s t o d Code.OK ∧ SameMem s t ∧
          (∀ i, i < 8 → t.rd (LATTICE_MEASn (8 * o.meas + i)) = BitVec.ofNat 32 (leNat ((v.drop (4 * i)).take 4))) ∧
          (∀ i, i < 32 → i / 8 ≠ o.meas → t.rd (LATTICE_MEASn i) = s.rd (LATTICE_MEASn i)))) ∧
      (o.op = 6 → d ≤ us 32452 → ok (a 0) 32 = true → ok (a 1) 3533 = true → a 2 = 0 → a 3 = 0 →
        (halted = true ∨ s.lat.idKey = none → Gives (exec (.latticeDone d) s) (fun t => SameMem s t ∧
          LatEnds s t o d (if halted then Code.TRNG_FAIL else Code.KEY_EMPTY))) ∧
        (∀ k, halted = false → s.lat.idKey = some k →
          let body := x.reportBody (s.memBytes (a 0) 32)
          let g := Config.mldsaSign k [] body s.nextRandom
          (d ≠ us 452 + us 500 * min 64 g.2 → exec (.latticeDone d) s = .next s) ∧
          (d = us 452 + us 500 * min 64 g.2 → Gives (exec (.latticeDone d) s) (fun t =>
            LatEnds s t o d (if 64 ≤ g.2 then Code.SIGN_LIMIT else Code.OK) ∧
            ∀ y, t.memRd y = (if 64 ≤ g.2 then s else s.memPut (a 1) (body ++ g.1)).memRd y))))) ∧
    (let w := s.fld OTP_ADDR_WORD
     let bad := w < 32 ∨ 80 ≤ w ∨ s.otpFlag 2 = true ∨ s.otpWord w ≠ 0
     (bad ∨ s.otp.cmd ≠ none → exec .otpProgram s = .next (s.discard baseOTP)) ∧
     (¬bad → s.otp.cmd = none → Gives (exec .otpProgram s) (fun t =>
       t.otp = { s.otp with cmd := some ⟨1, 0, w, s.rd OTP_DATA⟩ } ∧ t.flag OTP_STAT_BUSY = true ∧ OnlyRegs s t [OTP_STAT]))) ∧
    (∀ n op c, (c = .arbinc n ∧ op = 2 ∧ n < 8) ∨ (c = .setflag n ∧ op = 3 ∧ n < 3) →
      (s.otp.cmd ≠ none → exec c s = .next (s.discard baseOTP)) ∧
      (s.otp.cmd = none → Gives (exec c s) (fun t => t.otp = { s.otp with cmd := some ⟨op, n, 0, 0⟩ } ∧
        t.flag OTP_STAT_BUSY = true ∧ OnlyRegs s t [OTP_STAT]))) ∧
    (∀ (bad : Word) (k : OtpCmd), s.otp.cmd = some k →
      (k.op = 1 → 32 ≤ k.word → Gives (exec (.otpDone bad) s) (fun t =>
        t.otpWord k.word = s.otpWord k.word ||| (k.data &&& ~~~bad) ∧ (∀ m, m ≠ k.word → t.otpWord m = s.otpWord m) ∧
        OtpEnds s t k.word (if k.data &&& bad = 0 then Code.OK else Code.OTP_FAIL))) ∧
      (k.op = 2 → k.arg < 8 → Gives (exec (.otpDone bad) s) (fun t => (∀ m, m < 8 → m ≠ k.arg → t.arb m = s.arb m) ∧
        (s.arb k.arg = 64 → t.otp.words = s.otp.words ∧ OtpEnds s t (80 + 4 * k.arg + s.arb k.arg / 16) Code.ARB_FULL) ∧
        (s.arb k.arg < 64 → OtpEnds s t (80 + 4 * k.arg + s.arb k.arg / 16) (if bad.toNat % 4 = 0 then Code.OK else Code.OTP_FAIL) ∧
          (bad.toNat % 4 = 3 → t.arb k.arg = s.arb k.arg) ∧
          (bad.toNat % 4 ≠ 3 → s.arb k.arg + 1 ≤ t.arb k.arg ∧
            (s.pairBlown k.arg (s.arb k.arg + 1) = false → t.arb k.arg = s.arb k.arg + 1))))) ∧
      (k.op = 3 → k.arg < 3 → Gives (exec (.otpDone bad) s) (fun t =>
        (bitAt bad.toNat 0 = false → t.otpFlag k.arg = true ∧ (∀ n, n < 3 → n ≠ k.arg → t.otpFlag n = s.otpFlag n) ∧
          OtpEnds s t 112 Code.OK) ∧
        (bitAt bad.toNat 0 = true → t.otp.words = s.otp.words ∧ OtpEnds s t 112 Code.OTP_FAIL))))

/-! ### Firmware update, Ridgeline and fallback (chapter 16) -/

/-- R484–R487, R495–R498, R504: boot image selection, recovery, activation, the trial timer, CONFIRM and DECLINE. Where the spec leaves
room it follows the model's choices in log entries 115, 116, 119, 123. -/
def Obligations.BootAndTrial : Prop :=
  ∀ s : State,
    (s.flag UPD_BOOT_ROMEXIT = false → s.flag UPD_BOOT_RECOV = false → s.kc.st = .run → s.clocked = true →
      (s.pwr.strapBoot = 1 → Gives (exec .recovery s) (fun t => t.flag UPD_BOOT_RECOV = true ∧ t.flag HIF_CTRL_EN = true ∧
        Logged s t 1 Code.NO_IMAGE 0 0 ∧ OnlyBlocks s t [baseSYS, baseLOG, baseHIF])) ∧
      (s.pwr.strapBoot ≠ 1 → Gives (exec .bootSelect s) (fun t =>
        let r := s.bcr
        let s1 := if s.pwr.strapBoot = 3 then s.logPut 1 Code.BOOTSEL_RSVD 0 0 else s
        let trying := r.state = 1 ∧ s.flag UPD_BOOT_TEXP = false ∧ r.tries < 3
        let r1 : Bcr := if trying then { r with tries := r.tries + 1 } else { r with state := 0 }
        let x := if trying then (s1.writeBcr r1).armTrial r.trials
          else if r.state = 1 then (s1.writeBcr r1).logPut 1 Code.UPD_REVERTED 0 (if s.flag UPD_BOOT_TEXP then 1 else 2) else s1
        let i := if trying then 1 - r.active else r.active
        let y := (x.bootCheck i).2.2
        let first := (x.bootCheck i).1
        (first = Code.OK → BootsSet x t r1 i Code.OK) ∧
        (first ≠ Code.OK → trying →
          let r2 : Bcr := { r1 with state := 0 }
          let z := (y.writeBcr r2).logPut 1 Code.UPD_REVERTED 0 3
          ((z.bootCheck r.active).1 = Code.OK → BootsSet z t r2 r.active first) ∧
          ((z.bootCheck r.active).1 ≠ Code.OK → t.flag UPD_BOOT_RECOV = true ∧ t.flag HIF_CTRL_EN = true)) ∧
        (first ≠ Code.OK → ¬trying →
          ((y.bootCheck (1 - r.active)).1 = Code.OK → BootsSet y t { r1 with active := 1 - r.active } (1 - r.active) first) ∧
          ((y.bootCheck (1 - r.active)).1 ≠ Code.OK → t.flag UPD_BOOT_RECOV = true ∧ t.flag HIF_CTRL_EN = true))))) ∧
    (∀ die, die < 256 →
      let ready := s.updRefused = false ∧ s.upd.stage.any Stage.complete = true
      (¬ready → exec (.activate die) s = .next s) ∧
      (ready → nandFails die = true → (s.install die).1 = die) ∧
      (ready → (s.install die).1 ≠ Code.OK → Gives (exec (.activate die) s) (fun t => SameBoot s t ∧ t.upd.stage = s.upd.stage ∧
        OnlyBlocks s t [baseNAND])) ∧
      (ready → (s.install die).1 = Code.OK → s.pwr.nrstLow = false → s.pwr.vioLow = false →
        Gives (exec (.activate die) s) ResetSoft)) ∧
    (∀ (r : Requester) (secs : Nat), r ≠ .core .kc ∨ s.flag UPD_BOOT_ROMEXIT = true ∨ secs = 0 ∨ 65535 < secs →
      exec (.trialArm r secs) s = .next (s.discard baseSYS)) ∧
    (∀ secs, s.flag UPD_BOOT_ROMEXIT = false → 1 ≤ secs → secs ≤ 65535 → Gives (exec (.trialArm (.core .kc) secs) s) (fun t =>
      t.flag UPD_TRIAL_RUN = true ∧ t.fld UPD_TRIAL_SECS = secs ∧
      t.upd.expireAt = some ((s.clk.slowcnt + 32768 * secs) % 2 ^ 48) ∧ OnlyRegs s t [UPD_TRIAL])) ∧
    (∀ r : Requester, r ≠ .core .kc → exec (.trialStop r) s = .next (s.discard baseSYS)) ∧
    (∀ v, s.upd.expireAt = some v →
      (reached 48 s.clk.slowcnt v = false → Gives (exec (.trialStop (.core .kc)) s) (fun t => t.upd.expireAt = none ∧
        t.flag UPD_TRIAL_RUN = false ∧ OnlyRegs s t [UPD_TRIAL])) ∧
      (s.pwr.nrstLow = false → s.pwr.vioLow = false →
        (reached 48 s.clk.slowcnt v = true → Gives (exec (.trialStop (.core .kc)) s) (fun t => ResetSoft t ∧
          t.flag UPD_BOOT_TEXP = true)) ∧
        (reached 48 s.clk.slowcnt v = true ∨ s.clk.slowOn = true → Gives (exec .trialExpire s) (fun t => ResetSoft t ∧
          t.flag UPD_BOOT_TEXP = true)))) ∧
    (∀ plansOk migrated : Bool, Gives (exec (.confirm plansOk migrated) s) (fun t =>
      let ok := s.trialHealthy plansOk migrated = true ∧ s.vinLow = false ∧ s.inLockstep = false
      (ok → Confirms s t) ∧ (¬ok → t = s))) ∧
    (s.pwr.nrstLow = false → s.pwr.vioLow = false → Gives (exec .decline s) (fun t =>
      (s.onTrial = true → ResetSoft t) ∧ (s.onTrial = false → t = s)))

/-- R490–R493: announcements, requests and blocks between neighbours: what is dropped, served, verified and refused. Where the spec leaves
room it follows the model's choices in log entries 117, 118, 120, 121. -/
def Obligations.Ridgeline : Prop :=
  ∀ (s : State) (nb : Nat), nb < 32 → s.flag UPD_BOOT_RECOV = false →
    (let due := ∀ a, tblFind s.upd.annAt nb = some a → a.2 ≠ s.have_ ∨ a.1 + 60 * 200000000 ≤ s.clk.now
     (¬due → exec (.ridgelineAnnounceSend nb) s = .next s) ∧
     (due → Gives (exec (.ridgelineAnnounceSend nb) s) (fun t => OnlyRegs s t [] ∧
       tblFind t.upd.annAt nb = some (s.clk.now, s.have_) ∧
       (s.upd.stage = none → t.upd.out = s.upd.out ++ [(nb, leBytes 1 0xa7 ++ leBytes 1 1 ++ zeros 2 ++ zeros 8 ++ zeros 12)]) ∧
       ∀ g, s.upd.stage = some g → t.upd.out = s.upd.out ++ [(nb, leBytes 1 0xa7 ++ leBytes 1 1 ++ zeros 2 ++ g.setid ++
         leBytes 4 g.setver ++ leBytes 4 (g.nh + g.nlist + g.ndata) ++ leBytes 4 g.have_)]))) ∧
    (∀ (m : List Byte) (i : Instr) (typ : Nat), (i = .announce nb m ∧ typ = 1) ∨ (i = .request nb m ∧ typ = 2) ∨
        (i = .block nb m ∧ typ = 3) ∨ (i = .refuse nb m ∧ typ = 4) →
      octLe m 0 1 ≠ 0xa7 ∨ octLe m 1 1 ≠ typ ∨ octLe m 2 2 ≠ 0 ∨
        m.length ≠ (if typ = 1 then 24 else if typ = 2 then 20 else if typ = 3 then 20 + octLe m 18 2 else 16) →
      exec i s = .next { s with upd := { s.upd with dropped := s.upd.dropped + 1 } }) ∧
    (∀ m, rlFmt m 1 = true → Gives (exec (.announce nb m) s) (fun t => OnlyRegs s t [] ∧ (t.rlPeer nb).setid = rlSetid m ∧
      (t.rlPeer nb).setver = octLe m 12 4 ∧ (t.rlPeer nb).ntotal = octLe m 16 4 ∧ (t.rlPeer nb).have_ = octLe m 20 4 ∧
      t.upd.stage = s.upd.stage ∧ ∀ k, k ≠ nb → (t.rlPeer k).have_ = (s.rlPeer k).have_)) ∧
    (∀ m, rlFmt m 2 = true → 1 ≤ octLe m 16 2 → octLe m 16 2 ≤ 64 → 64 ≤ octLe m 18 2 → octLe m 18 2 ≤ 2048 →
      let from_ := octLe m 12 4
      (∀ g, s.upd.stage = some g → g.setid = rlSetid m → from_ < g.have_ →
        let n := min (octLe m 16 2) (g.have_ - from_)
        Gives (exec (.request nb m) s) (fun t => OnlyRegs s t [] ∧
          t.upd.out = s.upd.out ++ (List.range n).flatMap (fun k =>
            (rlFrags g.setid (from_ + k) (octLe m 18 2) ((g.bytes.drop (2048 * (from_ + k))).take 2048) 0 33).map
              (fun f => (nb, f))) ∧
          (n = octLe m 16 2 → tblFind t.upd.reqs nb = none) ∧
          (n < octLe m 16 2 → tblFind t.upd.reqs nb = some ⟨rlSetid m, from_ + n, octLe m 16 2 - n, octLe m 18 2⟩))) ∧
      ((∀ g, s.upd.stage = some g → g.setid ≠ rlSetid m ∨ g.have_ ≤ from_) →
        (s.updRefused = true → Gives (exec (.request nb m) s) (fun t => OnlyRegs s t [] ∧ t.upd.out = s.upd.out ++
          [(nb, leBytes 1 0xa7 ++ leBytes 1 4 ++ zeros 2 ++ rlSetid m ++ leBytes 1 Code.UPD_REFUSED ++ zeros 3)])) ∧
        (s.updRefused = false → Gives (exec (.request nb m) s) (fun t => OnlyRegs s t [] ∧ t.upd.out = s.upd.out)))) ∧
    (∀ m g f, rlFmt m 3 = true → s.upd.src = some nb → s.upd.stage = some g → g.setid = rlSetid m →
      (s.rlPeer nb).setid = rlSetid m → s.upd.rlHead = [] → octLe m 12 4 = g.have_ → 1 ≤ octLe m 18 2 →
      ((s.rlPeer nb).frag = 0 ∨ octLe m 18 2 ≤ (s.rlPeer nb).frag) →
      (∀ x, s.upd.frag = some x → x.1 = g.have_) → f = (s.upd.frag.map (·.2)).getD [] → octLe m 16 2 = f.length →
      let b := f ++ m.drop 20
      (b.length < 2048 → Gives (exec (.block nb m) s) (fun t => t.upd.frag = some (g.have_, b) ∧ t.upd.stage = s.upd.stage ∧
        (t.rlPeer nb).idle = 0 ∧ OnlyRegs s t [])) ∧
      (b.length = 2048 → Gives (exec (.block nb m) s) (fun t => t.upd.frag = none ∧ OnlyBlocks s t [baseNAND, baseLOG] ∧
        (blockOk g.bytes g.have_ b = true → (∃ g', t.upd.stage = some g' ∧ g'.have_ = g.have_ + 1 ∧
          g'.bytes = g.bytes.take (2048 * g.have_) ++ b)) ∧
        (blockOk g.bytes g.have_ b = false → t.upd.stage = s.upd.stage ∧
          (t.rlPeer nb).failed = (s.rlPeer nb).failed + 1 ∧ (2 ≤ (s.rlPeer nb).failed → (t.rlPeer nb).shunned = true))))) ∧
    (∀ m, rlFmt m 3 = true → (s.rlPeer nb).frag ≠ 0 → (s.rlPeer nb).frag < octLe m 18 2 →
      exec (.block nb m) s = .next { s with upd := { s.upd with dropped := s.upd.dropped + 1 } }) ∧
    (∀ m, rlFmt m 4 = true → octLe m 13 3 = 0 →
      (0xe0 ≤ octLe m 12 1 → exec (.refuse nb m) s = .next { s with upd := { s.upd with dropped := s.upd.dropped + 1 } }) ∧
      (octLe m 12 1 < 0xe0 → Gives (exec (.refuse nb m) s) (fun t => OnlyRegs s t [] ∧
        (rlSetid m = (s.rlPeer nb).setid → (t.rlPeer nb).shunned = true) ∧ (rlSetid m ≠ (s.rlPeer nb).setid → t = s) ∧
        t.upd.stage = s.upd.stage)))

/-- R501, R555: the pair in lockstep. Where the spec leaves
room it follows the model's choices in log entries 122, 140. -/
def Obligations.PairLockstep : Prop :=
  ∀ (s : State) (setid : List Byte), setid.length = 8 →
    (∀ (t0 die : Nat), s.pairActive = true → s.sqt + 1000000 ≤ (timeOf32 s.sqt t0).toNat →
      Gives (exec (.prepare true setid t0 die) s) (fun t => SaysPair s t (leBytes 1 1 ++ setid ++ leBytes 4 t0) ∧
        OnlyBlocks s t [baseNAND] ∧
        (t.upd.lock = some { setid := setid, t := (timeOf32 s.sqt t0).toNat, own := true, ready := true } ∨
          (t.upd.lock = s.upd.lock ∧ SaysPair s t (leBytes 1 4 ++ setid ++ []))) ∧
        (s.updRefused = true ∨ nandFails die = true ∨ (∀ g, s.upd.stage = some g → g.setid ≠ setid) →
          t.upd.lock = s.upd.lock ∧ SaysPair s t (leBytes 1 4 ++ setid ++ [])))) ∧
    (∀ (t0 die : Nat), s.pairStandby = true → Gives (exec (.prepare false setid t0 die) s) (fun t => OnlyBlocks s t [baseNAND] ∧
      ((∃ l, t.upd.lock = some l ∧ l.setid = setid ∧ l.own = false ∧ l.ready = true ∧ SaysPair s t (leBytes 1 2 ++ setid ++ [])) ∨
        ∃ code, t.upd.lock = s.upd.lock ∧ SaysPair s t (leBytes 1 3 ++ setid ++ leBytes 1 code)) ∧
      (s.updRefused = true ∨ (∀ g, s.upd.stage = some g → g.setid ≠ setid) →
        t.upd.lock = s.upd.lock ∧ SaysPair s t (leBytes 1 3 ++ setid ++ leBytes 1 Code.UPD_REFUSED)))) ∧
    (∀ l, s.upd.lock = some l →
      (l.setid = setid → Gives (exec (.ready setid) s) (fun t =>
          let late := l.own = true ∧ l.peerReady = false ∧ l.t < s.sqt + 100000
          OnlyRegs s t [] ∧ (¬late → t.upd = { s.upd with lock := some { l with peerReady := true } }) ∧
          (late → t.upd = { s.upd with lock := none } ∧ SaysPair s t (leBytes 1 4 ++ setid ++ []))) ∧
        Gives (exec (.abort setid) s) (fun t => t.upd = { s.upd with lock := none } ∧ OnlyRegs s t []) ∧
        ∀ code, (0xe0 ≤ code → exec (.pairRefuse setid code) s = .next s) ∧ (code < 0xe0 → Gives (exec (.pairRefuse setid code) s) (fun t => t.upd.lock = none ∧
          t.upd.stage = s.upd.stage ∧ SaysPair s t (leBytes 1 4 ++ setid ++ []) ∧ OnlyRegs s t []))) ∧
      (l.setid ≠ setid → exec (.ready setid) s = .next s ∧ exec (.abort setid) s = .next s ∧
        ∀ code, exec (.pairRefuse setid code) s = .next s) ∧
      (l.own = true → l.peerReady = false → l.trial = false → Gives (exec .readyDeadline s) (fun t => t.upd.lock = none ∧
        t.upd.stage = s.upd.stage ∧ SameBoot s t ∧ SaysPair s t (leBytes 1 4 ++ l.setid ++ []) ∧ OnlyBlocks s t [baseTMR])) ∧
      (l.trial = false →
        (l.ready = true → l.peerReady = true → s.pwr.nrstLow = false → s.pwr.vioLow = false →
          Gives (exec .pairResetTime s) (fun t => ResetSoft t)) ∧
        (l.ready = false ∨ l.peerReady = false → Gives (exec .pairResetTime s) (fun t => t.upd.lock = none ∧
          t.upd.stage = s.upd.stage ∧ SameBoot s t ∧ SaysPair s t (leBytes 1 4 ++ l.setid ++ []) ∧ OnlyBlocks s t [baseTMR])))) ∧
    (∀ plansOk migrated : Bool, Gives (exec (.healthy true setid plansOk migrated) s) (fun t =>
      let ok := s.trialHealthy plansOk migrated = true ∧ s.trialSetid = setid
      (ok → (∃ l, t.upd.lock = some l ∧ l.healthy = true) ∧ SaysPair s t (leBytes 1 5 ++ setid ++ []) ∧
        (s.pairActive = true → s.trialLock.peerHealthy = true →
          SaysPair s t (leBytes 1 6 ++ s.trialLock.setid ++ []))) ∧ (¬ok → t = s) ∧ OnlyRegs s t []) ∧
      Gives (exec (.healthy false setid plansOk migrated) s) (fun t =>
        let ok := s.onTrial = true ∧ s.trialSetid = setid
        (ok → (∃ l, t.upd.lock = some l ∧ l.peerHealthy = true) ∧ (s.pairActive = true → s.trialLock.healthy = true →
          SaysPair s t (leBytes 1 6 ++ s.trialLock.setid ++ []))) ∧ (¬ok → t = s) ∧ OnlyRegs s t [])) ∧
    (let ok := s.onTrial = true ∧ s.trialSetid = setid ∧ s.trialLock.healthy = true ∧ s.vinLow = false
     Gives (exec (.commit setid) s) (fun t => (ok → Confirms s t ∧ t.upd.lock = none ∧
       SaysPair s t (leBytes 1 7 ++ setid ++ [])) ∧ (¬ok → t = s)) ∧
     Gives (exec (.confirmed setid) s) (fun t => (ok → Confirms s t ∧ t.upd.lock = none) ∧ (¬ok → t = s))) ∧
    (s.pwr.nrstLow = false → s.pwr.vioLow = false → Gives (exec (.pairDecline setid) s) (fun t =>
      let mine := s.onTrial = true ∧ s.trialSetid = setid
      (mine → ResetSoft t) ∧ (¬mine → t = s)))

/-! ### Self-test and the event log (chapter 17) -/

/-- R505–R513, R522: cycles, the order of a slice, what each end of a check does, marking and reintegration, requests. Where the spec leaves
room it follows the model's choices in log entries 124, 125, 126. -/
def Obligations.SelfTest : Prop :=
  ∀ s : State,
    (∀ r : Requester, r ≠ .core .kc → exec (.bistCntclr r) s = .next (s.discard baseBIST) ∧
      (∀ v, exec (.bistCtrlWrite r v) s = .next (s.discard baseBIST)) ∧
      (∀ i dl, exec (.bistRequest r i dl) s = .next (s.discard baseBIST)) ∧
      ∀ i, exec (.bistReint r i) s = .next (s.discard baseBIST)) ∧
    Gives (exec (.bistCntclr (.core .kc)) s) (fun t => t.rd BIST_CNT = 0 ∧
      (∀ i, i < 77 → t.bistItem i = { s.bistItem i with transients := 0 }) ∧ OnlyRegs s t [BIST_CNT]) ∧
    (∀ v : Word, Gives (exec (.bistCtrlWrite (.core .kc) v) s) (fun t => t.flag BIST_CTRL_EN = bitAt v.toNat 0 ∧
      (bitAt v.toNat 0 = true → s.flag BIST_CTRL_EN = false → CycleStarted s t s.clk.slowcnt) ∧
      (bitAt v.toNat 0 = false → t.bist.running = false) ∧
      (bitAt v.toNat 1 = true → t.rd BIST_CNT = 0 ∧ ∀ i, i < 77 → (t.bistItem i).transients = 0) ∧
      OnlyRegs s t [BIST_CTRL, BIST_CNT])) ∧
    (s.flag BIST_CTRL_EN = true → s.bist.running = false → Gives (exec .bistCycleStart s) (fun t => CycleStarted s t s.bist.cycleAt ∧
      OnlyRegs s t [])) ∧
    (s.flag BIST_CTRL_EN = true → s.bist.running = true → s.clk.slowOn = true → Gives (exec .bistCycleEnd s) (fun t =>
      t.bist.running = false ∧ t.bist.cycleAt = (s.bist.cycleAt + s.bist.cycleLen) % 2 ^ 48 ∧ t.flag BIST_IRQ_CYCLEDONE = true ∧
      (∀ i, i < 77 → t.bistItem i = if (s.bistItem i).st = .due
        then { s.bistItem i with st := .notRun, last := Code.NOT_RUN_BUSY } else s.bistItem i) ∧
      Logged s t 14 Code.CYCLE_DONE ((List.range 77).filter (fun i => (s.bistItem i).st == .pass)).length
        ((List.range 77).filter (fun i => (s.bistItem i).st == .due)).length ∧
      OnlyBlocks s t [baseBIST, baseTMR, baseLOG])) ∧
    (∀ i, s.bist.check = none → i < 2 → (s.bistItem i).st = .rerun → s.pst (pathOf i) = .fault →
      (∀ j, j < i → (s.bistItem j).st ≠ .rerun ∨ s.pst (pathOf j) ≠ .fault) → Gives (exec .bistSlice s) (fun t =>
        CheckStarts s t i .rerun ∧ OnlyRegs s t [BIST_STAT])) ∧
    (∀ w, s.bist.check = none → (∀ j, j < 2 → (s.bistItem j).st ≠ .rerun ∨ s.pst (pathOf j) ≠ .fault) →
      s.bist.slice = some w → s.clk.now < w.endAt →
      let ok := fun i => s.bistIdle w.path i = true ∧ bistUs i ≤ (w.endAt - s.clk.now) / 200
      let noRerun := ∀ j, j < 77 → (s.bistItem j).st = .rerun → ¬ok j
      let noReq := ∀ q, s.bist.req = some q → ¬ok q.1 ∨ q.2 < s.clk.now
      (∀ i why, i < 77 → ok i →
        (why = .rerun ∧ (s.bistItem i).st = .rerun ∧ ∀ j, j < i → (s.bistItem j).st = .rerun → ¬ok j) ∨
        (why = .request ∧ noRerun ∧ ∃ dl, s.bist.req = some (i, dl) ∧ s.clk.now ≤ dl) ∨
        (why = .cycle ∧ noRerun ∧ noReq ∧ s.bist.running = true ∧ (s.bistItem i).st = .due ∧
          ∀ j, j < i → (s.bistItem j).st = .due → ¬ok j) → Gives (exec .bistSlice s) (fun t => CheckStarts s t i why ∧
          (w.used = false → t.fld BIST_CNT_SLICES = min (s.fld BIST_CNT_SLICES + 1) 65535) ∧
          (i < 2 → t.pst (bistPath i) = .ircal ∧ t.flag (RFx_STATE_IRCDUE (bistPath i)) = true) ∧
          (2 ≤ i → i < 4 → (t.rf (bistPath i)).frozenAt.isSome = true) ∧
          (4 ≤ i → OnlyRegs s t [BIST_STAT, BIST_CNT]))) ∧
      (noRerun → noReq → (s.bist.running = true → ∀ j, j < 77 → (s.bistItem j).st = .due → ¬ok j) →
        Gives (exec .bistSlice s) (fun t => t.bist.slice = none ∧ t.flag BIST_STAT_SLICE = s.bist.reint.isSome ∧ w.endAt ≤ t.clk.now ∧
          t.bist.items = s.bist.items ∧ OnlyBlocks s t [baseBIST, baseTMR]))) ∧
    (∀ c (detail : Nat), s.bist.check = some c → c.item < 77 → detail < 65536 →
      (Gives (exec (.bistCheckEnd false true detail) s) (fun t => c.endAt ≤ t.clk.now ∧ t.bist.check = none ∧
        (t.bistItem c.item).st = .pass ∧ (t.bistItem c.item).last = Code.OK ∧
        (c.why = .request → ReqEnds t Code.OK) ∧
        (c.why = .rerun → (t.bistItem c.item).transients = min 255 ((s.bistItem c.item).transients + 1) ∧
          t.flag BIST_IRQ_TRANSIENT = true ∧ Logged s t 14 Code.BIST_TRANSIENT detail c.item) ∧
        (c.item = 76 → t.flag BIST_STAT_REFBAD = false) ∧
        (c.why = .rerun → c.item < 2 → s.pst (bistPath c.item) = .fault → (s.bistItem (2 + c.item)).st ≠ .unusable →
          t.pst (bistPath c.item) = .off ∧ t.flag (RFx_STATE_UNUSABLE (bistPath c.item)) = false) ∧
        (4 ≤ c.item → OnlyBlocks s t [baseBIST, baseTMR, baseLOG]))) ∧
      (c.why = .cycle ∨ c.why = .request → Gives (exec (.bistCheckEnd false false detail) s) (fun t => c.endAt ≤ t.clk.now ∧
        t.bist.check = none ∧ t.bistItem c.item =
          { s.bistItem c.item with st := .rerun, last := Code.BIST_FAIL, since := t.clk.now, lateLogged := false } ∧ (c.why = .request → ReqEnds t Code.BIST_FAIL) ∧
        Logged s t 14 Code.BIST_FAIL detail c.item ∧ (4 ≤ c.item → OnlyBlocks s t [baseBIST, baseTMR, baseLOG]))) ∧
      (c.why = .rerun → c.item ≠ 76 → Gives (exec (.bistCheckEnd false false detail) s) (fun t => c.endAt ≤ t.clk.now ∧
        t.bist.check = none ∧ (t.bistItem c.item).st = .unusable ∧ t.flag BIST_IRQ_UNUSABLE = true ∧
        (c.item < 4 → t.pst (bistPath c.item) = .fault ∧ t.flag (RFx_STATE_UNUSABLE (bistPath c.item)) = true) ∧
        (4 ≤ c.item → c.item < 12 →
          t.fld ⟨(budEngok (bistPath c.item)).addr, 28 + c.item % 4, 28 + c.item % 4⟩ = 0) ∧
        (12 ≤ c.item → t.engineOk (c.item - 12) = false))) ∧
      (c.why = .rerun → c.item = 76 → Gives (exec (.bistCheckEnd false false detail) s) (fun t =>
        t.flag BIST_STAT_REFBAD = true ∧ t.flag BIST_IRQ_REFBAD = true ∧ (t.bistItem 76).st ≠ .unusable ∧
        Logged s t 14 Code.BIST_REFBAD detail 76 ∧ OnlyBlocks s t [baseBIST, baseTMR, baseLOG]))) ∧
    (∀ c (detail : Nat), s.bist.reint = some c → c.item < 76 → detail < 65536 →
      Gives (exec (.bistCheckEnd true false detail) s) (fun t => c.endAt ≤ t.clk.now ∧ t.bist.reint = none ∧
        t.bist.items = s.bist.items ∧ ReqEnds t Code.BIST_UNUSABLE ∧ (4 ≤ c.item → OnlyBlocks s t [baseBIST, baseTMR])) ∧
      (c.why = .reint1 → Gives (exec (.bistCheckEnd true true detail) s) (fun t => t.bist.items = s.bist.items ∧
        t.bist.reint = some { c with why := .reint2, endAt := t.clk.now + us (bistUs c.item) } ∧ c.endAt ≤ t.clk.now ∧
        OnlyBlocks s t [baseTMR])) ∧
      (c.why = .reint2 → Gives (exec (.bistCheckEnd true true detail) s) (fun t => c.endAt ≤ t.clk.now ∧
        (t.bistItem c.item).st = .pass ∧ t.bist.reint = none ∧ ReqEnds t Code.BIST_REINT ∧ t.flag BIST_IRQ_REINT = true ∧
        (4 ≤ c.item → c.item < 12 →
          t.fld ⟨(budEngok (bistPath c.item)).addr, 28 + c.item % 4, 28 + c.item % 4⟩ = 1) ∧
        (12 ≤ c.item → t.engineOk (c.item - 12) = true)))) ∧
    (∀ n, n < 77 → (s.bistItem n).st = .rerun → (s.bistItem n).lateLogged = false → Gives (exec (.rerunLate n) s) (fun t =>
      (s.bistItem n).since + 200000000 * s.fld BIST_CFG_RRDL ≤ t.clk.now ∧ t.flag BIST_IRQ_RERUNLATE = true ∧
      t.bistItem n = { s.bistItem n with lateLogged := true } ∧ Logged s t 14 Code.NOT_RUN_BUSY 0 n ∧
      OnlyBlocks s t [baseBIST, baseTMR, baseLOG])) ∧
    (∀ i dl, i < 128 → dl < 65536 →
      let busy := s.flag BIST_REQRES_BUSY = true
      let un := (s.bistItem i).st = .unusable
      (76 < i ∨ busy ∨ un ∨ dl = 0 → exec (.bistRequest (.core .kc) i dl) s = .next (s.discard baseBIST)) ∧
      (i ≤ 76 → ¬busy → ¬un → dl ≠ 0 → Gives (exec (.bistRequest (.core .kc) i dl) s) (fun t =>
        t.bist.req = some (i, s.clk.now + 200000 * dl) ∧ t.flag BIST_REQRES_BUSY = true ∧ t.fld BIST_REQRES_ITEM = i ∧
        OnlyRegs s t [BIST_REQRES])) ∧
      (76 ≤ i ∨ busy ∨ ¬un → exec (.bistReint (.core .kc) i) s = .next (s.discard baseBIST)) ∧
      (i < 76 → ¬busy → un → Gives (exec (.bistReint (.core .kc) i) s) (fun t => (∃ c, t.bist.reint = some c ∧ c.item = i ∧
        c.why = .reint1 ∧ c.endAt = s.clk.now + us (bistUs i)) ∧ t.flag BIST_REQRES_BUSY = true ∧
        t.fld BIST_STAT_ITEM = i ∧ t.flag BIST_STAT_SLICE = true ∧ OnlyRegs s t [BIST_REQRES, BIST_STAT]))) ∧
    (∀ q, s.bist.req = some q → (∀ c, s.bist.check = some c → c.why ≠ .request) → Gives (exec .requestDeadline s) (fun t =>
      q.2 ≤ t.clk.now ∧ ReqEnds t Code.NOT_RUN_BUSY ∧ t.bist.items = s.bist.items ∧ OnlyBlocks s t [baseBIST, baseTMR]))

/-- R514–R520, R523: an append takes the front of the queue, in a full ring WRAP overwrites and STOP loses; entries of
firmware; clearing and reading. Where the spec leaves
room it follows the model's choice in log entry 127. -/
def Obligations.EventLog : Prop :=
  ∀ s : State,
    (∀ q l, s.log.queue = q :: l → s.clocked = true →
      let h := (s.rd LOG_HEAD).toNat
      let f := (s.rd LOG_FIRST).toNat
      let held := seqDiff h f
      let stored := fun (t : State) (n : Nat) => t.rd LOG_HEAD = s.rd LOG_HEAD + BitVec.ofNat 32 n ∧
        t.flag LOG_IRQ_NEW = true ∧ t.log.queue = l ∧ t.clk.now = s.clk.now + 1 ∧ t.rd LOG_ACK = s.rd LOG_ACK ∧
        (s.fld LOG_CFG_WATER ≤ seqDiff (h + n) (s.rd LOG_ACK).toNat → t.flag LOG_IRQ_WATER = true) ∧
        t.rd LOG_LOST = s.rd LOG_LOST ∧ OnlyBlocks s t [baseLOG, baseTMR]
      (s.log.lostSince = 0 → held < 4096 → Gives (exec .logAppend s) (fun t => stored t 1 ∧ Appended t h q.ent ∧
        t.rd LOG_FIRST = s.rd LOG_FIRST ∧ ∀ n, n < 4096 → n ≠ h % 4096 → tblFind t.log.ring n = tblFind s.log.ring n)) ∧
      (s.log.lostSince = 0 → held = 4096 → s.flag LOG_CFG_MODE = false → Gives (exec .logAppend s) (fun t => stored t 1 ∧
        Appended t h q.ent ∧ t.rd LOG_FIRST = s.rd LOG_FIRST + 1)) ∧
      (s.log.lostSince ≠ 0 → held < 4095 → Gives (exec .logAppend s) (fun t => stored t 2 ∧ Appended t (h + 1) q.ent ∧
        t.log.lostSince = 0 ∧ t.rd LOG_FIRST = s.rd LOG_FIRST ∧ ∃ e, Appended t h e ∧ e.src = 15 ∧ e.code = Code.LOG_LOST ∧
          e.data = s.log.lostSince % 2 ^ 32)) ∧
      (held = 4096 → s.flag LOG_CFG_MODE = true → s.rd LOG_ACK = s.rd LOG_FIRST → Gives (exec .logAppend s) (fun t =>
        t.log.ring = s.log.ring ∧ t.rd LOG_HEAD = s.rd LOG_HEAD ∧ t.rd LOG_FIRST = s.rd LOG_FIRST ∧ t.log.queue = l ∧
        CountsOne s t LOG_LOST_COUNT ∧ t.flag LOG_IRQ_LOST = true ∧ t.log.lostSince = s.log.lostSince + 1 ∧
        OnlyBlocks s t [baseLOG, baseTMR]))) ∧
    (∀ (r : Requester) (v : Word),
      let src := v.toNat % 32
      let code := v.toNat / 256 % 256
      ((∀ c : CoreId, r ≠ .core c) ∨ 0xe0 ≤ code ∨ src = 0 ∨ 23 < src → exec (.logWcmd r v) s = .next (s.discard baseLOG)) ∧
      (∀ c : CoreId, r = .core c → code < 0xe0 → 1 ≤ src → src ≤ 23 → s.log.queue.length < 16 →
        Gives (exec (.logWcmd r v) s) (fun t => OnlyRegs s t [] ∧ t.log.queue.length = s.log.queue.length + 1 ∧
          ∃ q ∈ t.log.queue, q.at_ = s.clk.now ∧ q.ent.slow = s.clk.slowcnt ∧ q.ent.src = src + 32 * (coreNum c + 1) ∧
            q.ent.code = code ∧ q.ent.aux = v.toNat / 65536 ∧ q.ent.data = tblGet 0 s.log.wdata (coreNum c)))) ∧
    (∀ r : Requester, r ≠ .core .kc → exec (.logClear r) s = .next (s.discard baseLOG)) ∧
    Gives (exec (.logClear (.core .kc)) s) (fun t => t.rd LOG_FIRST = s.rd LOG_HEAD ∧ t.rd LOG_ACK = s.rd LOG_HEAD ∧
      t.rd LOG_HEAD = s.rd LOG_HEAD ∧
      Logged s t 15 Code.LOG_CLEARED 0 (seqDiff (s.rd LOG_HEAD).toNat (s.rd LOG_FIRST).toNat) ∧ OnlyBlocks s t [baseLOG]) ∧
    (∀ n, n < 4 →
      let rs := (s.rd LOG_RDSEQ).toNat
      let held := seqDiff rs (s.rd LOG_FIRST).toNat < seqDiff (s.rd LOG_HEAD).toNat (s.rd LOG_FIRST).toNat
      (¬held → exec (.logRead n) s = .next { s with rdata := 0 }) ∧
      (∀ e, held → tblFind s.log.ring (rs % 4096) = some e → Gives (exec (.logRead n) s) (fun t => OnlyRegs s t [] ∧
        (e.slow < 2 ^ 48 → n = 0 → t.rdata = BitVec.ofNat 32 e.slow) ∧
        (e.slow < 2 ^ 48 → e.sub < 65536 → n = 1 → t.rdata = BitVec.ofNat 32 (e.slow / 2 ^ 32 + 65536 * e.sub)) ∧
        (e.src < 256 → e.code < 256 → e.aux < 65536 → n = 2 →
          t.rdata = BitVec.ofNat 32 (e.src + 256 * e.code + 65536 * e.aux)) ∧
        (n = 3 → t.rdata = BitVec.ofNat 32 e.data))))

/-- R539–R544: Ethernet frames in and out, management accesses, the octets of the UARTs, and the general-purpose pins. Where the spec leaves
room it follows the model's choices in log entries 8, 10, 130, 131. -/
def Obligations.NetUartGpio : Prop :=
  ∀ s : State,
    (∀ (frame : List Byte) (ok : Bool), s.flag NET_CTRL_EN = true → s.clocked = true → frame.length ≤ 1518 →
      let used := (s.net.rx.map (fun e => e.2.length)).sum + s.net.rxOut.length
      (s.netMine frame = false → exec (.netRxFrame frame ok) s = .next s) ∧
      (s.netMine frame = true → used + 1522 ≤ 8192 → Gives (exec (.netRxFrame frame ok) s) (fun t =>
        t.net.rx = s.net.rx ++ [(if ok then Code.OK else Code.NET_FCS, frame)] ∧ bitAt (t.fld NET_IRQ_IRQ) 0 = true ∧
        t.fld NET_CNT_FCS = (if ok then s.fld NET_CNT_FCS else min (s.fld NET_CNT_FCS + 1) 65535) ∧
        t.fld NET_CNT_OVF = s.fld NET_CNT_OVF ∧ OnlyBlocks s t [baseNET, baseLOG])) ∧
      (s.netMine frame = true → 8192 < used + 1522 → Gives (exec (.netRxFrame frame ok) s) (fun t => t.net.rx = s.net.rx ∧
        t.fld NET_CNT_OVF = min (s.fld NET_CNT_OVF + 1) 65535 ∧ bitAt (t.fld NET_IRQ_IRQ) 1 = true ∧
        OnlyBlocks s t [baseNET, baseLOG]))) ∧
    (s.net.rx = [] → exec .netRxqRead s = .next { s with rdata := 0 }) ∧
    (∀ st f l, s.net.rx = (st, f) :: l → Gives (exec .netRxqRead s) (fun t => t.net.rx = l ∧ OnlyRegs s t [] ∧
      t.rdata = BitVec.ofNat 32 (2 ^ 31 + st * 65536 + f.length) ∧
      t.net.rxOut = s.net.rxOut ++ f ++ List.replicate ((4 - f.length % 4) % 4) 0)) ∧
    (∀ v : Word,
      let n := v.toNat % 2048
      (n = 0 ∨ 1518 < n → exec (.netTxlenWrite v) s = .next (s.discard baseNET)) ∧
      (1 ≤ n → n ≤ 1518 → Gives (exec (.netTxlenWrite v) s) (fun t => t.net = { s.net with txLens := s.net.txLens ++ [n] } ∧
        OnlyRegs s t []))) ∧
    (∀ n l, s.net.txLens = n :: l → s.flag NET_CTRL_EN = true → s.clocked = true → (n + 3) / 4 * 4 ≤ s.net.tx.length →
      let b := s.net.tx.take n ++ List.replicate (60 - n) 0
      Gives (exec .netTxFrame s) (fun t => t.net.txLens = l ∧ t.net.tx = s.net.tx.drop ((n + 3) / 4 * 4) ∧
        t.net.sent = b ++ fcs8023 b ∧ bitAt (t.fld NET_IRQ_IRQ) 2 = true ∧ OnlyRegs s t [NET_IRQ])) ∧
    Gives (exec .netCntclr s) (fun t => t.rd NET_CNT = 0 ∧ t.net = s.net ∧ OnlyRegs s t [NET_CNT]) ∧
    (∀ v : Word,
      let op := bitsOf v.toNat 27 26
      (s.flag NET_MDIO_BUSY = true ∨ op = 0 ∨ op = 3 → exec (.mdioAccess v) s = .next (s.discard baseNET)) ∧
      (s.flag NET_MDIO_BUSY = false → op = 1 ∨ op = 2 → Gives (exec (.mdioAccess v) s) (fun t =>
        t.net = { s.net with mdio := some (op == 2, s.clk.now + us 25 + 120) } ∧ t.flag NET_MDIO_BUSY = true ∧
        t.fld NET_MDIO_DATA = v.toNat % 65536 ∧ OnlyRegs s t [NET_MDIO]))) ∧
    (∀ (rd : Bool) (at_ data : Nat), s.net.mdio = some (rd, at_) → data < 65536 → Gives (exec (.mdioDone data) s) (fun t =>
      at_ ≤ t.clk.now ∧ t.net.mdio = none ∧ t.flag NET_MDIO_BUSY = false ∧
      t.fld NET_MDIO_DATA = (if rd then data else s.fld NET_MDIO_DATA) ∧ OnlyBlocks s t [baseNET, baseTMR])) ∧
    (∀ u, u < 2 →
      let x := s.uart u
      (s.uartOn u = true →
        (∀ (o : Nat) (pe fe : Bool), o < 256 →
          let p := pe && s.fld (UART_CFGn_PARITY u) != 0
          (x.rx.length < 64 → Gives (exec (.uartRxOctet u o pe fe) s) (fun t =>
            t.uart u = { x with rx := x.rx ++ [o + (if p then 256 else 0) + (if fe then 512 else 0)] } ∧
            t.fld (UART_STATn_RXLVL u) = x.rx.length + 1 ∧ bitAt (t.fld UART_IRQ_IRQ) (4 * u) = true ∧
            (p = true ∨ fe = true → bitAt (t.fld UART_IRQ_IRQ) (4 * u + 3) = true) ∧
            OnlyRegs s t [UART_STATn u, UART_IRQ])) ∧
          (64 ≤ x.rx.length → Gives (exec (.uartRxOctet u o pe fe) s) (fun t => t.uart u = x ∧
            t.fld (UART_STATn_OVR u) = min (s.fld (UART_STATn_OVR u) + 1) 255 ∧
            bitAt (t.fld UART_IRQ_IRQ) (4 * u + 2) = true ∧ OnlyRegs s t [UART_STATn u, UART_IRQ]))) ∧
        (∀ o l, x.tx = o :: l → x.tx.length ≤ 64 →
          (∀ cts : Bool, cts = true ∨ s.flag (UART_CFGn_FLOW u) = false → Gives (exec (.uartTxOctet u cts) s) (fun t =>
            t.uart u = { x with tx := l } ∧ t.fld (UART_STATn_TXLVL u) = l.length ∧ t.flag (UART_STATn_CTS u) = cts ∧
            t.clk.now = s.clk.now + s.uartCycles u ∧ t.flag (UART_STATn_TXBUSY u) = !l.isEmpty ∧
            (l = [] → bitAt (t.fld UART_IRQ_IRQ) (4 * u + 1) = true) ∧ OnlyBlocks s t [baseUART, baseTMR])) ∧
          (s.flag (UART_CFGn_FLOW u) = true → Gives (exec (.uartTxOctet u false) s) (fun t => t.uart u = x ∧
            t.flag (UART_STATn_CTS u) = false ∧ OnlyRegs s t [UART_STATn u])))) ∧
      (x.rx = [] → exec (.uartDataRead u) s = .next { s with rdata := 0 }) ∧
      (∀ w l, x.rx = w :: l → x.rx.length ≤ 64 → Gives (exec (.uartDataRead u) s) (fun t =>
        t.rdata = BitVec.ofNat 32 (2 ^ 31 + w) ∧ t.uart u = { x with rx := l } ∧ t.fld (UART_STATn_RXLVL u) = l.length ∧
        OnlyRegs s t [UART_STATn u])) ∧
      (∀ v : Word, (64 ≤ x.tx.length → exec (.uartDataWrite u v) s = .next (s.discard baseUART)) ∧
        (x.tx.length < 64 → Gives (exec (.uartDataWrite u v) s) (fun t => t.uart u = { x with tx := x.tx ++ [v.toNat % 256] } ∧
          t.fld (UART_STATn_TXLVL u) = x.tx.length + 1 ∧ OnlyRegs s t [UART_STATn u])))) ∧
    (∀ v : Word,
      let follow := fun t : State => OnlyRegs s t [GPIO_OUT, GPIO_TOUT, ICU_ALSTAT, ICU_ALOVR] ∧
        ∀ n, n < 20 → (t.gpioDrives n = none → bitAt t.icu.pins n = bitAt s.icu.pins n) ∧
          (s.clocked = true → ∀ b, t.gpioDrives n = some b → bitAt t.icu.pins n = b)
      let free := fun u : Nat => tblFind s.tmr.outAt u ≠ some s.clk.now
      Gives (exec (.gpioSet v) s) (fun t => follow t ∧ ∀ n, n < 20 →
        bitAt (t.fld GPIO_OUT_OUT) n = (bitAt (s.fld GPIO_OUT_OUT) n || bitAt v.toNat n)) ∧
      Gives (exec (.gpioClr v) s) (fun t => follow t ∧ ∀ n, n < 20 →
        bitAt (t.fld GPIO_OUT_OUT) n = (bitAt (s.fld GPIO_OUT_OUT) n && !(bitAt v.toNat n))) ∧
      Gives (exec (.gpioToutset v) s) (fun t => follow t ∧ ∀ u, u < 32 →
        (free u → bitAt (t.fld GPIO_TOUT_TOUT) u = (bitAt (s.fld GPIO_TOUT_TOUT) u || bitAt v.toNat u)) ∧
        (¬free u → bitAt (t.fld GPIO_TOUT_TOUT) u = bitAt (s.fld GPIO_TOUT_TOUT) u)) ∧
      Gives (exec (.gpioToutclr v) s) (fun t => follow t ∧ ∀ u, u < 32 →
        (free u → bitAt (t.fld GPIO_TOUT_TOUT) u = (bitAt (s.fld GPIO_TOUT_TOUT) u && !(bitAt v.toNat u))) ∧
        (¬free u → bitAt (t.fld GPIO_TOUT_TOUT) u = bitAt (s.fld GPIO_TOUT_TOUT) u)))

/-- R550–R553, R557, R558: the control bits of MIRROR, KICK and heartbeats, and the moves of the pair role. Where the spec leaves
room it follows the model's choices in log entries 132, 133, 138, 139. -/
def Obligations.MirrorRoles : Prop :=
  ∀ s : State,
    let peer := ((s.mirror.peer.map (·.serial)).getD 0) % 2 ^ 32
    (s.flag MIRROR_CTRL_EN = true → exec .mirrorEnable s = .next s) ∧
    (s.flag MIRROR_CTRL_EN = false → exec .mirrorDisable s = .next s ∧ exec .heartbeatSend s = .next s ∧
      Gives (exec .mirrorEnable s) (fun t => t.flag MIRROR_CTRL_EN = true ∧ t.fld MIRROR_STAT_ROLE = 1 ∧
        t.fld MIRROR_STAT_LINK = 1 ∧ PairLines s t false ∧ t.mirror.unacked = [] ∧ t.mirror.peer = none ∧
        t.mirror.rxFree = [8, 9, 10, 11, 12, 13, 14, 15] ∧ us 1000 * s.fld MIRROR_CFG_SOLO ≤ t.mirror.solo ∧
        t.mirror.solo ≤ us 1000 * (s.fld MIRROR_CFG_SOLO + 15) ∧
        OnlyRegs s t [MIRROR_CTRL, MIRROR_STAT, ICU_ALSTAT, ICU_ALOVR])) ∧
    (s.flag MIRROR_CTRL_EN = true → Gives (exec .mirrorDisable s) (fun t => t.flag MIRROR_CTRL_EN = false ∧
      t.rd MIRROR_STAT = 0 ∧ PairLines s t false ∧ t.mirror.unacked = [] ∧ t.mirror.wire = none ∧
      t.flag PAGER_STAT_STANDBY = false ∧ t.fld MIRROR_FWPOST_BUSY = 0 ∧
      (s.fld MIRROR_STAT_ROLE = 3 → ∀ p, CutsPath s t p) ∧
      (s.fld MIRROR_STAT_ROLE ≠ 3 → OnlyRegs s t [MIRROR_CTRL, MIRROR_STAT, MIRROR_FWPOST, PAGER_STAT, ICU_ALSTAT, ICU_ALOVR]) ∧
      (NoneOnAir s → OnlyBlocks s t (basePAGER :: leaveBlocks)))) ∧
    Gives (exec .mirrorCntclr s) (fun t => t.rd MIRROR_CNT = 0 ∧ t.mirror = s.mirror ∧ OnlyRegs s t [MIRROR_CNT]) ∧
    Gives (exec .kick s) (fun t => t.mirror = { s.mirror with kickAt := some s.clk.now } ∧ OnlyRegs s t []) ∧
    (s.pairActive = false → exec .kickLapse s = .next s ∧ exec .release s = .next s) ∧
    (s.pairActive = true →
      (let x := s.advanceTo (max (s.mirror.kickAt.getD 0) s.mirror.roleAt + us 1000 * s.fld MIRROR_CFG_KICKTO)
       Gives (exec .kickLapse s) (fun t => LeavesActive x t 1 ∧ (NoneOnAir x → OnlyBlocks x t leaveBlocks))) ∧
      (∀ p, s.mirror.peer = some p → p.role = 2 → p.feedLost = false → Gives (exec .release s) (fun t => LeavesActive s t 1 ∧
        (NoneOnAir s → OnlyBlocks s t (baseLOG :: leaveBlocks) ∧ Logged s t 19 Code.PAIR_HANDOVER 0 peer))) ∧
      ((∀ p, s.mirror.peer = some p → p.role ≠ 2 ∨ p.feedLost = true) → exec .release s = .next s)) ∧
    (s.flag MIRROR_CTRL_EN = true →
      let x := s.advanceTo s.mirror.beatAt
      let flags := (if x.flag PAGER_STAT_FEEDLOST then 1 else 0) + (if x.flag PAGER_STAT_READY then 2 else 0)
      let b := leBytes 1 (x.fld MIRROR_STAT_ROLE) ++ leBytes 1 flags ++ zeros 2 ++ leBytes 8 x.serial ++ x.ownSet.1 ++
        leBytes 4 x.ownSet.2 ++ leBytes 8 x.nettime ++ leBytes 4 (if x.pairActive then x.pager.feedSeq else x.pager.feedExp)
      Gives (exec .heartbeatSend s) (fun t => t.mirror.beatAt = x.clk.now + us 1000 ∧ OnlyRegs x t [] ∧
        t.mirror.wire = (if x.linkUp = true ∧ (x.pairActive = true → x.clk.now <
            max (x.mirror.kickAt.getD 0) x.mirror.roleAt + us 1000 * x.fld MIRROR_CFG_KICKTO)
          then some ⟨1, 0, .raw b, none⟩ else s.mirror.wire))) ∧
    (∀ (ok : Bool) (role flags serial setver nettime feed : Nat) (setid : List Byte),
      (s.flag MIRROR_CTRL_EN = false ∨ s.linkUp = false →
        exec (.heartbeat ok role flags serial setid setver nettime feed) s = .next s) ∧
      (s.flag MIRROR_CTRL_EN = true → s.linkUp = true →
        (Gives (exec (.heartbeat false role flags serial setid setver nettime feed) s) (fun t => t.mirror = s.mirror ∧
          t.fld MIRROR_CNT_CRCERR = min (s.fld MIRROR_CNT_CRCERR + 1) 255 ∧ OnlyRegs s t [MIRROR_CNT])) ∧
        (role < 4 →
          let own := s.ownSet
          let prior := setver < own.2 ∨ (own.2 = setver ∧ s.serial < serial)
          let me := s.fld MIRROR_STAT_ROLE
          Gives (exec (.heartbeat true role flags serial setid setver nettime feed) s) (fun t =>
            t.mirror.peer = some ⟨role, bitAt flags 0, bitAt flags 1, serial, setid, setver, feed⟩ ∧
            t.mirror.heardAt = some s.clk.now ∧ t.mirror.missed = 0 ∧ t.fld MIRROR_STAT_MISS = 0 ∧
            t.flag MIRROR_STAT_PEERACT = (role == 3) ∧
            t.rd MIRROR_TOFS = BitVec.ofInt 32 (max (-2 ^ 31) (min (2 ^ 31 - 1) ((nettime : Int) + 40 - s.nettime))) ∧
            (me = 1 → OnlyBlocks s t [baseMIRROR, baseICU, basePAGER, baseLOG] ∧
              (role = 1 → prior → BecomesActive s t) ∧ (¬(role = 1 ∧ prior) → t.fld MIRROR_STAT_ROLE = 1) ∧
              (s.mirror.peer = none → own.1 ≠ setid → own.2 < setver → Logged s t 1 Code.PAIR_MISMATCH 0 0)) ∧
            (me = 3 → role = 3 → ¬prior → LeavesActive s t 1 ∧ t.flag MIRROR_IRQ_DUAL = true ∧
              (NoneOnAir s → OnlyBlocks s t (baseLOG :: leaveBlocks) ∧ Logged s t 19 Code.PAIR_DUAL 0 (serial % 2 ^ 32))) ∧
            (¬(me = 1) → ¬(me = 3 ∧ role = 3 ∧ ¬prior) → t.fld MIRROR_STAT_ROLE = me ∧ OnlyBlocks s t [baseMIRROR]) ∧
            (me = 3 → role = 2 → bitAt flags 0 = true → s.mirror.copy = false → ∃ l, t.mirror.unacked = s.mirror.unacked ++ l ∧
              (∀ k ∈ l, k.typ = 4) ∧ t.mirror.copy = true ∧
              ∃ a b, (l.map (·.body)).head? = some (.header a b s.pager.feedSeq) ∧
                (s.pager.header.map (fun h => (h.hseed, h.epoch))).getD ((s.rd MAC_HSEED).toNat, (s.rd PAGER_EPOCH).toNat) = (a, b) ∧
                l.length = 1 + max 1 s.pager.pages.length) ∧
            (me = 3 → ¬(role = 3 ∧ ¬prior) → ¬(role = 2 ∧ bitAt flags 0 = true) → t.mirror.copy = false ∧
              t.mirror.unacked = s.mirror.unacked))))) ∧
    ((s.mirror.heardAt = none ∨ s.flag MIRROR_CTRL_EN = false → exec .heartbeatMiss s = .next s) ∧
      (∀ t0, s.mirror.heardAt = some t0 → s.flag MIRROR_CTRL_EN = true →
        let n := s.mirror.missed + 1
        let x := s.advanceTo (t0 + us (1000 * n + 50))
        Gives (exec .heartbeatMiss s) (fun t => t.mirror.missed = n ∧ t.fld MIRROR_STAT_MISS = min n 3 ∧
          t.flag MIRROR_IRQ_HBMISS = true ∧ t.fld MIRROR_CNT_HBMISS = min (x.fld MIRROR_CNT_HBMISS + 1) 255 ∧
          (n = 3 → x.fld MIRROR_STAT_ROLE = 2 → x.pairSampled = true → TakesOver x t) ∧
          (n = 3 → x.fld MIRROR_STAT_ROLE = 2 → x.pairSampled = false → Logged x t 19 Code.PAIR_LINKLOST 0 peer ∧
            t.fld MIRROR_STAT_ROLE = 2 ∧ OnlyBlocks x t [baseMIRROR, baseLOG]) ∧
          (¬(n = 3 ∧ x.fld MIRROR_STAT_ROLE = 2) → t.fld MIRROR_STAT_ROLE = x.fld MIRROR_STAT_ROLE ∧
            OnlyRegs x t [MIRROR_STAT, MIRROR_IRQ, MIRROR_CNT])))) ∧
    (s.fld MIRROR_STAT_ROLE = 1 →
      (s.pairHigh = true → exec .pairActTimer s = .next s ∧
        let x := s.advanceTo (max s.mirror.roleAt (s.mirror.heardAt.getD 0) + s.mirror.solo)
        Gives (exec .soloTimeout s) (fun t => BecomesActive x t ∧ OnlyBlocks x t [baseMIRROR, baseICU, basePAGER])) ∧
      (s.pairHigh = false → exec .soloTimeout s = .next s ∧
        let x := s.advanceTo (max s.mirror.actAt s.mirror.roleAt + us 1000)
        Gives (exec .pairActTimer s) (fun t => t.fld MIRROR_STAT_ROLE = 2 ∧ t.flag PAGER_STAT_STANDBY = true ∧
          t.flag MIRROR_IRQ_STANDBY = true ∧ t.mirror.drives = s.mirror.drives ∧
          (s.pager.store = [] → t.flag PAGER_STAT_FEEDLOST = true ∧ t.mirror.copy = true) ∧
          (s.pager.store ≠ [] → t.flag PAGER_STAT_FEEDLOST = x.flag PAGER_STAT_FEEDLOST) ∧
          OnlyRegs x t [MIRROR_STAT, MIRROR_IRQ, PAGER_STAT]))) ∧
    (s.fld MIRROR_STAT_ROLE ≠ 1 → exec .soloTimeout s = .next s) ∧
    (s.fld MIRROR_STAT_ROLE = 2 →
      (s.pairHigh = false → exec .pairActTimer s = .next s ∧ exec .takeover s = .next s) ∧
      (s.pairHigh = true → Gives (exec .pairActTimer s) (fun t => TakesOver (s.advanceTo (s.mirror.actAt + us 1000)) t) ∧
        (s.mirror.actAt + us 1000 ≤ s.clk.now ∨ (3 ≤ s.mirror.missed ∧ s.mirror.actAt + us 10 ≤ s.clk.now) → Gives (exec .takeover s) (fun t => TakesOver s t)) ∧
        (s.clk.now < s.mirror.actAt + us 1000 → s.mirror.missed < 3 ∨ s.clk.now < s.mirror.actAt + us 10 → exec .takeover s = .next s))) ∧
    (s.fld MIRROR_STAT_ROLE ≠ 2 → exec .takeover s = .next s)

/-- R547–R549, R554–R556, R563, R254, R255: the link, its acknowledgements, and what each sequenced packet brings. Where the spec leaves
room it follows the model's choices in log entries 134, 135, 136, 137, 140. -/
def Obligations.MirrorPackets : Prop :=
  ∀ s : State,
    (s.flag MIRROR_CTRL_EN = true → s.fld MIRROR_STAT_LINK = 1 → Gives (exec .linkUp s) (fun t =>
      t.fld MIRROR_STAT_LINK = 2 ∧ t.flag MIRROR_IRQ_LINKUP = true ∧ t.mirror.txSeq = 0 ∧ t.mirror.rxSeq = 0 ∧
      t.mirror.unacked = [] ∧ t.mirror.session.length = 8 ∧ OnlyRegs s t [MIRROR_STAT, MIRROR_IRQ])) ∧
    (s.flag MIRROR_CTRL_EN = false ∨ s.fld MIRROR_STAT_LINK ≠ 1 → exec .linkUp s = .next s) ∧
    (s.linkUp = true → Gives (exec .linkDown s) (fun t => t.fld MIRROR_STAT_LINK = 1 ∧ t.flag MIRROR_IRQ_LINKDOWN = true ∧
      t.mirror = { s.mirror with unacked := [], wire := none } ∧ t.fld MIRROR_FWPOST_BUSY = 0 ∧
      OnlyRegs s t [MIRROR_STAT, MIRROR_IRQ, MIRROR_FWPOST])) ∧
    (s.linkUp = false → exec .linkDown s = .next s ∧ exec .retransmitTimeout s = .next s ∧
      ∀ seq ok, exec (.mirrorAck seq ok) s = .next s) ∧
    (∀ seq, s.linkUp = true →
      Gives (exec (.mirrorAck seq false) s) (fun t => t.mirror = s.mirror ∧
        t.fld MIRROR_CNT_CRCERR = min (s.fld MIRROR_CNT_CRCERR + 1) 255 ∧ OnlyRegs s t [MIRROR_CNT]) ∧
      Gives (exec (.mirrorAck seq true) s) (fun t => OnlyRegs s t [MIRROR_FWPOST, MIRROR_IRQ] ∧
        t.mirror.unacked = s.mirror.unacked.filter (fun k => !(reached 32 seq k.seq)) ∧
        (∀ k ∈ s.mirror.unacked, reached 32 seq k.seq = true → k.buf.isSome = true → t.flag MIRROR_IRQ_FWTX = true) ∧
        ((∀ k ∈ s.mirror.unacked, ∀ b, k.buf = some b → b < 8) → ∀ b, b < 8 → bitAt (t.fld MIRROR_FWPOST_BUSY) b =
          (bitAt (s.fld MIRROR_FWPOST_BUSY) b && !(s.mirror.unacked.any (fun k => reached 32 seq k.seq && k.buf == some b)))))) ∧
    (s.mirror.unacked = [] → exec .retransmitTimeout s = .next s) ∧
    (∀ k l, s.mirror.unacked = k :: l → s.linkUp = true →
      let x := s.advanceTo (s.mirror.oldestAt + us 100)
      Gives (exec .retransmitTimeout s) (fun t => t.mirror.wire = some k ∧ t.mirror.unacked = s.mirror.unacked ∧
        t.fld MIRROR_CNT_RETX = min (x.fld MIRROR_CNT_RETX + 1) 255 ∧ OnlyRegs x t [MIRROR_CNT])) ∧
    (∀ (i : Instr) (seq : Nat),
      (∀ ok, MirPacket i seq ok → s.linkUp = false → exec i s = .next s) ∧
      (MirPacket i seq false → s.linkUp = true → Gives (exec i s) (fun t => t.mirror = s.mirror ∧
        t.fld MIRROR_CNT_CRCERR = min (s.fld MIRROR_CNT_CRCERR + 1) 255 ∧ OnlyRegs s t [MIRROR_CNT])) ∧
      (MirPacket i seq true → s.linkUp = true → seq ≠ seqAfter s.mirror.rxSeq → Gives (exec i s) (fun t =>
        Acks t s.mirror.rxSeq ∧ t.mirror.rxSeq = s.mirror.rxSeq ∧ OnlyRegs s t []))) ∧
    (s.linkUp = true →
      let seq := seqAfter s.mirror.rxSeq
      (s.pairStandby = false → ∀ gone items, Gives (exec (.feed seq true gone items) s) (fun t => Takes t seq ∧
        t.pager = s.pager ∧ OnlyRegs s t [])) ∧
      (s.pairStandby = true → ∀ (e : Nat) (it : FeedItem), e < 2 ^ 32 →
        Gives (exec (.feed seq true false [(e, it)]) s) (fun t => Takes t seq ∧
          (e = s.pager.feedExp → t.pager.feedExp = (e + 1) % 2 ^ 32 ∧ t.flag PAGER_STAT_FEEDGAP = false ∧
            (∀ r, it = .state r ∨ it = .reserve r → OnlyBlocks s t [basePAGER] ∧
              (s.hot r.ctx = none → ∀ c, s.outside r.ctx = some c → tblFind t.pager.cold r.ctx = some (c.apply r)) ∧
              (∀ h, s.hot r.ctx = some h → HotIs t r.ctx (fun y => y.ctx = h.ctx.apply r ∧ y.dirty = true))) ∧
            (∀ i c key, it = .context i c false → c.ctxid = i → i ∉ s.pager.zeroed → s.storeKey = some key →
              tblFind t.pager.store i = some ⟨c, key⟩) ∧
            (∀ i c, it = .context i c true → (s.durable i).isSome = true → tblFind t.pager.store i = none) ∧
            (∀ n, it = .commit n → t.mirror.feedBase = (e + 1) % 2 ^ 32 ∧ OnlyRegs s t [PAGER_STAT])) ∧
          (e ≠ s.pager.feedExp → reached 32 s.pager.feedExp e = true → t.pager = s.pager ∧ OnlyRegs s t []) ∧
          (e ≠ s.pager.feedExp → reached 32 s.pager.feedExp e = false → t.pager = s.pager ∧ t.flag PAGER_STAT_FEEDGAP = true ∧
            (s.flag PAGER_STAT_FEEDGAP = false → SendsPkt s t 3 (.feedReq s.mirror.feedBase) none) ∧
            (s.flag PAGER_STAT_FEEDGAP = true → t.mirror.unacked = s.mirror.unacked) ∧ OnlyRegs s t [PAGER_STAT])) ∧
        Gives (exec (.feed seq true true [(e, it)]) s) (fun t => Takes t seq ∧ t.flag PAGER_IRQ_FEEDGAP = true ∧
          t.flag PAGER_STAT_FEEDLOST = true ∧ t.mirror.copy = true ∧ t.pager.feedExp = (e + 1) % 2 ^ 32)) ∧
      (∀ first, Gives (exec (.feedreq seq true first) s) (fun t => Takes t seq ∧ OnlyRegs s t [] ∧
        (s.pairActive = false → t.mirror.unacked = s.mirror.unacked) ∧
        (s.pairActive = true →
          let l := s.pager.feedHist.filter (fun e => reached 32 e.1 first)
          SendsPkt s t 2 (.feed (!(first == s.pager.feedSeq || l.any (fun e => e.1 == first))) l) none))) ∧
      (∀ head ctxs last, s.pairStandby = false ∨ s.mirror.copy = false →
        Gives (exec (.storecopy seq true head ctxs last) s) (fun t => Takes t seq ∧ t.pager = s.pager ∧ OnlyRegs s t [])) ∧
      (s.pairStandby = true → s.mirror.copy = true →
        (∀ a b, a < 2 ^ 32 → b < 2 ^ 32 → Gives (exec (.storecopy seq true (some (a, b)) [] false) s) (fun t => Takes t seq ∧
          t.rd MAC_HSEED = BitVec.ofNat 32 a ∧ t.rd PAGER_EPOCH = BitVec.ofNat 32 b ∧
          t.pager.header = some ⟨a, b, Config.storeFormat, s.nextSeq⟩ ∧
          t.pager = { s.pager with headers := s.pager.header.toList ++ [⟨a, b, Config.storeFormat, s.nextSeq⟩],
                                   storeSeq := s.nextSeq } ∧ OnlyRegs s t [MAC_HSEED, PAGER_EPOCH])) ∧
        (∀ i c, Gives (exec (.storecopy seq true none [(i, c)] false) s) (fun t => Takes t seq ∧ t.mirror.copy = true ∧
          (i ∉ s.mirror.copyNew → c.ctxid = i → i ∉ s.pager.zeroed → ∀ key, s.storeKey = some key →
            tblFind t.pager.store i = some ⟨c, key⟩) ∧
          (i ∈ s.mirror.copyNew → t.pager = s.pager ∧ OnlyRegs s t []))) ∧
        Gives (exec (.storecopy seq true none [] true) s) (fun t => Takes t seq ∧ t.mirror.copy = false ∧
          t.flag PAGER_STAT_FEEDLOST = false ∧ t.pager = s.pager ∧ OnlyRegs s t [PAGER_STAT])) ∧
      (∀ setid l die, setid.length = 8 → s.upd.lock = some l → l.setid = setid →
        (l.own = false ∨ l.peerReady = true ∨ s.sqt + 100000 ≤ l.t) → Gives (exec (.update seq true (leBytes 1 2 ++ setid) die) s) (fun t => Takes t seq ∧
          t.upd = { s.upd with lock := some { l with peerReady := true } } ∧ OnlyRegs s t [])) ∧
      (∀ typ (body : List Byte), 0x80 ≤ typ → typ ≤ 0xff → body.length ≤ 4095 →
        (s.mirror.rxFree = [] → exec (.firmwarePacket seq true typ body) s = .next s) ∧
        (∀ b l, s.mirror.rxFree = b :: l →
          let a := s.fld MIRROR_FWBUF_BASE * 65536 + 4096 * b
          Gives (exec (.firmwarePacket seq true typ body) s) (fun t => Takes t seq ∧ t.mirror.rxFree = l ∧
            t.mirror.rxq = s.mirror.rxq ++ [(b, body.length + 1)] ∧ t.flag MIRROR_IRQ_FWRX = true ∧
            t.memRd a = BitVec.ofNat 8 typ ∧ (∀ i, i < body.length → t.memRd (a + 1 + i) = body.getD i 0) ∧
            MemBut s t a (body.length + 1) ∧ OtherRegs s t [MIRROR_IRQ] ∧ SameCores s t))) ∧
      (∀ nt (desc psdu : List Byte), desc.length = 32 → psdu.length ≤ 352 →
        Gives (exec (.divPacket seq true nt desc psdu) s) (fun t => Takes t seq ∧
          (s.pairActive = false → t.facet = s.facet ∧ t.mac = s.mac ∧ OnlyRegs s t []) ∧
          (s.pairActive = true → s.facet.free = [] → t.mac = s.mac ∧
            t.fld MIRROR_CNT_DIVDROP = min (s.fld MIRROR_CNT_DIVDROP + 1) 255 ∧ OnlyRegs s t [MIRROR_CNT]) ∧
          (∀ n l, s.pairActive = true → s.facet.free = n :: l → t.facet.free = l ∧
            (∃ m, tblFind t.mac.frames n = some m ∧ m.phase = .landed ∧ m.status = Code.OK ∧ m.len = psdu.length ∧ m.copy = true) ∧
            t.memLe (slotAddr n + 2) 2 = psdu.length ∧ t.memLe (slotAddr n + 8) 6 = s.trunkOfNt nt % 2 ^ 48 ∧
            (∀ i, i < psdu.length → t.memRd (slotAddr n + 32 + i) = psdu.getD i 0) ∧
            MemBut s t (slotAddr n) (32 + psdu.length) ∧ BlocksOnly s t [baseFACET])))) ∧
    (∀ v : Word,
      let b := bitsOf v.toNat 2 0
      let len := bitsOf v.toNat 20 8
      let a := s.fld MIRROR_FWBUF_BASE * 65536 + 4096 * b
      let typ := (s.memRd a).toNat
      let bad := bitAt (s.fld MIRROR_FWPOST_BUSY) b = true ∨ len = 0 ∨ 4096 < len ∨ ¬(typ = 5 ∨ 0x80 ≤ typ)
      (bad → exec (.fwpost v) s = .next (s.discard baseMIRROR)) ∧
      (¬bad → s.linkUp = false → exec (.fwpost v) s = .next s) ∧
      (¬bad → s.linkUp = true → Gives (exec (.fwpost v) s) (fun t => bitAt (t.fld MIRROR_FWPOST_BUSY) b = true ∧
        (∀ c, c < 8 → c ≠ b → bitAt (t.fld MIRROR_FWPOST_BUSY) c = bitAt (s.fld MIRROR_FWPOST_BUSY) c) ∧
        SendsPkt s t typ (.raw (s.memBytes (a + 1) (len - 1))) (some b) ∧ OnlyRegs s t [MIRROR_FWPOST]))) ∧
    (s.mirror.rxq = [] → exec .fwrxqRead s = .next { s with rdata := 0 }) ∧
    (∀ b n l, s.mirror.rxq = (b, n) :: l → Gives (exec .fwrxqRead s) (fun t => OnlyRegs s t [] ∧
      t.rdata = BitVec.ofNat 32 (2 ^ 31 + n * 65536 + b) ∧
      t.mirror = { s.mirror with rxq := l, rxFw := s.mirror.rxFw ++ [b] })) ∧
    (∀ v : Word,
      let b := bitsOf v.toNat 3 0
      (b ∉ s.mirror.rxFw → exec (.fwrxqReturn v) s = .next (s.discard baseMIRROR)) ∧
      (b ∈ s.mirror.rxFw → Gives (exec (.fwrxqReturn v) s) (fun t => OnlyRegs s t [] ∧
        t.mirror = { s.mirror with rxFw := s.mirror.rxFw.erase b, rxFree := s.mirror.rxFree ++ [b] })))

/-! ### Host ports (chapter 18) -/

/-- R525–R532: the Gen-2 transactions on slots, results and events, the interrupt line, and firmware's side of them. Where the spec leaves
room it follows the model's choice in log entry 128. -/
def Obligations.HostQueue : Prop :=
  ∀ s : State,
    (s.hifOn 1 = true →
      Gives (exec .stat s) (fun t => OnlyRegs s t [] ∧ t.hif = { s.hif with resp := t.hif.resp } ∧
        t.hif.resp = [2, 8 - s.hif.slots.length, (s.hif.slots.filter (fun e => e.2.done)).length,
          (s.hif.slots.filter (fun e => e.2.done && !e.2.read)).length, s.hif.events.length, 0, s.fld HIF_CNT_FRMERR,
          s.fld HIF_CNT_DROPPED].flatMap (leBytes 1)) ∧
      (∀ frame : List Byte,
        let tag := octLe frame 0 1
        let op := octLe frame 1 1
        let bad := tag = 0 ∨ 4088 < octLe frame 2 2 ∨ frame.length ≠ 8 + octLe frame 2 2 ∨ crcHolds frame = false
        (bad → Gives (exec (.cmd frame) s) (fun t => t.fld HIF_CNT_FRMERR = min (s.fld HIF_CNT_FRMERR + 1) 255 ∧
          t.hif = s.hif ∧ OnlyRegs s t [HIF_CNT])) ∧
        (¬bad → (∀ j, j < 8 → (s.hifSlot j).isSome = true) → Gives (exec (.cmd frame) s) (fun t =>
          t.fld HIF_CNT_DROPPED = min (s.fld HIF_CNT_DROPPED + 1) 255 ∧ t.hif = s.hif ∧ OnlyRegs s t [HIF_CNT])) ∧
        (∀ j, ¬bad → j < 8 → s.hifSlot j = none → (∀ k, k < j → (s.hifSlot k).isSome = true) →
          let x : HifSlot := { tag := tag, op := op, len := octLe frame 2 2 }
          let dup := ∃ e ∈ s.hif.slots, e.2.tag = tag
          let rsvd := s.opRsvd op = true
          (dup ∨ rsvd → Gives (exec (.cmd frame) s) (fun t => OnlyRegs s t [HIF_STAT] ∧ t.hif.cmdq = s.hif.cmdq ∧
            (dup → t.hifSlot j = some { x with hw := some Code.HIF_TAGDUP, done := true }) ∧
            (¬dup → t.hifSlot j = some { x with hw := some Code.HIF_BADOP, done := true }))) ∧
          (¬dup → ¬rsvd → Gives (exec (.cmd frame) s) (fun t => t.hifSlot j = some x ∧ t.hif.cmdq = s.hif.cmdq ++ [j] ∧
            t.flag HIF_IRQ_CMD = true ∧ OtherRegs s t [HIF_STAT, HIF_IRQ] ∧ SameCores s t ∧
            (∀ i, i < frame.length - 4 → t.memRd (s.hifSlotAt j + i) = frame.getD i 0) ∧
            MemBut s t (s.hifSlotAt j) (frame.length - 4))))) ∧
      (∀ tag l1 j x l2, s.hif.slots = l1 ++ (j, x) :: l2 → (∀ e ∈ l1, ¬(e.2.tag = tag ∧ e.2.done = true) ∧ e.1 ≠ j) →
        x.tag = tag → x.done = true →
        let b := s.memBytes (s.hifSlotAt j) (8 + min 4088 (s.memLe (s.hifSlotAt j + 4) 2))
        let flags := if x.read then 1 else 0
        Gives (exec (.res tag) s) (fun t => t.hifSlot j = some { x with read := true } ∧ OnlyRegs s t [HIF_STAT] ∧
          (∀ st, x.hw = some st → t.hif.resp = withCrc (leBytes 1 tag ++ leBytes 1 st ++ leBytes 1 flags ++ leBytes 5 0)) ∧
          (x.hw = none → t.hif.resp = withCrc (b.take 2 ++ leBytes 1 flags ++ b.drop 3))) ∧
        Gives (exec (.ack tag) s) (fun t => t.hifSlot j = none ∧ (∀ k, k ≠ j → t.hifSlot k = s.hifSlot k) ∧
          t.flag HIF_IRQ_ACK = true ∧ OnlyRegs s t [HIF_STAT, HIF_IRQ])) ∧
      (∀ tag, (∀ e ∈ s.hif.slots, ¬(e.2.tag = tag ∧ e.2.done = true)) →
        Gives (exec (.res tag) s) (fun t => OnlyRegs s t [] ∧ t.hif.slots = s.hif.slots ∧
          ((∃ e ∈ s.hif.slots, e.2.tag = tag) → t.hif.resp = withCrc (leBytes 1 tag ++ leBytes 1 Code.NOT_READY ++
            leBytes 1 0 ++ leBytes 5 0)) ∧
          ((∀ e ∈ s.hif.slots, e.2.tag ≠ tag) → t.hif.resp = withCrc (leBytes 1 tag ++ leBytes 1 Code.HIF_NOTAG ++
            leBytes 1 0 ++ leBytes 5 0))) ∧
        Gives (exec (.ack tag) s) (fun t => t.fld HIF_CNT_BADACK = min (s.fld HIF_CNT_BADACK + 1) 255 ∧ t.hif = s.hif ∧
          OnlyRegs s t [HIF_CNT])) ∧
      (s.hif.events = [] → Gives (exec .evt s) (fun t => OnlyRegs s t [] ∧ t.hif.events = [] ∧
        t.hif.resp = withCrc (leBytes 2 0 ++ leBytes 1 Code.NOT_READY ++ leBytes 5 0))) ∧
      (∀ e l, s.hif.events = e :: l →
        let b := s.memBytes (s.hifEventAt e.ent) 62
        Gives (exec .evt s) (fun t => OnlyRegs s t [] ∧ t.hif.events = { e with read := true } :: l ∧
          t.hif.resp = withCrc (leBytes 2 e.seq ++ b.take 1 ++
            leBytes 1 ((if e.read then 1 else 0) + (if e.lost then 2 else 0)) ++ (b.drop 2).take (4 + min 56 (octLe b 2 1))))) ∧
      (∀ seq, ((∃ e ∈ s.hif.events, e.seq = seq) → Gives (exec (.evack seq) s) (fun t =>
          t.hif.events = s.hif.events.filter (fun e => !(reached 16 seq e.seq)) ∧ t.flag HIF_IRQ_EVACK = true ∧
          OnlyRegs s t [HIF_STAT, HIF_IRQ])) ∧
        ((∀ e ∈ s.hif.events, e.seq ≠ seq) → Gives (exec (.evack seq) s) (fun t =>
          t.fld HIF_CNT_BADACK = min (s.fld HIF_CNT_BADACK + 1) 255 ∧ t.hif = s.hif ∧ OnlyRegs s t [HIF_CNT]))) ∧
      (∀ op, op < 256 → (∀ x, 1 ≤ x → x ≤ 6 → op ≠ x ∧ op ≠ x + 64) → Gives (exec (.hifReservedOpcode op) s) (fun t =>
        t.fld HIF_CNT_FRMERR = min (s.fld HIF_CNT_FRMERR + 1) 255 ∧ t.hif = s.hif ∧ OnlyRegs s t [HIF_CNT]))) ∧
    (s.fld SYS_COMPAT_GEN = 1 → (s.hifIrqLow = true ↔ (∃ e ∈ s.hif.slots, e.2.done = true ∧ e.2.read = false) ∨ s.hif.events ≠ [])) ∧
    (s.hif.cmdq = [] → exec .hifCmdqRead s = .next { s with rdata := 0 }) ∧
    (∀ j l, s.hif.cmdq = j :: l → exec .hifCmdqRead s =
      .next { s with hif := { s.hif with cmdq := l }, rdata := BitVec.ofNat 32 (2 ^ 31 + j) }) ∧
    (∀ j, j < 8 → (∀ x, s.hifSlot j = some x → x.done = false → Gives (exec (.hifPostResult j) s) (fun t =>
        t.hifSlot j = some { x with done := true } ∧ (∀ k, k ≠ j → t.hifSlot k = s.hifSlot k) ∧ OnlyRegs s t [HIF_STAT])) ∧
      ((∀ x, s.hifSlot j = some x → x.done = true) → exec (.hifPostResult j) s = .next (s.discard baseHIF))) ∧
    (s.hif.events.length < 64 → Gives (exec .hifPostEvent s) (fun t => t.fld HIF_STAT_EVHEAD = (s.fld HIF_STAT_EVHEAD + 1) % 64 ∧
      t.hif.events = s.hif.events ++ [{ seq := s.hif.nextSeq, ent := s.fld HIF_STAT_EVHEAD, lost := s.hif.lost }] ∧
      t.hif.lost = false ∧ t.hif.nextSeq = (s.hif.nextSeq + 1) % 65536 ∧ OnlyRegs s t [HIF_STAT])) ∧
    (64 ≤ s.hif.events.length → Gives (exec .hifPostEvent s) (fun t => t.hif = { s.hif with lost := true } ∧
      t.fld HIF_CNT_EVLOST = min (s.fld HIF_CNT_EVLOST + 1) 255 ∧ OnlyRegs s t [HIF_CNT])) ∧
    Gives (exec .hifCntclr s) (fun t => t.rd HIF_CNT = 0 ∧ t.hif = s.hif ∧ OnlyRegs s t [HIF_CNT])

/-- R494, R533–R536: the update agent's operations and firmware's, the Gen-1 window, and the change of generation. Where the spec leaves
room it follows the model's choices in log entries 119, 129. -/
def Obligations.HostOperations : Prop :=
  ∀ s : State,
    (∀ (j : Nat) (b : List Byte), j < 8 →
      (HifAsks s j 0x10 b →
        let ok := b.length = 8 ∧ 90 ≤ octLe b 0 2 ∧ octLe b 0 2 ≤ 600 ∧ octLe b 2 1 ≤ 1 ∧ octLe b 3 1 = 0 ∧
          octLe b 4 2 ≤ 3600 ∧ 1 ≤ octLe b 6 2
        (¬ok → Gives (exec (.setWrite j) s) (fun t => Answered s t j Code.HIF_BADARG [] ∧ t.upd = s.upd ∧
          OtherRegs s t [HIF_STAT])) ∧
        (ok → Gives (exec (.setWrite j) s) (fun t => Answered s t j Code.OK [] ∧ OtherRegs s t [HIF_STAT] ∧
          t.upd = { s.upd with gens := t.upd.gens } ∧
          tblFind t.upd.gens (if s.onTrial then s.fld UPD_GENNEW_GEN else s.bcr.genold) =
            some { vmin := octLe b 0 2, lock := octLe b 2 1 == 1, hold := octLe b 4 2, trials := octLe b 6 2 }))) ∧
      (HifAsks s j 0x11 b → Gives (exec (.setRead j) s) (fun t => t.upd = s.upd ∧ OtherRegs s t [HIF_STAT] ∧
        Answered s t j Code.OK (leBytes 2 s.settings.vmin ++ leBytes 1 (if s.settings.lock then 1 else 0) ++ leBytes 1 0 ++
          leBytes 2 s.settings.hold ++ leBytes 2 s.settings.trials))) ∧
      (HifAsks s j 0x14 b → (s.upd.stage = none → Gives (exec (.updStatus j) s) (fun t => OtherRegs s t [HIF_STAT] ∧
          Answered s t j Code.OK (zeros 8 ++ leBytes 4 s.upd.inHead.length ++ leBytes 4 0 ++
            leBytes 4 (s.rd UPD_BOOT).toNat))) ∧
        ∀ g, s.upd.stage = some g → Gives (exec (.updStatus j) s) (fun t => OtherRegs s t [HIF_STAT] ∧
          Answered s t j Code.OK (g.setid ++
            leBytes 4 (if s.upd.inHead.isEmpty then g.bytes.length else s.upd.inHead.length) ++ leBytes 4 g.setver ++
            leBytes 4 (s.rd UPD_BOOT).toNat))) ∧
      (HifAsks s j 0x13 b → ∀ die, die < 256 →
        let ready := s.updRefused = false ∧ s.upd.stage.any Stage.complete = true
        (¬ready → Gives (exec (.updActivate j die) s) (fun t => Answered s t j Code.UPD_REFUSED [] ∧ t.upd = s.upd ∧
          OtherRegs s t [HIF_STAT])) ∧
        (ready → nandFails die = true → Gives (exec (.updActivate j die) s) (fun t => Answered s t j die [] ∧ SameBoot s t ∧
          t.upd.stage = s.upd.stage)) ∧
        (ready → nandFails die = false → s.pwr.nrstLow = false → s.pwr.vioLow = false → Gives (exec (.updActivate j die) s) (fun t =>
          (∃ code, code ≠ Code.OK ∧ Answered s t j code [] ∧ SameBoot s t ∧ t.upd.stage = s.upd.stage) ∨ ResetSoft t))) ∧
      (HifAsks s j 0x12 b → s.flag UPD_BOOT_RECOV = false → ∀ die,
        let ofs := octLe b 0 4
        let d := b.drop 4
        (b.length < 5 ∨ 260 < b.length → Gives (exec (.updBlock j die) s) (fun t => Answered s t j Code.HIF_BADARG [] ∧
          t.upd.stage = s.upd.stage ∧ t.upd.inHead = s.upd.inHead ∧ OtherRegs s t [HIF_STAT])) ∧
        (5 ≤ b.length → b.length ≤ 260 →
          (s.upd.last = some (ofs, d) → Gives (exec (.updBlock j die) s) (fun t => Answered s t j Code.OK [] ∧ t.upd = s.upd ∧
            OtherRegs s t [HIF_STAT])) ∧
          (s.upd.last ≠ some (ofs, d) →
            ((s.upd.inHead ≠ [] ∧ ofs ≠ s.upd.inHead.length) ∨
              (s.upd.inHead = [] ∧ ofs ≠ 0 ∧ ∀ g, s.upd.stage = some g → ofs ≠ g.bytes.length) →
              Gives (exec (.updBlock j die) s) (fun t => Answered s t j Code.UPD_OFFSET [] ∧ t.upd.stage = s.upd.stage ∧
                t.upd.inHead = s.upd.inHead ∧ OtherRegs s t [HIF_STAT])) ∧
            (ofs = s.upd.inHead.length → s.upd.inHead.length + d.length < 12 → Gives (exec (.updBlock j die) s) (fun t =>
              Answered s t j Code.OK [] ∧ t.upd.inHead = s.upd.inHead ++ d ∧ t.upd.stage = s.upd.stage ∧
              t.upd.last = some (ofs, d) ∧ OtherRegs s t [HIF_STAT])) ∧
            (∀ g, s.upd.inHead = [] → s.upd.stage = some g → ofs ≠ 0 → ofs = g.bytes.length →
              ofs + d.length ≤ 2048 * (g.nh + g.nlist + g.ndata) → ofs + d.length < 2048 * (g.have_ + 1) →
              Gives (exec (.updBlock j die) s) (fun t => Answered s t j Code.OK [] ∧ OtherRegs s t [HIF_STAT] ∧
                t.upd.stage = some { g with bytes := g.bytes ++ d })) ∧
            (∀ g, s.upd.inHead = [] → s.upd.stage = some g → ofs ≠ 0 → ofs = g.bytes.length →
              g.have_ < g.nh + g.nlist + g.ndata → 2048 * g.have_ ≤ ofs → ofs + d.length = 2048 * (g.have_ + 1) →
              let unit := ((g.bytes ++ d).drop (2048 * g.have_)).take 2048
              let good := blockOk (g.bytes ++ d) g.have_ unit = true
              Gives (exec (.updBlock j die) s) (fun t => Answered s t j (if good then Code.OK else Code.UPD_HASH) [] ∧
                (∀ a, blockBase a ∉ [baseHIF, baseNAND] → t.rd a = s.rd a) ∧
                (good → t.upd.stage = some { g with bytes := g.bytes ++ d, have_ := g.have_ + 1 }) ∧
                (¬good → t.upd.stage = some { g with bytes := (g.bytes ++ d).take (2048 * g.have_) })))))) ∧
      (∀ op status p, 0x80 ≤ op → HifAsks s j op b → 0xe0 ≤ status → exec (.firmwareOp j status p) s = .next s) ∧
      (∀ op status p, 0x80 ≤ op → status < 0xe0 → p.length ≤ 4088 → HifAsks s j op b →
        Gives (exec (.firmwareOp j status p) s) (fun t => Answered s t j status p ∧ t.upd = s.upd ∧ OtherRegs s t [HIF_STAT]))) ∧
    (s.hifOn 0 = true → s.flag UPD_BOOT_RECOV = false →
      (∀ a, a < 64 →
        let word := fun w : Nat => leBytes 1 (w / 256) ++ leBytes 1 w
        let box := fun x : Nat => s.fld (if x % 2 = 0 then HIF_G1WINn_LO (x / 2) else HIF_G1WINn_HI (x / 2))
        let named := [0x00, 0x01, 0x10, 0x11, 0x12, 0x20, 0x21, 0x22, 0x23, 0x24, 0x3e, 0x3f]
        (∀ v, (a = 0 ∧ v = 0x6128) ∨ (a = 1 ∧ v = 0x8512) ∨ (a = 0x10 ∧ v = s.hif.g1rx.headD 0) ∨
          (a = 0x12 ∧ v = min 255 s.hif.g1rx.length * 256 + min 255 (512 - s.hif.g1tx.length)) ∨
          (a = 0x24 ∧ v = ((s.hif.g1done.map (fun st => 0x8000 + st)).getD 0)) ∨ (a = 0x3e ∧ v = s.hif.g1irq) ∨
          (a = 0x3f ∧ v = 1) ∨ (a ∉ named ∧ v = box a) → Gives (exec (.g1Read (0x8000 + a) 1) s) (fun t =>
            t.hif.resp = word v ∧ t.hif.g1rx = (if a = 0x10 then s.hif.g1rx.drop 1 else s.hif.g1rx) ∧ OnlyRegs s t [])) ∧
        (∀ w die, w < 65536 →
          (a = 0x11 → s.hif.g1tx.length < 512 → Gives (exec (.g1Write a [w] die) s) (fun t =>
            t.hif = { s.hif with g1tx := s.hif.g1tx ++ [w] } ∧ OnlyRegs s t [])) ∧
          (a = 0x11 → 512 ≤ s.hif.g1tx.length → Gives (exec (.g1Write a [w] die) s) (fun t => t.hif = s.hif ∧
            t.fld HIF_CNT_DROPPED = min (s.fld HIF_CNT_DROPPED + 1) 255 ∧ OnlyRegs s t [HIF_CNT])) ∧
          (a = 0x22 → Gives (exec (.g1Write a [w] die) s) (fun t => t.hif = { s.hif with g1len := w } ∧ OnlyRegs s t [])) ∧
          (a = 0x3e → Gives (exec (.g1Write a [w] die) s) (fun t => OnlyRegs s t [] ∧ ∀ n, bitAt t.hif.g1irq n =
            (bitAt s.hif.g1irq n && !(bitAt w n)))) ∧
          (a = 0x3f → w = 2 → Gives (exec (.g1Write a [w] die) s) (fun t => t.fld SYS_COMPAT_REQ = 1 ∧
            t.flag SYS_COMPAT_PENDING = true ∧ OnlyRegs s t [SYS_COMPAT])) ∧
          (a ∉ named → Gives (exec (.g1Write a [w] die) s) (fun t => t.flag HIF_IRQ_G1WR = true ∧ t.fld HIF_STAT_G1ADDR = a ∧
            t.fld (if a % 2 = 0 then HIF_G1WINn_LO (a / 2) else HIF_G1WINn_HI (a / 2)) = w ∧
            OnlyRegs s t [HIF_G1WINn (a / 2), HIF_IRQ, HIF_STAT])))) ∧
      (∀ cmd n, cmd < 65536 → bitsOf cmd 14 6 ≠ 0 → bitAt cmd 15 = true → Gives (exec (.g1Read cmd n) s) (fun t =>
        t.hif = s.hif ∧ t.fld HIF_CNT_FRMERR = min (s.fld HIF_CNT_FRMERR + 1) 255 ∧ OnlyRegs s t [HIF_CNT])) ∧
      (∀ die, die < 256 →
        let len := s.hif.g1len
        (len = 0 ∨ 256 < len ∨ s.hif.g1tx.length < (len + 1) / 2 → Gives (exec (.g1UpdateBlock die) s) (fun t =>
          t.hif = { s.hif with g1done := some Code.HIF_BADARG } ∧ t.upd = s.upd ∧ OnlyRegs s t [])) ∧
        (1 ≤ len → len ≤ 256 → (len + 1) / 2 ≤ s.hif.g1tx.length → Gives (exec (.g1UpdateBlock die) s) (fun t =>
          t.hif.g1tx = s.hif.g1tx.drop ((len + 1) / 2) ∧ t.hif.g1done.isSome = true ∧ OnlyBlocks s t [baseNAND] ∧
          (s.upd.inHead ≠ [] → s.hif.g1ofs ≠ s.upd.inHead.length → (∀ d, s.upd.last ≠ some (s.hif.g1ofs, d)) →
            t.hif.g1done = some Code.UPD_OFFSET))) ∧
        (s.updRefused = true → Gives (exec (.g1UpdateActivate die) s) (fun t =>
          t.hif = { s.hif with g1done := some Code.UPD_REFUSED } ∧ t.upd = s.upd ∧ OnlyRegs s t [])) ∧
        (s.updRefused = false → s.upd.stage.any Stage.complete = true → nandFails die = true →
          Gives (exec (.g1UpdateActivate die) s) (fun t => t.hif = { s.hif with g1done := some die } ∧ SameBoot s t ∧
            t.upd.stage = s.upd.stage ∧ OnlyBlocks s t [baseNAND])))) ∧
    (∀ g, g < 2 → Gives (exec (.compatRequest g) s) (fun t => t.fld SYS_COMPAT_REQ = g ∧
      t.flag SYS_COMPAT_PENDING = (g != s.fld SYS_COMPAT_GEN) ∧ t.hif = s.hif ∧ OnlyRegs s t [SYS_COMPAT])) ∧
    (s.clocked = true → s.flag SYS_COMPAT_PENDING = true → bitAt s.icu.pins 23 = true →
      (s.fld SYS_COMPAT_GEN = 1 → s.hif.slots = []) → (s.fld SYS_COMPAT_GEN = 0 → s.hif.g1rx = [] ∧ s.hif.g1tx = []) →
      Gives (exec .compatSwitch s) (fun t => t.fld SYS_COMPAT_GEN = s.fld SYS_COMPAT_REQ ∧ t.flag SYS_COMPAT_PENDING = false ∧
        t.hif.events = [] ∧ (∀ n, n < 32 → t.rd (HIF_G1WINn n) = 0) ∧ t.flag HIF_IRQ_SWITCHED = true ∧
        Logged s t 16 Code.COMPAT_SWITCH 0 (s.fld SYS_COMPAT_REQ) ∧ OnlyBlocks s t [baseSYS, baseHIF, baseLOG]))
end

