-- ==== Sys2Proof/Laws/State.lean ====
section
/-! SUPPORT. One lemma per field of the state and update: what the shared updates of registers, memory and cores leave alone. -/

namespace Sys2Proof.Machine
open Sys2Proof

variable (s : State)

/-! ### `State.wr` -/

@[simp] theorem State.wr_free (a : Nat) (v : Word) : (s.wr a v).free = s.free := rfl
@[simp] theorem State.wr_mem (a : Nat) (v : Word) : (s.wr a v).mem = s.mem := rfl
@[simp] theorem State.wr_clk (a : Nat) (v : Word) : (s.wr a v).clk = s.clk := rfl
@[simp] theorem State.wr_pwr (a : Nat) (v : Word) : (s.wr a v).pwr = s.pwr := rfl
@[simp] theorem State.wr_tmr (a : Nat) (v : Word) : (s.wr a v).tmr = s.tmr := rfl
@[simp] theorem State.wr_icu (a : Nat) (v : Word) : (s.wr a v).icu = s.icu := rfl
@[simp] theorem State.wr_log (a : Nat) (v : Word) : (s.wr a v).log = s.log := rfl
@[simp] theorem State.wr_rfS (a : Nat) (v : Word) : (s.wr a v).rfS = s.rfS := rfl
@[simp] theorem State.wr_rfG (a : Nat) (v : Word) : (s.wr a v).rfG = s.rfG := rfl
@[simp] theorem State.wr_plan (a : Nat) (v : Word) : (s.wr a v).plan = s.plan := rfl
@[simp] theorem State.wr_prism (a : Nat) (v : Word) : (s.wr a v).prism = s.prism := rfl
@[simp] theorem State.wr_facet (a : Nat) (v : Word) : (s.wr a v).facet = s.facet := rfl
@[simp] theorem State.wr_mac (a : Nat) (v : Word) : (s.wr a v).mac = s.mac := rfl
@[simp] theorem State.wr_bist (a : Nat) (v : Word) : (s.wr a v).bist = s.bist := rfl
@[simp] theorem State.wr_acct (a : Nat) (v : Word) : (s.wr a v).acct = s.acct := rfl
@[simp] theorem State.wr_pager (a : Nat) (v : Word) : (s.wr a v).pager = s.pager := rfl
@[simp] theorem State.wr_seq (a : Nat) (v : Word) : (s.wr a v).seq = s.seq := rfl
@[simp] theorem State.wr_ridge (a : Nat) (v : Word) : (s.wr a v).ridge = s.ridge := rfl
@[simp] theorem State.wr_cipher (a : Nat) (v : Word) : (s.wr a v).cipher = s.cipher := rfl
@[simp] theorem State.wr_lat (a : Nat) (v : Word) : (s.wr a v).lat = s.lat := rfl
@[simp] theorem State.wr_otp (a : Nat) (v : Word) : (s.wr a v).otp = s.otp := rfl
@[simp] theorem State.wr_nand (a : Nat) (v : Word) : (s.wr a v).nand = s.nand := rfl
@[simp] theorem State.wr_lc0 (a : Nat) (v : Word) : (s.wr a v).lc0 = s.lc0 := rfl
@[simp] theorem State.wr_lc1 (a : Nat) (v : Word) : (s.wr a v).lc1 = s.lc1 := rfl
@[simp] theorem State.wr_sc (a : Nat) (v : Word) : (s.wr a v).sc = s.sc := rfl
@[simp] theorem State.wr_kc (a : Nat) (v : Word) : (s.wr a v).kc = s.kc := rfl
@[simp] theorem State.wr_tasks (a : Nat) (v : Word) : (s.wr a v).tasks = s.tasks := rfl
@[simp] theorem State.wr_mmu (a : Nat) (v : Word) : (s.wr a v).mmu = s.mmu := rfl
@[simp] theorem State.wr_dma (a : Nat) (v : Word) : (s.wr a v).dma = s.dma := rfl
@[simp] theorem State.wr_upd (a : Nat) (v : Word) : (s.wr a v).upd = s.upd := rfl
@[simp] theorem State.wr_hif (a : Nat) (v : Word) : (s.wr a v).hif = s.hif := rfl
@[simp] theorem State.wr_net (a : Nat) (v : Word) : (s.wr a v).net = s.net := rfl
@[simp] theorem State.wr_uart0 (a : Nat) (v : Word) : (s.wr a v).uart0 = s.uart0 := rfl
@[simp] theorem State.wr_uart1 (a : Nat) (v : Word) : (s.wr a v).uart1 = s.uart1 := rfl
@[simp] theorem State.wr_mirror (a : Nat) (v : Word) : (s.wr a v).mirror = s.mirror := rfl
@[simp] theorem State.wr_rdata (a : Nat) (v : Word) : (s.wr a v).rdata = s.rdata := rfl
@[simp] theorem State.wr_dbgAck (a : Nat) (v : Word) : (s.wr a v).dbgAck = s.dbgAck := rfl
@[simp] theorem State.wr_dbgData (a : Nat) (v : Word) : (s.wr a v).dbgData = s.dbgData := rfl
@[simp] theorem State.wr_txEnds (a : Nat) (v : Word) : (s.wr a v).txEnds = s.txEnds := rfl
@[simp] theorem State.wr_pending (a : Nat) (v : Word) : (s.wr a v).pending = s.pending := rfl

/-! ### `State.setFld` -/

@[simp] theorem State.setFld_free (f : Fld) (v : Nat) : (s.setFld f v).free = s.free := rfl
@[simp] theorem State.setFld_mem (f : Fld) (v : Nat) : (s.setFld f v).mem = s.mem := rfl
@[simp] theorem State.setFld_clk (f : Fld) (v : Nat) : (s.setFld f v).clk = s.clk := rfl
@[simp] theorem State.setFld_pwr (f : Fld) (v : Nat) : (s.setFld f v).pwr = s.pwr := rfl
@[simp] theorem State.setFld_tmr (f : Fld) (v : Nat) : (s.setFld f v).tmr = s.tmr := rfl
@[simp] theorem State.setFld_icu (f : Fld) (v : Nat) : (s.setFld f v).icu = s.icu := rfl
@[simp] theorem State.setFld_log (f : Fld) (v : Nat) : (s.setFld f v).log = s.log := rfl
@[simp] theorem State.setFld_rfS (f : Fld) (v : Nat) : (s.setFld f v).rfS = s.rfS := rfl
@[simp] theorem State.setFld_rfG (f : Fld) (v : Nat) : (s.setFld f v).rfG = s.rfG := rfl
@[simp] theorem State.setFld_plan (f : Fld) (v : Nat) : (s.setFld f v).plan = s.plan := rfl
@[simp] theorem State.setFld_prism (f : Fld) (v : Nat) : (s.setFld f v).prism = s.prism := rfl
@[simp] theorem State.setFld_facet (f : Fld) (v : Nat) : (s.setFld f v).facet = s.facet := rfl
@[simp] theorem State.setFld_mac (f : Fld) (v : Nat) : (s.setFld f v).mac = s.mac := rfl
@[simp] theorem State.setFld_bist (f : Fld) (v : Nat) : (s.setFld f v).bist = s.bist := rfl
@[simp] theorem State.setFld_acct (f : Fld) (v : Nat) : (s.setFld f v).acct = s.acct := rfl
@[simp] theorem State.setFld_pager (f : Fld) (v : Nat) : (s.setFld f v).pager = s.pager := rfl
@[simp] theorem State.setFld_seq (f : Fld) (v : Nat) : (s.setFld f v).seq = s.seq := rfl
@[simp] theorem State.setFld_ridge (f : Fld) (v : Nat) : (s.setFld f v).ridge = s.ridge := rfl
@[simp] theorem State.setFld_cipher (f : Fld) (v : Nat) : (s.setFld f v).cipher = s.cipher := rfl
@[simp] theorem State.setFld_lat (f : Fld) (v : Nat) : (s.setFld f v).lat = s.lat := rfl
@[simp] theorem State.setFld_otp (f : Fld) (v : Nat) : (s.setFld f v).otp = s.otp := rfl
@[simp] theorem State.setFld_nand (f : Fld) (v : Nat) : (s.setFld f v).nand = s.nand := rfl
@[simp] theorem State.setFld_lc0 (f : Fld) (v : Nat) : (s.setFld f v).lc0 = s.lc0 := rfl
@[simp] theorem State.setFld_lc1 (f : Fld) (v : Nat) : (s.setFld f v).lc1 = s.lc1 := rfl
@[simp] theorem State.setFld_sc (f : Fld) (v : Nat) : (s.setFld f v).sc = s.sc := rfl
@[simp] theorem State.setFld_kc (f : Fld) (v : Nat) : (s.setFld f v).kc = s.kc := rfl
@[simp] theorem State.setFld_tasks (f : Fld) (v : Nat) : (s.setFld f v).tasks = s.tasks := rfl
@[simp] theorem State.setFld_mmu (f : Fld) (v : Nat) : (s.setFld f v).mmu = s.mmu := rfl
@[simp] theorem State.setFld_dma (f : Fld) (v : Nat) : (s.setFld f v).dma = s.dma := rfl
@[simp] theorem State.setFld_upd (f : Fld) (v : Nat) : (s.setFld f v).upd = s.upd := rfl
@[simp] theorem State.setFld_hif (f : Fld) (v : Nat) : (s.setFld f v).hif = s.hif := rfl
@[simp] theorem State.setFld_net (f : Fld) (v : Nat) : (s.setFld f v).net = s.net := rfl
@[simp] theorem State.setFld_uart0 (f : Fld) (v : Nat) : (s.setFld f v).uart0 = s.uart0 := rfl
@[simp] theorem State.setFld_uart1 (f : Fld) (v : Nat) : (s.setFld f v).uart1 = s.uart1 := rfl
@[simp] theorem State.setFld_mirror (f : Fld) (v : Nat) : (s.setFld f v).mirror = s.mirror := rfl
@[simp] theorem State.setFld_rdata (f : Fld) (v : Nat) : (s.setFld f v).rdata = s.rdata := rfl
@[simp] theorem State.setFld_dbgAck (f : Fld) (v : Nat) : (s.setFld f v).dbgAck = s.dbgAck := rfl
@[simp] theorem State.setFld_dbgData (f : Fld) (v : Nat) : (s.setFld f v).dbgData = s.dbgData := rfl
@[simp] theorem State.setFld_txEnds (f : Fld) (v : Nat) : (s.setFld f v).txEnds = s.txEnds := rfl
@[simp] theorem State.setFld_pending (f : Fld) (v : Nat) : (s.setFld f v).pending = s.pending := rfl

/-! ### `State.set1` -/

@[simp] theorem State.set1_free (f : Fld) : (s.set1 f).free = s.free := rfl
@[simp] theorem State.set1_mem (f : Fld) : (s.set1 f).mem = s.mem := rfl
@[simp] theorem State.set1_clk (f : Fld) : (s.set1 f).clk = s.clk := rfl
@[simp] theorem State.set1_pwr (f : Fld) : (s.set1 f).pwr = s.pwr := rfl
@[simp] theorem State.set1_tmr (f : Fld) : (s.set1 f).tmr = s.tmr := rfl
@[simp] theorem State.set1_icu (f : Fld) : (s.set1 f).icu = s.icu := rfl
@[simp] theorem State.set1_log (f : Fld) : (s.set1 f).log = s.log := rfl
@[simp] theorem State.set1_rfS (f : Fld) : (s.set1 f).rfS = s.rfS := rfl
@[simp] theorem State.set1_rfG (f : Fld) : (s.set1 f).rfG = s.rfG := rfl
@[simp] theorem State.set1_plan (f : Fld) : (s.set1 f).plan = s.plan := rfl
@[simp] theorem State.set1_prism (f : Fld) : (s.set1 f).prism = s.prism := rfl
@[simp] theorem State.set1_facet (f : Fld) : (s.set1 f).facet = s.facet := rfl
@[simp] theorem State.set1_mac (f : Fld) : (s.set1 f).mac = s.mac := rfl
@[simp] theorem State.set1_bist (f : Fld) : (s.set1 f).bist = s.bist := rfl
@[simp] theorem State.set1_acct (f : Fld) : (s.set1 f).acct = s.acct := rfl
@[simp] theorem State.set1_pager (f : Fld) : (s.set1 f).pager = s.pager := rfl
@[simp] theorem State.set1_seq (f : Fld) : (s.set1 f).seq = s.seq := rfl
@[simp] theorem State.set1_ridge (f : Fld) : (s.set1 f).ridge = s.ridge := rfl
@[simp] theorem State.set1_cipher (f : Fld) : (s.set1 f).cipher = s.cipher := rfl
@[simp] theorem State.set1_lat (f : Fld) : (s.set1 f).lat = s.lat := rfl
@[simp] theorem State.set1_otp (f : Fld) : (s.set1 f).otp = s.otp := rfl
@[simp] theorem State.set1_nand (f : Fld) : (s.set1 f).nand = s.nand := rfl
@[simp] theorem State.set1_lc0 (f : Fld) : (s.set1 f).lc0 = s.lc0 := rfl
@[simp] theorem State.set1_lc1 (f : Fld) : (s.set1 f).lc1 = s.lc1 := rfl
@[simp] theorem State.set1_sc (f : Fld) : (s.set1 f).sc = s.sc := rfl
@[simp] theorem State.set1_kc (f : Fld) : (s.set1 f).kc = s.kc := rfl
@[simp] theorem State.set1_tasks (f : Fld) : (s.set1 f).tasks = s.tasks := rfl
@[simp] theorem State.set1_mmu (f : Fld) : (s.set1 f).mmu = s.mmu := rfl
@[simp] theorem State.set1_dma (f : Fld) : (s.set1 f).dma = s.dma := rfl
@[simp] theorem State.set1_upd (f : Fld) : (s.set1 f).upd = s.upd := rfl
@[simp] theorem State.set1_hif (f : Fld) : (s.set1 f).hif = s.hif := rfl
@[simp] theorem State.set1_net (f : Fld) : (s.set1 f).net = s.net := rfl
@[simp] theorem State.set1_uart0 (f : Fld) : (s.set1 f).uart0 = s.uart0 := rfl
@[simp] theorem State.set1_uart1 (f : Fld) : (s.set1 f).uart1 = s.uart1 := rfl
@[simp] theorem State.set1_mirror (f : Fld) : (s.set1 f).mirror = s.mirror := rfl
@[simp] theorem State.set1_rdata (f : Fld) : (s.set1 f).rdata = s.rdata := rfl
@[simp] theorem State.set1_dbgAck (f : Fld) : (s.set1 f).dbgAck = s.dbgAck := rfl
@[simp] theorem State.set1_dbgData (f : Fld) : (s.set1 f).dbgData = s.dbgData := rfl
@[simp] theorem State.set1_txEnds (f : Fld) : (s.set1 f).txEnds = s.txEnds := rfl
@[simp] theorem State.set1_pending (f : Fld) : (s.set1 f).pending = s.pending := rfl

/-! ### `State.clr` -/

@[simp] theorem State.clr_free (f : Fld) : (s.clr f).free = s.free := rfl
@[simp] theorem State.clr_mem (f : Fld) : (s.clr f).mem = s.mem := rfl
@[simp] theorem State.clr_clk (f : Fld) : (s.clr f).clk = s.clk := rfl
@[simp] theorem State.clr_pwr (f : Fld) : (s.clr f).pwr = s.pwr := rfl
@[simp] theorem State.clr_tmr (f : Fld) : (s.clr f).tmr = s.tmr := rfl
@[simp] theorem State.clr_icu (f : Fld) : (s.clr f).icu = s.icu := rfl
@[simp] theorem State.clr_log (f : Fld) : (s.clr f).log = s.log := rfl
@[simp] theorem State.clr_rfS (f : Fld) : (s.clr f).rfS = s.rfS := rfl
@[simp] theorem State.clr_rfG (f : Fld) : (s.clr f).rfG = s.rfG := rfl
@[simp] theorem State.clr_plan (f : Fld) : (s.clr f).plan = s.plan := rfl
@[simp] theorem State.clr_prism (f : Fld) : (s.clr f).prism = s.prism := rfl
@[simp] theorem State.clr_facet (f : Fld) : (s.clr f).facet = s.facet := rfl
@[simp] theorem State.clr_mac (f : Fld) : (s.clr f).mac = s.mac := rfl
@[simp] theorem State.clr_bist (f : Fld) : (s.clr f).bist = s.bist := rfl
@[simp] theorem State.clr_acct (f : Fld) : (s.clr f).acct = s.acct := rfl
@[simp] theorem State.clr_pager (f : Fld) : (s.clr f).pager = s.pager := rfl
@[simp] theorem State.clr_seq (f : Fld) : (s.clr f).seq = s.seq := rfl
@[simp] theorem State.clr_ridge (f : Fld) : (s.clr f).ridge = s.ridge := rfl
@[simp] theorem State.clr_cipher (f : Fld) : (s.clr f).cipher = s.cipher := rfl
@[simp] theorem State.clr_lat (f : Fld) : (s.clr f).lat = s.lat := rfl
@[simp] theorem State.clr_otp (f : Fld) : (s.clr f).otp = s.otp := rfl
@[simp] theorem State.clr_nand (f : Fld) : (s.clr f).nand = s.nand := rfl
@[simp] theorem State.clr_lc0 (f : Fld) : (s.clr f).lc0 = s.lc0 := rfl
@[simp] theorem State.clr_lc1 (f : Fld) : (s.clr f).lc1 = s.lc1 := rfl
@[simp] theorem State.clr_sc (f : Fld) : (s.clr f).sc = s.sc := rfl
@[simp] theorem State.clr_kc (f : Fld) : (s.clr f).kc = s.kc := rfl
@[simp] theorem State.clr_tasks (f : Fld) : (s.clr f).tasks = s.tasks := rfl
@[simp] theorem State.clr_mmu (f : Fld) : (s.clr f).mmu = s.mmu := rfl
@[simp] theorem State.clr_dma (f : Fld) : (s.clr f).dma = s.dma := rfl
@[simp] theorem State.clr_upd (f : Fld) : (s.clr f).upd = s.upd := rfl
@[simp] theorem State.clr_hif (f : Fld) : (s.clr f).hif = s.hif := rfl
@[simp] theorem State.clr_net (f : Fld) : (s.clr f).net = s.net := rfl
@[simp] theorem State.clr_uart0 (f : Fld) : (s.clr f).uart0 = s.uart0 := rfl
@[simp] theorem State.clr_uart1 (f : Fld) : (s.clr f).uart1 = s.uart1 := rfl
@[simp] theorem State.clr_mirror (f : Fld) : (s.clr f).mirror = s.mirror := rfl
@[simp] theorem State.clr_rdata (f : Fld) : (s.clr f).rdata = s.rdata := rfl
@[simp] theorem State.clr_dbgAck (f : Fld) : (s.clr f).dbgAck = s.dbgAck := rfl
@[simp] theorem State.clr_dbgData (f : Fld) : (s.clr f).dbgData = s.dbgData := rfl
@[simp] theorem State.clr_txEnds (f : Fld) : (s.clr f).txEnds = s.txEnds := rfl
@[simp] theorem State.clr_pending (f : Fld) : (s.clr f).pending = s.pending := rfl

/-! ### `State.setBool` -/

@[simp] theorem State.setBool_free (f : Fld) (b : Bool) : (s.setBool f b).free = s.free := rfl
@[simp] theorem State.setBool_mem (f : Fld) (b : Bool) : (s.setBool f b).mem = s.mem := rfl
@[simp] theorem State.setBool_clk (f : Fld) (b : Bool) : (s.setBool f b).clk = s.clk := rfl
@[simp] theorem State.setBool_pwr (f : Fld) (b : Bool) : (s.setBool f b).pwr = s.pwr := rfl
@[simp] theorem State.setBool_tmr (f : Fld) (b : Bool) : (s.setBool f b).tmr = s.tmr := rfl
@[simp] theorem State.setBool_icu (f : Fld) (b : Bool) : (s.setBool f b).icu = s.icu := rfl
@[simp] theorem State.setBool_log (f : Fld) (b : Bool) : (s.setBool f b).log = s.log := rfl
@[simp] theorem State.setBool_rfS (f : Fld) (b : Bool) : (s.setBool f b).rfS = s.rfS := rfl
@[simp] theorem State.setBool_rfG (f : Fld) (b : Bool) : (s.setBool f b).rfG = s.rfG := rfl
@[simp] theorem State.setBool_plan (f : Fld) (b : Bool) : (s.setBool f b).plan = s.plan := rfl
@[simp] theorem State.setBool_prism (f : Fld) (b : Bool) : (s.setBool f b).prism = s.prism := rfl
@[simp] theorem State.setBool_facet (f : Fld) (b : Bool) : (s.setBool f b).facet = s.facet := rfl
@[simp] theorem State.setBool_mac (f : Fld) (b : Bool) : (s.setBool f b).mac = s.mac := rfl
@[simp] theorem State.setBool_bist (f : Fld) (b : Bool) : (s.setBool f b).bist = s.bist := rfl
@[simp] theorem State.setBool_acct (f : Fld) (b : Bool) : (s.setBool f b).acct = s.acct := rfl
@[simp] theorem State.setBool_pager (f : Fld) (b : Bool) : (s.setBool f b).pager = s.pager := rfl
@[simp] theorem State.setBool_seq (f : Fld) (b : Bool) : (s.setBool f b).seq = s.seq := rfl
@[simp] theorem State.setBool_ridge (f : Fld) (b : Bool) : (s.setBool f b).ridge = s.ridge := rfl
@[simp] theorem State.setBool_cipher (f : Fld) (b : Bool) : (s.setBool f b).cipher = s.cipher := rfl
@[simp] theorem State.setBool_lat (f : Fld) (b : Bool) : (s.setBool f b).lat = s.lat := rfl
@[simp] theorem State.setBool_otp (f : Fld) (b : Bool) : (s.setBool f b).otp = s.otp := rfl
@[simp] theorem State.setBool_nand (f : Fld) (b : Bool) : (s.setBool f b).nand = s.nand := rfl
@[simp] theorem State.setBool_lc0 (f : Fld) (b : Bool) : (s.setBool f b).lc0 = s.lc0 := rfl
@[simp] theorem State.setBool_lc1 (f : Fld) (b : Bool) : (s.setBool f b).lc1 = s.lc1 := rfl
@[simp] theorem State.setBool_sc (f : Fld) (b : Bool) : (s.setBool f b).sc = s.sc := rfl
@[simp] theorem State.setBool_kc (f : Fld) (b : Bool) : (s.setBool f b).kc = s.kc := rfl
@[simp] theorem State.setBool_tasks (f : Fld) (b : Bool) : (s.setBool f b).tasks = s.tasks := rfl
@[simp] theorem State.setBool_mmu (f : Fld) (b : Bool) : (s.setBool f b).mmu = s.mmu := rfl
@[simp] theorem State.setBool_dma (f : Fld) (b : Bool) : (s.setBool f b).dma = s.dma := rfl
@[simp] theorem State.setBool_upd (f : Fld) (b : Bool) : (s.setBool f b).upd = s.upd := rfl
@[simp] theorem State.setBool_hif (f : Fld) (b : Bool) : (s.setBool f b).hif = s.hif := rfl
@[simp] theorem State.setBool_net (f : Fld) (b : Bool) : (s.setBool f b).net = s.net := rfl
@[simp] theorem State.setBool_uart0 (f : Fld) (b : Bool) : (s.setBool f b).uart0 = s.uart0 := rfl
@[simp] theorem State.setBool_uart1 (f : Fld) (b : Bool) : (s.setBool f b).uart1 = s.uart1 := rfl
@[simp] theorem State.setBool_mirror (f : Fld) (b : Bool) : (s.setBool f b).mirror = s.mirror := rfl
@[simp] theorem State.setBool_rdata (f : Fld) (b : Bool) : (s.setBool f b).rdata = s.rdata := rfl
@[simp] theorem State.setBool_dbgAck (f : Fld) (b : Bool) : (s.setBool f b).dbgAck = s.dbgAck := rfl
@[simp] theorem State.setBool_dbgData (f : Fld) (b : Bool) : (s.setBool f b).dbgData = s.dbgData := rfl
@[simp] theorem State.setBool_txEnds (f : Fld) (b : Bool) : (s.setBool f b).txEnds = s.txEnds := rfl
@[simp] theorem State.setBool_pending (f : Fld) (b : Bool) : (s.setBool f b).pending = s.pending := rfl

/-! ### `State.setSat` -/

@[simp] theorem State.setSat_free (f : Fld) (v : Int) : (s.setSat f v).free = s.free := rfl
@[simp] theorem State.setSat_mem (f : Fld) (v : Int) : (s.setSat f v).mem = s.mem := rfl
@[simp] theorem State.setSat_clk (f : Fld) (v : Int) : (s.setSat f v).clk = s.clk := rfl
@[simp] theorem State.setSat_pwr (f : Fld) (v : Int) : (s.setSat f v).pwr = s.pwr := rfl
@[simp] theorem State.setSat_tmr (f : Fld) (v : Int) : (s.setSat f v).tmr = s.tmr := rfl
@[simp] theorem State.setSat_icu (f : Fld) (v : Int) : (s.setSat f v).icu = s.icu := rfl
@[simp] theorem State.setSat_log (f : Fld) (v : Int) : (s.setSat f v).log = s.log := rfl
@[simp] theorem State.setSat_rfS (f : Fld) (v : Int) : (s.setSat f v).rfS = s.rfS := rfl
@[simp] theorem State.setSat_rfG (f : Fld) (v : Int) : (s.setSat f v).rfG = s.rfG := rfl
@[simp] theorem State.setSat_plan (f : Fld) (v : Int) : (s.setSat f v).plan = s.plan := rfl
@[simp] theorem State.setSat_prism (f : Fld) (v : Int) : (s.setSat f v).prism = s.prism := rfl
@[simp] theorem State.setSat_facet (f : Fld) (v : Int) : (s.setSat f v).facet = s.facet := rfl
@[simp] theorem State.setSat_mac (f : Fld) (v : Int) : (s.setSat f v).mac = s.mac := rfl
@[simp] theorem State.setSat_bist (f : Fld) (v : Int) : (s.setSat f v).bist = s.bist := rfl
@[simp] theorem State.setSat_acct (f : Fld) (v : Int) : (s.setSat f v).acct = s.acct := rfl
@[simp] theorem State.setSat_pager (f : Fld) (v : Int) : (s.setSat f v).pager = s.pager := rfl
@[simp] theorem State.setSat_seq (f : Fld) (v : Int) : (s.setSat f v).seq = s.seq := rfl
@[simp] theorem State.setSat_ridge (f : Fld) (v : Int) : (s.setSat f v).ridge = s.ridge := rfl
@[simp] theorem State.setSat_cipher (f : Fld) (v : Int) : (s.setSat f v).cipher = s.cipher := rfl
@[simp] theorem State.setSat_lat (f : Fld) (v : Int) : (s.setSat f v).lat = s.lat := rfl
@[simp] theorem State.setSat_otp (f : Fld) (v : Int) : (s.setSat f v).otp = s.otp := rfl
@[simp] theorem State.setSat_nand (f : Fld) (v : Int) : (s.setSat f v).nand = s.nand := rfl
@[simp] theorem State.setSat_lc0 (f : Fld) (v : Int) : (s.setSat f v).lc0 = s.lc0 := rfl
@[simp] theorem State.setSat_lc1 (f : Fld) (v : Int) : (s.setSat f v).lc1 = s.lc1 := rfl
@[simp] theorem State.setSat_sc (f : Fld) (v : Int) : (s.setSat f v).sc = s.sc := rfl
@[simp] theorem State.setSat_kc (f : Fld) (v : Int) : (s.setSat f v).kc = s.kc := rfl
@[simp] theorem State.setSat_tasks (f : Fld) (v : Int) : (s.setSat f v).tasks = s.tasks := rfl
@[simp] theorem State.setSat_mmu (f : Fld) (v : Int) : (s.setSat f v).mmu = s.mmu := rfl
@[simp] theorem State.setSat_dma (f : Fld) (v : Int) : (s.setSat f v).dma = s.dma := rfl
@[simp] theorem State.setSat_upd (f : Fld) (v : Int) : (s.setSat f v).upd = s.upd := rfl
@[simp] theorem State.setSat_hif (f : Fld) (v : Int) : (s.setSat f v).hif = s.hif := rfl
@[simp] theorem State.setSat_net (f : Fld) (v : Int) : (s.setSat f v).net = s.net := rfl
@[simp] theorem State.setSat_uart0 (f : Fld) (v : Int) : (s.setSat f v).uart0 = s.uart0 := rfl
@[simp] theorem State.setSat_uart1 (f : Fld) (v : Int) : (s.setSat f v).uart1 = s.uart1 := rfl
@[simp] theorem State.setSat_mirror (f : Fld) (v : Int) : (s.setSat f v).mirror = s.mirror := rfl
@[simp] theorem State.setSat_rdata (f : Fld) (v : Int) : (s.setSat f v).rdata = s.rdata := rfl
@[simp] theorem State.setSat_dbgAck (f : Fld) (v : Int) : (s.setSat f v).dbgAck = s.dbgAck := rfl
@[simp] theorem State.setSat_dbgData (f : Fld) (v : Int) : (s.setSat f v).dbgData = s.dbgData := rfl
@[simp] theorem State.setSat_txEnds (f : Fld) (v : Int) : (s.setSat f v).txEnds = s.txEnds := rfl
@[simp] theorem State.setSat_pending (f : Fld) (v : Int) : (s.setSat f v).pending = s.pending := rfl

/-! ### `State.incBy` -/

@[simp] theorem State.incBy_free (f : Fld) (k : Nat) : (s.incBy f k).free = s.free := rfl
@[simp] theorem State.incBy_mem (f : Fld) (k : Nat) : (s.incBy f k).mem = s.mem := rfl
@[simp] theorem State.incBy_clk (f : Fld) (k : Nat) : (s.incBy f k).clk = s.clk := rfl
@[simp] theorem State.incBy_pwr (f : Fld) (k : Nat) : (s.incBy f k).pwr = s.pwr := rfl
@[simp] theorem State.incBy_tmr (f : Fld) (k : Nat) : (s.incBy f k).tmr = s.tmr := rfl
@[simp] theorem State.incBy_icu (f : Fld) (k : Nat) : (s.incBy f k).icu = s.icu := rfl
@[simp] theorem State.incBy_log (f : Fld) (k : Nat) : (s.incBy f k).log = s.log := rfl
@[simp] theorem State.incBy_rfS (f : Fld) (k : Nat) : (s.incBy f k).rfS = s.rfS := rfl
@[simp] theorem State.incBy_rfG (f : Fld) (k : Nat) : (s.incBy f k).rfG = s.rfG := rfl
@[simp] theorem State.incBy_plan (f : Fld) (k : Nat) : (s.incBy f k).plan = s.plan := rfl
@[simp] theorem State.incBy_prism (f : Fld) (k : Nat) : (s.incBy f k).prism = s.prism := rfl
@[simp] theorem State.incBy_facet (f : Fld) (k : Nat) : (s.incBy f k).facet = s.facet := rfl
@[simp] theorem State.incBy_mac (f : Fld) (k : Nat) : (s.incBy f k).mac = s.mac := rfl
@[simp] theorem State.incBy_bist (f : Fld) (k : Nat) : (s.incBy f k).bist = s.bist := rfl
@[simp] theorem State.incBy_acct (f : Fld) (k : Nat) : (s.incBy f k).acct = s.acct := rfl
@[simp] theorem State.incBy_pager (f : Fld) (k : Nat) : (s.incBy f k).pager = s.pager := rfl
@[simp] theorem State.incBy_seq (f : Fld) (k : Nat) : (s.incBy f k).seq = s.seq := rfl
@[simp] theorem State.incBy_ridge (f : Fld) (k : Nat) : (s.incBy f k).ridge = s.ridge := rfl
@[simp] theorem State.incBy_cipher (f : Fld) (k : Nat) : (s.incBy f k).cipher = s.cipher := rfl
@[simp] theorem State.incBy_lat (f : Fld) (k : Nat) : (s.incBy f k).lat = s.lat := rfl
@[simp] theorem State.incBy_otp (f : Fld) (k : Nat) : (s.incBy f k).otp = s.otp := rfl
@[simp] theorem State.incBy_nand (f : Fld) (k : Nat) : (s.incBy f k).nand = s.nand := rfl
@[simp] theorem State.incBy_lc0 (f : Fld) (k : Nat) : (s.incBy f k).lc0 = s.lc0 := rfl
@[simp] theorem State.incBy_lc1 (f : Fld) (k : Nat) : (s.incBy f k).lc1 = s.lc1 := rfl
@[simp] theorem State.incBy_sc (f : Fld) (k : Nat) : (s.incBy f k).sc = s.sc := rfl
@[simp] theorem State.incBy_kc (f : Fld) (k : Nat) : (s.incBy f k).kc = s.kc := rfl
@[simp] theorem State.incBy_tasks (f : Fld) (k : Nat) : (s.incBy f k).tasks = s.tasks := rfl
@[simp] theorem State.incBy_mmu (f : Fld) (k : Nat) : (s.incBy f k).mmu = s.mmu := rfl
@[simp] theorem State.incBy_dma (f : Fld) (k : Nat) : (s.incBy f k).dma = s.dma := rfl
@[simp] theorem State.incBy_upd (f : Fld) (k : Nat) : (s.incBy f k).upd = s.upd := rfl
@[simp] theorem State.incBy_hif (f : Fld) (k : Nat) : (s.incBy f k).hif = s.hif := rfl
@[simp] theorem State.incBy_net (f : Fld) (k : Nat) : (s.incBy f k).net = s.net := rfl
@[simp] theorem State.incBy_uart0 (f : Fld) (k : Nat) : (s.incBy f k).uart0 = s.uart0 := rfl
@[simp] theorem State.incBy_uart1 (f : Fld) (k : Nat) : (s.incBy f k).uart1 = s.uart1 := rfl
@[simp] theorem State.incBy_mirror (f : Fld) (k : Nat) : (s.incBy f k).mirror = s.mirror := rfl
@[simp] theorem State.incBy_rdata (f : Fld) (k : Nat) : (s.incBy f k).rdata = s.rdata := rfl
@[simp] theorem State.incBy_dbgAck (f : Fld) (k : Nat) : (s.incBy f k).dbgAck = s.dbgAck := rfl
@[simp] theorem State.incBy_dbgData (f : Fld) (k : Nat) : (s.incBy f k).dbgData = s.dbgData := rfl
@[simp] theorem State.incBy_txEnds (f : Fld) (k : Nat) : (s.incBy f k).txEnds = s.txEnds := rfl
@[simp] theorem State.incBy_pending (f : Fld) (k : Nat) : (s.incBy f k).pending = s.pending := rfl

/-! ### `State.inc` -/

@[simp] theorem State.inc_free (f : Fld) : (s.inc f).free = s.free := rfl
@[simp] theorem State.inc_mem (f : Fld) : (s.inc f).mem = s.mem := rfl
@[simp] theorem State.inc_clk (f : Fld) : (s.inc f).clk = s.clk := rfl
@[simp] theorem State.inc_pwr (f : Fld) : (s.inc f).pwr = s.pwr := rfl
@[simp] theorem State.inc_tmr (f : Fld) : (s.inc f).tmr = s.tmr := rfl
@[simp] theorem State.inc_icu (f : Fld) : (s.inc f).icu = s.icu := rfl
@[simp] theorem State.inc_log (f : Fld) : (s.inc f).log = s.log := rfl
@[simp] theorem State.inc_rfS (f : Fld) : (s.inc f).rfS = s.rfS := rfl
@[simp] theorem State.inc_rfG (f : Fld) : (s.inc f).rfG = s.rfG := rfl
@[simp] theorem State.inc_plan (f : Fld) : (s.inc f).plan = s.plan := rfl
@[simp] theorem State.inc_prism (f : Fld) : (s.inc f).prism = s.prism := rfl
@[simp] theorem State.inc_facet (f : Fld) : (s.inc f).facet = s.facet := rfl
@[simp] theorem State.inc_mac (f : Fld) : (s.inc f).mac = s.mac := rfl
@[simp] theorem State.inc_bist (f : Fld) : (s.inc f).bist = s.bist := rfl
@[simp] theorem State.inc_acct (f : Fld) : (s.inc f).acct = s.acct := rfl
@[simp] theorem State.inc_pager (f : Fld) : (s.inc f).pager = s.pager := rfl
@[simp] theorem State.inc_seq (f : Fld) : (s.inc f).seq = s.seq := rfl
@[simp] theorem State.inc_ridge (f : Fld) : (s.inc f).ridge = s.ridge := rfl
@[simp] theorem State.inc_cipher (f : Fld) : (s.inc f).cipher = s.cipher := rfl
@[simp] theorem State.inc_lat (f : Fld) : (s.inc f).lat = s.lat := rfl
@[simp] theorem State.inc_otp (f : Fld) : (s.inc f).otp = s.otp := rfl
@[simp] theorem State.inc_nand (f : Fld) : (s.inc f).nand = s.nand := rfl
@[simp] theorem State.inc_lc0 (f : Fld) : (s.inc f).lc0 = s.lc0 := rfl
@[simp] theorem State.inc_lc1 (f : Fld) : (s.inc f).lc1 = s.lc1 := rfl
@[simp] theorem State.inc_sc (f : Fld) : (s.inc f).sc = s.sc := rfl
@[simp] theorem State.inc_kc (f : Fld) : (s.inc f).kc = s.kc := rfl
@[simp] theorem State.inc_tasks (f : Fld) : (s.inc f).tasks = s.tasks := rfl
@[simp] theorem State.inc_mmu (f : Fld) : (s.inc f).mmu = s.mmu := rfl
@[simp] theorem State.inc_dma (f : Fld) : (s.inc f).dma = s.dma := rfl
@[simp] theorem State.inc_upd (f : Fld) : (s.inc f).upd = s.upd := rfl
@[simp] theorem State.inc_hif (f : Fld) : (s.inc f).hif = s.hif := rfl
@[simp] theorem State.inc_net (f : Fld) : (s.inc f).net = s.net := rfl
@[simp] theorem State.inc_uart0 (f : Fld) : (s.inc f).uart0 = s.uart0 := rfl
@[simp] theorem State.inc_uart1 (f : Fld) : (s.inc f).uart1 = s.uart1 := rfl
@[simp] theorem State.inc_mirror (f : Fld) : (s.inc f).mirror = s.mirror := rfl
@[simp] theorem State.inc_rdata (f : Fld) : (s.inc f).rdata = s.rdata := rfl
@[simp] theorem State.inc_dbgAck (f : Fld) : (s.inc f).dbgAck = s.dbgAck := rfl
@[simp] theorem State.inc_dbgData (f : Fld) : (s.inc f).dbgData = s.dbgData := rfl
@[simp] theorem State.inc_txEnds (f : Fld) : (s.inc f).txEnds = s.txEnds := rfl
@[simp] theorem State.inc_pending (f : Fld) : (s.inc f).pending = s.pending := rfl

/-! ### `State.discard` -/

@[simp] theorem State.discard_free (b : Nat) : (s.discard b).free = s.free := by simp [State.discard]
@[simp] theorem State.discard_mem (b : Nat) : (s.discard b).mem = s.mem := by simp [State.discard]
@[simp] theorem State.discard_clk (b : Nat) : (s.discard b).clk = s.clk := by simp [State.discard]
@[simp] theorem State.discard_pwr (b : Nat) : (s.discard b).pwr = s.pwr := by simp [State.discard]
@[simp] theorem State.discard_tmr (b : Nat) : (s.discard b).tmr = s.tmr := by simp [State.discard]
@[simp] theorem State.discard_icu (b : Nat) : (s.discard b).icu = s.icu := by simp [State.discard]
@[simp] theorem State.discard_log (b : Nat) : (s.discard b).log = s.log := by simp [State.discard]
@[simp] theorem State.discard_rfS (b : Nat) : (s.discard b).rfS = s.rfS := by simp [State.discard]
@[simp] theorem State.discard_rfG (b : Nat) : (s.discard b).rfG = s.rfG := by simp [State.discard]
@[simp] theorem State.discard_plan (b : Nat) : (s.discard b).plan = s.plan := by simp [State.discard]
@[simp] theorem State.discard_prism (b : Nat) : (s.discard b).prism = s.prism := by simp [State.discard]
@[simp] theorem State.discard_facet (b : Nat) : (s.discard b).facet = s.facet := by simp [State.discard]
@[simp] theorem State.discard_mac (b : Nat) : (s.discard b).mac = s.mac := by simp [State.discard]
@[simp] theorem State.discard_bist (b : Nat) : (s.discard b).bist = s.bist := by simp [State.discard]
@[simp] theorem State.discard_acct (b : Nat) : (s.discard b).acct = s.acct := by simp [State.discard]
@[simp] theorem State.discard_pager (b : Nat) : (s.discard b).pager = s.pager := by simp [State.discard]
@[simp] theorem State.discard_seq (b : Nat) : (s.discard b).seq = s.seq := by simp [State.discard]
@[simp] theorem State.discard_ridge (b : Nat) : (s.discard b).ridge = s.ridge := by simp [State.discard]
@[simp] theorem State.discard_cipher (b : Nat) : (s.discard b).cipher = s.cipher := by simp [State.discard]
@[simp] theorem State.discard_lat (b : Nat) : (s.discard b).lat = s.lat := by simp [State.discard]
@[simp] theorem State.discard_otp (b : Nat) : (s.discard b).otp = s.otp := by simp [State.discard]
@[simp] theorem State.discard_nand (b : Nat) : (s.discard b).nand = s.nand := by simp [State.discard]
@[simp] theorem State.discard_lc0 (b : Nat) : (s.discard b).lc0 = s.lc0 := by simp [State.discard]
@[simp] theorem State.discard_lc1 (b : Nat) : (s.discard b).lc1 = s.lc1 := by simp [State.discard]
@[simp] theorem State.discard_sc (b : Nat) : (s.discard b).sc = s.sc := by simp [State.discard]
@[simp] theorem State.discard_kc (b : Nat) : (s.discard b).kc = s.kc := by simp [State.discard]
@[simp] theorem State.discard_tasks (b : Nat) : (s.discard b).tasks = s.tasks := by simp [State.discard]
@[simp] theorem State.discard_mmu (b : Nat) : (s.discard b).mmu = s.mmu := by simp [State.discard]
@[simp] theorem State.discard_dma (b : Nat) : (s.discard b).dma = s.dma := by simp [State.discard]
@[simp] theorem State.discard_upd (b : Nat) : (s.discard b).upd = s.upd := by simp [State.discard]
@[simp] theorem State.discard_hif (b : Nat) : (s.discard b).hif = s.hif := by simp [State.discard]
@[simp] theorem State.discard_net (b : Nat) : (s.discard b).net = s.net := by simp [State.discard]
@[simp] theorem State.discard_uart0 (b : Nat) : (s.discard b).uart0 = s.uart0 := by simp [State.discard]
@[simp] theorem State.discard_uart1 (b : Nat) : (s.discard b).uart1 = s.uart1 := by simp [State.discard]
@[simp] theorem State.discard_mirror (b : Nat) : (s.discard b).mirror = s.mirror := by simp [State.discard]
@[simp] theorem State.discard_rdata (b : Nat) : (s.discard b).rdata = s.rdata := by simp [State.discard]
@[simp] theorem State.discard_dbgAck (b : Nat) : (s.discard b).dbgAck = s.dbgAck := by simp [State.discard]
@[simp] theorem State.discard_dbgData (b : Nat) : (s.discard b).dbgData = s.dbgData := by simp [State.discard]
@[simp] theorem State.discard_txEnds (b : Nat) : (s.discard b).txEnds = s.txEnds := by simp [State.discard]
@[simp] theorem State.discard_pending (b : Nat) : (s.discard b).pending = s.pending := by simp [State.discard]

/-! ### `State.unmapped` -/

@[simp] theorem State.unmapped_free (b : Nat) : (s.unmapped b).free = s.free := by simp [State.unmapped]
@[simp] theorem State.unmapped_mem (b : Nat) : (s.unmapped b).mem = s.mem := by simp [State.unmapped]
@[simp] theorem State.unmapped_clk (b : Nat) : (s.unmapped b).clk = s.clk := by simp [State.unmapped]
@[simp] theorem State.unmapped_pwr (b : Nat) : (s.unmapped b).pwr = s.pwr := by simp [State.unmapped]
@[simp] theorem State.unmapped_tmr (b : Nat) : (s.unmapped b).tmr = s.tmr := by simp [State.unmapped]
@[simp] theorem State.unmapped_icu (b : Nat) : (s.unmapped b).icu = s.icu := by simp [State.unmapped]
@[simp] theorem State.unmapped_log (b : Nat) : (s.unmapped b).log = s.log := by simp [State.unmapped]
@[simp] theorem State.unmapped_rfS (b : Nat) : (s.unmapped b).rfS = s.rfS := by simp [State.unmapped]
@[simp] theorem State.unmapped_rfG (b : Nat) : (s.unmapped b).rfG = s.rfG := by simp [State.unmapped]
@[simp] theorem State.unmapped_plan (b : Nat) : (s.unmapped b).plan = s.plan := by simp [State.unmapped]
@[simp] theorem State.unmapped_prism (b : Nat) : (s.unmapped b).prism = s.prism := by simp [State.unmapped]
@[simp] theorem State.unmapped_facet (b : Nat) : (s.unmapped b).facet = s.facet := by simp [State.unmapped]
@[simp] theorem State.unmapped_mac (b : Nat) : (s.unmapped b).mac = s.mac := by simp [State.unmapped]
@[simp] theorem State.unmapped_bist (b : Nat) : (s.unmapped b).bist = s.bist := by simp [State.unmapped]
@[simp] theorem State.unmapped_acct (b : Nat) : (s.unmapped b).acct = s.acct := by simp [State.unmapped]
@[simp] theorem State.unmapped_pager (b : Nat) : (s.unmapped b).pager = s.pager := by simp [State.unmapped]
@[simp] theorem State.unmapped_seq (b : Nat) : (s.unmapped b).seq = s.seq := by simp [State.unmapped]
@[simp] theorem State.unmapped_ridge (b : Nat) : (s.unmapped b).ridge = s.ridge := by simp [State.unmapped]
@[simp] theorem State.unmapped_cipher (b : Nat) : (s.unmapped b).cipher = s.cipher := by simp [State.unmapped]
@[simp] theorem State.unmapped_lat (b : Nat) : (s.unmapped b).lat = s.lat := by simp [State.unmapped]
@[simp] theorem State.unmapped_otp (b : Nat) : (s.unmapped b).otp = s.otp := by simp [State.unmapped]
@[simp] theorem State.unmapped_nand (b : Nat) : (s.unmapped b).nand = s.nand := by simp [State.unmapped]
@[simp] theorem State.unmapped_lc0 (b : Nat) : (s.unmapped b).lc0 = s.lc0 := by simp [State.unmapped]
@[simp] theorem State.unmapped_lc1 (b : Nat) : (s.unmapped b).lc1 = s.lc1 := by simp [State.unmapped]
@[simp] theorem State.unmapped_sc (b : Nat) : (s.unmapped b).sc = s.sc := by simp [State.unmapped]
@[simp] theorem State.unmapped_kc (b : Nat) : (s.unmapped b).kc = s.kc := by simp [State.unmapped]
@[simp] theorem State.unmapped_tasks (b : Nat) : (s.unmapped b).tasks = s.tasks := by simp [State.unmapped]
@[simp] theorem State.unmapped_mmu (b : Nat) : (s.unmapped b).mmu = s.mmu := by simp [State.unmapped]
@[simp] theorem State.unmapped_dma (b : Nat) : (s.unmapped b).dma = s.dma := by simp [State.unmapped]
@[simp] theorem State.unmapped_upd (b : Nat) : (s.unmapped b).upd = s.upd := by simp [State.unmapped]
@[simp] theorem State.unmapped_hif (b : Nat) : (s.unmapped b).hif = s.hif := by simp [State.unmapped]
@[simp] theorem State.unmapped_net (b : Nat) : (s.unmapped b).net = s.net := by simp [State.unmapped]
@[simp] theorem State.unmapped_uart0 (b : Nat) : (s.unmapped b).uart0 = s.uart0 := by simp [State.unmapped]
@[simp] theorem State.unmapped_uart1 (b : Nat) : (s.unmapped b).uart1 = s.uart1 := by simp [State.unmapped]
@[simp] theorem State.unmapped_mirror (b : Nat) : (s.unmapped b).mirror = s.mirror := by simp [State.unmapped]
@[simp] theorem State.unmapped_rdata (b : Nat) : (s.unmapped b).rdata = s.rdata := by simp [State.unmapped]
@[simp] theorem State.unmapped_dbgAck (b : Nat) : (s.unmapped b).dbgAck = s.dbgAck := by simp [State.unmapped]
@[simp] theorem State.unmapped_dbgData (b : Nat) : (s.unmapped b).dbgData = s.dbgData := by simp [State.unmapped]
@[simp] theorem State.unmapped_txEnds (b : Nat) : (s.unmapped b).txEnds = s.txEnds := by simp [State.unmapped]
@[simp] theorem State.unmapped_pending (b : Nat) : (s.unmapped b).pending = s.pending := by simp [State.unmapped]

/-! ### `State.memWr` -/

@[simp] theorem State.memWr_free (a : Nat) (b : Byte) : (s.memWr a b).free = s.free := rfl
@[simp] theorem State.memWr_regs (a : Nat) (b : Byte) : (s.memWr a b).regs = s.regs := rfl
@[simp] theorem State.memWr_clk (a : Nat) (b : Byte) : (s.memWr a b).clk = s.clk := rfl
@[simp] theorem State.memWr_pwr (a : Nat) (b : Byte) : (s.memWr a b).pwr = s.pwr := rfl
@[simp] theorem State.memWr_tmr (a : Nat) (b : Byte) : (s.memWr a b).tmr = s.tmr := rfl
@[simp] theorem State.memWr_icu (a : Nat) (b : Byte) : (s.memWr a b).icu = s.icu := rfl
@[simp] theorem State.memWr_log (a : Nat) (b : Byte) : (s.memWr a b).log = s.log := rfl
@[simp] theorem State.memWr_rfS (a : Nat) (b : Byte) : (s.memWr a b).rfS = s.rfS := rfl
@[simp] theorem State.memWr_rfG (a : Nat) (b : Byte) : (s.memWr a b).rfG = s.rfG := rfl
@[simp] theorem State.memWr_plan (a : Nat) (b : Byte) : (s.memWr a b).plan = s.plan := rfl
@[simp] theorem State.memWr_prism (a : Nat) (b : Byte) : (s.memWr a b).prism = s.prism := rfl
@[simp] theorem State.memWr_facet (a : Nat) (b : Byte) : (s.memWr a b).facet = s.facet := rfl
@[simp] theorem State.memWr_mac (a : Nat) (b : Byte) : (s.memWr a b).mac = s.mac := rfl
@[simp] theorem State.memWr_bist (a : Nat) (b : Byte) : (s.memWr a b).bist = s.bist := rfl
@[simp] theorem State.memWr_acct (a : Nat) (b : Byte) : (s.memWr a b).acct = s.acct := rfl
@[simp] theorem State.memWr_pager (a : Nat) (b : Byte) : (s.memWr a b).pager = s.pager := rfl
@[simp] theorem State.memWr_seq (a : Nat) (b : Byte) : (s.memWr a b).seq = s.seq := rfl
@[simp] theorem State.memWr_ridge (a : Nat) (b : Byte) : (s.memWr a b).ridge = s.ridge := rfl
@[simp] theorem State.memWr_cipher (a : Nat) (b : Byte) : (s.memWr a b).cipher = s.cipher := rfl
@[simp] theorem State.memWr_lat (a : Nat) (b : Byte) : (s.memWr a b).lat = s.lat := rfl
@[simp] theorem State.memWr_otp (a : Nat) (b : Byte) : (s.memWr a b).otp = s.otp := rfl
@[simp] theorem State.memWr_nand (a : Nat) (b : Byte) : (s.memWr a b).nand = s.nand := rfl
@[simp] theorem State.memWr_lc0 (a : Nat) (b : Byte) : (s.memWr a b).lc0 = s.lc0 := rfl
@[simp] theorem State.memWr_lc1 (a : Nat) (b : Byte) : (s.memWr a b).lc1 = s.lc1 := rfl
@[simp] theorem State.memWr_sc (a : Nat) (b : Byte) : (s.memWr a b).sc = s.sc := rfl
@[simp] theorem State.memWr_kc (a : Nat) (b : Byte) : (s.memWr a b).kc = s.kc := rfl
@[simp] theorem State.memWr_tasks (a : Nat) (b : Byte) : (s.memWr a b).tasks = s.tasks := rfl
@[simp] theorem State.memWr_mmu (a : Nat) (b : Byte) : (s.memWr a b).mmu = s.mmu := rfl
@[simp] theorem State.memWr_dma (a : Nat) (b : Byte) : (s.memWr a b).dma = s.dma := rfl
@[simp] theorem State.memWr_upd (a : Nat) (b : Byte) : (s.memWr a b).upd = s.upd := rfl
@[simp] theorem State.memWr_hif (a : Nat) (b : Byte) : (s.memWr a b).hif = s.hif := rfl
@[simp] theorem State.memWr_net (a : Nat) (b : Byte) : (s.memWr a b).net = s.net := rfl
@[simp] theorem State.memWr_uart0 (a : Nat) (b : Byte) : (s.memWr a b).uart0 = s.uart0 := rfl
@[simp] theorem State.memWr_uart1 (a : Nat) (b : Byte) : (s.memWr a b).uart1 = s.uart1 := rfl
@[simp] theorem State.memWr_mirror (a : Nat) (b : Byte) : (s.memWr a b).mirror = s.mirror := rfl
@[simp] theorem State.memWr_rdata (a : Nat) (b : Byte) : (s.memWr a b).rdata = s.rdata := rfl
@[simp] theorem State.memWr_dbgAck (a : Nat) (b : Byte) : (s.memWr a b).dbgAck = s.dbgAck := rfl
@[simp] theorem State.memWr_dbgData (a : Nat) (b : Byte) : (s.memWr a b).dbgData = s.dbgData := rfl
@[simp] theorem State.memWr_txEnds (a : Nat) (b : Byte) : (s.memWr a b).txEnds = s.txEnds := rfl
@[simp] theorem State.memWr_pending (a : Nat) (b : Byte) : (s.memWr a b).pending = s.pending := rfl

/-! ### `State.setCore` and `State.modCore` -/

@[simp] theorem State.setCore_free (c : CoreId) (x : Core) : (s.setCore c x).free = s.free := by cases c <;> rfl
@[simp] theorem State.modCore_free (c : CoreId) (g : Core → Core) : (s.modCore c g).free = s.free := by cases c <;> rfl
@[simp] theorem State.setCore_regs (c : CoreId) (x : Core) : (s.setCore c x).regs = s.regs := by cases c <;> rfl
@[simp] theorem State.modCore_regs (c : CoreId) (g : Core → Core) : (s.modCore c g).regs = s.regs := by cases c <;> rfl
@[simp] theorem State.setCore_mem (c : CoreId) (x : Core) : (s.setCore c x).mem = s.mem := by cases c <;> rfl
@[simp] theorem State.modCore_mem (c : CoreId) (g : Core → Core) : (s.modCore c g).mem = s.mem := by cases c <;> rfl
@[simp] theorem State.setCore_clk (c : CoreId) (x : Core) : (s.setCore c x).clk = s.clk := by cases c <;> rfl
@[simp] theorem State.modCore_clk (c : CoreId) (g : Core → Core) : (s.modCore c g).clk = s.clk := by cases c <;> rfl
@[simp] theorem State.setCore_pwr (c : CoreId) (x : Core) : (s.setCore c x).pwr = s.pwr := by cases c <;> rfl
@[simp] theorem State.modCore_pwr (c : CoreId) (g : Core → Core) : (s.modCore c g).pwr = s.pwr := by cases c <;> rfl
@[simp] theorem State.setCore_tmr (c : CoreId) (x : Core) : (s.setCore c x).tmr = s.tmr := by cases c <;> rfl
@[simp] theorem State.modCore_tmr (c : CoreId) (g : Core → Core) : (s.modCore c g).tmr = s.tmr := by cases c <;> rfl
@[simp] theorem State.setCore_icu (c : CoreId) (x : Core) : (s.setCore c x).icu = s.icu := by cases c <;> rfl
@[simp] theorem State.modCore_icu (c : CoreId) (g : Core → Core) : (s.modCore c g).icu = s.icu := by cases c <;> rfl
@[simp] theorem State.setCore_log (c : CoreId) (x : Core) : (s.setCore c x).log = s.log := by cases c <;> rfl
@[simp] theorem State.modCore_log (c : CoreId) (g : Core → Core) : (s.modCore c g).log = s.log := by cases c <;> rfl
@[simp] theorem State.setCore_rfS (c : CoreId) (x : Core) : (s.setCore c x).rfS = s.rfS := by cases c <;> rfl
@[simp] theorem State.modCore_rfS (c : CoreId) (g : Core → Core) : (s.modCore c g).rfS = s.rfS := by cases c <;> rfl
@[simp] theorem State.setCore_rfG (c : CoreId) (x : Core) : (s.setCore c x).rfG = s.rfG := by cases c <;> rfl
@[simp] theorem State.modCore_rfG (c : CoreId) (g : Core → Core) : (s.modCore c g).rfG = s.rfG := by cases c <;> rfl
@[simp] theorem State.setCore_plan (c : CoreId) (x : Core) : (s.setCore c x).plan = s.plan := by cases c <;> rfl
@[simp] theorem State.modCore_plan (c : CoreId) (g : Core → Core) : (s.modCore c g).plan = s.plan := by cases c <;> rfl
@[simp] theorem State.setCore_prism (c : CoreId) (x : Core) : (s.setCore c x).prism = s.prism := by cases c <;> rfl
@[simp] theorem State.modCore_prism (c : CoreId) (g : Core → Core) : (s.modCore c g).prism = s.prism := by cases c <;> rfl
@[simp] theorem State.setCore_facet (c : CoreId) (x : Core) : (s.setCore c x).facet = s.facet := by cases c <;> rfl
@[simp] theorem State.modCore_facet (c : CoreId) (g : Core → Core) : (s.modCore c g).facet = s.facet := by cases c <;> rfl
@[simp] theorem State.setCore_mac (c : CoreId) (x : Core) : (s.setCore c x).mac = s.mac := by cases c <;> rfl
@[simp] theorem State.modCore_mac (c : CoreId) (g : Core → Core) : (s.modCore c g).mac = s.mac := by cases c <;> rfl
@[simp] theorem State.setCore_bist (c : CoreId) (x : Core) : (s.setCore c x).bist = s.bist := by cases c <;> rfl
@[simp] theorem State.modCore_bist (c : CoreId) (g : Core → Core) : (s.modCore c g).bist = s.bist := by cases c <;> rfl
@[simp] theorem State.setCore_acct (c : CoreId) (x : Core) : (s.setCore c x).acct = s.acct := by cases c <;> rfl
@[simp] theorem State.modCore_acct (c : CoreId) (g : Core → Core) : (s.modCore c g).acct = s.acct := by cases c <;> rfl
@[simp] theorem State.setCore_pager (c : CoreId) (x : Core) : (s.setCore c x).pager = s.pager := by cases c <;> rfl
@[simp] theorem State.modCore_pager (c : CoreId) (g : Core → Core) : (s.modCore c g).pager = s.pager := by cases c <;> rfl
@[simp] theorem State.setCore_seq (c : CoreId) (x : Core) : (s.setCore c x).seq = s.seq := by cases c <;> rfl
@[simp] theorem State.modCore_seq (c : CoreId) (g : Core → Core) : (s.modCore c g).seq = s.seq := by cases c <;> rfl
@[simp] theorem State.setCore_ridge (c : CoreId) (x : Core) : (s.setCore c x).ridge = s.ridge := by cases c <;> rfl
@[simp] theorem State.modCore_ridge (c : CoreId) (g : Core → Core) : (s.modCore c g).ridge = s.ridge := by cases c <;> rfl
@[simp] theorem State.setCore_cipher (c : CoreId) (x : Core) : (s.setCore c x).cipher = s.cipher := by cases c <;> rfl
@[simp] theorem State.modCore_cipher (c : CoreId) (g : Core → Core) : (s.modCore c g).cipher = s.cipher := by cases c <;> rfl
@[simp] theorem State.setCore_lat (c : CoreId) (x : Core) : (s.setCore c x).lat = s.lat := by cases c <;> rfl
@[simp] theorem State.modCore_lat (c : CoreId) (g : Core → Core) : (s.modCore c g).lat = s.lat := by cases c <;> rfl
@[simp] theorem State.setCore_otp (c : CoreId) (x : Core) : (s.setCore c x).otp = s.otp := by cases c <;> rfl
@[simp] theorem State.modCore_otp (c : CoreId) (g : Core → Core) : (s.modCore c g).otp = s.otp := by cases c <;> rfl
@[simp] theorem State.setCore_nand (c : CoreId) (x : Core) : (s.setCore c x).nand = s.nand := by cases c <;> rfl
@[simp] theorem State.modCore_nand (c : CoreId) (g : Core → Core) : (s.modCore c g).nand = s.nand := by cases c <;> rfl
@[simp] theorem State.setCore_tasks (c : CoreId) (x : Core) : (s.setCore c x).tasks = s.tasks := by cases c <;> rfl
@[simp] theorem State.modCore_tasks (c : CoreId) (g : Core → Core) : (s.modCore c g).tasks = s.tasks := by cases c <;> rfl
@[simp] theorem State.setCore_mmu (c : CoreId) (x : Core) : (s.setCore c x).mmu = s.mmu := by cases c <;> rfl
@[simp] theorem State.modCore_mmu (c : CoreId) (g : Core → Core) : (s.modCore c g).mmu = s.mmu := by cases c <;> rfl
@[simp] theorem State.setCore_dma (c : CoreId) (x : Core) : (s.setCore c x).dma = s.dma := by cases c <;> rfl
@[simp] theorem State.modCore_dma (c : CoreId) (g : Core → Core) : (s.modCore c g).dma = s.dma := by cases c <;> rfl
@[simp] theorem State.setCore_upd (c : CoreId) (x : Core) : (s.setCore c x).upd = s.upd := by cases c <;> rfl
@[simp] theorem State.modCore_upd (c : CoreId) (g : Core → Core) : (s.modCore c g).upd = s.upd := by cases c <;> rfl
@[simp] theorem State.setCore_hif (c : CoreId) (x : Core) : (s.setCore c x).hif = s.hif := by cases c <;> rfl
@[simp] theorem State.modCore_hif (c : CoreId) (g : Core → Core) : (s.modCore c g).hif = s.hif := by cases c <;> rfl
@[simp] theorem State.setCore_net (c : CoreId) (x : Core) : (s.setCore c x).net = s.net := by cases c <;> rfl
@[simp] theorem State.modCore_net (c : CoreId) (g : Core → Core) : (s.modCore c g).net = s.net := by cases c <;> rfl
@[simp] theorem State.setCore_uart0 (c : CoreId) (x : Core) : (s.setCore c x).uart0 = s.uart0 := by cases c <;> rfl
@[simp] theorem State.modCore_uart0 (c : CoreId) (g : Core → Core) : (s.modCore c g).uart0 = s.uart0 := by cases c <;> rfl
@[simp] theorem State.setCore_uart1 (c : CoreId) (x : Core) : (s.setCore c x).uart1 = s.uart1 := by cases c <;> rfl
@[simp] theorem State.modCore_uart1 (c : CoreId) (g : Core → Core) : (s.modCore c g).uart1 = s.uart1 := by cases c <;> rfl
@[simp] theorem State.setCore_mirror (c : CoreId) (x : Core) : (s.setCore c x).mirror = s.mirror := by cases c <;> rfl
@[simp] theorem State.modCore_mirror (c : CoreId) (g : Core → Core) : (s.modCore c g).mirror = s.mirror := by cases c <;> rfl
@[simp] theorem State.setCore_rdata (c : CoreId) (x : Core) : (s.setCore c x).rdata = s.rdata := by cases c <;> rfl
@[simp] theorem State.modCore_rdata (c : CoreId) (g : Core → Core) : (s.modCore c g).rdata = s.rdata := by cases c <;> rfl
@[simp] theorem State.setCore_dbgAck (c : CoreId) (x : Core) : (s.setCore c x).dbgAck = s.dbgAck := by cases c <;> rfl
@[simp] theorem State.modCore_dbgAck (c : CoreId) (g : Core → Core) : (s.modCore c g).dbgAck = s.dbgAck := by cases c <;> rfl
@[simp] theorem State.setCore_dbgData (c : CoreId) (x : Core) : (s.setCore c x).dbgData = s.dbgData := by cases c <;> rfl
@[simp] theorem State.modCore_dbgData (c : CoreId) (g : Core → Core) : (s.modCore c g).dbgData = s.dbgData := by cases c <;> rfl
@[simp] theorem State.setCore_txEnds (c : CoreId) (x : Core) : (s.setCore c x).txEnds = s.txEnds := by cases c <;> rfl
@[simp] theorem State.modCore_txEnds (c : CoreId) (g : Core → Core) : (s.modCore c g).txEnds = s.txEnds := by cases c <;> rfl
@[simp] theorem State.setCore_pending (c : CoreId) (x : Core) : (s.setCore c x).pending = s.pending := by cases c <;> rfl
@[simp] theorem State.modCore_pending (c : CoreId) (g : Core → Core) : (s.modCore c g).pending = s.pending := by cases c <;> rfl

/-! ### Cores under the shared updates -/

@[simp] theorem State.core_wr (c : CoreId) (a : Nat) (v : Word) : (s.wr a v).core c = s.core c := by
  cases c <;> simp [State.core]
@[simp] theorem State.core_setFld (c : CoreId) (f : Fld) (v : Nat) : (s.setFld f v).core c = s.core c := by
  cases c <;> simp [State.core]
@[simp] theorem State.core_set1 (c : CoreId) (f : Fld) : (s.set1 f).core c = s.core c := by
  cases c <;> simp [State.core]
@[simp] theorem State.core_clr (c : CoreId) (f : Fld) : (s.clr f).core c = s.core c := by
  cases c <;> simp [State.core]
@[simp] theorem State.core_setBool (c : CoreId) (f : Fld) (b : Bool) : (s.setBool f b).core c = s.core c := by
  cases c <;> simp [State.core]
@[simp] theorem State.core_setSat (c : CoreId) (f : Fld) (v : Int) : (s.setSat f v).core c = s.core c := by
  cases c <;> simp [State.core]
@[simp] theorem State.core_incBy (c : CoreId) (f : Fld) (k : Nat) : (s.incBy f k).core c = s.core c := by
  cases c <;> simp [State.core]
@[simp] theorem State.core_inc (c : CoreId) (f : Fld) : (s.inc f).core c = s.core c := by
  cases c <;> simp [State.core]
@[simp] theorem State.core_discard (c : CoreId) (b : Nat) : (s.discard b).core c = s.core c := by
  cases c <;> simp [State.core]
@[simp] theorem State.core_unmapped (c : CoreId) (b : Nat) : (s.unmapped b).core c = s.core c := by
  cases c <;> simp [State.core]
@[simp] theorem State.core_memWr (c : CoreId) (a : Nat) (b : Byte) : (s.memWr a b).core c = s.core c := by
  cases c <;> simp [State.core]

theorem State.core_setCore (c d : CoreId) (x : Core) : (s.setCore c x).core d = if d = c then x else s.core d := by
  cases c <;> cases d <;> rfl

@[simp] theorem State.core_setCore_self (c : CoreId) (x : Core) : (s.setCore c x).core c = x := by cases c <;> rfl

@[simp] theorem State.core_modCore_self (c : CoreId) (g : Core → Core) : (s.modCore c g).core c = g (s.core c) := by
  cases c <;> rfl

@[simp] theorem State.setCore_setCore (c : CoreId) (x y : Core) : (s.setCore c x).setCore c y = s.setCore c y := by
  cases c <;> rfl

@[simp] theorem State.setCore_core (c : CoreId) : s.setCore c (s.core c) = s := by cases c <;> rfl

end Sys2Proof.Machine
end

