-- ==== Sys2Proof/Laws/Tbl.lean ====
section
/-! SUPPORT. What reading a sparse table gives after an insertion, a deletion or a write, and that each keeps the canonical
form. -/

namespace Sys2Proof.Machine

variable {α : Type}

/-! ### Reading after a change -/

theorem tblGet_tblDel (d : α) (t : List (Nat × α)) (k j : Nat) :
    tblGet d (tblDel t k) j = if k = j then d else tblGet d t j := by
  induction t with
  | nil => simp [tblDel, tblGet]
  | cons e t ih =>
    obtain ⟨k', v⟩ := e
    simp only [tblDel, tblGet]
    by_cases h : k' = k
    · subst h; by_cases h2 : k' = j <;> simp_all
    · by_cases h2 : k' = j
      · subst h2; simp [h, tblGet, Ne.symm h]
      · simp [h, h2, tblGet, ih]

theorem tblGet_tblIns (d : α) (t : List (Nat × α)) (k j : Nat) (v : α) :
    tblGet d (tblIns t k v) j = if k = j then v else tblGet d t j := by
  induction t with
  | nil => simp [tblIns, tblGet]
  | cons e t ih =>
    obtain ⟨k', v'⟩ := e
    simp only [tblIns]
    split
    · simp [tblGet]
    · split
      · rename_i h; subst h
        by_cases h2 : k = j <;> simp [tblGet, h2]
      · by_cases h2 : k' = j
        · subst h2; rename_i h; simp [tblGet, h]
        · simp [tblGet, h2, ih]

theorem tblGet_tblPut [DecidableEq α] (d : α) (t : List (Nat × α)) (k j : Nat) (v : α) :
    tblGet d (tblPut d t k v) j = if k = j then v else tblGet d t j := by
  unfold tblPut; split
  · rename_i h; rw [tblGet_tblDel, h]
  · exact tblGet_tblIns d t k j v

/-- A table whose unlisted keys read by a function of the key. -/
theorem tblGet_tblPut_fun [DecidableEq α] (d : Nat → α) (t : List (Nat × α)) (k j : Nat) (v : α) :
    tblGet (d j) (tblPut (d k) t k v) j = if k = j then v else tblGet (d j) t j := by
  by_cases h : k = j
  · subst h; rw [tblGet_tblPut]
  · simp only [h, if_false]; unfold tblPut; split
    · rw [tblGet_tblDel]; simp [h]
    · rw [tblGet_tblIns]; simp [h]

theorem tblFind_tblDel (t : List (Nat × α)) (k j : Nat) :
    tblFind (tblDel t k) j = if k = j then none else tblFind t j := by
  induction t with
  | nil => simp [tblDel, tblFind]
  | cons e t ih =>
    obtain ⟨k', v⟩ := e
    simp only [tblDel, tblFind]
    by_cases h : k' = k
    · subst h; by_cases h2 : k' = j <;> simp_all
    · by_cases h2 : k' = j
      · subst h2; simp [h, tblFind, Ne.symm h]
      · simp [h, h2, tblFind, ih]

theorem tblFind_tblIns (t : List (Nat × α)) (k j : Nat) (v : α) :
    tblFind (tblIns t k v) j = if k = j then some v else tblFind t j := by
  induction t with
  | nil => simp [tblIns, tblFind]
  | cons e t ih =>
    obtain ⟨k', v'⟩ := e
    simp only [tblIns]
    split
    · simp [tblFind]
    · split
      · rename_i h; subst h
        by_cases h2 : k = j <;> simp [tblFind, h2]
      · by_cases h2 : k' = j
        · subst h2; rename_i h; simp [tblFind, h]
        · simp [tblFind, h2, ih]

/-! ### Order -/

/-- Keys strictly rise, as a proposition on the list. -/
theorem tblSorted_iff (t : List (Nat × α)) : tblSorted t = true ↔ t.Pairwise (fun x y => x.1 < y.1) := by
  induction t with
  | nil => simp [tblSorted]
  | cons e t ih =>
    cases t with
    | nil => simp [tblSorted]
    | cons e' t =>
      obtain ⟨k, v⟩ := e
      obtain ⟨k', v'⟩ := e'
      simp only [tblSorted, Bool.and_eq_true, decide_eq_true_eq, ih, List.pairwise_cons, List.mem_cons, forall_eq_or_imp]
      constructor
      · rintro ⟨h, h1, h2⟩
        exact ⟨⟨h, fun a ha => Nat.lt_trans h (h1 a ha)⟩, h1, h2⟩
      · rintro ⟨⟨h, _⟩, h1, h2⟩
        exact ⟨h, h1, h2⟩

theorem mem_tblDel (t : List (Nat × α)) (k : Nat) (e : Nat × α) (h : e ∈ tblDel t k) : e ∈ t ∧ e.1 ≠ k := by
  induction t with
  | nil => simp [tblDel] at h
  | cons x t ih =>
    obtain ⟨k', v⟩ := x
    simp only [tblDel] at h
    split at h
    · exact ⟨List.mem_cons_of_mem _ (ih h).1, (ih h).2⟩
    · rename_i hk
      rcases List.mem_cons.mp h with rfl | h
      · exact ⟨List.mem_cons_self, hk⟩
      · exact ⟨List.mem_cons_of_mem _ (ih h).1, (ih h).2⟩

theorem mem_tblIns (t : List (Nat × α)) (k : Nat) (v : α) (e : Nat × α) (h : e ∈ tblIns t k v) : e = (k, v) ∨ e ∈ t := by
  induction t with
  | nil => simpa [tblIns] using h
  | cons x t ih =>
    obtain ⟨k', v'⟩ := x
    simp only [tblIns] at h
    split at h
    · simpa using h
    · split at h
      · rcases List.mem_cons.mp h with h | h
        · exact .inl h
        · exact .inr (List.mem_cons_of_mem _ h)
      · rcases List.mem_cons.mp h with h | h
        · exact .inr (h ▸ List.mem_cons_self)
        · rcases ih h with h | h
          · exact .inl h
          · exact .inr (List.mem_cons_of_mem _ h)

theorem pairwise_tblDel (t : List (Nat × α)) (k : Nat) (h : t.Pairwise (fun x y => x.1 < y.1)) :
    (tblDel t k).Pairwise (fun x y => x.1 < y.1) := by
  induction t with
  | nil => simp [tblDel]
  | cons x t ih =>
    obtain ⟨k', v⟩ := x
    rw [List.pairwise_cons] at h
    simp only [tblDel]
    split
    · exact ih h.2
    · exact List.pairwise_cons.mpr ⟨fun e he => h.1 e (mem_tblDel t k e he).1, ih h.2⟩

theorem pairwise_tblIns (t : List (Nat × α)) (k : Nat) (v : α) (h : t.Pairwise (fun x y => x.1 < y.1)) :
    (tblIns t k v).Pairwise (fun x y => x.1 < y.1) := by
  induction t with
  | nil => simp [tblIns]
  | cons x t ih =>
    obtain ⟨k', v'⟩ := x
    have h' := List.pairwise_cons.mp h
    simp only [tblIns]
    split
    · rename_i hlt
      refine List.pairwise_cons.mpr ⟨fun e he => ?_, h⟩
      rcases List.mem_cons.mp he with rfl | he
      · exact hlt
      · exact Nat.lt_trans hlt (h'.1 e he)
    · split
      · rename_i heq
        exact List.pairwise_cons.mpr ⟨fun e he => heq ▸ h'.1 e he, h'.2⟩
      · refine List.pairwise_cons.mpr ⟨fun e he => ?_, ih h'.2⟩
        rcases mem_tblIns t k v e he with rfl | he
        · show k' < k; omega
        · exact h'.1 e he

/-! ### The canonical form -/

/-- A write keeps the canonical form. -/
theorem canonical_tblPut [DecidableEq α] (d : Nat → α) (t : List (Nat × α)) (k : Nat) (v : α)
    (h : t.Pairwise (fun x y => x.1 < y.1) ∧ ∀ e ∈ t, e.2 ≠ d e.1) :
    (tblPut (d k) t k v).Pairwise (fun x y => x.1 < y.1) ∧ ∀ e ∈ tblPut (d k) t k v, e.2 ≠ d e.1 := by
  unfold tblPut; split
  · exact ⟨pairwise_tblDel t k h.1, fun e he => h.2 e (mem_tblDel t k e he).1⟩
  · rename_i hv
    refine ⟨pairwise_tblIns t k v h.1, fun e he => ?_⟩
    rcases mem_tblIns t k v e he with rfl | he
    · exact hv
    · exact h.2 e he

/-- A filter keeps it. -/
theorem canonical_filter (d : Nat → α) (t : List (Nat × α)) (p : Nat × α → Bool)
    (h : t.Pairwise (fun x y => x.1 < y.1) ∧ ∀ e ∈ t, e.2 ≠ d e.1) :
    (t.filter p).Pairwise (fun x y => x.1 < y.1) ∧ ∀ e ∈ t.filter p, e.2 ≠ d e.1 :=
  ⟨h.1.filter p, fun e he => h.2 e (List.mem_filter.mp he).1⟩

/-- Canonical tables that read alike are the same list. -/
theorem canonical_ext (d : Nat → α) (t u : List (Nat × α))
    (ht : t.Pairwise (fun x y => x.1 < y.1) ∧ ∀ e ∈ t, e.2 ≠ d e.1)
    (hu : u.Pairwise (fun x y => x.1 < y.1) ∧ ∀ e ∈ u, e.2 ≠ d e.1)
    (h : ∀ k, tblGet (d k) t k = tblGet (d k) u k) : t = u := by
  have above : ∀ (l : List (Nat × α)) (k : Nat), (∀ e ∈ l, k < e.1) → tblGet (d k) l k = d k := by
    intro l k hl
    induction l with
    | nil => rfl
    | cons e l ih =>
      obtain ⟨j, v⟩ := e
      have : j ≠ k := by have := hl (j, v) List.mem_cons_self; simp at this; omega
      simp [tblGet, this, ih (fun e he => hl e (List.mem_cons_of_mem _ he))]
  induction t generalizing u with
  | nil =>
    cases u with
    | nil => rfl
    | cons e u =>
      exact absurd (by simpa [tblGet] using (h e.1).symm) (hu.2 e List.mem_cons_self)
  | cons e t ih =>
    cases u with
    | nil => exact absurd (by simpa [tblGet] using h e.1) (ht.2 e List.mem_cons_self)
    | cons f u =>
      obtain ⟨k, v⟩ := e
      obtain ⟨j, w⟩ := f
      have h1 := List.pairwise_cons.mp ht.1
      have h2 := List.pairwise_cons.mp hu.1
      have hv := ht.2 (k, v) List.mem_cons_self
      have hw := hu.2 (j, w) List.mem_cons_self
      have hk := h k
      have hj := h j
      rcases Nat.lt_trichotomy k j with hlt | heq | hgt
      · rw [above ((j, w) :: u) k] at hk
        · exact absurd (by simpa [tblGet] using hk) hv
        · intro e he
          rcases List.mem_cons.mp he with rfl | he
          · exact hlt
          · exact Nat.lt_trans hlt (h2.1 e he)
      · subst heq
        have hvw : v = w := by simpa [tblGet] using hk
        subst hvw
        congr 1
        refine ih u ⟨h1.2, fun e he => ht.2 e (List.mem_cons_of_mem _ he)⟩
          ⟨h2.2, fun e he => hu.2 e (List.mem_cons_of_mem _ he)⟩ fun i => ?_
        by_cases hi : k = i
        · subst hi
          rw [above t k h1.1, above u k h2.1]
        · simpa [tblGet, hi] using h i
      · rw [above ((k, v) :: t) j] at hj
        · exact absurd (by simpa [tblGet] using hj.symm) hw
        · intro e he
          rcases List.mem_cons.mp he with rfl | he
          · exact hgt
          · exact Nat.lt_trans hgt (h1.1 e he)

end Sys2Proof.Machine
end

