-- ==== Sys2Proof/Laws/Regs.lean ====
section
/-! SUPPORT. Registers, fields and memory: reading after writing, and the canonical form. -/

namespace Sys2Proof.Machine
open Sys2Proof

variable (s : State)

/-! ### Registers -/

/-- A register reads what was written to it, and no other register changes. -/
theorem State.rd_wr (a b : Nat) (v : Word) : (s.wr a v).rd b = if a = b then v else s.rd b :=
  tblGet_tblPut_fun resetOf s.regs a b v

@[simp] theorem State.rd_wr_same (a : Nat) (v : Word) : (s.wr a v).rd a = v := by simp [State.rd_wr]

theorem State.rd_wr_other {a b : Nat} (h : a ≠ b) (v : Word) : (s.wr a v).rd b = s.rd b := by simp [State.rd_wr, h]

theorem State.rd_setFld (f : Fld) (v b : Nat) :
    (s.setFld f v).rd b = if f.addr = b then putBits (s.rd f.addr) f.hi f.lo v else s.rd b :=
  s.rd_wr _ _ _

theorem State.rd_setFld_other {f : Fld} {b : Nat} (h : f.addr ≠ b) (v : Nat) : (s.setFld f v).rd b = s.rd b := by
  simp [State.rd_setFld, h]

/-! ### Bit fields -/

theorem bitsOf_testBit (n hi lo i : Nat) :
    (bitsOf n hi lo).testBit i = (decide (i < hi + 1 - lo) && n.testBit (lo + i)) := by
  simp [bitsOf, Nat.testBit_mod_two_pow, Nat.testBit_shiftRight]

theorem bitsOf_lt (n hi lo : Nat) : bitsOf n hi lo < 2 ^ (hi + 1 - lo) := Nat.mod_lt _ (Nat.two_pow_pos _)

/-- A number as what lies above a field, the field, and what lies below it. -/
theorem split_field (n hi lo : Nat) (h : lo ≤ hi) :
    n = 2 ^ lo * (2 ^ (hi + 1 - lo) * (n / 2 ^ (hi + 1)) + bitsOf n hi lo) + n % 2 ^ lo := by
  have e : 2 ^ (hi + 1) = 2 ^ lo * 2 ^ (hi + 1 - lo) := by rw [← Nat.pow_add]; congr 1; omega
  have h1 : bitsOf n hi lo = n / 2 ^ lo % 2 ^ (hi + 1 - lo) := by simp [bitsOf, Nat.shiftRight_eq_div_pow]
  rw [h1, e, ← Nat.div_div_eq_div_mul, Nat.div_add_mod, Nat.div_add_mod]

/-- A word with a field replaced, as a number. -/
theorem putBits_toNat (x : Word) (hi lo v : Nat) (h : lo ≤ hi) (hh : hi < 32) :
    (putBits x hi lo v).toNat =
      2 ^ lo * (2 ^ (hi + 1 - lo) * (x.toNat / 2 ^ (hi + 1)) + v % 2 ^ (hi + 1 - lo)) + x.toNat % 2 ^ lo := by
  have hs := split_field x.toNat hi lo h
  have hv : v % 2 ^ (hi + 1 - lo) < 2 ^ (hi + 1 - lo) := Nat.mod_lt _ (Nat.two_pow_pos _)
  have hl : x.toNat % 2 ^ lo < 2 ^ lo := Nat.mod_lt _ (Nat.two_pow_pos _)
  have e : 2 ^ (hi + 1) = 2 ^ lo * 2 ^ (hi + 1 - lo) := by rw [← Nat.pow_add]; congr 1; omega
  have hq : x.toNat / 2 ^ (hi + 1) < 2 ^ (31 - hi) := by
    rw [Nat.div_lt_iff_lt_mul (Nat.two_pow_pos _), ← Nat.pow_add]
    have := x.isLt; rwa [show 31 - hi + (hi + 1) = 32 by omega]
  unfold putBits
  generalize x.toNat / 2 ^ (hi + 1) = q at *
  generalize x.toNat % 2 ^ lo = l at *
  generalize bitsOf x.toNat hi lo = f at *
  generalize v % 2 ^ (hi + 1 - lo) = w at *
  generalize hA : 2 ^ (hi + 1 - lo) = A at *
  generalize hB : 2 ^ lo = B at *
  rw [BitVec.toNat_ofNat, hs]
  have h1 : B * (A * q + f) + l - f * B + w * B = B * (A * q + w) + l := by
    have : f * B ≤ B * (A * q + f) + l := by rw [Nat.mul_add, Nat.mul_comm f B]; omega
    rw [Nat.mul_add, Nat.mul_add, Nat.mul_comm f B, Nat.mul_comm w B]; omega
  rw [h1, Nat.mod_eq_of_lt]
  have h2 : A * q + w + 1 ≤ A * (q + 1) := by rw [Nat.mul_add]; omega
  have h3 : A * (q + 1) ≤ A * 2 ^ (31 - hi) := Nat.mul_le_mul_left _ hq
  have h4 : B * (A * q + w) + l < B * (A * q + w + 1) := by rw [Nat.mul_add B _ 1]; omega
  have h5 : B * (A * q + w + 1) ≤ B * (A * 2 ^ (31 - hi)) := Nat.mul_le_mul_left _ (Nat.le_trans h2 h3)
  have h6 : B * (A * 2 ^ (31 - hi)) = 2 ^ 32 := by
    rw [← Nat.mul_assoc, ← e, ← Nat.pow_add]; congr 1; omega
  omega

/-- Bit by bit: the field holds the new value, every other bit is as before. -/
theorem putBits_testBit (x : Word) (hi lo v i : Nat) (h : lo ≤ hi) (hh : hi < 32) :
    (putBits x hi lo v).toNat.testBit i =
      if lo ≤ i ∧ i ≤ hi then (v % 2 ^ (hi + 1 - lo)).testBit (i - lo) else x.toNat.testBit i := by
  have hl : x.toNat % 2 ^ lo < 2 ^ lo := Nat.mod_lt _ (Nat.two_pow_pos _)
  have hv : v % 2 ^ (hi + 1 - lo) < 2 ^ (hi + 1 - lo) := Nat.mod_lt _ (Nat.two_pow_pos _)
  rw [putBits_toNat x hi lo v h hh, Nat.testBit_two_pow_mul_add _ hl]
  by_cases h1 : i < lo
  · have h2 : ¬(lo ≤ i ∧ i ≤ hi) := by omega
    simp [h1, h2, Nat.testBit_mod_two_pow]
  · rw [if_neg h1, Nat.testBit_two_pow_mul_add _ hv]
    by_cases h2 : i ≤ hi
    · rw [if_pos (by omega), if_pos (by omega)]
    · rw [if_neg (by omega), if_neg (by omega), Nat.testBit_div_two_pow]
      congr 1; omega

/-- The field replaced reads the new value, cut to its width. -/
theorem bitsOf_putBits (x : Word) (hi lo v : Nat) (h : lo ≤ hi) (hh : hi < 32) :
    bitsOf (putBits x hi lo v).toNat hi lo = v % 2 ^ (hi + 1 - lo) := by
  refine Nat.eq_of_testBit_eq fun i => ?_
  rw [bitsOf_testBit, putBits_testBit x hi lo v _ h hh]
  by_cases h1 : i < hi + 1 - lo
  · rw [if_pos (by omega)]; simp [h1]
  · simp [h1, Nat.testBit_mod_two_pow]

/-- A field apart from the one replaced is as before. -/
theorem bitsOf_putBits_other (x : Word) (hi lo v hi' lo' : Nat) (h : lo ≤ hi) (hh : hi < 32) (hd : hi' < lo ∨ hi < lo') :
    bitsOf (putBits x hi lo v).toNat hi' lo' = bitsOf x.toNat hi' lo' := by
  refine Nat.eq_of_testBit_eq fun i => ?_
  rw [bitsOf_testBit, bitsOf_testBit, putBits_testBit x hi lo v _ h hh]
  by_cases h1 : i < hi' + 1 - lo'
  · rw [if_neg (by omega)]
  · simp [h1]

/-- A field of a register: its bits in order and within the word. -/
def Fld.ok (f : Fld) : Bool := decide (f.lo ≤ f.hi) && decide (f.hi < 32)

/-- Two fields share no bit. -/
def Fld.apart (f g : Fld) : Bool := f.addr != g.addr || decide (g.hi < f.lo) || decide (f.hi < g.lo)

theorem State.fld_setFld_same (f : Fld) (v : Nat) (h : f.ok = true) :
    (s.setFld f v).fld f = v % 2 ^ (f.hi + 1 - f.lo) := by
  simp only [Fld.ok, Bool.and_eq_true, decide_eq_true_eq] at h
  simp [State.fld, State.setFld, bitsOf_putBits _ _ _ _ h.1 h.2]

theorem State.fld_setFld_apart (f g : Fld) (v : Nat) (h : f.ok = true) (ha : f.apart g = true) :
    (s.setFld f v).fld g = s.fld g := by
  simp only [Fld.ok, Bool.and_eq_true, decide_eq_true_eq] at h
  simp only [Fld.apart, Bool.or_eq_true, bne_iff_ne, decide_eq_true_eq] at ha
  by_cases he : f.addr = g.addr
  · have hd : g.hi < f.lo ∨ f.hi < g.lo := by
      rcases ha with (ha | ha) | ha
      · exact absurd he ha
      · exact .inl ha
      · exact .inr ha
    simp only [State.fld, State.setFld, ← he, State.rd_wr_same]
    exact bitsOf_putBits_other _ _ _ _ _ _ h.1 h.2 hd
  · simp [State.fld, State.setFld, State.rd_wr_other _ he]

theorem State.fld_wr_other (f : Fld) {a : Nat} (v : Word) (h : a ≠ f.addr) : (s.wr a v).fld f = s.fld f := by
  simp [State.fld, State.rd_wr_other _ h]

theorem State.fld_lt (f : Fld) : s.fld f < 2 ^ (f.hi + 1 - f.lo) := bitsOf_lt _ _ _

/-! ### Memory -/

/-- A byte reads what was stored to it, and no other byte changes. -/
theorem State.memRd_memWr (a b : Nat) (x : Byte) : (s.memWr a x).memRd b = if a = b then x else s.memRd b :=
  tblGet_tblPut 0 s.mem a b x

/-- Bytes stored from `a` up: those addresses read them, every other address reads as before. -/
theorem State.memRd_memPut (a b : Nat) (l : List Byte) :
    (s.memPut a l).memRd b = if h : a ≤ b ∧ b < a + l.length then l[b - a]'(by omega) else s.memRd b := by
  induction l generalizing s a with
  | nil => rw [dif_neg (by simp only [List.length_nil]; omega)]; rfl
  | cons x l ih =>
    simp only [State.memPut, ih, List.length_cons]
    by_cases h1 : a + 1 ≤ b ∧ b < a + 1 + l.length
    · rw [dif_pos h1, dif_pos (by omega)]
      have : b - a = b - (a + 1) + 1 := by omega
      simp [this]
    · rw [dif_neg h1, State.memRd_memWr]
      by_cases h2 : a = b
      · subst h2; simp
      · rw [if_neg h2, dif_neg (by omega)]

theorem State.memRd_memPut_outside {a b : Nat} {l : List Byte} (h : b < a ∨ a + l.length ≤ b) :
    (s.memPut a l).memRd b = s.memRd b := by
  rw [State.memRd_memPut, dif_neg (by omega)]

theorem leBytes_length (n x : Nat) : (leBytes n x).length = n := by
  induction n generalizing x with
  | zero => rfl
  | succ n ih => simp [leBytes, ih]

theorem State.memRd_memPutLe_outside {a b n x : Nat} (h : b < a ∨ a + n ≤ b) :
    (s.memPutLe a n x).memRd b = s.memRd b :=
  s.memRd_memPut_outside (by rw [leBytes_length]; exact h)

/-! ### The canonical form (R5, R330) -/

/-- Memory operations keep the canonical form. -/
theorem State.memWr_wf (a : Nat) (x : Byte) (h : Memory.wf s.mem) : Memory.wf (s.memWr a x).mem :=
  canonical_tblPut (fun _ => 0) s.mem a x h

theorem State.memPut_wf (a : Nat) (l : List Byte) (h : Memory.wf s.mem) : Memory.wf (s.memPut a l).mem := by
  induction l generalizing s a with
  | nil => exact h
  | cons x l ih => exact ih (s.memWr a x) (a + 1) (s.memWr_wf a x h)

theorem State.memPutLe_wf (a n x : Nat) (h : Memory.wf s.mem) : Memory.wf (s.memPutLe a n x).mem :=
  s.memPut_wf a _ h

/-- A register write keeps the store canonical. -/
theorem State.wr_wf (a : Nat) (v : Word) (h : Regs.wf s.regs) : Regs.wf (s.wr a v).regs :=
  canonical_tblPut resetOf s.regs a v h

end Sys2Proof.Machine
end

