-- ==== Sys2Proof/Laws/Vm.lean ====
section
/-! SUPPORT. What the operations of an instruction in progress answer: sequencing, the core, the stacks where their caches
serve them, literals, and the legality checks. -/

namespace Sys2Proof.Machine
open Sys2Proof

/-! ### Sequencing -/

theorem vm_bind_ok {α β : Type} {m : Vm α} {f : α → Vm β} {s s1 : State} {a : α} (h : m.run s = .ok a s1) :
    (m >>= f).run s = (f a).run s1 := by
  simp only [EStateM.run, bind, EStateM.bind] at h ⊢
  rw [h]

theorem vm_bind_error {α β : Type} {m : Vm α} {f : α → Vm β} {s s1 : State} {t : Trap} (h : m.run s = .error t s1) :
    (m >>= f).run s = .error t s1 := by
  simp only [EStateM.run, bind, EStateM.bind] at h ⊢
  rw [h]

@[simp] theorem vm_pure_run {α : Type} (a : α) (s : State) : (pure a : Vm α).run s = .ok a s := rfl
@[simp] theorem vm_throw_run {α : Type} (t : Trap) (s : State) : (throw t : Vm α).run s = .error t s := rfl
@[simp] theorem vm_get_run (s : State) : (get : Vm State).run s = .ok s s := rfl
@[simp] theorem vm_modify_run (g : State → State) (s : State) : (modify g : Vm Unit).run s = .ok () (g s) := rfl
@[simp] theorem vmCore_run (c : CoreId) (s : State) : (vmCore c).run s = .ok (s.core c) s := rfl
@[simp] theorem vmMod_run (c : CoreId) (g : Core → Core) (s : State) : (vmMod c g).run s = .ok () (s.modCore c g) := rfl
@[simp] theorem vmRaise_run {α : Type} (vec info : Nat) (s : State) :
    (vmRaise vec info : Vm α).run s = .error (.exc vec info 0 false) s := rfl

theorem vm_bind_core {β : Type} (c : CoreId) (f : Core → Vm β) (s : State) :
    (vmCore c >>= f).run s = (f (s.core c)).run s := rfl

theorem vm_bind_mod {β : Type} (c : CoreId) (g : Core → Core) (f : Unit → Vm β) (s : State) :
    (vmMod c g >>= f).run s = (f ()).run (s.modCore c g) := rfl

theorem vm_bind_get {β : Type} (f : State → Vm β) (s : State) : ((get : Vm State) >>= f).run s = (f s).run s := rfl

theorem vm_bind_pure {α β : Type} (a : α) (f : α → Vm β) (s : State) : ((pure a : Vm α) >>= f).run s = (f a).run s := rfl

/-! ### Banks -/

theorem Core.bankAt_bankNo (x : Core) : x.bankAt x.bankNo = x.bank := rfl

theorem Core.setBankAt_bankNo (x : Core) (b : Bank) : x.setBankAt x.bankNo b = x.setBank b := rfl

theorem Core.setBank_psw (x : Core) (b : Bank) : (x.setBank b).psw = x.psw := by unfold Core.setBank; split <;> rfl

theorem Core.setBank_bankNo (x : Core) (b : Bank) : (x.setBank b).bankNo = x.bankNo := by
  unfold Core.bankNo; rw [Core.setBank_psw]

theorem Core.setBank_bank (x : Core) (b : Bank) : (x.setBank b).bank = b := by
  have h := Core.setBank_bankNo x b
  unfold Core.bank; rw [h]; unfold Core.setBank
  rcases hb : x.bankNo with _ | _ | n <;> simp

theorem Core.setBank_setBank (x : Core) (a b : Bank) : (x.setBank a).setBank b = x.setBank b := by
  have h := Core.setBank_bankNo x a
  rcases hb : x.bankNo with _ | _ | n <;> rw [hb] at h <;> rw [Core.setBank, h] <;> simp [Core.setBank, hb]

theorem Core.setBank_self (x : Core) : x.setBank x.bank = x := by
  unfold Core.setBank Core.bank
  rcases hb : x.bankNo with _ | _ | n <;> simp

theorem State.modCore_eq (s : State) (c : CoreId) (g : Core → Core) : s.modCore c g = s.setCore c (g (s.core c)) := rfl

/-! ### The data stack in use, where the cache serves it (R305, R306) -/

/-- The core with another cache of its data stack. -/
def Core.withCache (x : Core) (l : List Word) : Core := x.setBank { x.bank with d := { x.bank.d with cache := l } }

@[simp] theorem Core.withCache_cache (x : Core) (l : List Word) : (x.withCache l).bank.d.cache = l := by
  simp [Core.withCache, Core.setBank_bank]

@[simp] theorem Core.withCache_withCache (x : Core) (l m : List Word) : (x.withCache l).withCache m = x.withCache m := by
  simp [Core.withCache, Core.setBank_bank, Core.setBank_setBank]

theorem Core.withCache_self (x : Core) : x.withCache x.bank.d.cache = x := Core.setBank_self x

theorem Core.setStk_data (x : Core) (k : Stk) : x.setStk x.bankNo .data k = x.setBank { x.bank with d := k } := rfl

theorem vmPop_cached (c : CoreId) (s : State) (w : Word) (l : List Word) (h : (s.core c).bank.d.cache = w :: l) :
    (vmPop c).run s = .ok w (s.setCore c ((s.core c).withCache l)) := by
  have hk : ((s.core c).stk (s.core c).bankNo .data).cache = w :: l := h
  show (vmPopFrom c (s.core c).bankNo .data).run s = _
  unfold vmPopFrom
  rw [vm_bind_core]
  simp only [hk]
  rfl

theorem vmPush_room (c : CoreId) (s : State) (w : Word) (h : (s.core c).bank.d.cache.length < 16) :
    (vmPush c w).run s = .ok () (s.setCore c ((s.core c).withCache (w :: (s.core c).bank.d.cache))) := by
  have hk : ¬ StkSel.data.cap ≤ ((s.core c).stk (s.core c).bankNo .data).cache.length := by
    show ¬ 16 ≤ (s.core c).bank.d.cache.length; omega
  show (vmPushTo c (s.core c).bankNo .data w).run s = _
  unfold vmPushTo
  rw [vm_bind_core]
  simp only [hk, if_false]
  rfl

theorem vmPopN_cached (c : CoreId) (s : State) (l m : List Word) (h : (s.core c).bank.d.cache = l ++ m) :
    (vmPopN c l.length).run s = .ok l.reverse (s.setCore c ((s.core c).withCache m)) := by
  induction l generalizing s with
  | nil =>
    simp only [List.nil_append] at h
    subst h
    simp only [List.length_nil, vmPopN, Core.withCache_self, State.setCore_core]
    rfl
  | cons w l ih =>
    simp only [List.length_cons, vmPopN]
    rw [vm_bind_ok (vmPop_cached c s w _ h), vm_bind_ok (ih _ (by simp))]
    simp

theorem vmPushAll_room (c : CoreId) (s : State) (l : List Word) (h : (s.core c).bank.d.cache.length + l.length ≤ 16) :
    (vmPushAll c l).run s = .ok () (s.setCore c ((s.core c).withCache (l.reverse ++ (s.core c).bank.d.cache))) := by
  induction l generalizing s with
  | nil => simp [vmPushAll, Core.withCache_self]
  | cons w l ih =>
    simp only [List.length_cons] at h
    simp only [vmPushAll]
    rw [vm_bind_ok (vmPush_room c s w (by omega)), ih _ (by simp; omega)]
    simp

/-! ### Literals (R310) -/

theorem vmOp_popped (c : CoreId) (s : State) (w : Word) (l : List Word) (hl : (s.core c).bank.lv = false)
    (h : (s.core c).bank.d.cache = w :: l) : (vmOp c).run s = .ok w (s.setCore c ((s.core c).withCache l)) := by
  unfold vmOp
  have h1 : (vmLit c).run s = .ok none s := by
    unfold vmLit; rw [vm_bind_core]; simp only [hl, Bool.false_eq_true, if_false]; rfl
  rw [vm_bind_ok h1]
  exact vmPop_cached c s w l h

theorem vmOp_literal (c : CoreId) (s : State) (hl : (s.core c).bank.lv = true) :
    (vmOp c).run s = .ok (s.core c).bank.la (s.setCore c ((s.core c).setBank { (s.core c).bank with lv := false })) := by
  unfold vmOp
  have h1 : (vmLit c).run s = .ok (some (s.core c).bank.la)
      (s.setCore c ((s.core c).setBank { (s.core c).bank with lv := false })) := by
    unfold vmLit; rw [vm_bind_core]; simp only [hl, if_true]; rfl
  rw [vm_bind_ok h1]
  rfl

end Sys2Proof.Machine
end

