-- ==== Sys2Proof/Laws/Volac.lean ====
section
/-! SUPPORT. The course of one instruction: what a fetch, the legality checks, the operands and an ALU instruction answer, and
how a body that completes gives the command's outcome. -/

namespace Sys2Proof.Machine
open Sys2Proof

theorem vmLegal_plain (c : CoreId) (p : Prefix) (op : VOp) (s : State) (hk : op.kOnly = false)
    (hu : ∀ e b, op ≠ .undef e b) (h : p = .none ∨ (p.la.isSome = true ∧ op.lit ≠ .none)) :
    (vmLegal c p op).run s = .ok () s := by
  unfold vmLegal
  rw [vm_bind_core]
  have hd : ∀ n, p ≠ .double n := by rintro n rfl; simp [Prefix.la] at h
  split
  · exact absurd rfl (hd _)
  · exact absurd rfl (hu _ _)
  · have : (decide (p ≠ .none) && decide (op.lit = .none)) = false := by
      rcases h with h | h <;> simp [h]
    simp [hk] ; 
    rcases h with h | h <;> simp [h]

theorem VOp.isAlu_kOnly {op : VOp} (h : op.isAlu = true) : op.kOnly = false := by
  cases op <;> first | rfl | cases h
theorem VOp.isAlu_undef {op : VOp} (h : op.isAlu = true) : ∀ e b, op ≠ .undef e b := by
  rintro e b rfl; cases h
theorem VOp.isAlu_rep {op : VOp} (h : op.isAlu = true) : op ≠ .rep := by
  rintro rfl; cases h
theorem repLook_none {op : VOp} (h : op ≠ .rep) (t) : repLook op t = 0 := by
  unfold repLook; split
  · exact absurd rfl h
  · rfl

theorem runInstr_ok (c : CoreId) (p : Prefix) (op : VOp) (t : Option VOp) (s f g : State) (post : Post) 
   (he : s.executes c = true) (hh : (s.core c).dbgHalt = false) (hr : (s.core c).ready ≤ s.clk.now)
   (hf : (vmFetch c (s.core c).pc.toNat (instrLen p op + repLook op t)).run (s.setCore c (s.startCore c)) = .ok () f)
   (hl : (vmLegal c p op).run f = .ok () f) (hrpt : bitAt (s.core c).psw.toNat 2 = false)
   (hb : (do
      match p.la with
      | some w => vmModBank c (fun b => { b with la := w, lv := true })
      | none => pure ()
      vmBody c op ((s.core c).pc + BitVec.ofNat 32 (instrLen p op)) t : Vm Post).run (f.modCore c (fun y => { y with pc := (s.core c).pc + BitVec.ofNat 32 (instrLen p op), ready := y.ready + p.cycles + op.cycles })) = .ok post g) :
   runInstr c p op t s = .next ((g.drainStores c).post c post) := by
  unfold runInstr
  simp only [he, hh, Bool.not_false, Bool.and_self, if_true]
  unfold State.instr
  have hadv : s.advanceTo (s.core c).ready = s := by
    unfold State.advanceTo; rw [if_neg (by omega)]
  rw [hadv]
  have hrun : (vmInstr c p op t).run (s.setCore c (s.startCore c)) = .ok post g := by
    unfold vmInstr
    rw [vm_bind_core]
    simp only [State.core_setCore_self]
    have e1 : (s.startCore c).pc = (s.core c).pc := rfl
    have e2 : (s.startCore c).psw = (s.core c).psw := rfl
    rw [e1, e2]
    rw [vm_bind_ok hf, vm_bind_ok hl, vm_bind_mod]
    simp only [hrpt]
    cases hp : p.la with
    | none => 
      rw [hp] at hb
      have hb' : (vmBody c op ((s.core c).pc + BitVec.ofNat 32 (instrLen p op)) t).run _ = _ := hb
      show ((vmBody c op _ t) >>= _).run _ = _
      rw [vm_bind_ok hb']
      rfl
    | some w =>
      rw [hp] at hb
      have hb' : (vmBody c op ((s.core c).pc + BitVec.ofNat 32 (instrLen p op)) t).run _ = _ := hb
      show ((vmBody c op _ t) >>= _).run _ = _
      rw [vm_bind_ok hb']
      rfl
  simp only [hrun]


theorem vmBody_alu (c : CoreId) (op : VOp) (h : op.isAlu = true) (next t) : 
   vmBody c op next t = (do vmAlu c op; return .none : Vm Post) := by
  unfold vmBody; simp [h]

theorem vmOperands_lit (c op) (s : State) (l m w) (hl : op.lit = .op) (hlv : (s.core c).bank.lv = true) (hla : (s.core c).bank.la = w)
   (h : (s.core c).bank.d.cache = l ++ m) (hn : l.length = op.pops - 1) :
   (vmOperands c op).run s = .ok (l.reverse ++ [w]) (s.setCore c (((s.core c).setBank { (s.core c).bank with lv := false }).withCache m)) := by
  unfold vmOperands
  simp only [hl, if_true]
  rw [vm_bind_ok (vmOp_literal c s hlv), ← hn, vm_bind_ok (vmPopN_cached c _ l m (by simp [Core.setBank_bank, h]))]
  simp [hla]

theorem vmOperands_pop (c op) (s : State) (l m) (hlv : (s.core c).bank.lv = false)
   (h : (s.core c).bank.d.cache = l ++ m) (hn : l.length = op.pops) (hl : op.lit = .op → l ≠ []):
   (vmOperands c op).run s = .ok (l.reverse) (s.setCore c ((s.core c).withCache m)) := by
  unfold vmOperands
  by_cases h1 : op.lit = .op
  · simp only [h1, if_true]
    obtain ⟨w, l, rfl⟩ : ∃ w l', l = w :: l' := by
      cases l with
      | nil => exact absurd rfl (hl h1)
      | cons w l => exact ⟨w, l, rfl⟩
    rw [vm_bind_ok (vmOp_popped c s w (l ++ m) hlv h), ← hn]
    rw [show (w :: l).length - 1 = l.length by simp]
    rw [vm_bind_ok (vmPopN_cached c _ l m (by simp))]
    simp
  · simp only [h1, if_false, ← hn]
    exact vmPopN_cached c s l m h

theorem vmAlu_ok (c op) (s s1 : State) (l r : List Word)
   (ho : (vmOperands c op).run s = .ok l s1)
   (hd : op.divides = true → l.getLast? ≠ some 0)
   (ha : op.alu (bitAt (s.core c).psw.toNat 0) (s.core c).crccfg (s.core c).crcpoly l = some r)
   (hr : (s1.core c).bank.d.cache.length + r.length ≤ 16) :
   (vmAlu c op).run s = .ok () (s1.setCore c ({s1.core c with psw := ((s1.core c).psw &&& ~~~(1 : Word)) ||| boolWord (op.carry (bitAt (s.core c).psw.toNat 0) l)}.withCache (r.reverse ++ (s1.core c).bank.d.cache))) := by
  unfold vmAlu
  rw [vm_bind_core, vm_bind_ok ho]
  have : (op.divides && l.getLast? == some 0) = false := by
    cases hh : op.divides with
    | false => rfl
    | true => simpa using hd hh
  simp only [this, Bool.false_eq_true, if_false, ha]
  show (vmMod c _ >>= _).run s1 = _
  rw [vm_bind_mod]
  have hps : ∀ (w : Word) (b : Bool), bitsOf ((w &&& ~~~(1 : Word)) ||| boolWord b).toNat 9 8 = bitsOf w.toNat 9 8 := by
    intro w b
    refine Nat.eq_of_testBit_eq fun i => ?_
    rw [bitsOf_testBit, bitsOf_testBit]
    by_cases hi : i < 9 + 1 - 8
    · have hw : (~~~(1 : Word)).toNat.testBit (8 + i) = true := by
        have : i = 0 ∨ i = 1 := by omega
        rcases this with rfl | rfl <;> decide
      have hw2 : (boolWord b).toNat.testBit (8 + i) = false := by
        have : i = 0 ∨ i = 1 := by omega
        rcases this with rfl | rfl <;> cases b <;> decide
      rw [BitVec.toNat_or, BitVec.toNat_and, Nat.testBit_or, Nat.testBit_and, hw, hw2]; simp
    · simp [hi]
  have hb : ({s1.core c with psw := ((s1.core c).psw &&& ~~~(1 : Word)) ||| boolWord (op.carry (bitAt (s.core c).psw.toNat 0) l)} : Core).bank = (s1.core c).bank := by
    unfold Core.bank Core.bankNo
    simp only [hps]
  rw [vmPushAll_room c _ r (by rw [State.core_modCore_self, hb]; exact hr), State.core_modCore_self, hb, State.modCore_eq, State.setCore_setCore]

theorem repLook_alu {op : VOp} (h : op.isAlu = true) (t) : repLook op t = 0 := repLook_none (VOp.isAlu_rep h) t


theorem memPut_core (s : State) (c : CoreId) (a : Nat) (l : List Byte) : (s.memPut a l).core c = s.core c := by
  induction l generalizing s a with
  | nil => rfl
  | cons b l ih => simp only [State.memPut, ih]; cases c <;> rfl

theorem pteWr_core (s : State) (c : CoreId) (a v : Nat) : (s.pteWr a v).core c = s.core c := by
  have h : ∀ (u : State) m, ({ u with mmu := m } : State).core c = u.core c := by intro u m; cases c <;> rfl
  unfold State.pteWr; simp only [h]; exact memPut_core s c a _

theorem usePte_core (s : State) (c : CoreId) (k : Acc) (e : TlbEnt) : (s.usePte k e).core c = s.core c := by
  have h : ∀ (u : State) m, ({ u with mmu := m } : State).core c = u.core c := by intro u m; cases c <;> rfl
  unfold State.usePte
  simp only [h]
  repeat' split
  all_goals simp [pteWr_core]

theorem translate_core (s : State) (c : CoreId) (o n l1 : Nat) (b : Bool) (k : Acc) (col : Nat → Option Nat) (a : Nat) :
   (s.translate o n l1 b k col a).2.core c = s.core c := by
  have h : ∀ (u : State) m, ({ u with mmu := m } : State).core c = u.core c := by intro u m; cases c <;> rfl
  unfold State.translate
  split
  · rfl
  · split
    · exact usePte_core _ _ _ _
    · split <;> simp [h]
    · rfl


theorem vmMemFault_run {α : Type} (c : CoreId) (n : Nat) (k : Acc) (a vec cause : Nat) (s : State) :
    ∃ t s1, (vmMemFault c n k a vec cause : Vm α).run s = .error t s1 := by
  unfold vmMemFault
  by_cases h : vec ≠ vecBus
  · rw [if_pos h]; exact ⟨_, _, rfl⟩
  · rw [if_neg h]; exact ⟨_, _, rfl⟩

/-- An access that succeeds changes nothing of the core but the cycles spent. -/
theorem vmAddr_core (c : CoreId) (n : Nat) (k : Acc) (a pa : Nat) (s f : State) (h : (vmAddr c n k a).run s = .ok pa f) :
    f.core c = { s.core c with ready := (f.core c).ready } := by
  have hno : ∀ (m vec cause : Nat) (u : State), (vmMemFault c m k a vec cause : Vm Nat).run u ≠ .ok pa f := by
    intro m vec cause u hu
    obtain ⟨t, s1, e⟩ := vmMemFault_run (α := Nat) c m k a vec cause u
    rw [e] at hu; cases hu
  unfold vmAddr at h
  rw [vm_bind_get] at h
  dsimp only at h
  generalize (decide (n = 2) && (if k = .fetch then !(ownMem c a) else decide (regionOf a = .paged))) = b at h
  cases b with
  | true => rw [if_pos rfl] at h; exact absurd h (hno _ _ _ _)
  | false =>
    simp only [Bool.false_eq_true, if_false] at h
    by_cases hr : regionOf a = .paged
    · simp only [hr, if_true] at h
      cases hs : s.space c n with
      | none => rw [hs] at h; exact absurd h (hno _ _ _ _)
      | some ml =>
        obtain ⟨m, l1⟩ := ml
        rw [hs] at h
        dsimp only at h
        have hc := translate_core s c (coreNum c) m l1 (n == 0) k (s.kernelColumn c k) a
        generalize s.translate (coreNum c) m l1 (n == 0) k (s.kernelColumn c k) a = t at h hc
        obtain ⟨x, s1⟩ := t
        have e : ∀ (g : Unit → Vm Nat), ((set s1 : Vm Unit) >>= g).run s = (g ()).run s1 := fun _ => rfl
        rw [e] at h
        dsimp only at h hc
        cases x with
        | ok p =>
          dsimp only at h
          split at h
          · cases h; simp [State.modCore_eq, ← hc]
          · cases h; simp [← hc]
        | bad v cause => exact absurd h (hno _ _ _ _)
        | miss p => cases h
    · simp only [hr, if_false] at h
      generalize (if n = 0 then taskColumn a else s.kernelColumn c k a) = o at h
      cases o with
      | some v => exact absurd h (hno _ _ _ _)
      | none => cases h; rfl

theorem vmPoison_ok (c : CoreId) (n : Nat) (k : Acc) (a pa : Nat) (s f : State)
    (h : (vmPoison c n k a pa).run s = .ok () f) : f = s ∧ s.poisoned pa = false := by
  unfold vmPoison at h
  rw [vm_bind_get] at h
  split at h
  · split at h
    · cases h
    · rename_i hp _ _
      obtain ⟨t, s1, e⟩ := vmMemFault_run (α := Unit) c (s.spaceId c n) k a vecEcc 0 (s.uncorrRead pa)
      change (vmMemFault c (s.spaceId c n) k a vecEcc 0 : Vm Unit).run (s.uncorrRead pa) = _ at h
      rw [e] at h; cases h
  · rename_i hp
    cases h; exact ⟨rfl, by simpa using hp⟩

theorem vmAccess_core (c : CoreId) (n : Nat) (k : Acc) (a pa : Nat) (s f : State) (h : (vmAccess c n k a).run s = .ok pa f) :
    f.core c = { s.core c with ready := (f.core c).ready } := by
  unfold vmAccess at h
  cases ha : (vmAddr c n k a).run s with
  | error t s1 => rw [vm_bind_error ha] at h; cases h
  | ok p s1 =>
    have h1 := vmAddr_core c n k a p s s1 ha
    rw [vm_bind_ok ha] at h
    by_cases hk : k ≠ .store
    · rw [if_pos hk] at h
      cases hp : (vmPoison c n k a p).run s1 with
      | error t s2 => rw [vm_bind_error hp] at h; cases h
      | ok u s2 =>
        rw [vm_bind_ok hp] at h
        obtain ⟨e, -⟩ := vmPoison_ok c n k a p s1 s2 hp
        cases h; rw [e]; exact h1
    · rw [if_neg hk] at h
      cases h; exact h1

theorem vmFetchByte_core (c : CoreId) (a : Nat) (s f : State) (h : (vmFetchByte c a).run s = .ok () f) :
    f.core c = { s.core c with ready := (f.core c).ready } := by
  unfold vmFetchByte at h
  rw [vm_bind_core] at h
  cases ha : (vmAccess c (s.core c).bankNo .fetch (a % 2 ^ 32)).run s with
  | error t s1 => rw [vm_bind_error ha] at h; cases h
  | ok p s1 =>
    rw [vm_bind_ok ha] at h; cases h
    exact vmAccess_core _ _ _ _ _ _ _ ha

/-- A fetch that succeeds changes nothing of the core but the cycles spent. -/
theorem vmFetch_core (c : CoreId) (pc n : Nat) (s f : State) (h : (vmFetch c pc n).run s = .ok () f) :
    f.core c = { s.core c with ready := (f.core c).ready } := by
  unfold vmFetch at h
  cases h1 : (vmFetchByte c pc).run s with
  | error t s1 => rw [vm_bind_error h1] at h; cases h
  | ok u s1 =>
    rw [vm_bind_ok h1] at h
    cases h2 : (vmFetchByte c (pc + n - 1)).run s1 with
    | error t s2 => rw [vm_bind_error h2] at h; cases h
    | ok u s2 =>
      rw [vm_bind_ok h2] at h
      have e1 := vmFetchByte_core c pc s s1 h1
      have e2 := vmFetchByte_core c (pc + n - 1) s1 s2 h2
      split at h <;> cases h
      · rw [State.core_set1, e2, e1]
      · rw [e2, e1]


theorem drainStores_nil (s : State) (c : CoreId) (h : (s.core c).sbuf = []) : s.drainStores c = s := by
  unfold State.drainStores
  rw [h, List.foldl_nil, State.modCore_eq]
  have : ({ s.core c with sbuf := [] } : Core) = s.core c := by rw [← h]
  rw [this, State.setCore_core]

theorem psw_carry_bank (w : Word) (b : Bool) :
    bitsOf ((w &&& ~~~(1 : Word)) ||| boolWord b).toNat 9 8 = bitsOf w.toNat 9 8 := by
  refine Nat.eq_of_testBit_eq fun i => ?_
  rw [bitsOf_testBit, bitsOf_testBit]
  by_cases hi : i < 9 + 1 - 8
  · have hw : (~~~(1 : Word)).toNat.testBit (8 + i) = true := by
      have : i = 0 ∨ i = 1 := by omega
      rcases this with rfl | rfl <;> decide
    have hw2 : (boolWord b).toNat.testBit (8 + i) = false := by
      have : i = 0 ∨ i = 1 := by omega
      rcases this with rfl | rfl <;> cases b <;> decide
    rw [BitVec.toNat_or, BitVec.toNat_and, Nat.testBit_or, Nat.testBit_and, hw, hw2]; simp
  · simp [hi]

theorem core_final (x : Core) (pc : Word) (rd : Nat) (psw : Word) (b : Bank) (l : List Word)
    (hp : bitsOf psw.toNat 9 8 = x.bankNo) :
    ({ (({ x with pc := pc, ready := rd } : Core).setBank b) with psw := psw } : Core).withCache l =
      { x.setBank { b with d := { b.d with cache := l } } with pc := pc, psw := psw, ready := rd } := by
  unfold Core.withCache Core.setBank Core.bank
  have h1 : ∀ y : Core, y.bankNo = bitsOf y.psw.toNat 9 8 := fun _ => rfl
  rcases hb : x.bankNo with _ | _ | n <;> rw [hb] at hp <;> 
   · have h2 : ({ x with pc := pc, ready := rd } : Core).bankNo = x.bankNo := rfl
     simp only [h2, hb]
     simp [h1, hp]

end Sys2Proof.Machine
end

