-- ==== Sys2Proof/Tests/Slice0.lean ====
section
/-! SUPPORT. The modeller's own tests: ill-formed commands that well-formedness refuses, the spec's worked examples, and for
the statements one or more states at the boundaries of their ranges that meet the hypotheses of each clause together. Expected
values come from the spec; each test's name says which statement or check it belongs to. -/

namespace Sys2Proof.Tests
open Sys2Proof Sys2Proof.Machine
set_option maxRecDepth 40000
set_option Elab.async false

/-! ### Well-formedness: for each check a command that it refuses -/

theorem test_wf_requester : Requester.wf (.dma 16) = false ∧ Requester.wf (.dma 15) = true := by decide
theorem test_wf_addresses : Instr.wf (.registerWrite (.core .kc) (2 ^ 32) .word 0) = false ∧ Instr.wf (.registerWrite (.dma 16) 0 .word 0) = false ∧
    Instr.wf (.registerWrite (.dma 15) (2 ^ 32 - 4) .word 0) = true ∧ Instr.wf (.unmappedWrite (2 ^ 32)) = false ∧
    Instr.wf (.cfgstatClear (2 ^ 32) 0 false false) = false ∧ Instr.wf (.busError .debug (2 ^ 32) false) = false ∧
    Instr.wf (.busError (.dma 16) 0 false) = false ∧ Instr.wf (.pageMiss (.dma 16) 0) = false ∧ Instr.wf (.pageMiss .debug (2 ^ 32)) = false ∧
    Instr.wf (.pageFetchDone (2 ^ 32) 0 0) = false ∧ Instr.wf (.eccCorrected (2 ^ 32) false) = false ∧
    Instr.wf (.dbgRead true (2 ^ 32)) = false ∧ Instr.wf (.dbgWrite true (2 ^ 32) 0) = false ∧ Instr.wf (.dbgCread true (2 ^ 32)) = false ∧
    Instr.wf (.dbgCwriteReg true (2 ^ 32) 0) = false := by decide
theorem test_wf_radio : Instr.wf (.preambleDetect 2048 0 0) = false ∧ Instr.wf (.sfdFound 2048 0 0) = false ∧ Instr.wf (.sfdTimeout 2048) = false ∧
    Instr.wf (.headerDecoded 2048 0 0 0 false) = false ∧ Instr.wf (.octetRelease 2048 []) = false ∧ Instr.wf (.frameEnd 2048 0 [] 0) = false ∧
    Instr.wf (.frameLostFlag 2048) = false ∧ Instr.wf (.syncLost 2048 [] 0) = false ∧ Instr.wf (.oldFacetFinish 2048) = false ∧
    Instr.wf (.oldFacetFinish 2047) = true := by decide
theorem test_wf_mac : Instr.wf (.macVerdict 0 30 false) = false ∧ Instr.wf (.macVerdict 0 51 false) = false ∧ Instr.wf (.macVerdict 0 31 false) = true ∧
    (∀ c ∈ [Instr.dirLookup 2, .dirBlock 2, .dirUnblock 2, .join 2, .evict 2, .rekey 2, .move 2, .read 2, .write 2], c.wf = false) := by decide
theorem test_wf_volac : Instr.wf (.repIteration .lc0 .rep) = false ∧ Instr.wf (.repIteration .lc0 .add) = true ∧
    Instr.wf (.undefinedOpcode .kc .none false 0x50) = undefByte false 0x50 ∧ Instr.wf (.undefinedOpcode .kc .none false 0x28) = false ∧
    VOp.wf (.undef false 0x28) = false ∧ Instr.wf (.dbgStep true .sc .none (.undef false 0x28) none) = false := by decide
theorem test_wf_timers : Instr.wf (.eoi (.dma 16) 0) = false ∧ Instr.wf (.alatchEdge 26 true) = false ∧ Instr.wf (.counterWrap 8) = false ∧
    Instr.wf (.compareArm 32 0) = false ∧ Instr.wf (.compareFire 32) = false ∧ Instr.wf (.unitCfgWrite 32 0) = false ∧ Instr.wf (.capture 32) = false ∧
    Instr.wf (.captureRead 32) = false ∧ Instr.wf (.slowCompareArm 4 0) = false ∧ Instr.wf (.slowCompareFire 4) = false := by decide
theorem test_wf_power : Instr.wf (.porEnd 600001 0 false 0 false) = false ∧ Instr.wf (.porEnd 0 4001 false 0 false) = false ∧
    Instr.wf (.porEnd 0 0 false 4 false) = false ∧ Instr.wf (.syspllLock 20001) = false ∧ Instr.wf (.nrstRelease false 4 false) = false ∧
    Instr.wf (.vioRestore false 4 false) = false ∧ Instr.wf (.systemReset 3) = false ∧ Instr.wf (.systemReset 8) = false ∧
    Instr.wf (.sysrst (.dma 16)) = false ∧ Instr.wf (.coreRelease (.dma 16) .sc) = false ∧ Instr.wf (.coreHold (.dma 16) .sc) = false := by decide
theorem test_wf_memory : Instr.wf (.nandFkeyWrite (.dma 16) 0) = false ∧ Instr.wf (.eraseSuspend 2) = false ∧ Instr.wf (.eraseResume 2) = false ∧
    Instr.wf (.nandRedo (.dma 16) false false) = false ∧ Instr.wf (.nandRelease (.dma 16)) = false ∧ Instr.wf (.pageEvict .lc0 9) = false ∧
    Instr.wf (.pagePin .lc0 9) = false ∧ Instr.wf (.pageUnpin .lc0 9) = false ∧ Instr.wf (.taskStart .debug .lc0 8 0) = false ∧
    Instr.wf (.taskStart .debug .lc0 0 8) = false ∧ Instr.wf (.taskStart (.dma 16) .lc0 0 0) = false ∧ Instr.wf (.taskStop .debug .lc0 8) = false ∧
    Instr.wf (.taskSleep .debug .lc0 8) = false ∧ Instr.wf (.taskWake .debug .lc0 8) = false ∧ Instr.wf (.taskPrio .debug .lc0 8 0) = false ∧
    Instr.wf (.taskPrio .debug .lc0 0 8) = false ∧ Instr.wf (.taskFree .debug .lc0 8) = false ∧ Instr.wf (.dmaStart 16) = false ∧
    Instr.wf (.dmaResume 16) = false ∧ Instr.wf (.dmaAbort 16) = false ∧ Instr.wf (.dmaRequest 16) = false ∧ Instr.wf (.scrubRead 4) = false ∧
    Instr.wf (.pageWritebackDone 1024 .good) = false := by decide
theorem test_wf_rest : Instr.wf (.keyLoad 0 32) = false ∧ Instr.wf (.keyDerive 0 32) = false ∧ Instr.wf (.keyClear 32) = false ∧
    Instr.wf (.arbinc 8) = false ∧ Instr.wf (.setflag 3) = false ∧ Instr.wf (.trialArm (.dma 16) 0) = false ∧ Instr.wf (.trialStop (.dma 16)) = false ∧
    Instr.wf (.bistCtrlWrite (.dma 16) 0) = false ∧ Instr.wf (.bistCntclr (.dma 16)) = false ∧ Instr.wf (.bistRequest .debug 128 1) = false ∧
    Instr.wf (.bistReint .debug 128) = false ∧ Instr.wf (.logWcmd (.dma 16) 0) = false ∧ Instr.wf (.logClear (.dma 16)) = false ∧
    Instr.wf (.compatRequest 2) = false ∧ Instr.wf (.dbgHalt true 16) = false ∧ Instr.wf (.dbgResume true 16) = false ∧
    Instr.wf (.uartRxOctet 2 0 false false) = false ∧ Instr.wf (.uartRxOctet 0 256 false false) = false ∧ Instr.wf (.uartDataRead 2) = false ∧
    Instr.wf (.uartDataWrite 2 0) = false ∧ Instr.wf (.uartTxOctet 2 true) = false := by decide

/-! ### Steps and the spec's own worked examples -/

/-- StepRunsTheFront: one state with a command at the front of its queue, and one with none. -/
theorem test_StepRunsTheFront : ({ State.reset with pending := [.kick] } : State).pending = .kick :: [] ∧ State.reset.pending = [] := ⟨rfl, rfl⟩
/-- StepKeepsCanonical: the state after reset is canonical and steps on. -/
theorem test_StepKeepsCanonical : State.reset.Canonical ∧ ∃ t, step State.reset = .next t := by
  refine ⟨?_, _, rfl⟩
  unfold State.Canonical Memory.wf Regs.wf keysRise; decide
/-- No word of the table spells a command. -/
theorem test_decode_none : decodeTableWord 32 0 = none ∧ State.reset.withFetchWord 32 0 = State.reset := ⟨rfl, rfl⟩
/-- R194, the table of its example. -/
theorem test_directory_hash : [0x12345679, 0x1234567a, 0x12355678].map (dirSetOf 0x12345678) = [0x9e37, 0x3c6e, 0x79b1] := by decide
/-- R138: the 700-octet frame at RATE 2/3 under G = 508 and N = 32; 799 octets are the most that fit. -/
theorem test_ridge_duration : rl2Us 1 508 1 700 = 6976 ∧ rl2Us 1 508 1 799 = 7744 ∧ rl2Us 1 508 1 800 = 8128 := by decide
/-- R291 and R292: NCH 4, SEED 1. -/
theorem test_hop_permutation : hopPerm 4 1 = [2, 3, 0, 1] := by decide
/-- R317: the table of its example, a = 0x0000_0B50. -/
theorem test_bit_operations : clzN 0xb50 32 = 20 ∧ ctzN 0xb50 32 = 4 ∧ popCount 0xb50 = 5 ∧ brev 8 0xb50 = 0xd00a ∧ brev 16 0xb50 = 0xad0 ∧
    brev 32 0xb50 = 0x0ad00000 ∧ byteSwap 0xb50 = 0x500b0000 ∧ clzN 0 32 = 32 ∧ ctzN 0 32 = 32 := by decide
/-- R318: the step of the IL2 header CRC-8 on byte 1 from 0xFF. -/
theorem test_crc_step : crcStep 7 7 0xff 1 = 0x7a := by decide
/-- R375: the table of its example, the count being 0x1000. -/
theorem test_reached : [0x1000, 0xfff, 0x1001, 0x80001001, 0x80001000, 0x80000fff].map (reached 32 0x1000) =
    [true, true, false, true, false, false] := by decide
/-- FIPS 197, appendices B and C.3: the cipher under a 128-bit and a 256-bit key, and the way back. -/
def octets (n v : Nat) : List Byte := (leBytes n v).reverse
theorem test_fips197 : aes (octets 16 0x2b7e151628aed2a6abf7158809cf4f3c) (octets 16 0x3243f6a8885a308d313198a2e0370734) =
      octets 16 0x3925841d02dc09fbdc118597196a0b32 ∧
    aes (octets 32 0x000102030405060708090a0b0c0d0e0f101112131415161718191a1b1c1d1e1f) (octets 16 0x00112233445566778899aabbccddeeff) =
      octets 16 0x8ea2b7ca516745bfeafc49904b496089 := by decide +kernel
theorem test_fips197_inverse : aesInv (octets 16 0x2b7e151628aed2a6abf7158809cf4f3c) (octets 16 0x3925841d02dc09fbdc118597196a0b32) =
    octets 16 0x3243f6a8885a308d313198a2e0370734 := by decide +kernel
/-- FIPS 202: the first octets of SHAKE256 of the empty message. -/
theorem test_fips202 : shake256 [] 8 = octets 8 0x46b9dd2b0ba88d13 := by decide +kernel
/-- IEEE 802.15.4-2020, 7.2.11: the FCS of its example of an Imm-Ack. -/
theorem test_fcs154 : withFcs [0x02, 0x00, 0x6a] = [0x02, 0x00, 0x6a, 0xe4, 0x79] := by decide +kernel

/-! ### RF paths -/

/-- Path `p` in state number `n` (R34), after `f`. -/
def rfSt (n : Nat) (f : RfPath → RfPath) (p : PathId := .s) : State := (State.reset.setFld (RFx_STATE_STATE p) n).modRf p f

/-- With an empty plan in slot 0, active. -/
def withPlan (s : State) (q : Plan := {}) : State := { s.setFld SEQ_PLANSTAT_ACTIVE 0 with plan := { s.plan with slot0 := some q } }

/-- The wheel runs. -/
def wRun (s : State) : State := (s.set1 SEQ_CTRL_RUN).set1 SEQ_STAT_NTVALID
/-- The mask expanders are seeded. -/
def seeded (s : State) : State := { s with cipher := { s.cipher with seeded := true } }

def wOff : State := { withPlan State.reset with clk := { State.reset.clk with pll := true } }
def wStartup : State := rfSt 1 id
def wSyncal : State := rfSt 2 id
def wSyncal2 : State := rfSt 2 (fun x => { x with lockFails := 1 })
def wIrcal : State := rfSt 3 id .g
def wRx : State := rfSt 4 id
def wRxOff : State := rfSt 4 (fun x => { x with pendOff := true, held := [{}] })
def wSettle : State := rfSt 5 id
def wTxrx : State := rfSt 8 id

theorem test_RfPathStates : (wOff.pst .s = .off ∧ wOff.clk.pll = true ∧ wOff.activePlan.isSome = true) ∧
    ((withPlan wRx).pst .s ≠ .off ∧ (withPlan wRx).activePlan.isSome = true) ∧
    ((withPlan State.reset).clk.pll = false ∧ (withPlan State.reset).activePlan.isSome = true) ∧
    State.reset.activePlan = none ∧ ((wRxOff.rf .s).pendOff = true ∧ wRxOff.pst .s ≠ .rxtx ∧ wRxOff.pst .s ≠ .tx) ∧
    wStartup.pst .s = .startup ∧ (wSyncal.pst .s = .syncal ∧ (wSyncal.rf .s).lockFails = 0) ∧
    (wSyncal2.pst .s = .syncal ∧ (wSyncal2.rf .s).lockFails ≠ 0) ∧ wIrcal.pst .g = .ircal ∧ wSettle.pst .s = .settle ∧
    wTxrx.pst .s = .txrx := by decide

def wWin : State := withPlan wRx { windows := [⟨.s, 15, false, true, 900000⟩, ⟨.s, 0, false, false, 902000⟩] }
def wWinOff : State := withPlan State.reset { windows := [⟨.s, 15, false, true, 900000⟩] }
def wWinTx : State := withPlan (rfSt 7 id) { windows := [⟨.s, 0, false, true, 900000⟩] }
def wMove : State := wWin.modRf .s (fun x => { x with winPend := some 15 })
def wSyncReq : State := rfSt 4 (fun x => { x with syncReq := true })
def wIrcReq : State := rfSt 4 (fun x => { x with ircReq := true })
def wSynDue : State := rfSt 4 (fun x => { x with synDueAt := some 0 })
def wIrcDue : State := rfSt 4 (fun x => { x with ircDueAt := some 7 })
def wIrcBoth : State := { rfSt 4 (fun x => { x with ircDueAt := some 7, synDueAt := some 900 }) with
  pwr := { State.reset.pwr with phase := .awake } }
def wTxHeld : State := rfSt 7 (fun x => { x with held := [{ started := true }] })

theorem test_RfCalibrationAndMoves : State.reset.hasWindow .s 0 = false ∧ (wWin.hasWindow .s 15 = true ∧ wWin.pst .s = .rx) ∧
    (wWinOff.hasWindow .s 15 = true ∧ wWinOff.pst .s = .off) ∧ (wWinTx.hasWindow .s 0 = true ∧ wWinTx.pst .s ≠ .off ∧
      wWinTx.pst .s ≠ .fault ∧ wWinTx.pst .s ≠ .rx) ∧ (wMove.pst .s = .rx ∧ (wMove.rf .s).winPend = some 15) ∧
    (wSyncReq.pst .s = .rx ∧ (wSyncReq.rf .s).winPend = none ∧ (wSyncReq.rf .s).syncReq = true) ∧
    (wIrcReq.pst .s = .rx ∧ (wIrcReq.rf .s).winPend = none ∧ (wIrcReq.rf .s).syncReq = false ∧ (wIrcReq.rf .s).ircReq = true) ∧
    (wSynDue.pst .s = .rx ∧ (wSynDue.rf .s).synDueAt = some 0 ∧ (wSynDue.advanceTo (0 + us 1000000)).noTxWithin .s 162 = true) ∧
    (wIrcDue.pst .s = .rx ∧ (wIrcDue.rf .s).winPend = none ∧ (wIrcDue.rf .s).ircDueAt = some 7 ∧
      (wIrcDue.advanceTo (7 + us 1000000)).noTxWithin .s 132 = true) ∧
    (wIrcBoth.pst .s = .rx ∧ (∀ t1, (wIrcBoth.rf .s).synDueAt = some t1 →
      max wIrcBoth.clk.now (7 + us 1000000) < t1 + us 1000000) ∧ (wIrcBoth.rf .s).ircDueAt = some 7 ∧
      (wIrcBoth.advanceTo (7 + us 1000000)).noTxWithin .s 132 = true) ∧ wTxHeld.pst .s ≠ .off ∧ wIrcBoth.clocked = true ∧ (wTxHeld.pst .s ≠ .startup ∧ wTxHeld.pst .s ≠ .syncal ∧ wTxHeld.pst .s ≠ .fault) ∧
    (wTxHeld.pst .s = .tx ∧ (wTxHeld.rf .s).held ≠ []) := by decide

theorem test_RfPathIndependence : RfCmd .s (.windowMoveRequest .s 0) ∧ RfCmd .g (.tunerSearchDone .g 0 63 63) ∧
    QuietPath .s wTxHeld ∧ (wTxHeld.rf .s).held ≠ [] :=
  ⟨.inr (.inl ⟨0, .inl rfl⟩), .inr (.inr (.inr (.inr (.inr (.inr ⟨0, 63, 63, rfl⟩))))), ⟨rfl, by decide, by decide⟩, by decide⟩

/-- A channel that takes in every band. -/
def wChan : Plan := { channels := [⟨.s, 0, none, 0, 0, 10000000000, 0, 0, false⟩] }
/-- A test command of 1 µs, carrier or PN9. -/
def wTx : State := withPlan (rfSt 4 (fun x => { x with centreKHz := 900000 })) wChan
def wCh (p : PlanChannel) : State := withPlan (rfSt 4 (fun x => { x with centreKHz := 900000 })) { channels := [p] }

theorem test_RfTransmission_codes : TxStatus wTx .s (wTx.testCmd .s 0x10000) Code.OK ∧
    TxStatus (withPlan (rfSt 4 (fun x => { x with centreKHz := 900000 }))) .s (wTx.testCmd .s 0x10000) Code.NO_CHANNEL ∧
    TxStatus (rfSt 4 (fun x => { x with centreKHz := 900000, held := [{}, {}] })) .s (wTx.testCmd .s 0xffff013c) Code.TX_BUSY ∧
    TxStatus wOff .s (wOff.testCmd .s 0x10000) Code.PATH_UNUSABLE ∧
    TxStatus ((wTx.set1 MIRROR_CTRL_EN).setFld MIRROR_STAT_ROLE 1) .s (wTx.testCmd .s 0x10000) Code.PAIR_STANDBY := by
  unfold TxStatus; decide

def wHeld (n : Nat) (l : List TxCmd) : State := rfSt n (fun x => { x with held := l, due := 5 })
def wLate : State := { wHeld 4 [{ tstart := 0, late := 11 }] with clk := { State.reset.clk with nt := 2 ^ 32 * 200 * 100 } }
def wReady : State :=
  let s := withPlan (rfSt 4 (fun x => { x with centreKHz := 900000, held := [{ tstart := 200 }, { tstart := 100 }] })) wChan
  { s with clk := { s.clk with nt := 200 * 88 * 2 ^ 32 } }
def wGap : State := rfSt 7 (fun x => { x with gap := true, held := [{ started := true }] }) .g
def wNoCh : State := { wReady with plan := { wReady.plan with slot0 := some {} } }
def wFirst : State := wHeld 6 [{ started := true }]
def wLast1 : State := wHeld 7 [{ started := true, lenUs := 8 }]
def wLast2 : State :=
  let l : List TxCmd := [{ started := true, first := 12, lenUs := 8 }, { tstart := 39 }]
  withPlan (rfSt 7 (fun x => { x with due := 5, centreKHz := 900000, held := l })) wChan
def wUnfreeze : State := rfSt 4 (fun x => { x with unfreezeAt := some 800, frozenAt := some 0 })

theorem test_RfTransmission : bitsOf (0x10000 : Word).toNat 31 16 ≠ 0 ∧ bitsOf (0xffff013c : Word).toNat 8 2 = 79 ∧
    bitsOf (0x10002 : Word).toNat 1 0 ≠ 3 ∧ bitsOf (0xffff : Word).toNat 31 16 = 0 ∧ 80 ≤ bitsOf (0x10140 : Word).toNat 8 2 ∧
    bitsOf (0x10003 : Word).toNat 1 0 = 3 ∧
    (wReady.pst .s = .rx ∧ wReady.firstReady (wReady.rf .s).held = some { tstart := 100 } ∧ (wReady.rf .s).pendOff = false ∧
      (wReady.rf .s).winPend = none) ∧ (wLate.pst .s = .rx ∧ wLate.firstReady (wLate.rf .s).held = some { tstart := 0, late := 11 } ∧ (wLate.rf .s).pendOff = false ∧ (wLate.rf .s).winPend = none) ∧
    (wNoCh.pst .s = .rx ∧ wNoCh.firstReady (wNoCh.rf .s).held = some { tstart := 100 } ∧
      wNoCh.startRefusal .s { tstart := 100 } = Code.NO_CHANNEL) ∧
    (wGap.pst .g = .tx ∧ (wGap.rf .g).gap = true ∧ (wGap.rf .g).held = [{ started := true }] ∧
      wGap.inTurn (wGap.usOfCycle (wGap.rf .g).due).toNat 5 0 = true) ∧
    (wFirst.pst .s = .rxtx ∧ (wFirst.rf .s).held = [{ started := true }] ∧
      wFirst.inTurn (wFirst.usOfCycle (wFirst.rf .s).due).toNat 5 0 = true) ∧
    (wLast1.pst .s = .tx ∧ (wLast1.rf .s).gap = false ∧ (wLast1.rf .s).held = [{ started := true, lenUs := 8 }]) ∧
    (wLast2.pst .s = .tx ∧ (wLast2.rf .s).gap = false ∧ (wLast2.rf .s).pendOff = false ∧ (39 : Int) < 12 + 8 + 20 ∧
      (12 : Int) + 8 + 2 - 39 ≤ 0 ∧ wLast2.startRefusal .s { tstart := 39 } = Code.OK) ∧
    (wUnfreeze.pst .s = .rx ∧ (wUnfreeze.rf .s).unfreezeAt = some 800 ∧ (wUnfreeze.rf .s).frozenAt = some 0) := by decide

def wGainLo : State := (rfSt 4 id).setFld (RFx_GAIN_CLIPTHR .s) 15
def wGainHi : State := ((rfSt 4 id).setFld (RFx_STATE_GAIN .s) 3).setFld (RFx_GAIN_UPHOLD .s) 63
def wGainEq : State := (rfSt 4 (fun x => { x with stepDownAt := some 0 })).setFld (RFx_STATE_GAIN .s) 3
def wTune : State := (rfSt 4 (fun x => { x with tuneUntil := some 376 })).set1 (RFx_STATE_TUNEDUE .s)
def wSearch : State := (rfSt 9 (fun x => { x with due := 100 })).setFld (RFx_TUNSTAT_SRCHFAIL .s) 2
def wSearchHeld : State := rfSt 9 (fun x => { x with due := 100, tunHeld := some 0x3f3f })
def wRl : State := rfSt 7 (fun x => { x with due := 100, nextRlAt := 100, held := [{ started := true }] })

theorem test_RfGainAndTuner : (wGainLo.fld (RFx_GAIN_MODE .s) = 0 ∧ wGainLo.fld (RFx_GAIN_CLIPTHR .s) ≤ 15 ∧
      wGainLo.fld (RFx_STATE_GAIN .s) < 3) ∧
    (wGainHi.fld (RFx_GAIN_MODE .s) = 0 ∧ wGainHi.fld (RFx_GAIN_UPHOLD .s) ≤ 63 ∧ 0 < wGainHi.fld (RFx_STATE_GAIN .s) ∧ wGainHi.steppedDown .s = false) ∧
    (wGainEq.steppedDown .s = true ∧ 3 ≤ wGainEq.fld (RFx_STATE_GAIN .s)) ∧
    (wRl.pst .s = .tx ∧ (wRl.rf .s).gap = false ∧ 0 ≤ entryNom (wRl.rf .s).airWord ∧
      (wRl.rf .s).nextRlAt ≤ (wRl.rf .s).due) ∧
    (wTune.pst .s = .rx ∧ wTune.tuneOpen .s = true ∧ wTune.searchDue .s = true ∧ (wTune.rf .s).winPend = none) ∧
    (wSearch.pst .s = .tune ∧ (wSearch.rf .s).tunHeld = none) ∧ (wSearchHeld.pst .s = .tune ∧ (wSearchHeld.rf .s).tunHeld = some 0x3f3f) := by decide

/-! ### Prism -/

/-- Ray `n` of path `p` as given. -/
def withRay (s : State) (p : PathId) (n : Nat) (r : Ray) : State :=
  match p with
  | .s => { s with prism := { s.prism with raysS := tblPut {} s.prism.raysS n r } }
  | .g => { s with prism := { s.prism with raysG := tblPut {} s.prism.raysG n r } }

def wRay : State := withRay State.reset .s 3 { st := .live, par := { k := 5 } }
def wCentre : State := withRay State.reset .g 0 { st := .live, tune := some (7, 100) }
def wMeter : State := State.reset.modRf .s (fun x => { x with em := some { ray := 3, durUs := 100, readyAt := us 102 + 3240 } })
def wMeterRay : State := withRay wMeter .s 3 { st := .live, par := { k := 5 } }
def wProbe : State := { wRay with prism := { wRay.prism with probe := some { ray := 3, nb := 0, avg := 1, nextAt := us 40 } } }

theorem test_Prism : bitsOf (0x01ff0001 : Word).toNat 15 0 = 1 ∧ bitsOf (0x00030000 : Word).toNat 15 0 = 0 ∧
    ((wCentre.ray .g 0).tune = some (7, 100)) ∧ (wMeter.rf .s).em.isSome = true ∧ (State.reset.rf .s).em = none ∧
    (wMeterRay.advanceTo (us 102 + 3240)).measured .s 3 0 100 = ([(13, 93)], 80) ∧ ((wMeter.advanceTo (us 102 + 3240)).measured .s 3 0 100).1 = [] ∧
    (bitsOf (0x00030fff : Word).toNat 11 0 = 4095 ∧ bitsOf (0x00030001 : Word).toNat 11 0 = 1) ∧
    wProbe.prism.probe.isSome = true ∧ (wRay.prism.probe = none ∧ wRay.probeRayOk .s 3 = true ∧ wRay.probeRayOk .s 2 = false) ∧
    (wProbe.prism.probe.any (fun r => !r.ended)) = true := by decide

def wPlanRay : Plan := { branches := [⟨.s, 0, 1, 0⟩] }
def wRetune : State := withPlan (withRay State.reset .s 0 { st := .parked, par := { dexp := 1, k := 4 } }) wPlanRay
def wMask (abort : Bool) : PlanMask := { maskid := 7, ldec := 0, abort := abort, refseg := 0, segs := [⟨-10, 10, 10, 10⟩, ⟨10, 20, -20, -30⟩] }
def wLoupe (abort : Bool) : State :=
  rfSt 7 (fun x => { x with due := us 100, held := [{ started := true }], loupe := { mask := some (wMask abort), nextDue := 6400 } })
def wLoupeA : State := wLoupe true
def wLoupeB : State := wLoupe false
def wHeldRay : State := { withRay State.reset .s 2 { st := .held } with
  facet := { State.reset.facet with facets := [(1, { st := .sync, alloc := { path := .s, ray := 2 }, frame := some {} })] } }
def wHeldIdle : State := withRay State.reset .s 255 { st := .held, next := some { k := 4 } }
def wDefer : State := withRay State.reset .s 1 { next := some { k := 4 } }

theorem test_Prism_loupe_rays : (∀ b, (wLoupe b).pst .s = .tx ∧ ((wLoupe b).rf .s).gap = false ∧
      ((wLoupe b).rf .s).loupe.mask = some (wMask b) ∧ (wLoupe b).loupeFfts .s (wMask b) = 5 ∧ ((wLoupe b).rf .s).held ≠ []) ∧
    (∀ e ∈ (wMask true).segs.zip [0, -30], e.1.excess e.2 ((wMask true).refLevel [0, -30]) ≤ 0) ∧
    worstSeg ((wMask true).refLevel [0, -29]) 0 ((wMask true).segs.zip [0, -29]) = some (1, 1) ∧
    ((wHeldRay.ray .s 2).st = .held ∧ wHeldRay.facetsOn .s 2 = [1] ∧ (wHeldRay.fct 1).st.mid = true) ∧
    ((wHeldIdle.ray .s 255).st = .held ∧ wHeldIdle.rayBusy .s 255 = false) ∧
    ((wDefer.ray .s 1).st = .unused ∧ (wDefer.ray .s 1).next = some { k := 4 }) ∧
    ((wRetune.ray wRetune.selPath wRetune.selRay).st = .parked ∧
      wRetune.tuneOk wRetune.selPath (wRetune.ray wRetune.selPath wRetune.selRay) 0 = true) := by decide

theorem test_Prism_deferred : ∀ m, m ≠ 1 → (wDefer.ray .s m).next = none := by
  intro m h
  show (tblGet ({} : Ray) [(1, _)] m).next = none
  simp [tblGet, Ne.symm h]

/-! ### Facets -/

/-- Facet 2047 in state `st` with a frame, its profile of PHY `phy`. -/
def fctAt (st : FacetSt) (phy : Nat) (fr : RxFrame) (free : List Nat := [2047, 3]) : State :=
  { withRay State.reset .s 2 { st := .live, par := { k := 5 } } with
    facet := { facets := [(2047, { st := st, alloc := { ray := 2, prof := { phy := phy, code := 1 } }, frame := some fr })],
               free := free, doneq := [5], fw := [2047] } }

def wFctSearch : State :=
  let s := withRay { State.reset with facet := { facets := [(2047, { st := .search, alloc := { prof := { lockthr := 9 } } })] } } .s 0
    { st := .live, par := { k := 2 } }
  { s with clk := { s.clk with now := us 10000 } }
/-- The same with an interval of the trunk zeroed in its last symbols, and facet 2047 in SYNC, HEADER and PAYLOAD with frames that a
frozen sample ends. -/
def wFctMarked : State := wFctSearch.modRf .s (fun x => { x with marks := [⟨.erased, us 9000, us 9001⟩] })
def wFctFrozen (st : FacetSt) (fl : SampleFlag) : State :=
  let s := (fctAt st 0 { slot := some 2047 }).modRf .s (fun x => { x with marks := [⟨fl, 4000, 4200⟩] })
  { s with clk := { s.clk with now := us 2000 } }
def wFctFrozenTx : State := wFctFrozen .payload .frozenTx
def wFctFrozenCal : State := wFctFrozen .header .frozenCal
def wFctRetuned : State := wFctFrozen .sync .retune
def wFctSync : State := fctAt .sync 0 {}
def wFctSyncFull : State := fctAt .sync 0 {} []
def wFctHeader0 : State := fctAt .header 0 { slot := some 2047 }
def wFctHeader1 : State := fctAt .header 1 { slot := some 2047 }
def wFctHeader2 : State := fctAt .header 2 { slot := some 2047 }
def wFctHeader3 : State := (fctAt .header 3 { slot := some 2047 }).set1 FACET_CTRL_KEEPBAD
def wFctOld : State := { State.reset with facet := { facets := [(0, { st := .search, old := true })] } }
def wFctMac (phy : Nat) : State := (fctAt .payload phy { slot := some 2047, len := 2, decided := 0 }).set1 MAC_CTRL_EN
def wFctMac0 : State := wFctMac 0
def wFctMac1 : State := wFctMac 1
def wFctMac1Off : State := wFctMac1.clr MAC_CTRL_EN

theorem test_Facets : (wFctSearch.mayDetect 2047 = true ∧ (wFctSearch.fct 2047).alloc.prof.lockthr < 10 ∧ ¬(wFctSearch.fct 2047).alloc.prof.lockthr < 9 ∧
      wFctMarked.mayDetect 2047 = false) ∧
    (wFctFrozenTx.flagLoss 2047 = some (4000, Code.BLINDED) ∧ (wFctFrozenTx.advanceTo 4000).flagLoss 2047 = some (4000, Code.BLINDED) ∧
      (wFctFrozenTx.fct 2047).st.mid = true) ∧
    (wFctFrozenCal.flagLoss 2047).map (·.2) = some Code.CAL_FROZEN ∧ (wFctRetuned.flagLoss 2047).map (·.2) = some Code.RETUNED ∧
    (((fctAt .sync 0 {}).fct 2047).st = .sync ∧ ((fctAt .sync 0 {}).fct 2047).frame = some {} ∧ (fctAt .sync 0 {}).flagLoss 2047 = none ∧
      fcapOk { k := 5 } 0 0 = true ∧ fcapOk { k := 5 } 0 100000 = false ∧
      (fctAt .sync 0 {} []).facet.free = [] ∧ (fctAt .sync 0 {}).facet.free = [2047, 3]) ∧
    (((fctAt .header 1 {}).fct 2047).st = .header ∧ ((fctAt .header 1 {}).fct 2047).frame = some {} ∧ (fctAt .header 1 {}).flagLoss 2047 = none) ∧
    (((fctAt .payload 0 {}).fct 2047).st.mid = true ∧ (fctAt .payload 0 {}).flagLoss 2047 = none ∧ weakRun 9 (List.replicate 16 8) = true ∧
      weakRun 9 (9 :: List.replicate 15 8) = false) ∧ ((wFctOld.fct 0).old = true ∧ (wFctOld.fct 0).st.mid = false) ∧
    (State.reset.facet.doneq = [] ∧ (fctAt .sync 0 {}).facet.doneq = [5]) ∧
    ((0xffff : Word).toNat % 2048 ∈ (fctAt .sync 0 {}).facet.fw ∧ (0 : Word).toNat % 2048 ∉ (fctAt .sync 0 {}).facet.fw) := by
  decide

theorem test_Facets_headers : HeaderSays { phy := 0 } 127 0 false none 127 false ∧ HeaderSays { phy := 0 } 128 0 false (some 7) 128 false ∧
    HeaderSays { phy := 1 } 0x0ff (crc8 0x0ff) false none 255 false ∧ HeaderSays { phy := 1 } 0x1ff (crc8 0x1ff + 1) false (some 6) 255 true ∧
    HeaderSays { phy := 1 } 0x100 (crc8 0x100) false (some 7) 0 true ∧ HeaderSays { phy := 2 } 5 9 false none 5 false ∧
    HeaderSays { phy := 2 } 0x84 0 false (some 7) 4 false ∧ HeaderSays { phy := 3 } 127 0 false none 127 false ∧
    HeaderSays { phy := 3 } 127 0 true (some 8) 127 false ∧ HeaderSays { phy := 3 } 128 0 false (some 7) 128 false ∧
    HeaderSays { phy := 3 } 127 1 true (some 6) 127 false := by
  refine ⟨?_, ?_, ?_, ?_, ?_, ?_, ?_, ?_, ?_, ?_, ?_⟩ <;> (unfold HeaderSays; decide)

/-- Frames that end with a true CRC, with and without the MAC, and one that does not. -/
theorem test_Facets_frame_ends : (∀ phy ∈ [0, 1], ((wFctMac phy).fct 2047).st = .payload ∧
      ((wFctMac phy).fct 2047).frame = some { slot := some 2047, len := 2, decided := 0 } ∧ (wFctMac phy).flag MAC_CTRL_EN = true ∧ (wFctMac phy).flagLoss 2047 = none) ∧
    frameOk { phy := 1 } [1, 2] (crc16 [1, 2]) = true ∧ frameOk { phy := 0 } [1, 2] (crc16 [1, 2] + 1) = false ∧
    (wFctMac 1).flag FACET_CTRL_KEEPBAD = false ∧ ((wFctMac 1).clr MAC_CTRL_EN).flag MAC_CTRL_EN = false := by decide

/-! ### Ridge links -/

/-- A neighbour `n` of profile 9 on path S, ray 3. -/
def nbPlan (n phy ncode : Nat) : Plan :=
  { neighbours := [⟨n, .s, 9, 3, 0, 1000⟩], profiles := [{ profid := 9, phy := phy, ncode := ncode }] }
def wNb (phy ncode : Nat) (x : RidgeNb := {}) (n : Nat := 0) : State :=
  { withPlan State.reset (nbPlan n phy ncode) with ridge := { nbs := [(n, x)] } }
/-- A probe and an estimate of all the subcarriers of width code `ncode`. -/
def wLoads (ncode : Nat) : State :=
  wNb 5 ncode { probe := some (List.replicate (nSub ncode) (-600), 0), sig := List.replicate (nSub ncode) (-300) }

def wNb4 : State := wNb 4 0
def wNb52 : State := wNb 5 2
def wNoLink : State := wNb 5 2 { lstat := BitVec.ofNat 32 (2 ^ SEQ_RLLSTAT_NOLINK.lo) }
def wLoads0 : State := wLoads 0
def wLoads2 : State := wLoads 2

theorem test_RidgeLoadingAndEntries : (State.reset.rlCmdOk = false ∧ (wNb 4 0).rlCmdOk = false) ∧
    ((wNb 5 2).rlCmdOk = true ∧ ((wNb 5 2).nb (wNb 5 2).selNb).probe = none) ∧
    (∀ n ∈ [0, 2], (wLoads n).rlCmdOk = true ∧ ((wLoads n).nbProf (wLoads n).selNb).ncode = n ∧
      ((wLoads n).nb (wLoads n).selNb).sig ≠ [] ∧
      (((wLoads n).nb (wLoads n).selNb).probe.map (fun p => p.1.length)) = some (nSub n)) ∧
    ((wNb52.nb wNb52.selNb).lfld SEQ_RLLSTAT_NOLINK = 0 ∧ (wNoLink.nb wNoLink.selNb).lfld SEQ_RLLSTAT_NOLINK = 1) := by decide

/-- Entry 63 of the pool, of neighbour 31, with RATE 2 and LEN 4,064; the same with RATE 3; the same for no neighbour. -/
def wEnt (rate : Nat) (plan : Plan := nbPlan 31 5 0) : State :=
  ((withPlan State.reset plan).setFld SEQ_TXPOOL_COUNT 64).memPut (4096 * 63) (leBytes 1 0 ++ leBytes 1 31 ++ leBytes 1 rate ++
    leBytes 1 0 ++ leBytes 2 4064 ++ leBytes 2 0 ++ leBytes 4 5)
def wEnt2 : State := wEnt 2
def wEnt3 : State := wEnt 3
def wEntGone : State := wEnt 2 {}
def entFree (s : State) (i : Nat) : Prop :=
  i < s.fld SEQ_TXPOOL_COUNT ∧ (∀ x ∈ s.seq.ridgeq, x.ent ≠ i) ∧ (∀ x ∈ s.seq.ridgeDone, x.1 ≠ i)
def wEntDone : State := { State.reset with seq := { State.reset.seq with ridgeDone := [(63, 255)], ridgeq := [⟨0, 0, 0, 1, 0, false⟩] } }
def wProbeEnd : State := { withPlan State.reset (nbPlan 0 5 0) with
  prism := { State.reset.prism with probe := some { seqOwned := true, ray := 3, avg := 1, kept := 1, nbins := 64 } } }

theorem test_RidgeLoadingAndEntries_entries :
    (entFree (wEnt 2) 63 ∧ (wEnt 2).ridgeAddr 63 = 4096 * 63 ∧ (wEnt 2).ridgeBad (4096 * 63) 5 = false ∧ ((wEnt 2).planNb 31).isSome = true) ∧
    (entFree (wEnt 3) 63 ∧ (wEnt 3).ridgeBad (4096 * 63) 5 = true) ∧
    (entFree (wEnt 2 {}) 63 ∧ (wEnt 2 {}).ridgeBad (4096 * 63) ((wEnt 2 {}).nbProf 31).phy = false ∧ (wEnt 2 {}).planNb 31 = none) ∧
    ¬entFree State.reset 0 ∧ State.reset.seq.ridgeDone = [] ∧ wEntDone.seq.ridgeDone = [(63, 255)] ∧
    wEntDone.seq.ridgeq.find? (fun x => x.ent == 0) = some ⟨0, 0, 0, 1, 0, false⟩ ∧
    (wProbeEnd.prism.probe.any (fun r => r.ended) = true ∧ wProbeEnd.activePlan.isSome = true) := by
  unfold entFree; decide

/-- A rendezvous record of neighbour 0 that begins at 0: turns of 1,000 µs in 20,000, a base half width of 100 µs. -/
def rvz (w3 w5 w6 : Nat) (occ : Option RecOcc) (next : Option Nat := none) : SchedRec :=
  { words := [3, 0, 0, w3, 20000, w5, w6], next := next, occ := occ }
def wRvz (phy : Nat) (lk : LinkSt) (r : SchedRec) (rx : Option RidgeRx := none) (x : RidgeNb := {}) : State :=
  let s := withRay (wNb phy 0 x) .s 3 { st := .live, par := { k := 5 } }
  { s with seq := { s.seq with recs := [(7, r)], links := [(0, { st := lk })] }, ridge := { s.ridge with rxS := rx } }
def wHdr : Word := BitVec.ofNat 32 (4064 + 2 ^ 12 * 2 + 2 ^ 18)
def wRx4 (lost : Option Nat := none) (typ : Nat := 0) (len : Nat := 2) (hdr : Bool := false) : RidgeRx :=
  { recn := 7, nb := 0, tstamp := 0, at_ := 0, hdr := hdr, len := len, typ := typ, lost := lost }
def wUp : State := wRvz 5 .up (rvz 0x0064_0000 1000 0 (some { s0 := 0 }))
def wSearchLink : State := wRvz 5 .search (rvz 0 1000 0 (some { s0 := 0 }))
def wHdrRx : State := wRvz 5 .up (rvz 0 1000 0 none) (some wRx4) { cur := (1, []), off := some (2, []) }
def wHdr1 : State := wRvz 4 .up (rvz 0 1000 0 none) (some wRx4)
def wHdrKeep : State := wHdrRx.set1 SEQ_RLCFG_KEEPBAD
def wRing (s : State) : State := s.setFld ⟨rlRing .s, 5, 0⟩ 2
def wRingFull (s : State) : State := (wRing s).setFld ⟨rlRxq .s, 4, 0⟩ 1

theorem test_RidgeReception : let s := wRvz 5 .up (rvz 0x0064_0000 1000 0 (some { s0 := 0 }))
    let r := rvz 0x0064_0000 1000 0 (some { s0 := 0 })
    s.sched 7 = some r ∧ r.kind = 3 ∧ r.nb = 0 ∧ (s.planNb 0).isSome = true ∧ s.rlRx .s = none ∧ s.rayLive .s 3 = true ∧
      flagRank (s.flagAt .s 3 (sampleAt (s.ray .s 3).par.k s.clk.now)) < 2 ∧ s.listens r = true ∧ (-50000 : Int).natAbs ≤ 50000 := by decide

theorem test_RidgeReception_search : let r := rvz 0 1000 0 (some { s0 := 0 })
    (wRvz 5 .search r).sched 7 = some r ∧ (wRvz 5 .search r).listens r = true := by decide

theorem test_RidgeReception_header : let s := wRvz 5 .up (rvz 0 1000 0 none) (some (wRx4)) { cur := (1, []), off := some (2, []) }
    (s.rlRx .s = some wRx4 ∧ wRx4.hdr = false) ∧ ((s.nbProf 0).phy = 5 ∧ (wRvz 4 .up (rvz 0 1000 0 none) (some wRx4)).nbProf 0 = { profid := 9, phy := 4 }) ∧
      rhoMax (s.nbProf 0) < (4001 : Int).natAbs ∧ ¬rhoMax (s.nbProf 0) < (-4000 : Int).natAbs ∧
      rl2HdrBad wHdr.toNat = false ∧ rl2HdrBad 0 = true ∧ rl2HdrBad (4065 + 2 ^ 18) = true ∧
      (s.ringFull .s = false ∧ (wRingFull s).ringFull .s = true) ∧
      ((s.nb 0).rxTable 3 = none ∧ (s.nb 0).rxTable 2 = some (2, []) ∧ 2 ≠ (s.nb 0).cur.1) := by decide

def wFrm (lost : Option Nat) (typ : Nat) (x : RidgeNb := {}) (phy : Nat := 5) : State :=
  wRing (wRvz phy .up (rvz 0 1000 0 none) (some (wRx4 lost typ 2 true)) x)
def wFrm0 : State := wFrm none 0
def wFrm1 : State := wFrm none 1 { tx := (3, []) }
def wFrm2 : State := wFrm none 2
def wFrmRl1 : State := wFrm none 0 {} 4
def wFrmWeak : State :=
  let q := nbPlan 0 5 0
  withPlan wFrm0 { q with profiles := q.profiles.map (fun r => { r with lockthr := 9 }) }
def wFrmKeep : State := wRing (wRvz 5 .up (rvz 0 1000 0 none) (some (wRx4 none 0 1 true)))
def wQuiet : State := wRvz 5 .up (rvz 0 1000 0 none) none { quietUntil := 4 }

theorem test_RidgeReception_frames : let s := wFrm2
    (s.rlRx .s = some (wRx4 none 2 2 true) ∧ s.ringCount .s ≠ 0 ∧ s.ringFull .s = false ∧ s.flag SEQ_RLCFG_KEEPBAD = false ∧
      s.ridgeBusy 0 = [] ∧ s.rlFlagged .s (wRx4 none 2 2 true) = none ∧
      (s.advanceTo (wRx4 none 2 2 true).endDue).rlFlagged .s (wRx4 none 2 2 true) = none) ∧
      weakRun 0 [] = false ∧ (wFrmWeak.nbProf 0).lockthr = 9 ∧ wFrmKeep.rlRx .s = some (wRx4 none 0 1 true) ∧ weakRun 1 (List.replicate 16 0) = true ∧
      (100 ≤ octLe [100, 0] 0 2 ∧ octLe [0x20, 0x4e] 0 2 ≤ 20000) ∧ ([1, 2] : List Byte).length = (wRx4 none 0 2 true).len ∧
      wQuiet.nb 0 = { quietUntil := 4 } := by decide

def turnRec : SchedRec := rvz 0x0064_0000 10000 0 (some { s0 := 0, turn := 1 })
def wTurn : State := wRun (wRvz 4 .up turnRec)
def wTurnPast : State := { wTurn with clk := { wTurn.clk with nt := 200 * 30000 * 2 ^ 32 } }
def wOcc (l : LinkSt) (met : Bool) : State :=
  wRun (wRvz 4 l (rvz 0x0064_0000 10000 0 (some { s0 := 0, turn := 1, met := met })))
def wOccMet : State := wOcc .miss2 true
def wOccUp : State := wOcc .up false
def wOccMiss1 : State := wOcc .miss1 false
def wOccMiss2 : State := wOcc .miss2 false
def wOccSearch : State := wOcc .search false

/-- An own turn that nothing fills, one whose start is past, and links in each state. -/
theorem test_RidgeRendezvous : (wTurn.sched 7 = some turnRec ∧ turnRec.kind = 3 ∧ turnRec.occ = some { s0 := 0, turn := 1 } ∧
      wTurn.wheelRuns = true ∧ wTurn.planNb 0 = some ⟨0, .s, 9, 3, 0, 1000⟩ ∧
      (1 + 1) * turnRec.turn ≤ turnRec.rvlen ∧ turnRec.probe = false ∧ wTurn.seq.turns = [] ∧ wTurn.upd.src ≠ some turnRec.nb ∧
      (wTurn.nb turnRec.nb).queued = [] ∧ wTurn.seq.ridgeq = [] ∧ wTurn.ridgeBusy turnRec.nb = [] ∧
      (let d := wTurn.ridgeUs 0 ⟨0, .s, 9, 3, 0, 1000⟩ (Config.ctlRate % 3) 1
       wTurn.sqt ≤ turnAt turnRec { s0 := 0, turn := 1 } 1 ∧ d + turnRec.rvbase ≤ turnRec.turn ∧ 0 < d ∧ d ≤ 8000)) ∧
    turnAt turnRec { s0 := 0, turn := 1 } 1 < wTurnPast.sqt ∧ wOccUp.inTurn (0 + turnRec.rvlen) 3 7 = true ∧
    (∀ l ∈ [LinkSt.up, .miss1, .miss2, .search], ((wOcc l false).link 0).st = l) := by decide

def wRetune1 : State := wRun (wRvz 5 .up (rvz 0 1000 0 none (some 5)))
def quietRec : SchedRec := rvz 0x200 1000 (2 ^ 16 * 400) (some { s0 := 0, quietAt := some 0 })
def wQuietProbe : State := wRvz 5 .up quietRec
def wQuietOwned : State :=
  { wQuietProbe with prism := { wQuietProbe.prism with probe := some { seqOwned := true, ray := 3 } } }
def wQuietTaken : State := { wQuietProbe with prism := { wQuietProbe.prism with probe := some { ray := 3 } } }

/-- A retune before an occurrence, and a noise probe in a quiet interval, alone, of a firmware probe, and behind one of the sequencer. -/
theorem test_RidgeRendezvous_probe : let r := rvz 0 1000 0 none (some 5)
    (wRetune1.sched 7 = some r ∧ r.next = some 5 ∧ r.occ = none ∧ wRetune1.wheelRuns = true ∧ wRetune1.inTurn (5 - 1000) 0 0 = true) ∧
      wQuietProbe.sched 7 = some quietRec ∧
      (let avg := (200 * quietRec.quiet - rayDelay 5) / us 20 - 1
       1 ≤ avg ∧ (∀ s ∈ [wQuietProbe, wQuietTaken],
        let s1 := ((s.advanceSqt 0).advance (rayDelay 5)).putRec 7 { quietRec with occ := some { s0 := 0 } }
        s.prism.probe.all (fun x => !x.seqOwned) = true ∧ s1.probeRayOk .s 3 = true ∧
          s1.probeBlocked .s s1.sqt (s1.sqt + 20 * (avg + 1)) = false)) ∧
      wQuietOwned.prism.probe.all (fun x => !x.seqOwned) = false := by decide

/-! ### The band plan -/

/-- The image whose 4-byte little-endian words from byte 0 on are `l`. -/
def wordsImage (l : List Nat) : List Byte := leBytes (4 * l.length) (l.reverse.foldl (fun n w => 2 ^ 32 * n + w) 0)
/-- A plan of the sections that R159 requires (layouts of R156, R158, R160, R162): a window of each path, a branch, a ray, an
IL1 profile, power tables whose entry 0 alone is valid, a channel of each path, a mask and the tuner records. -/
def planWords : List Nat :=
  [0x50424749, 0x00080001, 1712, 77] ++ List.replicate 12 0 ++
  [0x00080101, 2, 0x20000, 902000, 0x20001, 2440000] ++
  [0x00080102, 1, 0, 0] ++
  [0x00100103, 1, 0x03000000, 902100000, 0xff000001, 0] ++
  [0x00100104, 1, 0x02000000, 0x10000000, 0, 0xff00] ++
  [0x00080106, 160] ++ (List.range 160).flatMap (fun i => [i / 80 + 256 * (i % 80), if i % 80 = 0 then 2 ^ 21 else 0]) ++
  [0x00100107, 2, 0x00ff0000, 900000000, 904000000, 0, 0x00ff0001, 2430000000, 2450000000, 0] ++
  [0x00c8010a, 1, 0, 1, 0xfffff000, 0x1000] ++ List.replicate 46 0 ++
  [0x0008010d, 2, 0, 0, 1, 0]
def planBody : List Byte := wordsImage planWords
def planNum : Nat := planWords.reverse.foldl (fun n w => 2 ^ 32 * n + w) 0

theorem b1_leBytes (n : Nat) : ∀ (x i : Nat), x < 256 ^ n → b1 (leBytes n x) i = x / 256 ^ i % 256 := by
  induction n with
  | zero => intro x i h; have : x = 0 := by omega
            subst this; simp [b1, leBytes]
  | succ n ih =>
    intro x i h
    cases i with
    | zero => simp [b1, leBytes]
    | succ i =>
      have h2 : x / 256 < 256 ^ n := by
        rw [Nat.div_lt_iff_lt_mul (by decide)]; rw [Nat.pow_succ] at h; exact h
      have := ih (x / 256) i h2
      simp only [b1, leBytes, List.getD_cons_succ] at this ⊢
      rw [this, Nat.div_div_eq_div_mul, Nat.pow_succ, Nat.mul_comm 256]

theorem hpb : planBody = leBytes 1712 planNum := by decide +kernel
theorem hb1 (i : Nat) : b1 planBody i = planNum / 256 ^ i % 256 := by
  rw [hpb]; exact b1_leBytes _ _ _ (by decide +kernel)
def sects : List Sect := [⟨1, 64, 2⟩, ⟨2, 88, 1⟩, ⟨3, 104, 1⟩, ⟨4, 128, 1⟩, ⟨6, 152, 160⟩, ⟨7, 1440, 2⟩, ⟨10, 1480, 1⟩, ⟨13, 1688, 2⟩]
theorem hwalk : walkSects planBody 15 0 0 64 = (sects, []) := by decide +kernel

def rises : List Nat → Bool
  | a :: b :: t => decide (a < b) && rises (b :: t)
  | _ => true
theorem keyErrs_nil (m : List Byte) (typ : Nat) : ∀ l : List Nat, rises (l.map (recKey m typ)) = true → keyErrs m typ l = []
  | [], _ => rfl
  | [_], _ => rfl
  | a :: b :: t, h => by
    simp only [List.map_cons, rises, Bool.and_eq_true, decide_eq_true_eq] at h
    simp only [keyErrs]
    rw [if_neg (by omega), keyErrs_nil m typ (b :: t) h.2]; rfl
theorem hkey : ∀ x ∈ sects, rises (x.recs.map (recKey planBody x.typ)) = true := by
  simp only [sects, List.forall_mem_cons]
  delta recKey b2
  simp only [hb1]
  decide +kernel
theorem hrec : ∀ x ∈ sects, ∀ o ∈ x.recs, recErrs planBody x.typ o = [] := by
  simp only [sects, List.forall_mem_cons]
  delta recErrs profileErrs channelErrs maskErrs rsvBytes s1 s2 s4 b4 b2
  simp only [hb1]
  decide +kernel
theorem hsect : sectErr planBody = (sects, none) := by
  have h : sects.flatMap (fun x => keyErrs planBody x.typ x.recs ++ x.recs.flatMap (recErrs planBody x.typ)) = [] := by
    rw [List.flatMap_eq_nil_iff]
    intro x hx
    rw [keyErrs_nil _ _ _ (hkey x hx), List.nil_append, List.flatMap_eq_nil_iff]
    exact hrec x hx
  simp only [sectErr, hwalk, h]; rfl
theorem htop : topEntry planBody sects .s = some (160, 0) ∧ topEntry planBody sects .g = some (800, 0) := by
  delta topEntry parsePower b4 b2
  simp only [hb1]
  decide +kernel
theorem hweights : planWeights (parsePlan planBody sects) planBody sects .s = [(96, 64), (112, 8)] ∧
    planWeights (parsePlan planBody sects) planBody sects .g = [] := by
  delta planWeights parsePlan parseBranch parseRay parseProfile parseFacet parseHop b4 b2
  simp only [hb1]
  decide +kernel
theorem hload : ∀ p, (parsePlan planBody sects).pathLoad p = 0 := fun _ => rfl
theorem hchecks : check9 (parsePlan planBody sects) planBody sects = none ∧ check10 (parsePlan planBody sects) planBody sects = none ∧
    check11 (parsePlan planBody sects) planBody sects = none ∧ check12 (parsePlan planBody sects) planBody sects = none ∧
    check13 (parsePlan planBody sects) planBody sects = none ∧ check14 (parsePlan planBody sects) planBody sects = none ∧
    check15 (parsePlan planBody sects) planBody sects = none ∧ check16 (parsePlan planBody sects) planBody sects = none ∧
    check17 (parsePlan planBody sects) planBody sects = none ∧ check18 (parsePlan planBody sects) planBody sects = none ∧
    check19 (parsePlan planBody sects) planBody sects = none := by
  delta check9 check10 check11 check12 check13 check14 check15 check16 check17 check18 check19 planWeights parsePlan parseWindow
    parseBranch parseRay parseProfile parseFacet parsePower parseChannel parseSubband parseHop parseMask parseFilter
    parseNeighbour parseTuner hdrOff bodyLen s1 s2 s4 b4 b2
  simp only [hb1]
  decide +kernel
theorem hcheck20 : check20 (parsePlan planBody sects) planBody sects = none := by
  simp only [check20, envelope, htop, hweights, hload]
  decide +kernel
theorem ruleErr_none (q : Plan) (m : List Byte) (l : List Sect) (h : check9 q m l = none ∧ check10 q m l = none ∧
    check11 q m l = none ∧ check12 q m l = none ∧ check13 q m l = none ∧ check14 q m l = none ∧ check15 q m l = none ∧
    check16 q m l = none ∧ check17 q m l = none ∧ check18 q m l = none ∧ check19 q m l = none) (h20 : check20 q m l = none) :
    ruleErr q m l = none := by simp [ruleErr, h, h20]
theorem loads (m : List Byte) (l : List Sect) (q : Plan) (hq : parsePlan m l = q) (h : sectErr m = (l, none))
    (hc : check9 q m l = none ∧ check10 q m l = none ∧
    check11 q m l = none ∧ check12 q m l = none ∧ check13 q m l = none ∧ check14 q m l = none ∧ check15 q m l = none ∧
    check16 q m l = none ∧ check17 q m l = none ∧ check18 q m l = none ∧ check19 q m l = none) (h20 : check20 q m l = none) :
    (loadPlan m).2 = none := by
  simp only [loadPlan, h, hq]; exact ruleErr_none q m l hc h20
theorem test_plan_loads : (loadPlan planBody).2 = none := loads planBody sects _ rfl hsect hchecks hcheck20

def armed (s : State) : State := s.set1 SEQ_PLANSTAT_ARMED
/-- The two slots hold plans, slot 0 active. -/
def wSlots : State := { withPlan State.reset with plan := { slot0 := some {}, slot1 := some { planid := 1 } } }
def wArmed : State := armed wSlots
def wFinish : State := wSlots.set1 SEQ_PLANSTAT_FINISH
def wSwapRan : State := { wSlots with plan := { wSlots.plan with swapRan := some 0 } }
def wMarkFirst : State := { wArmed with bist := { wArmed.bist with check := some { item := 0, why := .rerun, endAt := 5 } } }
def wLoadAt (l : List Byte) : State :=
  (State.reset.wr SEQ_PLANADDR 0x10000000).setFld SEQ_PLANLEN_LEN 3381 |>.memPut 0x10000000 l
def wLoadOk : State := wLoadAt (leBytes 4 0x50424749 ++ leBytes 4 1 ++ leBytes 4 72)
def wSig (key : List Byte) : State :=
  { State.reset with plan := { phase := .waitLattice, stagingKey := key }, lat := { State.reset.lat with cur := some { op := 1, args := [], loader := true } } }
def wChecking (m : List Byte) (q : Option Plan) : State := { State.reset with plan := { slot0 := q, phase := .checking, staging := m } }

def wCheckBad : State := wChecking [] none
def wCheckOk : State := wChecking planBody none
def wCheckOkActive : State := wChecking planBody (some {})
def wLoadBad : State := wLoadAt []
def wSigNone : State := wSig []
def wSigKey : State := wSig [1]
def wRollback : State := { wChecking [] none with otp := { words := [(96, 1)] } }

theorem test_BandPlan : ((armed wSlots).flag SEQ_PLANSTAT_ARMED = true) ∧
    (State.reset.plan.phase = .idle ∧ State.reset.flag SEQ_PLANSTAT_ARMED = false ∧ State.reset.flag SEQ_PLANSTAT_FINISH = false ∧
      State.reset.fld SEQ_PLANLEN_LEN < 3381) ∧
    (wLoadOk.plan.phase = .idle ∧ planRegion (wLoadOk.rd SEQ_PLANADDR).toNat 3381 = true ∧ planRegion 0x20530000 3381 = false ∧
      headerErr (wLoadOk.memBytes 0x10000000 3381) 3381 = none) ∧
    headerErr ((wLoadAt []).memBytes 0x10000000 3381) 3381 = some ⟨0, 1⟩ ∧
    ((wChecking [] none).plan.phase = .checking ∧ (wChecking [] none).arb 4 ≤ b1 [] 16 ∧ (loadPlan []).2 = some ⟨64, 5⟩) ∧
    (wRollback.plan.phase = .checking ∧ b1 wRollback.plan.staging 16 < wRollback.arb 4) ∧
    ((wSlots.planSlot wSlots.standbyNum).isSome = true ∧ wSlots.activePlan.isSome = true ∧ wSlots.plan.phase = .idle ∧
      wSlots.clocked = true) ∧ (State.reset.activePlan = none) ∧
    ((armed wSlots).sqt = (armed wSlots).swapDue ∧ wSwapRan.plan.swapRan = some wSwapRan.sqt ∧ wSlots.plan.swapRan ≠ some wSlots.sqt ∧ wSlots.flag SEQ_PLANSTAT_FINISH = false) := by decide +kernel

/-- A staged image whose signature the engine takes, where it takes it; one without a key. -/
theorem test_BandPlan_signature (h : Config.mldsaVerify [1] [] [] [] = true) : (wSig [1]).latVerify 0 [1] [] [] = Code.OK ∧
    ((wSig [1]).lat.cur.map (fun o => o.loader)) = some true ∧ (wSig []).plan.stagingKey = [] := by
  refine ⟨?_, rfl, rfl⟩
  unfold State.latVerify
  rw [if_neg (by decide), if_neg (by decide), if_pos h]
/-- A staged image that passes every check, with and without an active plan. -/
theorem test_BandPlan_loads : (wChecking planBody none).activePlan = none ∧ (wChecking planBody (some {})).activePlan ≠ none ∧
    (loadPlan (wChecking planBody none).plan.staging).2 = none := ⟨rfl, by decide, test_plan_loads⟩
theorem test_BandPlan_swap : (armed wSlots).clocked = true ∧ (armed wSlots).inTurn (armed wSlots).swapDue 1 0 = true ∧
    (wArmed.advanceSqt wArmed.swapDue).markFirst = false ∧ (wMarkFirst.advanceSqt wMarkFirst.swapDue).markFirst = true ∧ (armed wSlots).activePlan = some {} ∧
    (armed wSlots).planSlot (armed wSlots).standbyNum = some { planid := 1 } ∧
    (wSlots.set1 SEQ_PLANSTAT_FINISH).flag SEQ_PLANSTAT_FINISH = true ∧
    (∀ e ∈ wSlots.prism.raysS ++ wSlots.prism.raysG, e.2.st ≠ .held) ∧ (∀ e ∈ wSlots.facet.facets, e.2.old = false) := by decide

/-! ### The leaf MAC -/

/-- Facet 1 in PAYLOAD of PHY `phy` with a frame of these octets, all decided, in slot 2,047. -/
def wArrive (phy : Nat) (b : List Byte) (dir : List (Nat × DirEnt) := []) : State :=
  { (fctAt .payload phy { slot := some 2047, len := b.length, decided := b.length }).memPut (slotAddr 2047 + 32) b with
    mac := { State.reset.mac with dir := dir } }
/-- A DATA frame of leaf 7 on network 0, its key index 0, and a JOIN frame. -/
def il2Data : List Byte := leBytes 4 1 ++ leBytes 4 7 ++ leBytes 4 1 ++ List.replicate 8 0
def il2Join : List Byte := leBytes 4 3 ++ List.replicate 20 5

theorem test_MacVerdicts : let s := wArrive 1 il2Data
    ((s.slotFacet 2047).map (·.1)) = some 2047 ∧ tblFind s.mac.frames 2047 = none ∧ s.flag MAC_CTRL_EN = true ∧
      (s.fct 2047).st = .payload ∧ keyReady 1 (s.slotBytes 2047 20) 20 20 = true ∧
      (il2Bad il2Data 20 = false ∧ octLe il2Data 2 2 = s.fld MAC_NETID_NETID ∧ oct il2Data 0 % 16 ≠ 3) ∧
      (il2Bad il2Join 24 = false ∧ oct il2Join 0 % 16 = 3) ∧ il2Bad il2Data 19 = true ∧
      s.dirFind 7 0 = none ∧ (wArrive 1 il2Data [(8 * s.dirSet 7 + 7, { valid := true, key := 7 })]).dirFind 7 0 =
        some (8 * s.dirSet 7 + 7) := by decide +kernel

def wRebuild : State := { State.reset with mac := { State.reset.mac with badSets := [65535] } }

/-- Frame 2,047 of the MAC in this state. -/
def wMac (x : MacFrame) (dir : List (Nat × DirEnt) := []) : State :=
  { seeded State.reset with mac := { State.reset.mac with frames := [(2047, x)], dir := dir } }
/-- With context 9 resident. -/
def wHot (s : State) (c : Ctx) : State := { s with pager := { s.pager with hot := [(9, { ctx := c })] } }
def kZ : List Byte := List.replicate 16 0
/-- A frame of counter `fc` in its MIC check with the MIC of an all-zeros key, and RX_FC `rx`. -/
def il2Fc (fc : Nat) : List Byte :=
  leBytes 4 1 ++ leBytes 4 7 ++ leBytes 4 fc ++ leBytes 8 (if fc = 5 then 5644587499789689515 else 5458813696598532979)
def wX : MacFrame := { phy := 1, phase := .auth, len := 20, ctx := 9, ftype := 1 }
def wC (rx : Nat) : Ctx := { key0 := kZ, k0 := true, rxfc0 := rx }
def wAuth (fc rx : Nat) (x : MacFrame := wX) : State := (wHot (wMac x) (wC rx)).memPut (slotAddr 2047 + 32) (il2Fc fc)
def wAuthNew : State := wAuth 5 4
def wAuthEnd : State := wAuth 0xffffffff 4
def wAuthSame : State := wAuth 5 5
def wAuthOld : State := wAuth 5 6
def wAuthBad : State := wAuth 6 4
def wAuthGone : State := wAuth 5 4 { wX with keyGone := true }
def wAuthHalted : State := wAuthNew.set1 CIPHER_STAT_HALTED
def wAuthWait : State := { wAuthNew with cipher := State.reset.cipher }
def wAuthCold : State := wMac wX

/-- A new counter and an exhausted one under a MIC that holds; one that does not hold. -/
theorem test_MacAuthentication : (∀ s ∈ [wAuthNew, wAuthEnd, wAuthSame, wAuthOld], tblFind s.mac.frames 2047 = some wX ∧
      s.flag CIPHER_STAT_HALTED = false ∧ s.aesRuns = true ∧ s.pairStandby = false ∧ (s.hot 9).isSome = true) ∧ wX.phase = .auth ∧ wX.len ≤ 255 ∧
    openFrame wX (wAuthNew.slotBytes 2047 20) (wC 4) = (5, 12, some []) ∧
    openFrame wX (wAuthEnd.slotBytes 2047 20) (wC 4) = (0xffffffff, 12, some []) ∧
    (openFrame wX (wAuthBad.slotBytes 2047 20) (wC 4)).2.2 = none := by decide +kernel
theorem test_MacAuthentication_counters : (wC 4).rxfc 0 < 5 ∧ 5 = (wC 5).rxfc 0 ∧ 5 < (wC 6).rxfc 0 ∧
    (tblFind wAuthGone.mac.frames 2047).map (·.keyGone) = some true ∧ wAuthHalted.flag CIPHER_STAT_HALTED = true ∧ wAuthWait.aesRuns = false ∧ wAuthWait.flag CIPHER_STAT_HALTED = false ∧
    tblFind wAuthCold.mac.frames 2047 = some wX ∧ wAuthCold.hot 9 = none := by decide

def wLand (v : MacVerdict) (x : MacFrame := {}) : State := wMac { x with verdict := some v, phase := .landed, phy := 1, len := 24 }
def wJoin (full : Bool) (dir : List (Nat × DirEnt) := []) : State :=
  let s := (wLand .join).set1 MAC_BCNCTL_JOINOPEN
  { (if full then s.setFld MAC_DIRSTAT_LIVE 262144 else s) with mac := { s.mac with dir := dir } }
def wParked : State := wMac { phase := .parked, ctx := 9 }

theorem test_MacLanding : (macCntOf Code.FOREIGN = some 6 ∧ (wLand (.reject Code.FOREIGN)).flag MAC_CTRL_KEEPREJ = false ∧
      ((wLand (.reject Code.FOREIGN)).set1 MAC_CTRL_KEEPREJ).flag MAC_CTRL_KEEPREJ = true) ∧
    ((wLand .join).flag MAC_BCNCTL_JOINOPEN = false) ∧
    ((wJoin false).flag MAC_BCNCTL_JOINOPEN = true ∧ (wJoin false).dirFind 0 0 = none ∧ (wJoin true).fld MAC_DIRSTAT_LIVE = 262144 ∧
      (wJoin false).fld MAC_DIRSTAT_LIVE ≠ 262144 ∧ (wJoin false).dirFree ((wJoin false).dirSet 0) ≠ 0) ∧
    ((wJoin false [(8 * (wJoin false).dirSet 0, { valid := true })]).dirFind 0 0 ≠ none ∧
      (wJoin false ((List.range 8).map (fun w => (8 * (wJoin false).dirSet 0 + w, { valid := true, key := 1 })))).dirFree
        ((wJoin false).dirSet 0) = 0) ∧
    (tblFind wParked.mac.frames 2047 = some { phase := .parked, ctx := 9 }) ∧
    ((wLand .proceed).isHot 0 = false ∧ (wLand .proceed).flag CIPHER_STAT_HALTED = false ∧ (wLand .proceed).pager.damaged = [] ∧
      (wLand .proceed).flag PAGER_STAT_STOREDOWN = false ∧ (wLand .proceed).flag PAGER_STAT_FLUSHED = false ∧
      (wHot (wLand .proceed { ctx := 9 }) {}).isHot 9 = true) := by decide

def wAck (d : Option Bool) : State :=
  { State.reset with mac := { State.reset.mac with acks := [⟨2047, 3, .g, 1, 4, 192, 255, d, false, some 3, [], false⟩] } }
def wGrp : SchedRec := { words := [2, 0, 0, 0, 0, 0, 0], occ := some { s0 := 40 } }
def wGack (frozen : Bool) : State :=
  let s := wRun State.reset
  { s with seq := { s.seq with recs := [(255, wGrp)] },
           mac := { s.mac with gacks := [{ recn := 255, grp := 1, gseq := 2, npos := 64, s0 := 40, frozen := frozen }], jresp := [⟨some 1, [], 0⟩] } }
def wBeacon : State :=
  let s := wRun State.reset
  { s with seq := { s.seq with recs := [(0, { words := [1], next := some 100 })] } }
def wAssoc : State :=
  { State.reset with mac := { State.reset.mac with after := [⟨3, .g, 1, 4, 600, false, none, [1], true⟩], assoc := [⟨.g, 1, 4, [1], 2⟩] } }

theorem test_MacAcknowledgements : (∀ d ∈ [none, some true, some false], ((wAck d).mac.acks.find? (fun a => a.slot == 2047)).map (·.decided) = some d) ∧
    ((wGack false).sched 255 = some wGrp ∧ wGrp.occ = some { s0 := 40 } ∧ (((wGack false).gackOf 255 40).map (·.frozen)) = some false ∧
      (wGack false).wheelRuns = true ∧ (wGack false).inTurn (40 + wGrp.gackAt - (wGack false).fld MAC_GACKCFG_BUILD) 0 0 = true) ∧
    (((wGack true).mac.gacks.find? (fun g => g.recn == 255 && g.frozen && !g.asked)).isSome = true ∧
      (wGack true).flag CIPHER_STAT_HALTED = false ∧ ((wGack true).set1 CIPHER_STAT_HALTED).flag CIPHER_STAT_HALTED = true) ∧
    (wBeacon.sched 0 = some { words := [1], next := some 100 } ∧ SchedRec.kind { words := [1], next := some 100 } = 1 ∧
      wBeacon.wheelRuns = true ∧ wBeacon.flag CIPHER_STAT_HALTED = false) ∧
    ((wAssoc.mac.after.find? (fun a => a.slot == 3)).map (·.dataReq) = some true ∧
      (wAssoc.mac.assoc.find? (fun h => h.ext == [1])).isSome = true) := by decide

def wDir : State := { State.reset with mac := { State.reset.mac with dir := [(8 * State.reset.dirSet 0 + 7, { valid := true, ctx := 262143, cls := 1 })] } }
def wJfull : State := { State.reset with mac := { State.reset.mac with jresp := List.replicate 32 ⟨none, [], 0⟩ } }

theorem test_MacDirectory : (State.reset.dirFind 0 0 = none) ∧ wDir.dirFind (wDir.rd MAC_DIRKEY).toNat 1 = some (8 * State.reset.dirSet 0 + 7) ∧
    (0xff00 : Word).toNat % 256 = Code.OK ∧ State.reset.mac.jresp.length < 32 ∧ 32 ≤ wJfull.mac.jresp.length ∧
    (∀ c ∈ [Code.OK, Code.SET_FULL, Code.CAPACITY, Code.BLOCKED], (0x55 : Word).toNat % 256 ≠ c) := by decide

/-- Downlink entry 511 of this kind, LEN, key and data. -/
def wDl (kind len key : Nat) (data : List Byte := []) : State :=
  (State.reset.setFld MAC_DLPOOL_COUNT 512).memPut (288 * 511) (leBytes 1 0 ++ leBytes 1 kind ++ leBytes 2 len ++ leBytes 4 key ++
    leBytes 4 9 ++ List.replicate 20 0 ++ data)
def wDlNode : State :=
  let s := wDl 0 235 7
  { s with mac := { s.mac with dir := [(8 * s.dirSet 7, { valid := true, key := 7 })] } }
def wDlWin : State := { wGack false with mac := { State.reset.mac with dlwins := [] } }
def wAfter (d : DlEnt) (cls1 : Bool) : State :=
  let s := wHot State.reset { k0 := true, key0 := kZ, txfc := 5, txrsv := 6 }
  { s with mac := { s.mac with after := [⟨3, .g, 1, 4, 600, false, some 7, [], true⟩], dlq := [d],
                               dir := if cls1 then [(8 * s.dirSet 7, { valid := true, key := 7, cls := 1, ctx := 9 })] else [] } }
def wDl3 : DlEnt := ⟨0, 3, 7, 0, 2, 99999, [], false⟩
def wDl4 : DlEnt := ⟨0, 4, 0, 0, 2, 99999, shortDst 7, false⟩
def wDlEnd : State :=
  { State.reset with txEnds := [(4, Code.OK, true)], seq := { State.reset.seq with approved := [{ id := 4, kind := .downlink 0 }] },
                     mac := { State.reset.mac with dlq := [wDl3], dldone := [(511, 255)] } }

def wDlD : DlEnt := (wDl 0 235 7).dlEntry 511

theorem test_MacDownlinks : (511 < (wDl 0 235 7).fld MAC_DLPOOL_COUNT ∧ (wDl 0 235 7).mac.dlq = [] ∧ (wDl 0 235 7).mac.dldone = []) ∧
    ((wDl 0 236 7).dlBad ((wDl 0 236 7).dlEntry 511) = true) ∧
    ((wDl 0 235 7).dlBad wDlD = false ∧ wDlD.ofNode = true ∧ (wDl 0 235 7).dirFind wDlD.key wDlD.cls = none ∧
      wDlNode.dlEntry 511 = wDlD ∧ wDlNode.dlBad wDlD = false ∧ (wDlNode.dirFind wDlD.key wDlD.cls).isSome = true ∧
      wDlNode.ctxOfKey wDlD.key wDlD.cls = none) ∧
    (State.reset.fld MAC_DLPOOL_COUNT = 0 ∧ State.reset.mac.dldone = [] ∧ wDlEnd.mac.dldone = [(511, 255)]) ∧
    (wDlWin.sched 255 = some wGrp ∧ wGrp.kind = 2 ∧ wDlWin.wheelRuns = true ∧ wDlWin.inTurn (40 + wGrp.gackAt + wGrp.dlofs) 0 0 = true ∧ wDlWin.mac.dlwins = [] ∧ wDlWin.gackOf 255 40 = none) ∧
    ((wDlEnd.txEnds.find? (fun x => (wDlEnd.reqOf x.1).any (fun r => r.kind == .downlink 0))) = some (4, Code.OK, true) ∧
      (wDlEnd.reqOf 4).isSome = true ∧ wDlEnd.mac.dlq.find? (fun d => d.ent == 0) = some wDl3 ∧ wDl3.sending = false) := by decide +kernel

theorem test_MacDownlinks_154 : (∀ d ∈ [wDl3, wDl4], (wAfter d true).dropExhausted = wAfter d true ∧
      (let a : AfterAck := ⟨3, .g, 1, 4, 600, false, some 7, [], true⟩
       (wAfter d true).mac.dlq.find? (fun e => a.takes e && !((wAfter d true).lateFor e ((wAfter d true).afterAckAt a))) = some d)) ∧
    ((wAfter wDl3 true).flag CIPHER_STAT_HALTED = false ∧ ((wAfter wDl3 true).ctxOfKey 7 1).map (·.1) = some 9 ∧
      ({ k0 := true, key0 := kZ, txfc := 5, txrsv := 6 } : Ctx).keyAt 0 = some kZ ∧
      (wAfter wDl3 true).mayBuild 9 { txfc := 5, txrsv := 6 } = true) := by decide +kernel

/-! ### The pager -/

/-- The pager ready on a released die, the cipher engine seeded, the store key in slot 0, with this pager state. -/
def wKey64 : List Byte := List.replicate 64 1
def wPg (f : PagerState → PagerState) : State :=
  let s := (((seeded State.reset).set1 PAGER_STAT_READY).set1 NAND_BOOTSTAT_RELEASE).set1 PAGER_KEYSLOT_VALID
  { s with pager := f s.pager, cipher := { s.cipher with keys := [(0, { key := some wKey64 })] } }

theorem test_PagerCommands : PagerOp (.join 1) 1 1 ∧ PagerOp .flush 7 0 ∧ pagerRefuses State.reset 1 0 ∧ ¬pagerRefuses (wPg id) 1 1 ∧
    pagerRefuses ((wPg id).setFld PAGER_SCHED_PERIODC 4) 4 1 ∧ ¬pagerRefuses ((wPg id).setFld PAGER_SCHED_PERIODC 4) 3 1 := by
  refine ⟨.inl ⟨rfl, rfl⟩, .inr (.inr (.inr (.inr (.inr (.inr ⟨rfl, rfl, rfl⟩))))), ?_, ?_, ?_, ?_⟩ <;>
    (unfold pagerRefuses; decide)

def wCmd (op status : Nat) (hot : List (Nat × HotCtx) := [(9, { ctx := { k0 := true } })]) : State :=
  wPg (fun p => { p with hot := hot, cmd := some { op := op, cls := 0, key := 7, status := status, ctx := 9 } })

def wCmdDown : State := (wCmd 3 Code.OK).clr PAGER_KEYSLOT_VALID
def wCmdDam : State := let s := wCmd 3 Code.OK; { s with pager := { s.pager with damaged := [9] } }
def wCmdCold : State :=
  let s := wCmd 6 Code.OK []
  { s with pager := { s.pager with store := [(9, ⟨{ key := 7, ctxid := 9 }, wKey64⟩)], pages := [(0, ⟨none, 0, [9], 0⟩)] } }

theorem test_PagerCommands_done : (∀ op ∈ [1, 2, 3, 4, 5, 6, 7], ((wCmd op Code.OK).pager.cmd.map (fun k => (k.op, k.ctx, k.status))) =
      some (op, 9, Code.OK)) ∧ ((wCmd 1 Code.SET_FULL).pager.cmd.map (·.status)) = some Code.SET_FULL ∧
    ((wCmd 1 Code.OK).dirSlot 7 = some (8 * State.reset.dirSet 7) ∧ (wCmd 1 Code.OK).dirFind 7 0 = none ∧
      (wCmd 1 Code.OK).cmdWaits { op := 1, cls := 0, key := 7, status := 0, ctx := 9 } = false) ∧
    ((wCmd 2 Code.OK).cmdWaits { op := 2, cls := 0, key := 7, status := 0, ctx := 9 } = false ∧
      (wCmd 7 Code.OK).cmdWaits { op := 7, cls := 0, key := 7, status := 0, ctx := 9 } = false ∧ (wCmd 3 Code.OK).storeDown = false) ∧
    (wCmdDown.storeDown = true ∧ 9 ∈ wCmdDam.pager.damaged ∧ wCmdDam.storeDown = false) ∧
    (wCmdCold.storeDown = false ∧ wCmdCold.hot 9 = none ∧ wCmdCold.fetched 9 = some { key := 7, ctxid := 9 } ∧
      wCmdCold.slotForCmd.isSome = true) ∧
    ((wCmd 3 Code.OK).hot 9 = some { ctx := { k0 := true } } ∧ 9 ∉ (wCmd 3 Code.OK).pager.zeroed) ∧
    (wCmd 6 Code.OK []).isHot 9 = false := by decide +kernel

def wGroup : SchedRec := { words := [2, 0, 0, 5, 0, 0, 0], next := some 100 }
def wAnn : State :=
  let s := wRun (wPg (fun p => { p with store := [(9, ⟨{ grp := 5, periodc := 1, ctxid := 9 }, wKey64⟩)] }))
  { s with seq := { s.seq with recs := [(255, wGroup)] } }
def wFetch : State :=
  wPg (fun p => { p with wants := [(9, true)], store := [(9, ⟨{ key := 3, ctxid := 9 }, wKey64⟩)], pages := [(0, ⟨none, 0, [9, 10], 0⟩)] })
def wFetchDown : State := wFetch.set1 PAGER_STAT_STOREDOWN
def wResv : State := wPg (fun p => { p with hot := [(9, { dirty := true, ctx := { ctxid := 9 } })], resv := [9], resvNew := [9] })
def wResvNone : State := wPg (fun p => { p with hot := [(9, { dirty := true, ctx := { ctxid := 9 } })] })
def wCommit (f : Bool) : State :=
  wPg (fun p => { p with commit := some ⟨[⟨9, 0, 0, true, 0, 0, 4096⟩], f, false, 0, 1, 0⟩, hot := [(9, {})] })
def wCommitJ : State := wCommit false
def wCommitF : State := wCommit true
def wVinWarn : State := wResvNone.set1 PWR_STAT_VINWARN
def wFeed : State := { ((wPg (fun p => { p with feedOut := [.commit 0] })).set1 MIRROR_CTRL_EN).setFld MIRROR_STAT_ROLE 3 with
  mirror := State.reset.mirror }
def wFeedUp : State := wFeed.setFld MIRROR_STAT_LINK 2
def wRebuilt (h : List HeaderCopy) (j : List JournalPage) : State :=
  let s := wPg (fun p => { p with headers := h, jpages := j, store := [(9, ⟨{ key := 3, ctxid := 9 }, wKey64⟩)], pages := [(0, ⟨none, 0, [9], 0⟩)] })
  s.clr PAGER_STAT_READY
def wRebuiltNew : State := (wPg id).clr PAGER_STAT_READY
def wRebuiltClean : State := wRebuilt [⟨1, 2, 0, 0⟩] [⟨1, [], true, true⟩]
def wRebuiltDirty : State := wRebuilt [⟨1, 2, 0, 0⟩] [⟨1, [], true, false⟩]

theorem test_PagerResidencyAndCommits : (wAnn.sched 255 = some wGroup ∧ wGroup.kind = 2 ∧ wGroup.grp = 5 ∧ wGroup.next = some 100 ∧
      wGroup.announced = false ∧ wAnn.wheelRuns = true ∧ wAnn.clocked = true ∧
      wAnn.inTurn (100 - 1000 * wAnn.fld PAGER_CFG_LOOKAHEAD) 4 255 = true ∧ wAnn.flag PAGER_STAT_READY = true ∧
      wAnn.flag PAGER_STAT_FLUSHED = false ∧ wAnn.pager.flushing = false ∧ wAnn.allCtx = [(9, { grp := 5, periodc := 1, ctxid := 9 })] ∧
      (wAnn.placedFor { grp := 5, periodc := 1, ctxid := 9 } 5 0).due 5 0 = true ∧ wAnn.hot 9 = none) ∧
    (wFetch.nextWant = some (9, true) ∧ wFetch.dieReleased = true ∧ wFetch.pagerRuns = true ∧ wFetch.storeDown = false ∧
      wFetch.pageOf 9 = some (0, ⟨none, 0, [9, 10], 0⟩) ∧
      ([9, 10].filter (fun m => wFetch.pager.wants.any (fun e => e.1 == m))) = [9] ∧ wFetch.fetched 9 = some { key := 3, ctxid := 9 } ∧
      wFetch.freeHot = some 0 ∧ wFetchDown.storeDown = true) ∧
    (wResv.isHot 9 = true ∧ wResv.mayCommit = true ∧ wResv.pager.resv ≠ []) ∧
    (wFeed.pager.feedOut = [.commit 0] ∧ wFeed.pairActive = true ∧ wFeedUp.linkUp = true) ∧
    (∀ f, (wCommit f).pager.commit = some ⟨[⟨9, 0, 0, true, 0, 0, 4096⟩], f, false, 0, 1, 0⟩ ∧ (wCommit f).pager.zeroed = [] ∧
      (wCommit f).hot 9 = some {}) ∧
    (wVinWarn.flag PWR_STAT_VINWARN = true ∧ wVinWarn.clocked = true ∧ wVinWarn.ctxWritable = true ∧ wVinWarn.pager.flushing = false) ∧
    (∀ s ∈ [wRebuiltNew, wRebuiltClean, wRebuiltDirty], s.mayRebuild = true) ∧ wRebuiltNew.pager.header = none ∧
    wRebuiltClean.pager.cleanEnd = true ∧ wRebuiltDirty.pager.cleanEnd = false ∧
    wRebuiltDirty.pager.header = some ⟨1, 2, 0, 0⟩ ∧ wRebuiltDirty.fetched 9 = some { key := 3, ctxid := 9 } := by decide

/-! A full pool of hot slots. -/

def fullHot : List (Nat × HotCtx) := (List.range 16384).map (fun n => (n, { slot := n, newer := true }))
def wFull : State := wPg (fun p => { p with hot := fullHot, wants := [(20000, true)] })

theorem lowestFree_none (u : Nat → Bool) (hi : Nat) (h : ∀ j, j < hi → u j = true) : ∀ n i, i + n ≤ hi → lowestFree u n i = none
  | 0, _, _ => rfl
  | n + 1, i, hn => by
    rw [lowestFree, if_pos (h i (by omega))]; exact lowestFree_none u hi h n (i + 1) (by omega)
theorem test_pool_is_full : wFull.freeHot = none := by
  refine lowestFree_none _ 16384 (fun j hj => ?_) 16384 0 (by decide)
  rw [List.any_eq_true]
  exact ⟨(j, { slot := j, newer := true }), List.mem_map.2 ⟨j, List.mem_range.2 hj, rfl⟩, by simp⟩

theorem nextSlot_mem (hand : Nat) (l : List (Nat × HotCtx)) (ok : HotCtx → Bool) (v : Nat) (h : nextSlot hand l ok = some v) :
    ∃ e ∈ l, e.1 = v := by
  have key : ∀ (l m : List (Nat × HotCtx)) (b : Option (Nat × Nat)), (∀ x, b = some x → ∃ e ∈ m, e.1 = x.2) → (∀ e ∈ l, e ∈ m) →
      ∀ x, l.foldl (fun (b : Option (Nat × Nat)) e => if ok e.2 then
        match b with
        | none => some ((e.2.slot + 16384 - hand % 16384) % 16384, e.1)
        | some (x, i) => if (e.2.slot + 16384 - hand % 16384) % 16384 < x then
            some ((e.2.slot + 16384 - hand % 16384) % 16384, e.1) else some (x, i)
        else b) b = some x → ∃ e ∈ m, e.1 = x.2 := by
    intro l
    induction l with
    | nil => intro m b hb _ x hx; exact hb x hx
    | cons a l ih =>
      intro m b hb hm x hx
      refine ih m _ ?_ (fun e he => hm e (List.mem_cons_of_mem _ he)) x hx
      intro y hy
      dsimp only at hy
      have ha : ∃ e ∈ m, e.1 = a.1 := ⟨a, hm a List.mem_cons_self, rfl⟩
      split at hy
      · split at hy
        · cases hy; exact ha
        · split at hy
          · cases hy; exact ha
          · cases hy; exact hb _ rfl
      · exact hb y hy
  unfold nextSlot at h
  obtain ⟨x, hx, rfl⟩ := Option.map_eq_some_iff.1 h
  exact key l l none (by simp) (fun _ h => h) x hx
theorem nextSlot_some (hand : Nat) (l : List (Nat × HotCtx)) (h : l ≠ []) : ∃ v, nextSlot hand l (fun _ => true) = some v := by
  have key : ∀ (l : List (Nat × HotCtx)) (b : Option (Nat × Nat)), b.isSome = true ∨ l ≠ [] →
      (l.foldl (fun (b : Option (Nat × Nat)) e => if (fun (_ : HotCtx) => true) e.2 then
        match b with
        | none => some ((e.2.slot + 16384 - hand % 16384) % 16384, e.1)
        | some (x, i) => if (e.2.slot + 16384 - hand % 16384) % 16384 < x then
            some ((e.2.slot + 16384 - hand % 16384) % 16384, e.1) else some (x, i)
        else b) b).isSome = true := by
    intro l
    induction l with
    | nil => intro b hb; simpa using hb
    | cons a l ih =>
      intro b _
      refine ih _ (.inl ?_)
      cases b with
      | none => rfl
      | some x => simp only [if_true]; split <;> rfl
  unfold nextSlot
  obtain ⟨x, hx⟩ := Option.isSome_iff_exists.1 (key l none (.inr h))
  exact ⟨x.2, Option.map_eq_some_iff.2 ⟨x, hx, rfl⟩⟩
theorem fullHot_find (v n : Nat) : ∀ i : Nat, i ≤ v → v < i + n →
    tblFind ((List.range' i n).map (fun n => (n, ({ slot := n, newer := true } : HotCtx)))) v = some { slot := v, newer := true } := by
  induction n with
  | zero => intro i h1 h2; omega
  | succ n ih =>
    intro i h1 h2
    rw [List.range'_succ, List.map_cons]
    by_cases h : i = v
    · subst h; simp [tblFind]
    · have hh := ih (i + 1) (by omega) (by omega)
      simp only [tblFind]
      rw [if_neg h]; exact hh
/-- With the pool full and a fetch waiting, the sweep finds a victim that is newer than the store. -/
theorem test_PagerResidency_victim : ∃ v h, wFull.ctxWritable = true ∧ wFull.pager.wants ≠ [] ∧ wFull.freeHot = none ∧
    wFull.pagerRuns = true ∧ wFull.pager.flushing = false ∧ wFull.storeKey = some wKey64 ∧
    wFull.storeDown = false ∧ wFull.resvCommit = false ∧ wFull.pageVictim = some v ∧ wFull.hot v = some h ∧
    h.newer = true := by
  have hv : ∃ v, wFull.pageVictim = some v := by
    unfold State.pageVictim
    dsimp only
    split
    · exact ⟨_, rfl⟩
    · split
      · exact ⟨_, rfl⟩
      · refine nextSlot_some _ _ (List.ne_nil_of_mem (a := (0, { slot := 0, newer := true })) ?_)
        exact List.mem_filter.2 ⟨List.mem_map.2 ⟨0, List.mem_range.2 (by decide), rfl⟩, by decide⟩
  obtain ⟨v, hv⟩ := hv
  have hm : v < 16384 := by
    have : ∃ e ∈ wFull.unpinned, e.1 = v := by
      have h := hv
      unfold State.pageVictim at h
      dsimp only at h
      split at h
      · next hn => cases h; exact nextSlot_mem _ _ _ _ hn
      · split at h
        · next hn => cases h; exact nextSlot_mem _ _ _ _ hn
        · exact nextSlot_mem _ _ _ _ h
    obtain ⟨e, he, rfl⟩ := this
    obtain ⟨n, hn, rfl⟩ := List.mem_map.1 (List.mem_filter.1 he).1
    exact List.mem_range.1 hn
  refine ⟨v, { slot := v, newer := true }, by decide, by decide, test_pool_is_full, by decide, by decide, by decide, by decide, by decide, hv, ?_, rfl⟩
  show tblFind fullHot v = _
  unfold fullHot
  rw [List.range_eq_range']
  exact fullHot_find v 16384 0 (by omega) (by omega)

/-! ### Network time and the sequencer -/

def wSlew (n : Nat) : State := State.reset.wr SEQ_SLEW (BitVec.ofNat 32 n)
def wResume : State := { State.reset with seq := { State.reset.seq with savedNt := some (0, 5) }, clk := { State.reset.clk with pll := true } }
def wSample (st : Nat) (e : Int) (f : SeqState → SeqState := id) : State :=
  let s := ((State.reset.setFld SEQ_STAT_TSTATE st).setFld SEQ_TLOOP_PPSWIN 10).setFld SEQ_TLOOP_LOCKN 2
  { s with seq := f { s.seq with sample := some e }, clk := { s.clk with now := 200 } }

theorem test_NetworkTime : ((wSlew 3).slew = 3 ∧ (wSlew 0xfffffffd).slew = -3 ∧ (wSlew 3).clk.slewAt ≤ (wSlew 3).clk.now) ∧
    State.reset.flag SEQ_CTRL_RUN = false ∧ (State.reset.set1 SEQ_CTRL_RUN).flag SEQ_CTRL_RUN = true ∧
    State.reset.seq.trefHold = false ∧ (wResume.seq.savedNt = some (0, 5) ∧ wResume.clk.pll = true ∧
      wResume.flag SEQ_STAT_NTVALID = false) ∧ (0xffffffff : Word).toNat % 4 = 3 ∧ (0xfffffffe : Word).toNat % 4 = 2 ∧
    ((wSample 2 101).seq.sample = some 101 ∧ (wSample 2 101).fld SEQ_STAT_TSTATE = 2 ∧
      10 * (wSample 2 101).fld SEQ_TLOOP_PPSWIN < (101 : Int).natAbs) ∧
    ((wSample 1 (-100) (fun q => { q with lastOk := some 100, good := 1 })).seq.lastOk = some 100 ∧ (-100 : Int).natAbs ≤ 100 ∧
      (wSample 1 0 (fun q => { q with good := 1 })).fld SEQ_TLOOP_LOCKN ≤ 1 + 1 ∧ 0 + 1 < (wSample 1 0).fld SEQ_TLOOP_LOCKN) ∧
    (wSample 3 0).fld SEQ_STAT_TSTATE = 3 := by decide

/-- 1,024 ST edges lie between these cycles, whatever the phase of the slow clock. -/
theorem test_NetworkTime_span : stEdges 0 + 1024 ≤ stEdges 6250000 := by unfold stEdges; omega

def wHold (mode : Nat) : State :=
  let s := (State.reset.setFld SEQ_STAT_TSTATE 2).setFld SEQ_TSRC_MODE mode
  { s with seq := { s.seq with lastOk := some 9, links := [(0, { st := .search })] } }
theorem test_NetworkTime_holdover : ((wHold 1).fld SEQ_STAT_TSTATE = 2 ∧ (wHold 1).fld SEQ_TSRC_MODE = 1 ∧ (wHold 1).seq.lastOk = some 9) ∧
    ((wHold 2).fld SEQ_TSRC_MODE = 2 ∧ ((wHold 2).link ((wHold 2).fld SEQ_TSRC_NB)).st = .search) := by decide

/-- A staged single self-test window of 200 µs on path S. -/
def wStage (w4 : Nat) : State := ((withPlan State.reset).wr (SEQ_RECWn 0) 6).wr (SEQ_RECWn 4) (BitVec.ofNat 32 w4)
def wUpRec : SchedRec := { wGroup with announced := true }
def wUplink : State := { wAnn with seq := { wAnn.seq with recs := [(255, wUpRec)] } }
def wRecOcc (up : Bool) : State :=
  { wRun State.reset with seq := { State.reset.seq with recs := [(255, { words := [2], occ := some { s0 := 40, upOpen := up } })] } }

theorem test_SequencerRecords : ((wStage 200).recBad 0 (wStage 200).stagedRec = false ∧ (wStage 200).stagedRec.kind = 6) ∧
    ((wStage 201).stagedRec.fieldsOk = false) ∧ ((withPlan State.reset).recBad 0 (withPlan State.reset).stagedRec = false ∧
      (withPlan State.reset).stagedRec.kind = 0) ∧ State.reset.activePlan = none ∧
    (wUplink.sched 255 = some wUpRec ∧ wUpRec.kind = 2 ∧ wUpRec.next = some 100 ∧ wUpRec.occ = none ∧ wUplink.wheelRuns = true ∧ wUplink.inTurn 100 4 255 = true ∧
      wUplink.gackOf 255 100 = none) ∧
    (∀ b, (wRecOcc b).sched 255 = some { words := [2], occ := some { s0 := 40, upOpen := b } } ∧ (wRecOcc b).wheelRuns = true ∧
      (wRecOcc b).inTurn 40 0 0 = true ∧ (wRecOcc b).inTurn 40 3 255 = true) := by decide

def wReqR : TxReq := { id := 3, kind := .gack 1, tstart := 10000, lenUs := 100 }
def wReq (run : Bool) (lbt : Bool) : State :=
  let s := withPlan (State.reset.setBool SEQ_CTRL_RUN run)
    { channels := [⟨.s, 0, none, 0, 0, 10000000000, 0, 0, lbt⟩], profiles := [{ lbtus := 50 }] }
  { s with seq := { s.seq with asks := [wReqR] } }
def wLbt : State := { State.reset with seq := { State.reset.seq with approved := [{ wReqR with lbtDue := some 900 }] } }
/-- A listen interval of 50 µs at its report: the ray is LIVE throughout, or it is UNUSED. -/
def wLbtRun (live : Bool) : State :=
  let s : State := { State.reset with seq := { State.reset.seq with approved := [{ wReqR with lbtReady := some 9 }] } }
  (if live then withRay s .s 0 { st := .live } else s).modRf .s (fun x => { x with seqMeter := some { durUs := 50, readyAt := 400000 } })
/-- A request of a transmission that the quiet interval of its neighbour bars. -/
def wQuietR : TxReq := { id := 4, kind := .ridge 2 none 0, tstart := 500 }
def wQuietAsk : State :=
  { State.reset with seq := { State.reset.seq with asks := [wQuietR] }, ridge := { State.reset.ridge with nbs := [(2, { quietUntil := 200000 })] } }

theorem test_SequencerRequests : (nextAsk wQuietAsk.seq.asks = some wQuietR ∧ wQuietAsk.txEnds = [] ∧ wQuietAsk.quietBars wQuietR = true) ∧
    (nextAsk (wReq false false).seq.asks = some wReqR ∧ (wReq false false).txEnds = [] ∧ (wReq false false).quietBars wReqR = false ∧
      (wReq false false).reqCheck wReqR = Code.SEQ_CONFLICT ∧ refuseCnt Code.SEQ_CONFLICT ≠ none) ∧
    ((wReq true false).reqCheck wReqR = Code.OK ∧ (wReq true false).needsLbt wReqR = false) ∧
    ((wReq true true).reqCheck wReqR = Code.OK ∧ (wReq true true).needsLbt wReqR = true) ∧
    (wLbt.nextLbt .s = some ({ wReqR with lbtDue := some 900 }, 900) ∧ (wLbt.rf .s).seqMeter = none) ∧
    (∀ b, ((wLbtRun b).rf .s).seqMeter = some { durUs := 50, readyAt := 400000 } ∧ (wLbtRun b).txEnds = [] ∧
      (wLbtRun b).seq.approved.find? (fun r => r.path == .s && r.lbtReady.isSome) = some { wReqR with lbtReady := some 9 }) ∧
    (((wLbtRun true).advanceTo 400000).reported .s { durUs := 50, readyAt := 400000 } 60 60 = (100, 60, 60) ∧
      ((wLbtRun false).advanceTo 400000).reported .s { durUs := 50, readyAt := 400000 } 60 60 = (0, -2048, -2048) ∧
      ((wLbtRun true).profOf 0).lbtthr = 0) := by decide

def wChanLbt : Plan := { channels := [⟨.s, 0, none, 0, 0, 10000000000, 0, 0, true⟩], profiles := [{ lbtus := 50 }] }
/-- A window record of this kind on path S at 100, 376 µs long, with the path in RX. -/
def winRec (kind : Nat) : SchedRec := { words := [kind, 0, 0, 0, 376], next := some 100 }
def wWindow (kind : Nat) (f : State → State := id) : State :=
  let s := f (wRun (rfSt 4 id))
  { s with seq := { s.seq with recs := [(255, winRec kind)] } }
/-- A search is due, and its probe would be sent in a channel that asks for a listen interval. -/
def wProbeLbt : State := wWindow 5 (fun s => withPlan (s.set1 (RFx_STATE_TUNEDUE .s)) wChanLbt)
def wBusy (kind : Nat) : State :=
  let s := wWindow kind
  { s with seq := { s.seq with approved := [{ tstart := 120, lenUs := 10 }] } }

theorem test_SequencerWindows : (∀ k ∈ [4, 5, 6], (winRec k).kind = k ∧ (winRec k).path = .s ∧ (winRec k).dur = 376 ∧
      (wWindow k).sched 255 = some (winRec k) ∧ (wWindow k).wheelRuns = true ∧ (wWindow k).inTurn 100 4 255 = true ∧
      ((wWindow k).atWindow 255 (winRec k) 100).windowFree .s 100 488 = true ∧
      ((wBusy k).atWindow 255 (winRec k) 100).windowFree .s 100 488 = false) ∧
    (((wWindow 4).atWindow 255 (winRec 4) 100).calRerun .s 376 = false ∧ (wWindow 4).pst .s = .rx ∧ ((wWindow 4).rf .s).winPend = none) ∧
    ((wWindow 4 (fun s => (s.set1 (RFx_STATE_SYNDUE .s)).set1 (RFx_STATE_IRCDUE .s))).flag (RFx_STATE_SYNDUE .s) = true ∧
      (wWindow 4 (fun s => s.set1 (RFx_STATE_IRCDUE .s))).flag (RFx_STATE_IRCDUE .s) = true) ∧
    ((wWindow 5 (fun s => s.set1 (RFx_STATE_TUNEDUE .s))).searchDue .s = true ∧ (wWindow 5).searchDue .s = false ∧
      ((wWindow 5 (fun s => s.set1 (RFx_STATE_TUNEDUE .s))).atWindow 255 (winRec 5) 100).probeOk .s 100 = true ∧
      wProbeLbt.searchDue .s = true ∧ (wProbeLbt.atWindow 255 (winRec 5) 100).windowFree .s 100 488 = true ∧
      (wProbeLbt.atWindow 255 (winRec 5) 100).probeOk .s (wProbeLbt.atWindow 255 (winRec 5) 100).sqt = false) := by decide +kernel

def wHop : State := withPlan (wRun State.reset) { hops := [⟨31, .s, 4, 900000000, 1000, 1, 1⟩] }
theorem test_SequencerWindows_hop : wHop.activePlan.isSome = true ∧
    ((wHop.activePlan.bind (fun q => q.hop 31)).map (·.hopMs)) = some 1 ∧ wHop.wheelRuns = true ∧
    wHop.inTurn (wHop.hopDue ⟨31, .s, 4, 900000000, 1000, 1, 1⟩) 2 31 = true := by decide

/-! ### Registers and the debug port -/

theorem test_RegisterWrites : ((findRow (TMR_IRQ0 / 4 * 4)).isSome = true ∧ inWindows TMR_IRQ0 = true ∧ TMR_IRQ0 ∈ irqRegs ∧
      SEQ_IRQEN ∈ irqEnables ∧ inWindows SEQ_IRQEN = true) ∧
    (State.reset.badWrite (.core .lc0) SEQ_PLANCMD 1 = true ∧ SEQ_PLANCMD % 4 = 0 ∧ SEQ_PLANCMD % 0x10000 ≠ 0xffc ∧
      (findRow SEQ_PLANCMD).isSome = true) ∧ (inWindows (baseSEQ + 0xff0) = true ∧ findRow (baseSEQ + 0xff0) = none) := by decide

def wDbg (lvl : Nat) (f : Core → Core := id) : State := { State.reset.setFld SYS_DBGCTL_LEVEL lvl with lc0 := f State.reset.lc0 }
def wDbgHalt (lvl : Nat) : State := wDbg lvl (fun x => { x with dbgHalt := true, st := .run })

theorem test_DebugPort : (State.reset.clocked = true ∧ State.reset.dbgLevel = 0 ∧ (wDbg 1).dbgLevel = 1) ∧
    (∀ l ∈ [1, 2, 3], (wDbgHalt l).dbgCore .lc0 = true ∧ ((wDbgHalt l).core .lc0).dbgHalt = true ∧ (wDbgHalt l).executes .lc0 = true ∧
      ((wDbgHalt l).core .lc0).bankNo < 3) ∧ ((wDbg 1).dbgCore .kc = false ∧ (wDbg 2).dbgCore .kc = true) ∧
    (∀ c, bitAt 7 (coreNum c) = true → (wDbg 1).dbgCore c = true) ∧ (wDbg 1).pwr.phase = .awake ∧
    (pswLegal .lc0 0x200 = true ∧ pswLegal .sc 0x200 = false) ∧
    ((wDbg 1).dbgShut baseCIPHER = true ∧ (wDbg 2).dbgShut baseCIPHER = false ∧ regionOf baseCIPHER = .periph) ∧
    (dataMem 0x10000000 = true ∧ dataMem 0x2052fffc = true ∧ (wDbg 1).poisoned 0x10000000 = false ∧
      (wDbg 1).kernelColumn (wDbg 1).dbgAs .load 0x10000000 = none ∧ (wDbg 1).kernelColumn (wDbg 1).dbgAs .store 0x2052fffc = some vecProt ∧
      (wDbg 2).kernelColumn (wDbg 2).dbgAs .store 0x2052fffc = none) := by
  refine ⟨by decide, by decide, by decide, ?_, by decide, by decide, by decide, by decide⟩
  intro c; cases c <;> decide

/-! ### Pages, tasks and DMA -/

/-- Fixed SRAM of 64 KiB; a first-level table at 0x2000_0000 whose entry 0 names a second-level one at 0x2000_1000, with
this entry for page 0; the TCBs of the cores at 0x2000_2000, slot 0 with the table. -/
def wMap (pte : Nat) : State :=
  let s := ((State.reset.setFld MMU_POOL_FIRST 16).memPutLe 0x20000000 4 0x20001001).memPutLe 0x20001000 4 pte
  let s := ((s.setFld (MMU_TCBc_BASE 0) (0x20002000 / 2048)).memPutLe 0x20002034 4 0x20000000)
  ((s.set1 (MMU_KTTBc_EN 0)).setFld (MMU_KTTBc_L1 0) (0x20000000 / 1024))
/-- LC0 runs with bank `n`, its task bank holding slot 0. -/
def wCore (s : State) (bank : Nat) : State :=
  { s with lc0 := { s.lc0 with st := .run, psw := BitVec.ofNat 32 (256 * bank) },
           tasks := [(0, { slots := [(0, { st := slotRun })], cur := some 0 })] }

theorem test_PageMisses : ((wCore (wMap 0x15) 0).lc0.st = .run ∧ (wCore (wMap 0x15) 0).clocked = true ∧
      ((wCore (wMap 0x15) 0).core .lc0).bankNo = 0 ∧ ((wCore (wMap 0x15) 0).tasksOf .lc0).cur = some 0 ∧
      (((wCore (wMap 0x15) 0).tasksOf .lc0).slot 0).leaving = false ∧
      ((wCore (wMap 0x15) 0).translate 0 0 ((wCore (wMap 0x15) 0).slotTtb .lc0 0) true .load (fun _ => none) 0).1 = .miss 0x20001000) ∧
    (∀ b ∈ [1, 2], ((wCore (wMap 0x15) b).core .lc0).bankNo = b ∧ (wCore (wMap 0x15) b).tableOf .lc0 8 = some 0x20000000 ∧
      ((wCore (wMap 0x15) b).translate 0 8 0x20000000 false .load (fun _ => none) 0).1 = .miss 0x20001000) := by decide +kernel
theorem test_PageMisses_caches : ((wCore (wMap 0x15) 0).core .lc0).CachesFit := ⟨by decide, by decide⟩

def wDmaMap : State := (((wMap 0x15).setFld (DMA_CHnSTAT_STATE 15) 1).setFld (DMA_CHnTTB_L1 15) (0x20000000 / 1024))
def wFetching (zero : Bool) (f : MmuState → MmuState := id) : State :=
  let s := (wMap 0x11).set1 NAND_BOOTSTAT_RELEASE
  { s with mmu := f { s.mmu with fetches := [⟨0x20001000, 5, zero, false, some 1023⟩], store := [(5, ⟨zeros 4096, []⟩)] },
           cipher := { s.cipher with keys := [(0, { key := some [] })], seeded := true } }
theorem test_PageMisses_dma_and_fetch : (wDmaMap.fld (DMA_CHnSTAT_STATE 15) = 1 ∧
      (wDmaMap.translate 4 15 (1024 * wDmaMap.fld (DMA_CHnTTB_L1 15)) false .load (fun _ => none) 0).1 = .miss 0x20001000) ∧
    (∀ z, (wFetching z).mmu.fetches.find? (fun x => x.pte == 0x20001000) = some ⟨0x20001000, 5, z, false, some 1023⟩ ∧
      ((wFetching z).fetchFrame ⟨0x20001000, 5, z, false, some 1023⟩).1 = some 1023 ∧ (wFetching z).dma.wait = [] ∧
      0x20001000 + 4 ≤ frameBase 1023 ∧ (wFetching z).dieReleased = true ∧ (wFetching z).aesRuns = true ∧
      (wFetching z).fetchAliased ⟨0x20001000, 5, z, false, some 1023⟩ = false ∧ (wFetching z).pager.flushing = false ∧
      ((wFetching z).keySlot ((wFetching z).fld MMU_KEYSLOT_SLOT)).key = some [] ∧
      (tblFind (wFetching z).mmu.store 5).map (·.tag) = some []) := by
  refine ⟨by decide +kernel, ?_⟩
  intro z; cases z <;> decide +kernel
theorem test_PageMisses_zero_page : PageReads (wFetching true) ⟨0x20001000, 5, true, false, some 1023⟩ 9 (zeros 4096) :=
  .inl ⟨rfl, rfl⟩

/-- A fetch of a stored page of zeros whose tag is as given. -/
def wStored (tag : List Byte) : State := wFetching false (fun m => { m with store := [(5, ⟨zeros 4096, tag⟩)] })
/-- A tag that holds, kept as it is formed, and one that does not. -/
theorem test_PageMisses_stored_page :
    PageReads (wStored ((cmac [] (zeros 4096 ++ leBytes 4 5)).take 8)) ⟨0x20001000, 5, false, false, some 1023⟩ 7 (zeros 4096) :=
  .inr ⟨rfl, by decide +kernel, rfl, by decide +kernel, by decide, by decide +kernel, _, [], rfl, by decide +kernel, rfl, rfl⟩
theorem test_PageMisses_bad_tag : tblFind (wStored []).mmu.store 5 = some ⟨zeros 4096, []⟩ ∧
    (cmac [] (zeros 4096 ++ leBytes 4 5)).take 8 ≠ [] := by decide +kernel

/-- Resident pages in frames 1,022 and 1,023, their PTEs as given, with a pool that wants all frames free. -/
def wPool (p0 p1 : Nat) (f : MmuState → MmuState := id) : State :=
  let s := (((wMap p0).memPutLe 0x20001004 4 p1).setFld MMU_POOL_FREEMIN 1023).set1 NAND_BOOTSTAT_RELEASE
  { s with mmu := f { s.mmu with frames := [(1022, ⟨0x20001000, 5⟩), (1023, ⟨0x20001004, 6⟩)] } }
/-- A page on its way to PAGE. -/
def wBack : State :=
  let s := wPool 2 2 (fun m => { m with writebacks := [(1022, ⟨0x20001000, 5⟩)] })
  { s with cipher := { s.cipher with keys := [(0, { key := some [] })], seeded := true } }
theorem test_PageReplacement : ((wPool 2 2).clockOrder = [] ++ (1022, ⟨0x20001000, 5⟩) :: [(1023, ⟨0x20001004, 6⟩)] ∧
      (wPool 2 2).framePinned 1022 ⟨0x20001000, 5⟩ = false ∧ pteA ((wPool 2 2).pteRd 0x20001000) = false ∧
      tblFind (wPool 2 2).mmu.frames 1022 = some ⟨0x20001000, 5⟩ ∧ (wPool 2 2).frameDirty ⟨0x20001000, 5⟩ = false) ∧
    ((wPool 0x42 2).frameDirty ⟨0x20001000, 5⟩ = true ∧ (wPool 0x42 2).pageWritable = true) ∧
    (pteA ((wPool 0x22 2).pteRd 0x20001000) = true ∧ pteA ((wPool 0x22 2).pteRd 0x20001004) = false) ∧
    (tblFind wBack.mmu.writebacks 1022 = some ⟨0x20001000, 5⟩ ∧ tblFind wBack.mmu.frames 1022 = some ⟨0x20001000, 5⟩ ∧
      wBack.dieReleased = true ∧ wBack.pager.flushing = false ∧ wBack.aesRuns = true ∧
      (wBack.keySlot (wBack.fld MMU_KEYSLOT_SLOT)).key = some []) := by
  decide +kernel
theorem test_PageReplacement_pool : (wPool 2 2).freeFrames.length < (wPool 2 2).fld MMU_POOL_FREEMIN := by
  refine Nat.lt_of_le_of_lt (List.length_filter_le _ _) ?_
  simp only [List.length_drop, List.length_range]
  decide
theorem test_PageReplacement_commands : ((wPool 2 2).set1 MMU_PCMD_BUSY).flag MMU_PCMD_BUSY = true ∧ (wPool 2 2).flag MMU_PCMD_BUSY = false ∧
    State.reset.pcmdPte .lc0 8 = none ∧ (wPool 2 2).pcmdPte .lc0 8 = some 0x20001000 ∧
    ((wPool 2 2).pcmdPte .lc0 8).bind (wPool 2 2).frameOf = some (1022, ⟨0x20001000, 5⟩) := by decide +kernel

def wSpares : State := { State.reset with mmu := { State.reset.mmu with retired := [(.lc0, 0x10000), (.lc0, 0x10001)] } }
def wScrub (f : MmuState → MmuState := id) : State := let s := State.reset.set1 MMU_SCRUB_EN; { s with mmu := f s.mmu }
/-- The scrubber at the first line of frame 1,022, which holds a clean page. -/
def wScrubPage : State :=
  let s := wPool 2 2 (fun m => { m with scrub := (0x100000 + 4096 * 1022) / 16 })
  s.set1 MMU_SCRUB_EN
theorem test_PageReplacement_ecc : (eccMem 0x10000000 = true ∧ State.reset.poisoned 0x10000000 = false ∧
      State.reset.spareOf 0x1007ffff = some (.lc0, 2) ∧ State.reset.poolFrameOf 0x10000000 = none) ∧
    2 ≤ (wSpares.mmu.retired.filter (fun e => e.1 == .lc0)).length ∧ State.reset.poolFrameOf 0x203fffff = some 1023 ∧
    (wScrub.flag MMU_SCRUB_EN = true ∧ wScrub.clocked = true ∧ wScrub.poisoned (scrubAddr wScrub.mmu.scrub) = false ∧
      wScrub.cleanPage (scrubAddr wScrub.mmu.scrub) = none ∧ (wScrub (fun m => { m with poison := [0x1000000] })).poisoned 0x10000000 = true) ∧
    wScrubPage.cleanPage (scrubAddr wScrubPage.mmu.scrub) = some 1022 := by decide +kernel

def wSlot (n st : Nat) (prio : Nat := 7) (f : Sched → Sched := id) : State :=
  { State.reset with tasks := [(0, f { slots := [(n, { st := st, prio := prio })] })] }
/-- LC0 in slot 7, and slot 0 ready at this priority. -/
def wSwitch (prio : Nat) : State :=
  let s := (wCore State.reset 0).setFld (MMU_TQUANTc_QUANT 0) 1
  { s with tasks := [(0, { slots := [(0, { st := slotReady, prio := prio }), (7, { st := slotRun, prio := 3 })], cur := some 7, stamp := 1 })] }
theorem test_TaskSlots : (mayWriteSet (.core .kc) .lc0 = true ∧ mayWriteSet (.core .lc1) .lc0 = false) ∧
    (State.reset.tasksOf .lc0).slot 7 = {} ∧ slotEmpty = 0 ∧
    (∀ st ∈ [slotStopped, slotSleep, slotReady], (((wSlot 7 st).tasksOf .lc0).slot 7).st = st) ∧
    (∀ p ∈ [0, 3], ((wSwitch p).tasksOf .lc0).cur = some 7 ∧ (wSwitch p).inTask .lc0 = true ∧
      (((wSwitch p).tasksOf .lc0).slot 7).leaving = false ∧ ((wSwitch p).tasksOf .lc0).best = some 0) ∧
    ((((wSwitch 0).tasksOf .lc0).slot 0).prio < 3 ∧ (((wSwitch 3).tasksOf .lc0).slot 0).prio = 3 ∧
      (wSwitch 3).fld (MMU_TQUANTc_QUANT (coreNum .lc0)) ≠ 0) := by decide
theorem test_TaskSlots_orders : ∀ k, (((wSwitch 3).tasksOf .lc0).slot k).st = slotReady →
    (((wSwitch 3).tasksOf .lc0).slot k).order < ((wSwitch 3).tasksOf .lc0).stamp := by
  intro k _
  show ((tblGet ({} : TaskSlot) [(0, { st := slotReady, prio := 3 }), (7, { st := slotRun, prio := 3 })] k)).order < 1
  simp only [tblGet]
  split
  · decide
  · split <;> decide

/-- Channel 15, its side bits and modes as given, moving 600 bytes from TCM of LC0 to 0x1008_0000. -/
def wDma (st : Nat) (len : Nat := 600) (src : Nat := 0x10000008) : State :=
  ((((((State.reset.setFld (DMA_CHnSTAT_STATE 15) st).setFld (DMA_CHnLEN_LEN 15) len).wr (DMA_CHnSRC 15) (BitVec.ofNat 32 src)).wr
    (DMA_CHnDST 15) 0x10080000).set1 (DMA_CHnCFG_SRCINC 15)).set1 (DMA_CHnCFG_DSTINC 15))
def wDmaFixed : State := (((wDma 0).clr (DMA_CHnCFG_SRCINC 15)).setFld (DMA_CHnCFG_WIDTH 15) 2).wr (DMA_CHnSRC 15) 0x10000002
def wDmaReq : State :=
  let s := (((wDma 3 1).clr (DMA_CHnCFG_SRCINC 15)).setFld (DMA_CHnCFG_REQ 15) 1).wr (DMA_CHnSRC 15) (BitVec.ofNat 32 (UART_DATAn 0))
  { s with uart0 := { s.uart0 with rx := [0x41] } }
theorem test_DmaChannels : (∀ st ∈ [dmaIdle, dmaDone, dmaFault, dmaRun, dmaWaitReq], (wDma st).dmaSt 15 = st ∧ (wDma st).dmaMisfit 15 = false) ∧
    wDmaFixed.dmaMisfit 15 = true ∧
    ((wDma 1).clocked = true ∧ (wDma 1).dmaGrant = some 15 ∧ (wDma 1).fld (DMA_CHnDONE_DONE 15) < (wDma 1).fld (DMA_CHnLEN_LEN 15) ∧
      (wDma 1).flag (DMA_CHnCFG_SRCINC 15) = true ∧ (wDma 1).flag (DMA_CHnCFG_DSTINC 15) = true ∧ (wDma 1).fld (DMA_CHnCFG_REQ 15) = 0 ∧
      (wDma 1).dmaHeld 15 = [] ∧ (wDma 1).dmaLen 15 = 8) ∧
    ((wDma 1).dmaSide 15 ((wDma 1).dmaSrc 15) true false .load).1 = .mem 0x10000008 ∧
    ((wDma 1).dmaSide 15 ((wDma 1).dmaDst 15) true false .store).1 = .mem 0x10080000 ∧
    ((wDma 1 600 0).dmaSide 15 ((wDma 1 600 0).dmaSrc 15) true false .load).1 = .bad Code.DMA_BUSERR ∧
    ((wDmaMap.dmaSide 15 0x80000000 true true .store).1 = .miss 0x20001000) ∧
    (wDmaReq.dmaSt 15 = dmaWaitReq ∧ wDmaReq.uart0.rx ≠ [] ∧ wDmaReq.rd (DMA_CHnSRC 15) = BitVec.ofNat 32 (UART_DATAn 0) ∧
      wDmaReq.fld (DMA_CHnCFG_WIDTH 15) = 0 ∧ wDmaReq.dmaDst 15 = 0x10080000 ∧ regionOf 0x10080000 ≠ .paged ∧
      wDmaReq.dmaColumn 15 0x10080000 = none ∧ wDmaReq.poisoned 0x10080000 = false ∧
      wDmaReq.fld (DMA_CHnDONE_DONE 15) < wDmaReq.fld (DMA_CHnLEN_LEN 15)) := by decide +kernel

/-! ### The Volac cores -/

/-- KC runs in its kernel bank from the boot ROM with these words cached. -/
def wVm (l : List Word) (f : Bank → Bank := id) (c : CoreId := .kc) : State :=
  let x := { State.reset.kc with st := .run }
  State.reset.setCore c (x.setBank (f { x.bank with d := { x.bank.d with cache := l } }))
/-- The state after the fetch of `n` bytes. -/
def fetched (c : CoreId) (n : Nat) (s : State) : State :=
  match (vmFetch c (s.core c).pc.toNat n).run (s.setCore c (s.startCore c)) with
  | .ok _ f => f
  | .error _ f => f
theorem fetched_ok (c : CoreId) (n : Nat) (s : State) (h : s.executes c = true) (h1 : (s.core c).dbgHalt = false)
    (h2 : (s.core c).ready ≤ s.clk.now) (h3 : bitAt (s.core c).psw.toNat 2 = false) (h4 : (s.core c).bank.lv = false)
    (h5 : (match (vmFetch c (s.core c).pc.toNat n).run (s.setCore c (s.startCore c)) with
      | .ok _ _ => true
      | .error _ _ => false) = true) : Fetched c n s (fetched c n s) := by
  refine ⟨h, h1, h2, h3, h4, ?_⟩
  unfold fetched
  split at h5
  · next heq => rw [heq]
  · cases h5
/-- Is `fetched` the state of `Fetched`? -/
def fetches (c : CoreId) (n : Nat) (s : State) (rpt : Bool := false) : Bool :=
  s.executes c && !(s.core c).dbgHalt && decide ((s.core c).ready ≤ s.clk.now) && (bitAt (s.core c).psw.toNat 2 == rpt) &&
    !(s.core c).bank.lv && (match (vmFetch c (s.core c).pc.toNat n).run (s.setCore c (s.startCore c)) with
      | .ok _ _ => true
      | .error _ _ => false)
theorem fetches_as (c : CoreId) (n : Nat) (s : State) (rpt : Bool) (h : fetches c n s rpt = true) :
    FetchedAs rpt c n s (fetched c n s) := by
  simp only [fetches, Bool.and_eq_true, Bool.not_eq_true', decide_eq_true_eq, beq_iff_eq] at h
  obtain ⟨⟨⟨⟨⟨h0, h1⟩, h2⟩, h3⟩, h4⟩, h5⟩ := h
  refine ⟨h0, h1, h2, h3, h4, ?_⟩
  unfold fetched
  split at h5
  · next heq => rw [heq]
  · cases h5

def wv (n : Nat) (l : List Word) (f : Bank → Bank := id) : State := fetched .kc n (wVm l f)
/-- A full cache. -/
def full : List Word := (List.range 16).map (BitVec.ofNat 32)
/-- A bank with this return stack, A in TCM and B in the pool. -/
def wRet (l : List Word) (b : Bank) : Bank := { b with r := { b.r with cache := l }, a := 0x10000000, b := 0x20000004 }
/-- LC0 in a task whose page 0 is fixed SRAM that it may execute, read and write. -/
def wTask (l : List Word) : State :=
  let s := wCore (wMap 0x2000301f) 0
  { s with lc0 := { s.lc0 with pc := 0x80000000, task := { s.lc0.task with d := { s.lc0.task.d with cache := l } } } }

theorem test_VolacStackAndBranches : fetches .kc 1 (wVm [2, 3]) = true ∧ ((wv 1 [2, 3]).core .kc).bank.d.cache = [3, 2].reverse ++ [] ∧
    CmdOf (.sub .kc .none) .kc .none .sub ∧ VOp.alu false 0 0 .sub [3, 2] = some [1] ∧ VOp.alu false 0 0 .div [3, 2] = some [1] ∧
    fetches .kc 1 (wVm full) = true ∧ VOp.alu false 0 0 .dup [0] = some [0, 0] ∧ VOp.alu false 0 0 .drop [0] = some [] ∧
    fetches .kc 3 (wVm [2]) = true ∧ (Prefix.imm8 0xfe).la.isSome = true ∧
    targetOf 3 (.imm8 0xfe) [7] = some (1, [7]) ∧ targetOf 1 .none [9, 7] = some (9, [7]) ∧
    ((wv 1 [9] (wRet [4])).core .kc).bank.r.cache = [4] := by
  refine ⟨?_, ?_, rfl, ?_, ?_, ?_, ?_, ?_, ?_, ?_, ?_, ?_, ?_⟩ <;> decide +kernel

theorem test_VolacMemory : (∀ k ∈ [Acc.load, .store], PlainAt (wv 1 [0x1007fffc, 5]) .kc k 0x1007fffc .word) ∧
    PlainAt (wv 1 [0x1007ffff, 5]) .kc .store (0x10080001 + (Prefix.imm8 0xfe).la.getD 0) .byte ∧
    PlainAt (wv 1 [5] (wRet [])) .kc .load ((wv 1 [5] (wRet [])).core .kc).bank.a .word ∧
    PlainAt (wv 1 [5] (wRet [])) .kc .store ((wv 1 [5] (wRet [])).core .kc).bank.b .word ∧
    fetches .kc 1 (wVm [5] (wRet [])) = true ∧ fetches .kc 2 (wVm [0x10000000, 5, 6]) = true ∧
    (wv 2 [0x10000000, 5, 6]).loaded 0x10000000 .word ≠ 6 ∧ (wv 2 [0x10000000, 5, 0]).loaded 0x10000000 .word = 0 := by
  unfold PlainAt; decide +kernel

theorem test_VolacMoves : fetches .kc 1 (wVm (full.drop 1) (wRet [1, 2, 3, 4, 5, 6, 7])) = true ∧
    ((wv 1 (full.drop 1) (wRet [1, 2, 3, 4, 5, 6, 7])).core .kc).bank.d.cache.length = 15 ∧
    ((wv 1 (full.drop 1) (wRet [1, 2, 3, 4, 5, 6, 7])).core .kc).bank.r.cache.length = 7 ∧
    ([8, 9] : List Word)[(1 : Word).toNat]? = some 9 ∧ operandOf .none [1, 8, 9] = some (1, [8, 9]) ∧
    operandOf (.imm32 7) [] = some (7, []) ∧ fetches .kc 6 (wVm []) = true := by decide +kernel

theorem test_VolacTraps : ((wVm [3]).core .kc).bankNo = 1 ∧ ((wVm [3] (wRet [1, 2, 3, 4, 5, 6])).core .kc).kernel.r.cache.length = 6 ∧
    undefByte false 0xff = true ∧ fetches .kc 1 (wVm [3] (wRet [1, 2, 3, 4, 5, 6])) = true ∧
    (VOp.lit .dup = .none ∧ VOp.len .dup ≠ 0 ∧ instrLen (.double 2) .dup = 2 ∧ fetches .kc 2 (wVm [3]) = true) ∧
    ((wTask []).lc0.bankNo = 0 ∧ VOp.kOnly .eret = true ∧ fetches .lc0 2 (wTask []) = true) ∧
    ((wv 1 [0, 3]).core .kc).bank.d.cache = [0, 3] ∧ (0x10000002 : Word).toNat % Width.word.bytes ≠ 0 ∧
    loadKind .ldw = some (.word, id) := by
  refine ⟨?_, ?_, ?_, ?_, ?_, ?_, ?_, ?_, rfl⟩ <;> decide +kernel

def wRpt (l : List Word) (rc : Word) : State :=
  let s := wVm l (fun b => { b with rc := rc })
  { s with kc := { s.kc with psw := 0x106 } }
theorem test_VolacRepetition : VOp.repeatable .add = true ∧ VOp.repeatable .br = false ∧ fetches .kc 2 (wVm [0, 3]) = true ∧
    operandOf .none [0, 3] = some (0, [3]) ∧ fetches .kc 1 (wRpt [2, 3] 1) true = true ∧
    fetches .kc (1 + repLook .rep (some .br)) (wVm [1]) = true ∧
    (((wv 1 [9]).core .kc).special .kc (wv 1 [9]).clk.now 9).isSome = true ∧ ((wv 1 [9]).core .kc).bankNo ≠ 0 ∧
    ((wv 1 [3, 0x100]).core .kc).bank.d.cache = [3, 0x100] ∧ (0x100 : Word).toNat % 256 = 0 ∧ specialTaskRead 0 = true := by decide +kernel

theorem test_VolacSystem : fetches .kc 2 (wVm [] (wRet [0x200, 4, 5])) = true ∧ pswLegal .kc 0x200 = true ∧
    ((wv 2 [] (wRet [0x200, 4, 5])).core .kc).bank.r.cache = [0x200, 4, 5] ∧ ((wv 2 [] (wRet [])).core .kc).bankNo = 1 ∧
    (wv 2 []).pendingOf .kc = [] ∧ (fetched .lc0 2 (wTask [])).lc0.bankNo = 0 := by decide +kernel

/-- Room for two entries below the pointers. -/
def wSpill (b : Bank) : Bank :=
  { b with d := { b.d with ptr := 0x10000008, lim := 0x10000000 }, r := { b.r with cache := [1, 2], ptr := 0x10080008, lim := 0x10080000 } }
theorem test_VolacSystem_flush : (∀ k, k < ((wv 2 [7, 8] wSpill).core .kc).bank.d.cache.length →
      PlainAt (wv 2 [7, 8] wSpill) .kc .store (((wv 2 [7, 8] wSpill).core .kc).bank.d.ptr - BitVec.ofNat 32 (4 * (k + 1))) .word) ∧
    ((wv 2 [7, 8] wSpill).core .kc).bank.d.lim.toNat + 4 * 2 ≤ ((wv 2 [7, 8] wSpill).core .kc).bank.d.ptr.toNat ∧
    (∀ k, k < ((wv 2 [7, 8] wSpill).core .kc).bank.r.cache.length →
      PlainAt (wv 2 [7, 8] wSpill) .kc .store (((wv 2 [7, 8] wSpill).core .kc).bank.r.ptr - BitVec.ofNat 32 (4 * (k + 1))) .word) := by
  unfold PlainAt; decide +kernel

/-! ### Interrupts, timers and capture -/

/-- Source 128, the software line 0, pends for KC; `fast` says whether as a fast one. -/
def wIrq (fast : Bool) : State :=
  let s := State.reset.setFld ICU_SWISET_LINE 1
  let s := (s.set1 (ICU_SRCn_EN 128)).setFld (ICU_SRCn_CORE 128) 3
  (s.setBool (ICU_SRCn_CLASS 128) fast).modCore .kc (fun x => { x with st := .wait, psw := 0x100 })
def wCoreRun (c : CoreId) : State := State.reset.modCore c (fun x => { x with st := .run })
def wDmaHole : State := State.reset.setFld (DMA_CHnSTAT_STATE 15) 1
theorem test_InterruptsAndBusErrors : (∀ b, (wIrq b).atBoundary .kc = true ∧ ((wIrq b).core .kc).ready ≤ (wIrq b).clk.now ∧
      (wIrq b).pickSrc .kc (decide (((wIrq b).core .kc).bankNo = 2)) (bitAt ((wIrq b).core .kc).psw.toNat 1) = some 128 ∧
      (wIrq b).srcFast 128 = b ∧ ((wIrq b).core .kc).kernel.r.cache.length ≤ 6 ∧ ((wIrq b).core .kc).sbuf = []) ∧
    (regionOf 0xffffffff = .hole ∧ regionOf 0x10000 = .hole) ∧
    (((wCoreRun .sc).core .sc).st = .run ∧ (wCoreRun .sc).clocked = true ∧ ((wCoreRun .sc).core .sc).bankNo ≠ 2 ∧
      ((wCoreRun .sc).core .sc).sbuf = []) ∧ wDmaHole.fld (DMA_CHnSTAT_STATE 15) = 1 := by decide +kernel

def wActive : State := { State.reset with icu := { State.reset.icu with active := [⟨1535, 7, false, .kc⟩] } }
def wLatch (en : Nat) : State :=
  let s := State.reset.setFld ICU_ALEN_PIN en
  { s with icu := { s.icu with pins := 0 } }
theorem test_InterruptController : (⟨1535, 7, false, .kc⟩ ∈ wActive.icu.active ∧ bitsOf (0x5ff : Word).toNat 10 0 = 1535 ∧
      (∀ x ∈ wActive.icu.active, x.src = 1535 → x = ⟨1535, 7, false, .kc⟩)) ∧
    (∀ x ∈ wActive.icu.active, x.src = 5 → Requester.core .kc ≠ .core x.core) ∧
    ((wLatch (2 ^ 25)).gpioDrives 19 = none ∧ bitAt (wLatch (2 ^ 25)).icu.pins 25 ≠ true ∧ (wLatch (2 ^ 25)).latchEdge 25 true = true ∧
      (wLatch 0).latchEdge 25 true = false ∧ (wLatch 0).mirror.drives = false) := by decide +kernel

/-- Counter 7 runs on the core clock from `cnt`; unit 31 counts on it in this mode. -/
def wTmr (mode cnt : Nat) (f : TmrState → TmrState := id) : State :=
  let s := ((State.reset.setFld TMR_RUN_RUN 0x80).setFld (TMR_CNTn_COUNT 7) cnt).setFld (TMR_UuCFG_CNT 31) 7
  { s.setFld (TMR_UuCFG_MODE 31) mode with clk := { s.clk with pll := true }, tmr := f s.tmr }
def wFire (f : TmrState → TmrState := id) : State := ((wTmr 1 5 f).set1 (TMR_UuSTAT_ARMED 31)).wr (TMR_UuVAL 31) 9
theorem test_TimersAndCompares : ((wTmr 0 0).tmrRuns 7 = true ∧ (wTmr 0 0).fld (TMR_CFGn_CLK 7) = 0 ∧ (wTmr 0 0).clk.pll = true ∧
      (wTmr 0 0).clocked = true ∧ (wTmr 0 0).tmrPhase 7 < (wTmr 0 0).tmrPeriod 7 ∧ (wTmr 0 0).tmrRuns 0 = false) ∧
    (∀ m ∈ [0, 1, 2], (wTmr m 5).fld (TMR_UuCFG_MODE 31) = m) ∧
    ((wTmr 0 5).unitCfgBad 31 3 = true ∧ (wTmr 0 5).unitCfgBad 31 0 = false ∧ (wTmr 0 5).unitCfgBad 31 0x100 = true) ∧
    ((0x70 : Word).toNat % 4 = 0 ∧ unitFields ((wTmr 1 5).rd (TMR_UuCFG 31)).toNat = unitFields 0x70) ∧
    ((wFire).flag (TMR_UuSTAT_ARMED 31) = true ∧ tblFind (wFire (fun t => { t with lateNext := [(31, (1, true))] })).tmr.lateNext 31 = some (1, true) ∧
      tblFind wFire.tmr.lateNext 31 = none ∧ wFire.unitCnt 31 = 7 ∧ reached 32 (wFire.tmrNow 7) 9 = false ∧
      31 ∈ (wFire (fun t => { t with lateTick := [31] })).tmr.lateTick) := by decide +kernel

def wPps (valid : Bool) (last : Option Nat) : State :=
  let s := (((State.reset.set1 TMR_PPSCFG_EN).setFld TMR_PPSCFG_GUARD 1).setBool SEQ_STAT_NTVALID valid).setFld SEQ_TSRC_MODE 1
  { s with tmr := { s.tmr with ppsLast := last }, clk := { s.clk with now := 300000, nt := 2 ^ 32 * 1000 } }
def wSlow (cnt v : Nat) : State :=
  let s := (State.reset.wr TMR_SCMPCTL 0xe)
  { s with tmr := { s.tmr with scmp := [(3, { armed := true, v := v })] }, clk := { s.clk with slowOn := true, slowcnt := cnt } }
theorem test_CaptureAndSlowTime : ((wTmr 2 5).fld (TMR_UuCFG_MODE 31) = 2 ∧ (wTmr 2 5).clocked = true ∧
      2 ^ (wTmr 2 5).fld (TMR_UuCFG_PRE 31) ≤ (wTmr 2 5).fld (TMR_UuSTAT_PRECNT 31) + 1 ∧
      ((wTmr 2 5).setFld (TMR_UuCFG_PRE 31) 1).fld (TMR_UuSTAT_PRECNT 31) + 1 < 2 ^ ((wTmr 2 5).setFld (TMR_UuCFG_PRE 31) 1).fld (TMR_UuCFG_PRE 31) ∧
      (wTmr 2 5).fld (TMR_CFGn_DIV 7) = 0 ∧ tblGet 0 (wTmr 2 5).tmr.started 7 + 0 ≤ (wTmr 2 5).clk.now) ∧
    ((wPps true none).flag TMR_PPSCFG_EN = true ∧ (wPps true none).tmr.ppsLast = none ∧ (wPps true none).rate = 0 ∧
      (wPps true none).flag SEQ_STAT_NTVALID = true ∧ (wPps false none).flag SEQ_STAT_NTVALID = false ∧
      filterDelay ((wPps true none).fld TMR_PPSCFG_FILT) ≤ 1000) ∧
    ((wPps true (some 100001)).fld TMR_PPSCFG_GUARD ≠ 0 ∧ (wPps true (some 100001)).clk.now < 100001 + 1 * 200000 ∧
      ¬(wPps true (some 100000)).clk.now < 100000 + 1 * 200000) ∧
    (((wSlow 5 5).scmp 3).armed = true ∧ (wSlow 5 5).scmpOn 3 = true ∧ reached 48 (wSlow 5 5).clk.slowcnt 5 = true ∧
      reached 48 (wSlow 5 6).clk.slowcnt 6 = false ∧ (wSlow 5 6).clk.slowOn = true) := by decide +kernel

/-! ### Resets, start-up and Saddle -/

/-- The device in power phase `ph`, with its power state, registers and clocks after `f`. -/
def wPwr (ph : PwrPhase) (f : State → State := id) : State :=
  let s := f State.reset
  { s with pwr := { s.pwr with phase := ph } }
def wPins (ph : PwrPhase) (nrst vio : Bool) : State :=
  wPwr ph (fun s => { s with pwr := { s.pwr with nrstLow := nrst, vioLow := vio } })

theorem test_Resets_canonical : (wPwr .awake).Canonical := by
  unfold State.Canonical Memory.wf Regs.wf keysRise wPwr; decide
theorem test_Resets : ((wPwr .off).pwr.phase = .off) ∧
    ((wPwr .softStart).pwr.phase = .softStart ∧ (wPwr .softStart).pwr.nrstLow = false ∧ (wPwr .softStart).pwr.vioLow = false ∧
      us 3000 ≤ us 3000 ∧ us 20 ≤ us 20) ∧
    ((wPwr .awake).pwr.phase ≠ .off ∧ (wPwr .awake).pwr.phase ≠ .softStart ∧ (wPwr .awake).pwr.nrstLow = false ∧
      (wPwr .awake).pwr.vioLow = false ∧ (4 ≤ 4 ∧ 4 ≤ 7) ∧ (4 ≤ 7 ∧ 7 ≤ 7)) ∧ Requester.core .sc ≠ .core .kc ∧
    ((wPins .inReset true false).pwr.phase = .inReset ∧ (wPins .inReset true false).pwr.nrstLow = true ∧
      (wPins .inReset true false).pwr.vioLow = false ∧ (wPins .inReset false true).pwr.vioLow = true ∧
      (wPins .inReset false true).pwr.nrstLow = false) ∧
    ((wPwr .awake).flag PWR_STAT_XREFOK = false ∧ (wPwr .awake).clk.slowOn = false) ∧
    ((wPwr .awake (fun s => (s.set1 PWR_STAT_XREFOK).setFld (RFx_CTRL_EN .g) 1)).flag PWR_STAT_XREFOK = true ∧
      (wPwr .awake (fun s => s.set1 PWR_STAT_XREFOK)).clk.pll = false ∧ us 100 ≤ us 100 ∧
      (wPwr .awake).seq.savedNt = none ∧ (wPwr .awake).pwr.xrefFailed = false ∧
      (wPwr .awake (fun s => s.setFld (RFx_CTRL_EN .g) 1)).flag (RFx_CTRL_EN .g) = true ∧
      (wPwr .awake (fun s => s.setFld (RFx_CTRL_EN .g) 1)).pst .g = .off) ∧
    (coreRun .sc = some PWR_CORECTL_SC ∧ (wPwr .awake).flag PWR_CORECTL_SC = false) := by decide

/-- Time that passes while the cores are quiet, no counter runs and NETTIME stands changes the clocks alone. -/
theorem advanceTo_quiet (s : State) (t : Nat) (h1 : setBits 8 (s.fld TMR_RUN_RUN) = []) (h2 : s.quiet = true)
    (h3 : s.flag SEQ_STAT_NTVALID = false) (h4 : s.clk.nt = 0) :
    ∃ n k, s.advanceTo t = { s with clk := { s.clk with now := n, slowcnt := k } } := by
  unfold State.advanceTo
  split
  · refine ⟨s.clk.now + (t - s.clk.now), if s.clk.slowOn = true then (s.clk.slowcnt + if s.clk.slowOn = true then stEdges (s.clk.now + (t - s.clk.now)) - stEdges s.clk.now else 0) % 2 ^ 48 else s.clk.slowcnt, ?_⟩
    unfold State.advance
    have hi : ∀ k, s.idleTo k = s := fun k => by simp [State.idleTo, h2]
    have ht : ∀ d e, s.tmrAdvance d e = s := fun d e => by simp [State.tmrAdvance, h1]
    have hn : ∀ d, s.ntAfter d = 0 := fun d => by simp [State.ntAfter, h3, h4]
    simp only [hi, ite_self, ht, hn]
    unfold State.sqtWraps
    have hsq : s.sqt = State.sqt { s with clk := { s.clk with now := s.clk.now + (t - s.clk.now), nt := 0 % 2 ^ 96, slowcnt := if s.clk.slowOn = true then (s.clk.slowcnt + if s.clk.slowOn = true then stEdges (s.clk.now + (t - s.clk.now)) - stEdges s.clk.now else 0) % 2 ^ 48 else s.clk.slowcnt } } := by
      simp [State.sqt, h4]
    rw [if_pos (by rw [hsq])]
    simp only [Nat.zero_mod]
    rw [h4]
  · exact ⟨s.clk.now, s.clk.slowcnt, rfl⟩

/-- The cores wait, Saddle is enabled and XSLOW runs; `f` afterwards. -/
def wIdle (f : State → State) : State :=
  let s := (State.reset.set1 PWR_SADDLECFG_SADDLE_EN).modCore .kc (fun x => { x with st := .wait })
  let s : State := { s with clk := { s.clk with slowOn := true } }
  f { s with icu := { s.icu with pins := 0xffffff } }
def wLatched (s : State) : State := (s.wr PWR_WAKEEN 4).setFld ICU_ALSTAT_LATCH 4
def wVoting (s : State) : State := s.set1 NET_CTRL_STAY

/-- Where the state is quiet and no record of the sequencer sets a wake, the votes do not depend on the clocks. -/
theorem votes_clk (s : State) (n k : Nat) (h : s.nextEvent = none) :
    State.votes { s with clk := { s.clk with now := n, slowcnt := k } } = s.votes := by
  have hw : s.wakeSlow = none := by simp [State.wakeSlow, h]
  have h' : State.nextEvent { s with clk := { s.clk with now := n, slowcnt := k } } = none := h
  have hw' : State.wakeSlow { s with clk := { s.clk with now := n, slowcnt := k } } = none := by simp [State.wakeSlow, h']
  have hs : State.seqVote { s with clk := { s.clk with now := n, slowcnt := k } } = s.seqVote := by
    unfold State.seqVote; rw [hw, hw']; rfl
  unfold State.votes; rw [hs]; rfl

theorem test_SaddleAndSupply_expiry :
    ((wIdle id).pwr.phase = .awake ∧ (wIdle id).clk.slowOn = true ∧ (wIdle id).quiet = true ∧ (wIdle id).flag PWR_SADDLECFG_SADDLE_EN = true) ∧
    (∀ f ∈ [wLatched, wVoting], (wIdle f).pwr.phase = .awake ∧ (wIdle f).clk.slowOn = true ∧ (wIdle f).quiet = true ∧
      (wIdle f).flag PWR_SADDLECFG_SADDLE_EN = true ∧ (wIdle f).pwr.enterReq = false) ∧
    (∀ t, ((wIdle wLatched).advanceTo t).wakeLatches ≠ 0) ∧
    (∀ t, ((wIdle wVoting).advanceTo t).wakeLatches = 0 ∧ ((wIdle wVoting).advanceTo t).votes.any id = true ∧
      ((wIdle wVoting).advanceTo t).votes.getD 11 false = true) ∧
    (∀ t, ((wIdle id).advanceTo t).wakeLatches = 0 ∧ ((wIdle id).advanceTo t).votes.any id = false) := by
  refine ⟨by decide, by decide, ?_, ?_, ?_⟩ <;> intro t
  · obtain ⟨n, k, h⟩ := advanceTo_quiet (wIdle wLatched) t (by decide) (by decide) (by decide) (by decide)
    rw [h]; show (wIdle wLatched).wakeLatches ≠ 0; decide
  · obtain ⟨n, k, h⟩ := advanceTo_quiet (wIdle wVoting) t (by decide) (by decide) (by decide) (by decide)
    rw [h, votes_clk _ _ _ (by decide)]; refine ⟨?_, by decide +kernel, by decide +kernel⟩
    show (wIdle wVoting).wakeLatches = 0; decide
  · obtain ⟨n, k, h⟩ := advanceTo_quiet (wIdle id) t (by decide) (by decide) (by decide) (by decide)
    rw [h, votes_clk _ _ _ (by decide)]; refine ⟨?_, by decide +kernel⟩
    show (wIdle id).wakeLatches = 0; decide

def wVin (warn flushed : Bool) : State :=
  let s := ((((State.reset.setBool PWR_STAT_VINWARN warn).set1 NAND_BOOTSTAT_RELEASE).set1 PAGER_STAT_READY).setBool PAGER_STAT_FLUSHED flushed)
  { s with nand := { s.nand with erases := [(1, ⟨3, false, 0, false, false, 0⟩)] } }
theorem test_SaddleAndSupply : (wPwr .wake).pwr.phase = .wake ∧ ((wPwr .entry).pwr.phase = .entry ∧ (wPwr .entry).wakeLatches = 0 ∧
      (wPwr .entry).mmu.frames = [] ∧ (wPwr .entry).kept 0x20500000 = true ∧ (wPwr .entry (fun s => s.setFld (RFx_STATE_STATE .s) 4)).pst .s = .rx) ∧
    ((wPwr .entry wLatched).pwr.phase = .entry ∧ (wPwr .entry wLatched).wakeLatches ≠ 0) ∧
    ((wPwr .saddle wLatched).pwr.phase = .saddle ∧ (wPwr .saddle wLatched).wakeDue = true ∧ us 100 ≤ us 100 ∧ us 20 ≤ us 20) ∧
    ((wVin false false).pwr.phase = .awake ∧ (wVin false false).flag PWR_STAT_VINWARN = false ∧
      20 * 0 < 100 * (wVin false false).fld PWR_VINMON_WARN ∧ (wVin false false).ctxWritable = true ∧
      (wVin false false).flag PAGER_STAT_READY = true ∧ (wVin false false).flag PAGER_STAT_FLUSHED = false ∧
      ((wVin false false).eraseOn 1).isSome = true) ∧
    ((wVin true true).flag PWR_STAT_VINWARN = true ∧ 100 * (wVin true true).fld PWR_VINMON_WARN + 500 < 20 * 100000) ∧
    ((wIdle id).clk.slowOn = true ∧ (wIdle id).fld PWR_STAT_REFINT = 0 ∧
      ((wIdle id).setFld PWR_STAT_REFINT 3).fld PWR_STAT_REFINT = 3) := by decide +kernel

/-- No latch is set but an alarm has asked for a wake. -/
def wAlarm : State := wPwr .saddle (fun s => { s with pwr := { s.pwr with alarmAt := some 0 } })
theorem test_SaddleAndSupply_alarm : wAlarm.pwr.phase = .saddle ∧ wAlarm.wakeDue = true ∧ wAlarm.wakeLatches = 0 := by decide

/-- An abort 1 µs past X, and a wake that takes the first edge or a later one. -/
theorem test_SaddleAndSupply_edges : (wPwr .entry wLatched).pwr.xAt + 200 < stEdgeAt (stEdges (wPwr .entry wLatched).pwr.xAt + 1) + us 1 ∧
    stEdgeAt (wPwr .saddle wLatched).wakeEdge + 0 + 0 ≤ stEdgeAt (stEdges (stEdgeAt (wPwr .saddle wLatched).wakeEdge) + 1) ∧
    stEdgeAt (stEdges (stEdgeAt (wPwr .saddle wLatched).wakeEdge) + 1) < stEdgeAt (wPwr .saddle wLatched).wakeEdge + us 100 + us 20 := by
  have h0 : stEdges 0 = 0 := by unfold stEdges; omega
  have h1 : stEdgeAt 0 = 0 := by unfold stEdgeAt ceilDiv; omega
  have hw : (wPwr .saddle wLatched).wakeEdge = 0 := by
    unfold State.wakeEdge
    have hn : (wPwr .saddle wLatched).clk.now = 0 := rfl
    simp only [hn, h0, h1, if_true]
  have hx : (wPwr .entry wLatched).pwr.xAt = 0 := rfl
  rw [hw, hx, h1, h0]
  unfold stEdgeAt ceilDiv us
  omega

/-! ### NAND -/

/-- A launch sequence of core `c` at step `n` (R427), its operation `op` on block and page of `addr`. -/
def wSeqF (c : CoreId) (n op addr : Nat) (f : NandState → NandState := id) : State :=
  let s := State.reset.setFld NAND_FSTAT_SEQ n
  { s with nand := f { s.nand with seqOwner := some c, seqOp := op, seqAddr := addr } }
def wErasing (b : Nat) (sus : Bool) (x : NandState) : NandState := { x with erases := [(b % 2, ⟨b, true, 0, sus, false, 9⟩)] }
theorem test_NandCommands_sequence : (State.reset.nand.seqOwner = none ∧ (0x00006c3e : Word).toNat % 65536 = 0x6c3e ∧
      State.reset.flag NAND_FSTAT_BUSY = false ∧ (State.reset.set1 NAND_BOOTSTAT_RELEASE).dieReleased = true ∧
      (0xffff93c1 : Word).toNat % 65536 = 0x93c1) ∧
    ((7 : Word).toNat % 8 = 7 ∧ (11 : Word).toNat % 8 = 3 ∧ (1 : Word).toNat % 8 = 1) ∧
    ((wSeqF .kc 3 3 0).nand.seqOp = 3 ∧ (0xfffc0 : Word).toNat % 64 = 0 ∧ (wSeqF .kc 3 1 0).nand.seqOp ≠ 3) := by decide
theorem test_NandCommands_steps : (∀ n ∈ [1, 2, 3, 4], SeqAt (wSeqF .lc1 n 0 0) .lc1 n) ∧ Requester.core .kc ≠ .core .lc1 ∧
    ¬(1 = 1 ∧ (0x93c0 : Word).toNat % 65536 = 0x93c1) ∧ (wSeqF .lc1 1 0 0).nand.seqOwner ≠ none := by unfold SeqAt; decide
/-- The tests at launch: none fails, and each of them fails. -/
theorem test_NandCommands_launch : ((wSeqF .kc 4 1 0).nandBufOk .kc 0x20500000 = true ∧ partOk .kc 0 = true ∧
      (wSeqF .kc 4 1 0).erasing 0 = false) ∧ partOk .kc 7 = false ∧ partOk .lc0 0 = false ∧
    ((wSeqF .kc 4 2 64 (fun x => { x with bbt0 := { seq := 1, bad := [1] } })).nandBad 1 = true) ∧
    ((wSeqF .kc 4 2 0 (wErasing 0 false)).erasing 0 = true ∧ (wSeqF .kc 4 2 0 (wErasing 0 false)).nandBad 0 = false) := by decide

def nCmd (op blk pg : Nat) : NandCmd := ⟨op, blk, pg, 0x20500000, .kc, false, 0, 0, 0, 0⟩
def wNand (k : NandCmd) (f : NandState → NandState := id) : State :=
  { State.reset with nand := f { State.reset.nand with cmd := some k } }
def page0 : List Byte := List.replicate 4160 0
theorem test_NandCommands_launched : (∀ op ∈ [1, 2, 3], Launched (wNand (nCmd op 0 63)) (nCmd op 0 63) op) := by unfold Launched; decide
theorem page0_reads : readsErased page0 = false := by
  unfold readsErased page0; simp only [List.take_replicate]; decide +kernel
theorem test_NandCommands_run : (tblFind (wNand (nCmd 1 0 63)).nand.pages 63 = none ∧
      tblFind (wNand (nCmd 1 0 63) (fun x => { x with pages := [(63, .data page0)] })).nand.pages (64 * 0 + 63) = some (.data page0) ∧
      page0.length = 4160) ∧ ((wNand (nCmd 1 0 0)).fld NAND_CFG_EWARN ≤ min 24 24 ∧ (7 ≤ 7) ∧ 7 < 8 ∧
        (0 < (wNand (nCmd 1 0 0)).fld NAND_CFG_EWARN)) ∧
    (tblGet 0 (wNand (nCmd 2 0 63)).nand.nextPage 0 ≤ 63 ∧ (1000 ≤ 1000 ∧ 350 < 1000 ∧ 1000 < 1001)) := by
  refine ⟨⟨by decide, rfl, List.length_replicate ..⟩, by decide, by decide⟩
theorem test_NandCommands_done : (∀ op ∈ [1, 2], let k := { nCmd op 0 63 with started := true, status := 255, corr := 31, retry := 7 }
    (wNand k).nand.cmd = some k ∧ k.started = true ∧ k.op ≠ 3 ∧ k.status < 256 ∧ k.corr < 32 ∧ k.retry < 8) := by decide

def wErase (started fail : Bool) : State :=
  wNand { nCmd 3 9 0 with started := started } (fun x => if started then { x with erases := [(1, ⟨9, true, 0, false, fail, 9⟩)] } else x)
theorem test_NandErasesAndWear_erase : (Launched (wErase false false) (nCmd 3 9 0) 3 ∧ (wErase false false).eraseOn (planeOf 9) = none) ∧
    (∀ f, (wErase true f).nand.cmd = some { nCmd 3 9 0 with started := true } ∧
      (wErase true f).eraseOn (planeOf 9) = some ⟨9, true, 0, false, f, 9⟩) := by unfold Launched; decide
theorem test_NandErasesAndWear_flags :
    ((wNand (nCmd 1 0 0) (wErasing 0 true)).eraseOn 0 = some ⟨0, true, 0, true, false, 9⟩ ∧ (wNand (nCmd 1 0 0)).flag PWR_STAT_VINWARN = false) ∧
    (tblFind (wNand (nCmd 1 0 0) (fun x => { x with flags := [(0, 2), (1, 3)] })).nand.flags 0 = some 2 ∧
      tblFind (wNand (nCmd 1 0 0) (fun x => { x with flags := [(0, 2), (1, 3)] })).nand.flags 1 ≠ some 2 ∧
      tblFind (wNand (nCmd 1 0 0) (fun x => { x with flags := [(0, 2), (1, 3)] })).nand.flags 1 = some 3) := by decide
theorem test_NandErasesAndWear_reserve : (wNand (nCmd 1 0 0) (fun x => { x with bbt0 := { seq := 1, bad := (List.range 512).map (· + 2512) } })).reserveOf .page = 0 := by
  decide +kernel

/-- Of the CTX partition all blocks are bad but 464, which is full and holds context page 0, and 465, which is free. -/
def wWear (pec : List (Nat × Nat)) : State :=
  wNand (nCmd 1 0 0) (fun x => { x with bbt0 := { seq := 1, bad := (List.range 2512).drop 466 }, full := [464], pec := pec })
theorem wWear_free (pec : List (Nat × Nat)) : State.freeBlocks ((wWear pec).set1 NAND_BOOTSTAT_RELEASE) .ctx = [465] := by
  have hl : (List.range 2512).drop 464 = 464 :: 465 :: (List.range 2512).drop 466 := by decide +kernel
  have hb : ∀ b ∈ (List.range 2512).drop 466, ((List.range 2512).drop 466).contains b = true := fun b h => by simpa using h
  have h5 : ((List.range 2512).drop 466).contains 465 = false := by decide +kernel
  show List.filter (fun b => !(((List.range 2512).drop 466).contains b) && !([464].contains b) && !false) ((List.range 2512).drop 464) = [465]
  have he : List.filter (fun b => !(((List.range 2512).drop 466).contains b) && !([464].contains b) && !false) ((List.range 2512).drop 466) = [] := by
    rw [List.filter_eq_nil_iff]
    intro b h
    rw [hb b h]; simp
  rw [hl, List.filter_cons_of_neg (by simp), List.filter_cons_of_pos (by rw [h5]; decide), he]
theorem test_NandErasesAndWear_wear : let s := (wWear [(465, 2001)]).set1 NAND_BOOTSTAT_RELEASE
    (s.dieReleased = true ∧ hwPartOf 464 = some .ctx ∧ 464 ∈ s.nand.full ∧ (s.liveIn .ctx 464).length ≤ 64 ∧ s.hwOpen .ctx = none) ∧
    ((s.freeBlocks .ctx).length < 32 ∧ s.freeBlocks .ctx ≠ []) ∧
    (465 ∈ s.freeBlocks .ctx ∧ (∀ z ∈ s.freeBlocks .ctx, z ≠ 465 → s.wearRank z < s.wearRank 465)) ∧
    (∀ z ∈ s.nand.full, hwPartOf z = some .ctx → z ≠ 464 → s.wearRank 464 < s.wearRank z) ∧
    (hwPartOf 465 = some .ctx ∧ s.nandBad 465 = false ∧ s.nandBad 464 = false ∧ s.pecOf 464 + 2000 < s.pecOf 465 ∧ ∀ n, s.pecOf n < 2 ^ 32) := by
  intro s
  have hf : s.freeBlocks .ctx = [465] := wWear_free _
  rw [hf]
  refine ⟨by decide, by decide, ⟨by decide, ?_⟩, ?_, by decide, by decide +kernel, by decide +kernel, by decide, ?_⟩
  · intro z hz hn; exact absurd (List.mem_singleton.mp hz) hn
  · intro z hz _ hn; exact absurd (List.mem_singleton.mp hz) hn
  · intro n
    show tblGet 0 [(465, 2001)] n < 2 ^ 32
    simp only [tblGet]; split <;> decide

/-! ### Cipher, lattice and OTP -/

/-- The 32 bytes of a job descriptor at 0x2050_0000, with a key of these attributes in slot 1 and another of them in slot 2. -/
def wJob (d : List Byte) (keys : List (Nat × KeySlot)) (f : CipherState → CipherState := id) : State :=
  let s := State.reset.memPut 0x20500000 d
  { s with cipher := f { s.cipher with jobs := [{ addr := 0x20500020, core := .lc0, run := some { mode := 4 } }, { addr := 0x20500000, core := .kc }], seeded := true, keys := keys } }
/-- A CTR job of slot 1 over 16 bytes, in place. -/
def ctrDesc : List Byte :=
  leBytes 4 0x000100 ++ leBytes 4 0x20500040 ++ leBytes 4 0x20500040 ++ leBytes 4 16 ++ zeros 4 ++ leBytes 4 0x100000 ++
    leBytes 4 0x20500050 ++ zeros 4
def ctrDesc1 : List Byte := (ctrDesc.set 1 1).set 2 1
def wKeyOk : KeySlot := { key := some (zeros 16), attr := 0x4001 }
theorem test_CipherJobs_start : ((wJob ctrDesc1 [(1, wKeyOk)]).cipher.jobs = [{ addr := 0x20500020, core := .lc0, run := some { mode := 4 } }] ++ { addr := 0x20500000, core := .kc } :: [] ∧
      (wJob ctrDesc1 [(1, wKeyOk)]).aesRuns = true ∧ (wJob ctrDesc1 [(1, wKeyOk)] (fun c => { c with seeded := false })).aesRuns = false) ∧
    (((wJob ctrDesc1 [(1, wKeyOk)]).jobDesc 0x20500000).fieldsOk = true ∧
      ((wJob ctrDesc1 [(1, wKeyOk)]).jobDesc 0x20500000).mode = 1 ∧
      (wJob ctrDesc1 [(1, wKeyOk)]).jobAddrOk .kc 0x20500000 ((wJob ctrDesc1 [(1, wKeyOk)]).jobDesc 0x20500000) = true ∧
      bitAt wKeyOk.attr 0 = true ∧ bitAt wKeyOk.attr (11 + coreNum .kc) = true) ∧
    ((wJob (zeros 32) []).jobDesc 0x20500000).fieldsOk = false ∧ ((wJob ctrDesc1 []).keySlot 1).key = none ∧
    (bitAt ({ key := some (zeros 16), attr := 0x3fff } : KeySlot).attr (11 + coreNum .kc) = false) := by decide +kernel
theorem test_CipherJobs_posts : State.reset.cipher.jobs.length < 16 ∧
    16 ≤ ({ State.reset with cipher := { jobs := List.replicate 16 { addr := 0, core := .kc } } } : State).cipher.jobs.length ∧
    State.reset.cipher.doneq = [] ∧ ({ State.reset with cipher := { doneq := [0x20500000] } } : State).cipher.doneq = 0x20500000 :: [] := by decide

/-- A started job of mode `m`. -/
def wRunning (m : Nat) (alarm : Nat) : State :=
  let s := State.reset.wr CIPHER_ALARM (BitVec.ofNat 32 alarm)
  { s with cipher := { s.cipher with seeded := true, jobs := [{ addr := 0x20500000, core := .kc, run := some { mode := m, src := 0x20500040, dst := 0x20500040, len := 16, taglen := 8 } }] } }
theorem test_CipherJobs_modes : ∀ m ∈ List.range 11, (wRunning m 0).aesRuns = true ∧ (wRunning m 0).cipher.jobs[0]? =
    some { addr := 0x20500000, core := .kc, run := some { mode := m, src := 0x20500040, dst := 0x20500040, len := 16, taglen := 8 } } := by
  decide
theorem test_CipherJobs_alarm : (wRunning 10 0).rd CIPHER_ALARM = 0 ∧ (wRunning 10 8).rd CIPHER_ALARM ≠ 0 := by decide
/-- The seal of modes 5 and 7 and the opening of modes 6 and 8 have a result on every state. -/
theorem test_CipherJobs_results (s : State) (key iv aad src : List Byte) (n : Nat) :
    (∃ out g, ccmSeal key iv aad src n = (out, g)) ∧ (∃ out g, out = gcmStream key iv src ∧ g = (gcmTag key iv aad out).take n) ∧
      (∃ out, out = ctrMode key iv src) ∧ ∃ o, o = ccmOpen key iv aad src (s.memBytes 0 n) := ⟨⟨_, _, rfl⟩, ⟨_, _, rfl, rfl⟩, ⟨_, rfl⟩, ⟨_, rfl⟩⟩

/-- Every slot register names slot 0; slot 31 is empty. -/
def wKeys (attr alarm : Nat) : State := (State.reset.wr CIPHER_KEYATTR (BitVec.ofNat 32 attr)).wr CIPHER_ALARM (BitVec.ofNat 32 alarm)
theorem test_KeysAndAlarms_load : (¬3 ≤ 2 ∧ ¬32 ≤ 31 ∧ (wKeys 0x7806 0).slotNamed 31 = false ∧ ((wKeys 0x7806 0).keySlot 31).key.isSome = false ∧
      attrBad 2 ((wKeys 0x7806 0).rd CIPHER_KEYATTR).toNat = false ∧ (wKeys 0x7806 0).rd CIPHER_ALARM = 0 ∧
      (wKeys 0x7806 1).rd CIPHER_ALARM ≠ 0) ∧ attrBad 0 ((wKeys 0x7806 0).rd CIPHER_KEYATTR).toNat = true ∧
    State.reset.slotNamed 0 = true ∧ (wJob ctrDesc1 [(1, wKeyOk)]).slotNamed 1 = true ∧
    (({ State.reset with otp := { State.reset.otp with words := [(112, 2)] } } : State).otpFlag 1 = true ∧ State.reset.otpFlag 1 = false) := by
  decide +kernel
/-- The device secret of a part whose words are all 0 is blank, and of one with a bit in word 7 it is not. -/
theorem test_KeysAndAlarms_huk : ((∀ n, n < 8 → Config.otpFab n = 0) → State.reset.hukBlank = true) ∧
    (Config.otpFab 7 = 1 → State.reset.hukBlank = false) := by
  constructor
  · intro h
    have h0 := h 0; have h1 := h 1; have h2 := h 2; have h3 := h 3; have h4 := h 4; have h5 := h 5; have h6 := h 6; have h7 := h 7
    simp [State.hukBlank, State.huk, State.otpBytes, State.otpWord, List.range, List.range.loop, *]
    decide
  · intro h
    simp [State.hukBlank, State.huk, State.otpBytes, State.otpWord, List.range, List.range.loop, h]
    intros; decide

def wRng (trng : Nat) (f : CipherState → CipherState) : State :=
  let s := State.reset.setFld CIPHER_STAT_TRNG trng
  { s with cipher := f s.cipher }
theorem test_KeysAndAlarms_words : ((wRng 0 (fun c => { c with rng := [7] })).cipher.rng = 7 :: [] ∧ (wRng 0 id).fld CIPHER_STAT_TRNG = 0) ∧
    ((wRng 0 id).cipher.rng = [] ∧ (wRng 0 id).cipher.nextOut ≤ (wRng 0 id).clk.now + us 128) ∧
    ((wRng 2 id).fld CIPHER_STAT_TRNG ≠ 0 ∧ (wRng 2 id).cipher.seeded = false) ∧
    ((wRng 0 id).cipher.outs % 4 = 0 ∧ (wRng 0 (fun c => { c with outs := 3 })).cipher.outs % 4 ≠ 0) ∧
    (State.reset.flag CIPHER_STAT_HALTED = false ∧ State.reset.cipher.testEnd = some (State.reset.clk.now + us 256) ∧
      (wRng 0 (fun c => { c with testEnd := none })).cipher.testEnd ≠ some (State.reset.clk.now + us 256) ∧
      (State.reset.set1 CIPHER_STAT_HALTED).flag CIPHER_STAT_HALTED = true) ∧ (State.reset.clocked = true ∧ (2 ≤ 3 ∧ 3 < 4)) := by decide
def wIdKey (f : LatState → LatState := id) : State :=
  { State.reset with lat := f { State.reset.lat with idKey := some [] }, otp := { State.reset.otp with words := [(112, 1)] } }
theorem test_KeysAndAlarms_alarm : wIdKey.lat.idKey.isSome = true ∧ wIdKey.otpFlag 0 = true ∧ State.reset.otpFlag 0 = false ∧
    (∀ op ∈ [2, 3, 6], ({ op := op, args := [] } : LatOp).secret = true) ∧ ({ op := 4, args := [] } : LatOp).secret = false ∧
    ((wRunning 5 0).cipher.jobs.map (fun j => j.run.isSome)) = [true] ∧ isAead 5 = true := by decide

/-- An operation in progress with its arguments, and one that waits. -/
def wLat (op : Nat) (args : List Nat) (f : LatState → LatState := id) (meas : Nat := 0) : State :=
  { State.reset with lat := f { State.reset.lat with cur := some { op := op, args := args, meas := meas } } }
theorem test_LatticeAndOtp_commands : LatCommand (.verify 6) 1 6 0 ∧ LatCommand .sign 2 0 0 ∧ LatCommand .keygen 3 0 0 ∧
    LatCommand .shake 4 0 0 ∧ LatCommand (.extend 3) 5 0 3 ∧ LatCommand .report 6 0 0 := by simp [LatCommand]
theorem test_LatticeAndOtp_requests : (State.reset.lat.cur = none ∧ State.reset.lat.wait = []) ∧
    (∀ o ∈ (wLat 1 [] (fun l => { l with wait := [{ op := 1, args := [], loader := true }] })).lat.wait, o.loader = true) ∧
    (∃ o ∈ (wLat 1 [] (fun l => { l with wait := [{ op := 1, args := [] }] })).lat.wait, o.loader = false) ∧
    ((wLat 1 [] (fun l => { l with cur := none, wait := [{ op := 1, args := [] }] })).lat.cur = none ∧
      (wLat 1 [] (fun l => { l with cur := none, wait := [{ op := 1, args := [] }] })).lat.wait = { op := 1, args := [] } :: []) := by decide
theorem test_LatticeAndOtp_done : (State.reset.coreRegion .kc 0x20500000 1 = true ∧ State.reset.coreRegion .kc 0x20500000 32 = true ∧
      State.reset.coreRegion .kc 0x20500000 1952 = true ∧ State.reset.coreRegion .kc 0x20500000 3309 = true ∧
      State.reset.coreRegion .kc 0x20500000 3533 = true ∧ State.reset.coreRegion .kc 0x20500000 4096 = true) ∧
    (∀ op ∈ [1, 2, 3, 4, 5, 6], (wLat op [0x20500000, 1, 0x20500000, 0x20500000]).lat.cur =
      some { op := op, args := [0x20500000, 1, 0x20500000, 0x20500000] } ∧ ({ op := op, args := [0x20500000] } : LatOp).loader = false) ∧
    ([0x20500000, 1, 0x20500000].getD 3 0 = 0 ∧ [0, 0, 0x20500000].getD 3 0 = 0 ∧ [0x20500000].getD 1 0 = 0 ∧
      [0x20500000, 0x20500000].getD 2 0 = 0 ∧ 24 * ceilDiv 0 136 + 24 * ceilDiv 4096 136 + 200 = 944) ∧
    (State.reset.lat.idKey = none ∧ wIdKey.lat.idKey = some [] ∧ State.reset.flag CIPHER_STAT_HALTED = false ∧
      (State.reset.set1 CIPHER_STAT_HALTED).flag CIPHER_STAT_HALTED = true) := by decide +kernel
/-- SIGN and REPORT end within their limits after any number of iterations. -/
theorem test_LatticeAndOtp_iterations (n : Nat) : us 450 + us 500 * min 64 n ≤ us 32450 ∧ us 452 + us 500 * min 64 n ≤ us 32452 := by
  unfold us; omega
/-- Where the fuses of a part are blank, KEYGEN is refused; where HUK and the seed are there, it is not. -/
theorem test_LatticeAndOtp_keygen : (Config.otpFab 7 = 1 → Config.otpFab 15 = 1 →
      ¬(State.reset.rd CIPHER_ALARM ≠ 0 ∨ State.reset.otpFlag 1 = true ∨
        (State.reset.hukBlank || (State.reset.otpBytes 8 32).all (fun b => b == 0)) = true)) ∧ wIdKey.otpFlag 1 = false := by
  refine ⟨fun h7 h15 => ?_, by decide⟩
  have hb := test_KeysAndAlarms_huk.2 h7
  have hs : (State.reset.otpBytes 8 32).all (fun b => b == 0) = false := by
    simp [State.otpBytes, State.otpWord, List.range, List.range.loop, h15]
    intros; decide
  rw [hb, hs]; decide

def wOtpAt (w : Nat) (words : List (Nat × Word)) (cmd : Option OtpCmd := none) : State :=
  { State.reset.setFld OTP_ADDR_WORD w with otp := { words := words, cmd := cmd } }
theorem test_LatticeAndOtp_otp : ((wOtpAt 79 []).fld OTP_ADDR_WORD = 79 ∧ (wOtpAt 79 []).otpFlag 2 = false ∧ (wOtpAt 79 []).otpWord 79 = 0 ∧
      (wOtpAt 79 []).otp.cmd = none) ∧ ((wOtpAt 80 []).fld OTP_ADDR_WORD = 80 ∧ (wOtpAt 31 []).fld OTP_ADDR_WORD = 31) ∧
    (wOtpAt 79 [(79, 1)]).otpWord 79 ≠ 0 ∧ (wOtpAt 79 [(112, 4)]).otpFlag 2 = true ∧
    (∀ k ∈ ([⟨1, 0, 32, 5⟩, ⟨2, 7, 0, 0⟩, ⟨3, 2, 0, 0⟩] : List OtpCmd), (wOtpAt 79 [] (some k)).otp.cmd = some k) ∧
    ((5 : Word) &&& 2 = 0 ∧ (5 : Word) &&& 4 ≠ 0 ∧ (3 : Word).toNat % 4 = 3 ∧ (2 : Word).toNat % 4 ≠ 3 ∧ bitAt (1 : Word).toNat 0 = true) ∧
    ((wOtpAt 0 [(108, 0xffffffff), (109, 0xffffffff), (110, 0xffffffff), (111, 0xffffffff)]).arb 7 = 64 ∧
      (wOtpAt 0 [(108, 0xffffffff), (109, 0xffffffff), (110, 0xffffffff), (111, 0x3fffffff)]).arb 7 = 63 ∧
      (wOtpAt 0 [(108, 1)]).pairBlown 7 2 = false) := by decide

/-! ### Firmware update, Ridgeline and the pair's lockstep -/

/-- A record under trial whose first try is to come (`tries` 0) or that has used all (3), with SETIDs of zeros. -/
def wRec (tries : Nat) : Bcr := { state := 1, tries := tries, genold := 7 }
theorem readBcr_wRec (n : Nat) (h : n = 0 ∨ n = 1 ∨ n = 3) : readBcr (wRec n).bytes = some (wRec n) := by
  rcases h with h | h | h <;> subst h <;> decide +kernel

/-- The device awake in its boot ROM, with BOOTSEL `sel` and this record in copy 0 of BOOT. -/
def wBoot (sel : Nat) (r : Option Nat) (f : State → State := id) : State :=
  let s := f State.reset
  { s with pwr := { s.pwr with strapBoot := sel },
           nand := { s.nand with pages := match r with
                                   | some n => [(0, .data (wRec n).bytes)]
                                   | none => [] } }
theorem wBoot_bcr (sel n : Nat) (h : n = 0 ∨ n = 1 ∨ n = 3) (f : State → State) : (wBoot sel (some n) f).bcr = wRec n := by
  have hp : (wBoot sel (some n) f).nand.pages = [(0, .data (wRec n).bytes)] := rfl
  simp [State.bcr, State.newestBcr, hp, bootCopy, readBcr_wRec n h]
theorem test_BootAndTrial_select : ((wBoot 1 none).flag UPD_BOOT_ROMEXIT = false ∧ (wBoot 1 none).flag UPD_BOOT_RECOV = false ∧
      (wBoot 1 none).kc.st = .run ∧ (wBoot 1 none).clocked = true ∧ (wBoot 1 none).pwr.strapBoot = 1) ∧
    (∀ n ∈ [0, 3], (wBoot 3 (some n)).flag UPD_BOOT_ROMEXIT = false ∧ (wBoot 3 (some n)).flag UPD_BOOT_RECOV = false ∧
      (wBoot 3 (some n)).kc.st = .run ∧ (wBoot 3 (some n)).clocked = true ∧ (wBoot 3 (some n)).pwr.strapBoot ≠ 1) ∧
    ((wBoot 3 (some 0)).bcr.state = 1 ∧ (wBoot 3 (some 0)).flag UPD_BOOT_TEXP = false ∧ (wBoot 3 (some 0)).bcr.tries < 3) ∧
    ¬(wBoot 3 (some 3)).bcr.tries < 3 ∧ (wBoot 0 none).bcr.state = 0 := by
  refine ⟨by decide, by decide, ?_, ?_, by decide⟩
  · rw [wBoot_bcr _ _ (by simp)]; decide
  · rw [wBoot_bcr _ _ (by simp)]; decide
/-- Where the die holds no image, neither set boots. -/
theorem test_BootAndTrial_erased : ((wBoot 0 none).bootCheck 0).1 ≠ Code.OK ∧ ((wBoot 0 none).bootCheck 1).1 ≠ Code.OK := by decide +kernel

def wStg : Stage := { setid := zeros 8, setver := 1, nh := 3, nlist := 1, ndata := 1, have_ := 5 }
/-- A member whose input is high enough and which has stood still, with this in staging. -/
def wUpd (g : Option Stage) (f : UpdState → UpdState := id) : State :=
  let s := (State.reset.setFld PWR_VINMON_VIN 550)
  { s with icu := { s.icu with pins := s.icu.pins ||| 2 ^ 20 }, upd := f { s.upd with stage := g } }
theorem test_BootAndTrial_activate : ((wUpd (some wStg)).updRefused = false ∧ (wUpd (some wStg)).upd.stage.any Stage.complete = true ∧
      (wUpd (some wStg)).pwr.nrstLow = false ∧ (wUpd (some wStg)).pwr.vioLow = false ∧ 1 < 256 ∧ (1 ≠ Code.OK) ∧ Code.OK < 256) ∧
    (State.reset.updRefused = true) := by decide
theorem test_BootAndTrial_timer : (Requester.core .lc0 ≠ .core .kc ∧ State.reset.flag UPD_BOOT_ROMEXIT = false ∧ 1 ≤ 65535) ∧
    ((wUpd none (fun u => { u with expireAt := some 0 })).upd.expireAt = some 0 ∧ reached 48 (wUpd none).clk.slowcnt 0 = true ∧
      reached 48 (wUpd none).clk.slowcnt 1 = false ∧ (wIdle id).clk.slowOn = true) := by decide
def wTrial (vin : Nat) : State := wBoot 0 (some 1) (fun s => ((s.set1 UPD_BOOT_TRIAL).set1 PAGER_STAT_READY).setFld PWR_VINMON_VIN vin)
theorem wTrial_bcr (vin : Nat) : (wTrial vin).bcr = wRec 1 := wBoot_bcr 0 1 (by simp) _
theorem wTrial_on (vin : Nat) (h : vin = 0 ∨ vin = 550) : (wTrial vin).onTrial = true := by
  unfold State.onTrial
  rw [wTrial_bcr]
  rcases h with h | h <;> subst h <;> decide
theorem test_BootAndTrial_confirm : ((wTrial 550).trialHealthy true true = true ∧ (wTrial 550).vinLow = false) ∧
    (wTrial 0).vinLow = true ∧ (wTrial 550).onTrial = true ∧ (wTrial 550).pwr.nrstLow = false ∧ State.reset.onTrial = false := by
  have h : (wTrial 550).settings = {} := by
    unfold State.settings; rw [wTrial_on _ (by simp), wTrial_bcr]; decide
  have h' : (wTrial 0).settings = {} := by
    unfold State.settings; rw [wTrial_on _ (by simp), wTrial_bcr]; decide
  refine ⟨⟨?_, ?_⟩, ?_, wTrial_on _ (by simp), by decide, by decide⟩
  · unfold State.trialHealthy; rw [wTrial_on _ (by simp)]; decide
  · unfold State.vinLow; rw [h]; decide
  · unfold State.vinLow; rw [h']; decide

/-! Ridgeline -/

def rlMsg (typ : Nat) (rest : List Byte) : List Byte := leBytes 1 0xa7 ++ leBytes 1 typ ++ zeros 2 ++ zeros 8 ++ rest
theorem test_Ridgeline_formats : (31 < 32 ∧ State.reset.flag UPD_BOOT_RECOV = false) ∧ rlFmt (rlMsg 1 (zeros 12)) 1 = true ∧
    (rlFmt (rlMsg 2 (zeros 4 ++ leBytes 2 1 ++ leBytes 2 64)) 2 = true ∧ octLe (rlMsg 2 (zeros 4 ++ leBytes 2 1 ++ leBytes 2 64)) 16 2 = 1 ∧
      octLe (rlMsg 2 (zeros 4 ++ leBytes 2 1 ++ leBytes 2 64)) 18 2 = 64) ∧
    (octLe (rlMsg 2 (zeros 4 ++ leBytes 2 64 ++ leBytes 2 2048)) 16 2 = 64 ∧ octLe (rlMsg 2 (zeros 4 ++ leBytes 2 64 ++ leBytes 2 2048)) 18 2 = 2048) ∧
    (rlFmt (rlMsg 4 (leBytes 1 1 ++ zeros 3)) 4 = true ∧ octLe (rlMsg 4 (leBytes 1 1 ++ zeros 3)) 13 3 = 0) ∧
    ((rlMsg 4 (zeros 3)).length ≠ 16 ∧ octLe (rlMsg 4 (zeros 3)) 1 1 ≠ 3) := by decide
/-- The announcement is due to a neighbour that was told otherwise or 60 s ago, and not to one told this just now. -/
theorem test_Ridgeline_announce : (∀ a, tblFind (wUpd (some wStg)).upd.annAt 31 = some a → a.2 ≠ (wUpd (some wStg)).have_ ∨ a.1 + 60 * 200000000 ≤ 0) ∧
    ¬(∀ a, tblFind (wUpd (some wStg) (fun u => { u with annAt := [(31, (0, 5))] })).upd.annAt 31 = some a →
      a.2 ≠ (wUpd (some wStg)).have_ ∨ a.1 + 60 * 200000000 ≤ 0) := by
  refine ⟨fun a h => (nomatch (show none = some a from h)), fun h => ?_⟩
  have := h (0, 5) (by decide)
  revert this; decide
theorem test_Ridgeline_request : (wUpd (some wStg)).upd.stage = some wStg ∧ wStg.setid = rlSetid (rlMsg 2 (zeros 4 ++ leBytes 2 1 ++ leBytes 2 64)) ∧
    octLe (rlMsg 2 (zeros 4 ++ leBytes 2 1 ++ leBytes 2 64)) 12 4 < wStg.have_ ∧
    wStg.have_ ≤ octLe (rlMsg 2 (leBytes 4 5 ++ leBytes 2 1 ++ leBytes 2 64)) 12 4 ∧ (wUpd (some wStg)).updRefused = false ∧
    State.reset.updRefused = true ∧ State.reset.upd.stage = none := by decide +kernel

/-- A block message of block 4 with `n` octets from the octet `ofs`. -/
def blkMsg (ofs n : Nat) : List Byte := rlMsg 3 (leBytes 4 4 ++ leBytes 2 ofs ++ leBytes 2 n ++ zeros n)
/-- Block 4 is wanted of neighbour 31, `ofs` of its octets are there, in a stream of these octets; blocks of these SETIDs have failed. -/
def wBlk (ofs : Nat) (fails : List (List Byte)) (frag : Nat := 0) (bytes : List Byte := zeros 8192) : State :=
  wUpd (some { wStg with have_ := 4, bytes := bytes }) (fun u =>
    { u with src := some 31, peers := [(31, { setid := zeros 8, fails := fails, frag := frag })],
             frag := if ofs = 0 then none else some (4, zeros ofs) })
def wBlkA : State := wBlk 0 []
def wBlkB : State := wBlk 2047 [zeros 8, zeros 8]
theorem test_Ridgeline_block : (rlFmt (blkMsg 0 1) 3 = true ∧ wBlkA.upd.src = some 31 ∧
      wBlkA.upd.stage = some { wStg with have_ := 4, bytes := zeros 8192 } ∧ rlSetid (blkMsg 0 1) = zeros 8 ∧
      (wBlkA.rlPeer 31).setid = rlSetid (blkMsg 0 1) ∧ wBlkA.upd.rlHead = [] ∧ octLe (blkMsg 0 1) 12 4 = 4 ∧
      1 ≤ octLe (blkMsg 0 1) 18 2 ∧ (wBlkA.rlPeer 31).frag = 0 ∧ wBlkA.upd.frag = none ∧ octLe (blkMsg 0 1) 16 2 = 0 ∧
      ((blkMsg 0 1).drop 20).length = 1) ∧
    (rlFmt (blkMsg 2047 1) 3 = true ∧ wBlkB.upd.frag = some (4, zeros 2047) ∧ octLe (blkMsg 2047 1) 16 2 = (zeros 2047).length ∧
      (zeros 2047 ++ (blkMsg 2047 1).drop 20).length = 2048 ∧ 2 ≤ (wBlkB.rlPeer 31).failed) ∧
    (octLe (blkMsg 0 65) 18 2 = 65 ∧ ((wBlk 0 [] 64).rlPeer 31).frag = 64) := by decide +kernel
/-- A stream whose list gives block 4 the hash of 2,048 zeros, and one whose list ends before it. -/
def hashed : List Byte := zeros 2144 ++ shake256 (zeros 2048) 32
theorem shake256_length (m : List Byte) (n : Nat) : (shake256 m n).length = n := by simp [shake256, shake]
theorem test_Ridgeline_hash : blockOk hashed 4 (zeros 2048) = true ∧ blockOk (zeros 2048) 4 (zeros 2048) = false := by
  have h1 : headBlocks (headOf hashed).headlen = 1 ∧ (headOf hashed).nlist = 0 := by decide +kernel
  have h2 : headBlocks (headOf (zeros 2048)).headlen = 1 ∧ (headOf (zeros 2048)).nlist = 0 := by decide +kernel
  have h3 : (hashed.drop 2144).take 32 = shake256 (zeros 2048) 32 := by
    unfold hashed
    rw [List.drop_left' (show (zeros 2144).length = 2144 from List.length_replicate), List.take_of_length_le (Nat.le_of_eq (shake256_length ..))]
  constructor
  · simp only [blockOk, h1]; exact beq_iff_eq.2 h3.symm
  · simp only [blockOk, h2]
    refine beq_eq_false_iff_ne.2 (fun h => ?_)
    have := congrArg List.length h
    rw [shake256_length] at this
    revert this; decide +kernel
def wBlkOk : State := wBlk 2047 [] 2048 hashed
theorem test_Ridgeline_refuse : octLe (rlMsg 4 (leBytes 1 0xe0 ++ zeros 3)) 12 1 = 0xe0 ∧ octLe (rlMsg 4 (leBytes 1 0xdf ++ zeros 3)) 12 1 = 0xdf ∧
    rlSetid (rlMsg 4 (leBytes 1 0xdf ++ zeros 3)) = (wBlkA.rlPeer 31).setid ∧ rlSetid (rlMsg 4 (zeros 4)) ≠ leBytes 8 1 := by decide +kernel

/-! The pair in lockstep -/

/-- The pair's member in role `n`, link up, after `f`. -/
def wMir (role : Nat) (f : MirrorState → MirrorState := id) : State :=
  let s := ((State.reset.set1 MIRROR_CTRL_EN).setFld MIRROR_STAT_ROLE role).setFld MIRROR_STAT_LINK 2
  { s with mirror := f s.mirror }
def wLock (l : Lockstep) : State := { State.reset with upd := { State.reset.upd with lock := some l } }
theorem test_PairLockstep : ((zeros 8 : List Byte).length = 8 ∧ (wMir 3).pairActive = true ∧ (wMir 2).pairStandby = true ∧
      (wMir 3).sqt + 1000000 ≤ (timeOf32 (wMir 3).sqt 1000000).toNat ∧ (wMir 3).linkUp = true ∧ (wMir 3).updRefused = true ∧
      (wMir 3).upd.stage = none) ∧ leBytes 8 1 ≠ zeros 8 := by decide
theorem test_PairLockstep_lock :
    (∀ own ∈ [true, false], ∀ ready ∈ [true, false], ∀ peer ∈ [true, false],
      (wLock { setid := zeros 8, t := 0, own := own, ready := ready, peerReady := peer }).upd.lock =
        some { setid := zeros 8, t := 0, own := own, ready := ready, peerReady := peer } ∧
      (wLock { setid := zeros 8, t := 0, own := own }).pwr.nrstLow = false) := by decide
def wTrialLock (l : Option Lockstep) : State :=
  let s := wTrial 550
  { s with upd := { s.upd with lock := l } }
theorem wTrialLock_on (l : Option Lockstep) : (wTrialLock l).bcr = wRec 1 ∧ (wTrialLock l).onTrial = true ∧ (wTrialLock l).settings = {} :=
  ⟨wTrial_bcr 550, wTrial_on 550 (by simp), by
    unfold State.settings
    rw [show (wTrialLock l).onTrial = true from wTrial_on 550 (by simp), show (wTrialLock l).bcr = wRec 1 from wTrial_bcr 550]
    rfl⟩
theorem test_PairLockstep_trial : ((wTrialLock none).trialHealthy true true = true ∧ (wTrialLock none).trialSetid = zeros 8 ∧
      (wTrialLock none).onTrial = true) ∧
    (let s := wTrialLock (some { setid := zeros 8, t := 0, own := true, trial := true, healthy := true, peerHealthy := true })
     s.onTrial = true ∧ s.trialSetid = zeros 8 ∧ s.trialLock.healthy = true ∧ s.trialLock.peerHealthy = true ∧ s.vinLow = false) := by
  refine ⟨⟨?_, ?_, (wTrialLock_on _).2.1⟩, (wTrialLock_on _).2.1, ?_, by decide, by decide, ?_⟩
  · unfold State.trialHealthy; rw [(wTrialLock_on _).2.1]; decide
  · unfold State.trialSetid; rw [(wTrialLock_on _).1]; decide
  · unfold State.trialSetid; rw [(wTrialLock_on _).1]; decide
  · unfold State.vinLow; rw [(wTrialLock_on _).2.2]; decide

/-! ### Self-test and the event log -/

/-- Self-test in this state; path S stands in state number `n`. -/
def wBist (n : Nat) (b : BistState) (f : State → State := id) : State := f { rfSt n id with bist := b }
def wSlc : BistSlice := ⟨.s, 40000, false⟩
theorem test_SelfTest_cycle : (∀ v ∈ [true, false], (State.reset.setBool BIST_CTRL_EN v).flag BIST_CTRL_EN = v) ∧ Requester.core .sc ≠ .core .kc ∧
    (∀ r ∈ [true, false], (wBist 0 { running := r } (fun s => { s.set1 BIST_CTRL_EN with clk := { s.clk with slowOn := true } })).flag BIST_CTRL_EN = true ∧
      (wBist 0 { running := r } (fun s => { s.set1 BIST_CTRL_EN with clk := { s.clk with slowOn := true } })).bist.running = r ∧
      (wBist 0 { running := r } (fun s => { s.set1 BIST_CTRL_EN with clk := { s.clk with slowOn := true } })).clk.slowOn = true) := by decide
/-- Path S is in FAULT and its check is to be rerun. -/
theorem test_SelfTest_fault : ∀ s ∈ [wBist 10 { items := [(0, { st := .rerun })] }],
    s.bist.check = none ∧ (s.bistItem 0).st = .rerun ∧ s.pst (pathOf 0) = .fault ∧ (s.bistItem 1).st ≠ .rerun := by decide
/-- In a slice on path S with 200 µs left: a rerun, a request and the next item of a cycle, and a slice with nothing to do. -/
theorem test_SelfTest_slice : (∀ s ∈ [wBist 4 { items := [(0, { st := .rerun })], slice := some wSlc }],
      s.bist.slice = some wSlc ∧ s.clk.now < wSlc.endAt ∧ s.bistIdle wSlc.path 0 = true ∧ bistUs 0 ≤ (wSlc.endAt - s.clk.now) / 200 ∧
        (s.bistItem 0).st = .rerun ∧ (s.pst (pathOf 0) ≠ .fault ∧ s.pst (pathOf 1) ≠ .fault)) ∧
    (∀ s ∈ [wBist 4 { slice := some wSlc, req := some (76, 9) } (fun s => { s with clk := { s.clk with pll := true } })],
      (∀ j, j < 77 → (s.bistItem j).st ≠ .rerun) ∧ s.bistIdle wSlc.path 76 = true ∧ bistUs 76 ≤ (wSlc.endAt - s.clk.now) / 200 ∧
        s.bist.req = some (76, 9)) ∧
    (∀ p, ∀ s ∈ [wBist 4 { slice := some wSlc, running := p }],
      (∀ j, j < 77 → (s.bistItem j).st ≠ .rerun) ∧ s.bist.req = none ∧ s.bist.running = p ∧ (s.bistItem 0).st = .due ∧
        s.bistIdle wSlc.path 0 = true ∧ bistUs 0 ≤ (wSlc.endAt - s.clk.now) / 200) ∧
    (∀ s ∈ [wBist 4 { slice := some ⟨.s, 1, true⟩, running := true }],
      s.clk.now < 1 ∧ ∀ j, j < 77 → ¬(s.bistIdle .s j = true ∧ bistUs j ≤ (1 - s.clk.now) / 200)) := by decide +kernel
/-- The checks in progress, each for the reasons it can run for, and what a passed rerun finds. -/
theorem test_SelfTest_ends : (∀ w ∈ [BistWhy.rerun, .request, .cycle], ∀ i ∈ [0, 3, 4, 11, 12, 75, 76],
      (wBist 4 { check := some ⟨i, w, 0, 0⟩ }).bist.check = some ⟨i, w, 0, 0⟩ ∧ i < 77) ∧
    (∀ s ∈ [wBist 10 { check := some ⟨0, .rerun, 0, 0⟩ }],
      s.pst (bistPath 0) = .fault ∧ (s.bistItem (2 + 0)).st ≠ .unusable) ∧
    (∀ w ∈ [BistWhy.reint1, .reint2], ∀ i ∈ [0, 4, 12, 75], (wBist 4 { reint := some ⟨i, w, 0, 0⟩ }).bist.reint = some ⟨i, w, 0, 0⟩ ∧ i < 76) ∧
    (((wBist 4 { items := [(76, { st := .rerun })] }).bistItem 76).st = .rerun ∧
      ((wBist 4 { items := [(76, { st := .rerun })] }).bistItem 76).lateLogged = false) := by decide
theorem test_SelfTest_requests : (State.reset.flag BIST_REQRES_BUSY = false ∧ (State.reset.set1 BIST_REQRES_BUSY).flag BIST_REQRES_BUSY = true ∧
      (State.reset.bistItem 76).st ≠ .unusable ∧ 65535 ≠ 0 ∧ 127 < 128 ∧ 76 < 127) ∧
    ((wBist 4 { items := [(75, { st := .unusable })] }).bistItem 75).st = .unusable ∧
    (wBist 4 { req := some (76, 9) }).bist.req = some (76, 9) ∧ (wBist 4 { req := some (76, 9) }).bist.check = none := by decide

/-- The log with these sequence numbers, one entry waiting, and `lost` entries lost. -/
def wLog (head first ack lost : Nat) (f : State → State := id) : State :=
  let s := ((State.reset.wr LOG_HEAD (BitVec.ofNat 32 head)).wr LOG_FIRST (BitVec.ofNat 32 first)).wr LOG_ACK (BitVec.ofNat 32 ack)
  f { s with log := { s.log with lostSince := lost } }
theorem test_EventLog_append : ((wLog 4095 0 0 0).log.queue = { at_ := 0, rank := 1, ent := { src := 1, code := 0x65, data := 1 } } :: [] ∧
      (wLog 4095 0 0 0).clocked = true ∧ (wLog 4095 0 0 0).log.lostSince = 0 ∧
      seqDiff ((wLog 4095 0 0 0).rd LOG_HEAD).toNat ((wLog 4095 0 0 0).rd LOG_FIRST).toNat < 4096) ∧
    (seqDiff ((wLog 4096 0 0 0).rd LOG_HEAD).toNat ((wLog 4096 0 0 0).rd LOG_FIRST).toNat = 4096 ∧
      (wLog 4096 0 0 0 (fun s => s.clr LOG_CFG_MODE)).flag LOG_CFG_MODE = false ∧
      (wLog 4096 0 0 0 (fun s => s.set1 LOG_CFG_MODE)).flag LOG_CFG_MODE = true ∧
      (wLog 4096 0 0 0).rd LOG_ACK = (wLog 4096 0 0 0).rd LOG_FIRST) ∧
    ((wLog 4094 0 0 1).log.lostSince ≠ 0 ∧ seqDiff ((wLog 4094 0 0 1).rd LOG_HEAD).toNat ((wLog 4094 0 0 1).rd LOG_FIRST).toNat < 4095) := by decide
theorem test_EventLog_firmware : ((0x000000df17 : Word).toNat % 32 = 23 ∧ (0x0000df17 : Word).toNat / 256 % 256 = 0xdf ∧ 0xdf < 0xe0 ∧
      State.reset.log.queue.length < 16) ∧ ((0x18 : Word).toNat % 32 = 24 ∧ (0xe001 : Word).toNat / 256 % 256 = 0xe0) ∧
    Requester.core .lc0 ≠ .core .kc := by decide
theorem test_EventLog_writer : ∀ c : CoreId, Requester.dma 3 ≠ .core c := by intro c h; cases h
theorem test_EventLog_read : (∀ s ∈ [wLog 1 0 0 0 (fun s => { s with log := { s.log with ring := [(0, { slow := 2 ^ 48 - 1, sub := 65535, src := 255, code := 255, aux := 65535, data := 9 })] } })],
    seqDiff (s.rd LOG_RDSEQ).toNat (s.rd LOG_FIRST).toNat < seqDiff (s.rd LOG_HEAD).toNat (s.rd LOG_FIRST).toNat ∧
      tblFind s.log.ring ((s.rd LOG_RDSEQ).toNat % 4096) = some { slow := 2 ^ 48 - 1, sub := 65535, src := 255, code := 255, aux := 65535, data := 9 }) ∧
    ¬seqDiff (State.reset.rd LOG_RDSEQ).toNat (State.reset.rd LOG_FIRST).toNat <
      seqDiff (State.reset.rd LOG_HEAD).toNat (State.reset.rd LOG_FIRST).toNat := by decide

/-! ### Ethernet, UARTs and pins -/

def wNet (f : NetState → NetState := id) : State :=
  let s := State.reset.set1 NET_CTRL_EN
  { s with net := f s.net }
def ffFrame (n : Nat) : List Byte := List.replicate n 0xff
theorem test_NetUartGpio_net : (wNet.flag NET_CTRL_EN = true ∧ wNet.clocked = true ∧ (ffFrame 1518).length ≤ 1518 ∧
      wNet.netMine (ffFrame 1518) = true ∧ (wNet.wr NET_MACLO 1).netMine (zeros 60) = false) ∧
    ((wNet.net.rx.map (fun e => e.2.length)).sum + wNet.net.rxOut.length + 1522 ≤ 8192) ∧
    8192 < ((wNet (fun n => { n with rx := [(0, ffFrame 1518), (0, ffFrame 1518), (0, ffFrame 1518), (0, ffFrame 1518), (0, ffFrame 599)] })).net.rx.map
      (fun e => e.2.length)).sum + 1522 ∧
    (wNet (fun n => { n with rx := [(0, [7])] })).net.rx = (0, [7]) :: [] := by decide +kernel
theorem test_NetUartGpio_tx : ((1518 : Word).toNat % 2048 = 1518 ∧ (2048 : Word).toNat % 2048 = 0 ∧ (1519 : Word).toNat % 2048 = 1519) ∧
    (∀ s ∈ [wNet (fun n => { n with txLens := [1], tx := zeros 4 })],
      s.net.txLens = 1 :: [] ∧ (1 + 3) / 4 * 4 ≤ s.net.tx.length) ∧
    (State.reset.flag NET_MDIO_BUSY = false ∧ bitsOf (0x04000000 : Word).toNat 27 26 = 1 ∧ bitsOf (0x08000000 : Word).toNat 27 26 = 2 ∧
      bitsOf (0x0c000000 : Word).toNat 27 26 = 3) ∧
    (∀ b, (wNet (fun n => { n with mdio := some (b, 7) })).net.mdio = some (b, 7)) ∧ 65535 < 65536 := by decide
def wUart (u : Nat) (x : UartState) : State :=
  let s := State.reset.set1 (UART_CFGn_EN u)
  let s : State := { s with clk := { s.clk with pll := true } }
  if u = 0 then { s with uart0 := x } else { s with uart1 := x }
theorem test_NetUartGpio_uart : ∀ u ∈ [0, 1], (wUart u {}).uartOn u = true ∧ (wUart u {}).uart u = {} ∧ ({} : UartState).rx.length < 64 ∧ 255 < 256 ∧
    (wUart u { rx := List.replicate 64 0 }).uart u = { rx := List.replicate 64 0 } ∧
    (wUart u { tx := List.replicate 64 0 }).uart u = { tx := List.replicate 64 0 } ∧
    (wUart u { rx := [7], tx := [9] }).uart u = { rx := [7], tx := [9] } ∧ (wUart u {}).flag (UART_CFGn_FLOW u) = false ∧
    ((wUart u { tx := [9] }).set1 (UART_CFGn_FLOW u)).flag (UART_CFGn_FLOW u) = true := by decide
theorem test_NetUartGpio_pins : (State.reset.gpioDrives 19 = none ∧ (State.reset.setFld GPIO_DIR_DIR 0x80000).gpioDrives 19 = some false ∧
    (State.reset.setFld GPIO_DIR_DIR 0x80000).clocked = true) ∧ tblFind State.reset.tmr.outAt 31 ≠ some State.reset.clk.now ∧
    ({ State.reset with tmr := { outAt := [(31, 0)] } } : State).tmr.outAt = [(31, State.reset.clk.now)] := by decide

/-! ### The Mirror pair -/

/-- One second after reset, the member in role `n` with its link up. -/
def wPair (role : Nat) (f : MirrorState → MirrorState := id) (pins : Nat := 0x3d00000) : State :=
  let s := wMir role f
  { s with clk := { s.clk with now := 200000000 }, icu := { s.icu with pins := pins } }
def wPeer (role : Nat) (lost : Bool := false) : PeerBeat := { role := role, feedLost := lost }
theorem test_MirrorRoles_control : State.reset.flag MIRROR_CTRL_EN = false ∧ (wPair 3).flag MIRROR_CTRL_EN = true ∧
    (wPair 3).fld MIRROR_STAT_ROLE = 3 ∧ (wPair 2).fld MIRROR_STAT_ROLE ≠ 3 ∧ State.reset.pairActive = false ∧ (wPair 3).pairActive = true ∧
    (wPair 3 (fun m => { m with peer := some (wPeer 2) })).mirror.peer = some (wPeer 2) ∧ (wPeer 2).role = 2 ∧ (wPeer 2).feedLost = false ∧
    (wPeer 1).role ≠ 2 ∧ (wPeer 2 true).feedLost = true := by decide
theorem test_MirrorRoles_air : NoneOnAir (wPair 3) ∧
    (wPair 3).advanceTo (max ((wPair 3).mirror.kickAt.getD 0) (wPair 3).mirror.roleAt + us 1000 * (wPair 3).fld MIRROR_CFG_KICKTO) = wPair 3 := by
  refine ⟨⟨rfl, fun p => ?_⟩, by unfold State.advanceTo; rw [if_neg (by decide)]⟩
  cases p <;> exact fun c h => nomatch h
/-- A frame on path G of the active member. -/
theorem test_MirrorRoles_cut : (((wPair 3).setFld (RFx_STATE_STATE .g) 7).modRf .g (fun x => { x with held := [{ started := true }] })).pst .g = .tx ∧
    ((((wPair 3).setFld (RFx_STATE_STATE .g) 7).modRf .g (fun x => { x with held := [{ started := true }] })).rf .g).held ≠ [] := by decide
theorem test_MirrorRoles_beats : ((wPair 3).advanceTo (wPair 3).mirror.beatAt).linkUp = true ∧
    ((wPair 3).advanceTo (wPair 3).mirror.beatAt).pairActive = true ∧
    (wPair 3 (fun m => { m with kickAt := some 200000000 })).fld MIRROR_CFG_KICKTO ≠ 0 ∧ State.reset.linkUp = false ∧
    (∀ role ∈ [0, 3], role < 4) ∧ (wPair 1).ownSet = (zeros 8, 0) ∧ ¬((1 : Nat) < (wPair 1).ownSet.2 ∨ ((wPair 1).ownSet.2 = 1 ∧ (wPair 1).serial < 0)) ∧
    ((wPair 1).mirror.peer = none ∧ (wPair 1).ownSet.1 ≠ leBytes 8 1 ∧ (wPair 1).ownSet.2 < 1) ∧
    ((wPair 3).mirror.copy = false ∧ bitAt 1 0 = true ∧ bitAt 0 0 = false) := by
  refine ⟨by decide, by decide, by decide, by decide, by decide, by decide, fun h => ?_, by decide, by decide⟩
  have h' : (1 : Nat) < 0 ∨ ((0 : Nat) = 1 ∧ (wPair 1).serial < 0) := h
  omega
/-- A part whose serial number is 0 has priority over the partner with serial number 1 and the same set. -/
theorem test_MirrorRoles_prior (h : Config.otpFab 16 = 0) (h' : Config.otpFab 17 = 0) :
    (wPair 1).ownSet.2 = 0 ∧ (wPair 1).serial < 1 := by
  refine ⟨by decide, ?_⟩
  simp [State.serial, State.otpBytes, State.otpWord, List.range, List.range.loop, h, h', leBytes, leNat]
def wMissed (role n pins : Nat) : State := wPair role (fun m => { m with heardAt := some 0, missed := n }) pins
theorem test_MirrorRoles_misses : (∀ pins ∈ [0x3d00000, 0x3900000], (wMissed 2 2 pins).mirror.heardAt = some 0 ∧ (wMissed 2 2 pins).flag MIRROR_CTRL_EN = true ∧
      (wMissed 2 2 pins).mirror.missed + 1 = 3 ∧ ((wMissed 2 2 pins).advanceTo (0 + us (1000 * 3 + 50))).fld MIRROR_STAT_ROLE = 2 ∧
      ((wMissed 2 2 pins).advanceTo (0 + us (1000 * 3 + 50))).pairHigh = bitAt pins 22) ∧ bitAt 0x3d00000 22 = true ∧ bitAt 0x3900000 22 = false ∧
    (wMissed 2 1 0x3d00000).mirror.missed + 1 ≠ 3 ∧ (wPair 2).mirror.heardAt = none := by decide
theorem test_MirrorRoles_moves : ((wPair 1).fld MIRROR_STAT_ROLE = 1 ∧ (wPair 1).pairHigh = true ∧ (wPair 1 id 0).pairHigh = false ∧
      (wPair 1).pager.store = []) ∧ ((wPair 2).fld MIRROR_STAT_ROLE = 2 ∧ (wPair 2 id 0).pairHigh = false ∧ (wPair 2).pairHigh = true ∧
      (wPair 2).mirror.actAt + us 1000 ≤ (wPair 2).clk.now ∧
      (wPair 2 (fun m => { m with actAt := 200000000 })).clk.now < (wPair 2 (fun m => { m with actAt := 200000000 })).mirror.actAt + us 1000 ∧
      (wPair 2).mirror.missed < 3 ∧ (wPair 3).fld MIRROR_STAT_ROLE ≠ 2 ∧ (wPair 3).fld MIRROR_STAT_ROLE ≠ 1) := by decide

def wSent : MirPkt := ⟨5, 1, .raw [], some 7⟩
def wUnacked : State := (wPair 3 (fun m => { m with txSeq := 1, unacked := [wSent] })).setFld MIRROR_FWPOST_BUSY 0x80
theorem test_MirrorPackets_link : (State.reset.flag MIRROR_CTRL_EN = false ∧ ((wPair 1).setFld MIRROR_STAT_LINK 1).flag MIRROR_CTRL_EN = true ∧
      ((wPair 1).setFld MIRROR_STAT_LINK 1).fld MIRROR_STAT_LINK = 1 ∧ (wPair 1).fld MIRROR_STAT_LINK ≠ 1 ∧ (wPair 1).linkUp = true ∧
      State.reset.linkUp = false) ∧ (reached 32 1 wSent.seq = true ∧ wSent.buf.isSome = true ∧ wUnacked.linkUp = true ∧ (wPair 1).mirror.unacked = []) ∧
    (∀ k ∈ wUnacked.mirror.unacked, ∀ b ∈ k.buf, b < 8) ∧ wUnacked.mirror.unacked = wSent :: [] := by decide
theorem test_MirrorPackets_kinds : MirPacket (.feed 1 true false []) 1 true ∧ MirPacket (.feedreq 1 true 0) 1 true ∧
    MirPacket (.storecopy 1 false none [] true) 1 false ∧ MirPacket (.update 1 true [] 0) 1 true ∧
    MirPacket (.firmwarePacket 1 true 0x80 (zeros 4095)) 1 true ∧ MirPacket (.divPacket 1 true 0 (zeros 32) (zeros 352)) 1 true ∧
    (2 ≠ seqAfter 0 ∧ seqAfter 0 = 1 ∧ seqAfter (2 ^ 32 - 1) = 1) := by
  refine ⟨.inl ⟨_, _, rfl⟩, .inr (.inl ⟨_, rfl⟩), .inr (.inr (.inl ⟨_, _, _, rfl⟩)), .inr (.inr (.inr (.inl ⟨_, _, rfl⟩))),
    .inr (.inr (.inr (.inr (.inl ⟨_, _, by decide, by decide, by simp [zeros], rfl⟩)))),
    .inr (.inr (.inr (.inr (.inr ⟨_, _, _, by decide, by simp [zeros], rfl⟩)))), by decide⟩

def wStandby (f : PagerState → PagerState := id) (m : MirrorState → MirrorState := id) : State :=
  let s := wPair 2 m
  { s with pager := f s.pager }
def wJr : JournalRec := { ctx := 5, miss := 0, flags := 0, resv := false, rxfc0 := 0, rxfc1 := 0, txv := 0 }
theorem test_MirrorPackets_feed : (wStandby.linkUp = true ∧ wStandby.pairStandby = true ∧ (wPair 3).pairStandby = false ∧ 0 = wStandby.pager.feedExp ∧
      wStandby.hot wJr.ctx = none ∧ ((wStandby (fun p => { p with hot := [(5, {})] })).hot wJr.ctx).isSome = true ∧
      ((wStandby (fun p => { p with store := [(5, ⟨{}, []⟩)] })).durable 5).isSome = true) ∧
    ((wStandby (fun p => { p with feedExp := 9 })).pager.feedExp = 9 ∧ (8 : Nat) ≠ 9 ∧ reached 32 9 8 = true ∧ reached 32 9 10 = false ∧
      wStandby.flag PAGER_STAT_FEEDGAP = false ∧ (wStandby.set1 PAGER_STAT_FEEDGAP).flag PAGER_STAT_FEEDGAP = true) ∧
    ((wPair 3).pairActive = true ∧ (wPair 2).pairActive = false ∧ wStandby.mirror.copy = false ∧
      (wStandby id (fun m => { m with copy := true, copyNew := [5] })).mirror.copy = true ∧
      5 ∈ (wStandby id (fun m => { m with copy := true, copyNew := [5] })).mirror.copyNew ∧
      6 ∉ (wStandby id (fun m => { m with copy := true, copyNew := [5] })).mirror.copyNew) := by decide
theorem test_MirrorPackets_bodies : ((wLock { setid := zeros 8, t := 0, own := false }).upd.lock.map (fun l => (l.setid, l.own))) = some (zeros 8, false) ∧
    ((wPair 3).mirror.rxFree = [] ∧ (wPair 3 (fun m => { m with rxFree := [15] })).mirror.rxFree = 15 :: []) ∧
    ((zeros 32).length = 32 ∧ (zeros 352).length ≤ 352 ∧ (zeros 4095).length ≤ 4095) ∧
    ((wPair 3).pairActive = true ∧ (wPair 3).facet.free ≠ [] ∧ ({ wPair 3 with facet := { free := [] } } : State).facet.free = []) := by decide +kernel
def wPost (busy typ : Nat) : State := ((wPair 3).setFld MIRROR_FWPOST_BUSY busy).memPut ((wPair 3).fld MIRROR_FWBUF_BASE * 65536 + 4096 * 7) [BitVec.ofNat 8 typ]
theorem test_MirrorPackets_fwpost : (bitsOf (0x00100007 : Word).toNat 2 0 = 7 ∧ bitsOf (0x00100007 : Word).toNat 20 8 = 4096 ∧
      bitsOf (0x00100107 : Word).toNat 20 8 = 4097) ∧
    (bitAt ((wPost 0 0xff).fld MIRROR_FWPOST_BUSY) 7 = false ∧
      ((wPost 0 0xff).memRd ((wPost 0 0xff).fld MIRROR_FWBUF_BASE * 65536 + 4096 * 7)).toNat = 0xff ∧ (wPost 0 0xff).linkUp = true ∧
      ((wPost 0 0xff).setFld MIRROR_STAT_LINK 1).linkUp = false ∧ bitAt ((wPost 0x80 5).fld MIRROR_FWPOST_BUSY) 7 = true) ∧
    ((wPair 3).mirror.rxq = [] ∧ (wPair 3 (fun m => { m with rxq := [(15, 4096)] })).mirror.rxq = (15, 4096) :: []) ∧
    (bitsOf (0xff : Word).toNat 3 0 = 15 ∧ 15 ∉ (wPair 3).mirror.rxFw ∧ 15 ∈ (wPair 3 (fun m => { m with rxFw := [15] })).mirror.rxFw) := by decide

/-! ### Host ports -/

/-- The port runs under generation `g`. -/
def wHif (g : Nat) (f : HifState → HifState := id) : State :=
  let s := (State.reset.set1 HIF_CTRL_EN).setFld SYS_COMPAT_GEN g
  { s with hif := f s.hif }
def wSlotHif (x : HifSlot) : State := wHif 1 (fun h => { h with slots := [(7, x)] })
def cmdFrame (tag op : Nat) : List Byte := withCrc (leBytes 1 tag ++ leBytes 1 op ++ leBytes 2 0)
def cmdGood (f : List Byte) : Bool :=
  octLe f 0 1 != 0 && decide (octLe f 2 2 ≤ 4088) && f.length == 8 + octLe f 2 2 && crcHolds f
theorem test_HostQueue_cmd : ((wHif 1).hifOn 1 = true ∧ cmdGood (cmdFrame 1 0x80) = true ∧ cmdGood (cmdFrame 0 0x80) = false ∧
      cmdGood ((cmdFrame 1 0x80).set 4 0) = false) ∧
    (∀ j, j < 8 → ((wHif 1 (fun h => { h with slots := (List.range 8).map (fun j => (j, ⟨j + 1, 0x80, 0, none, false, false⟩)) })).hifSlot j).isSome = true) ∧
    ((wHif 1 (fun h => { h with slots := (List.range 7).map (fun j => (j, ⟨j + 1, 0x80, 0, none, false, false⟩)) })).hifSlot 7 = none ∧
      ∀ k, k < 7 → ((wHif 1 (fun h => { h with slots := (List.range 7).map (fun j => (j, ⟨j + 1, 0x80, 0, none, false, false⟩)) })).hifSlot k).isSome = true) ∧
    ((wHif 1).opRsvd 0x15 = true ∧ (wHif 1).opRsvd 0x80 = false ∧ (∃ e ∈ (wSlotHif ⟨1, 0x80, 0, none, false, false⟩).hif.slots, e.2.tag = 1)) := by decide
theorem test_HostQueue_results : (∀ hw ∈ [none, some Code.HIF_TAGDUP], (wSlotHif ⟨9, 0x80, 0, hw, true, false⟩).hif.slots = [] ++ (7, ⟨9, 0x80, 0, hw, true, false⟩) :: []) ∧
    (∀ e ∈ (wSlotHif ⟨9, 0x80, 0, none, false, false⟩).hif.slots, ¬(e.2.tag = 9 ∧ e.2.done = true)) ∧
    (∃ e ∈ (wSlotHif ⟨9, 0x80, 0, none, false, false⟩).hif.slots, e.2.tag = 9) ∧
    (∀ e ∈ (wSlotHif ⟨9, 0x80, 0, none, false, false⟩).hif.slots, e.2.tag ≠ 8) ∧
    ((wSlotHif ⟨9, 0x80, 0, none, false, false⟩).hifSlot 7 = some ⟨9, 0x80, 0, none, false, false⟩ ∧
      (wSlotHif ⟨9, 0x80, 0, none, true, false⟩).hifSlot 7 = some ⟨9, 0x80, 0, none, true, false⟩) ∧
    (255 < 256 ∧ ∀ x ∈ [1, 2, 3, 4, 5, 6], 255 ≠ x ∧ 255 ≠ x + 64) := by decide
theorem test_HostQueue_events : ((wHif 1).hif.events = [] ∧ (wHif 1 (fun h => { h with events := [⟨7, 63, true, false⟩] })).hif.events = ⟨7, 63, true, false⟩ :: []) ∧
    (∃ e ∈ (wHif 1 (fun h => { h with events := [⟨7, 63, true, false⟩] })).hif.events, e.seq = 7) ∧
    (∀ e ∈ (wHif 1 (fun h => { h with events := [⟨7, 63, true, false⟩] })).hif.events, e.seq ≠ 8) ∧
    ((wHif 1).fld SYS_COMPAT_GEN = 1 ∧ (wHif 1).hif.cmdq = [] ∧ (wHif 1 (fun h => { h with cmdq := [7] })).hif.cmdq = 7 :: []) ∧
    ((wHif 1).hif.events.length < 64 ∧ 64 ≤ (wHif 1 (fun h => { h with events := List.replicate 64 ⟨7, 63, true, false⟩ })).hif.events.length) := by decide

/-- Slot 7 holds the uncompleted command `op` with this payload. -/
def wAsk (op : Nat) (b : List Byte) (f : UpdState → UpdState := id) : State :=
  let s := wSlotHif ⟨9, op, b.length, none, false, false⟩
  let s := (s.memPut (s.hifSlotAt 7 + 4) b).setFld PWR_VINMON_VIN 550
  { s with icu := { s.icu with pins := s.icu.pins ||| 2 ^ 20 }, upd := f s.upd }
def okSet : List Byte := leBytes 2 600 ++ leBytes 1 1 ++ leBytes 1 0 ++ leBytes 2 3600 ++ leBytes 2 1
theorem wAsk_asks (op : Nat) (b : List Byte) (f : UpdState → UpdState) (h : (wAsk op b f).memBytes ((wAsk op b f).hifSlotAt 7 + 4) b.length = b)
    (h' : (wAsk op b f).hifSlot 7 = some ⟨9, op, b.length, none, false, false⟩) : HifAsks (wAsk op b f) 7 op b :=
  ⟨_, h', rfl, rfl, h.symm⟩
theorem test_HostOperations_asks : HifAsks (wAsk 0x10 okSet) 7 0x10 okSet ∧ HifAsks (wAsk 0x10 []) 7 0x10 [] ∧ HifAsks (wAsk 0x11 []) 7 0x11 [] ∧
    HifAsks (wAsk 0x14 []) 7 0x14 [] ∧ HifAsks (wAsk 0x13 []) 7 0x13 [] ∧ HifAsks (wAsk 0x12 (zeros 260)) 7 0x12 (zeros 260) ∧
    HifAsks (wAsk 0x12 (zeros 4)) 7 0x12 (zeros 4) ∧ HifAsks (wAsk 0xff []) 7 0xff [] := by
  refine ⟨?_, ?_, ?_, ?_, ?_, ?_, ?_, ?_⟩ <;> exact wAsk_asks _ _ _ (by decide +kernel) (by decide +kernel)
theorem test_HostOperations_settings : (okSet.length = 8 ∧ 90 ≤ octLe okSet 0 2 ∧ octLe okSet 0 2 ≤ 600 ∧ octLe okSet 2 1 ≤ 1 ∧ octLe okSet 3 1 = 0 ∧
      octLe okSet 4 2 ≤ 3600 ∧ 1 ≤ octLe okSet 6 2) ∧ ([] : List Byte).length ≠ 8 ∧
    ((wAsk 0x14 []).upd.stage = none ∧ (wAsk 0x14 [] (fun u => { u with stage := some wStg })).upd.stage = some wStg) ∧
    ((wAsk 0x13 [] (fun u => { u with stage := some wStg })).updRefused = false ∧
      (wAsk 0x13 [] (fun u => { u with stage := some wStg })).upd.stage.any Stage.complete = true ∧ (wAsk 0x13 []).upd.stage.any Stage.complete = false ∧
      Code.UPD_HASH ≠ Code.OK ∧ (wAsk 0x13 []).pwr.nrstLow = false) ∧ (0x80 ≤ 0xff ∧ 255 < 256 ∧ ([] : List Byte).length ≤ 4088) := by decide
/-- Octets from the stream's start, from within its head, after a verified head, and to a block's end; a repeat, and a gap. -/
def ask12 (ofs n : Nat) : List Byte := leBytes 4 ofs ++ zeros n
theorem test_HostOperations_block : ((ask12 0 1).length = 5 ∧ (ask12 0 256).length = 260 ∧ octLe (ask12 5 1) 0 4 = 5 ∧
      (wAsk 0x12 (ask12 0 1)).flag UPD_BOOT_RECOV = false ∧
      (wAsk 0x12 (ask12 0 1) (fun u => { u with last := some (0, zeros 1) })).upd.last = some (0, (ask12 0 1).drop 4)) ∧
    ((wAsk 0x12 (ask12 5 1) (fun u => { u with inHead := zeros 4 })).upd.inHead ≠ [] ∧ (5 : Nat) ≠ (zeros 4).length ∧
      (wAsk 0x12 (ask12 5 1)).upd.last ≠ some (5, (ask12 5 1).drop 4) ∧ (wAsk 0x12 (ask12 5 1)).upd.stage = none) ∧
    (octLe (ask12 4 7) 0 4 = (zeros 4).length ∧ (zeros 4).length + ((ask12 4 7).drop 4).length < 12) ∧
    (∀ g ∈ [({ wStg with have_ := 4, bytes := zeros 8192 } : Stage)], octLe (ask12 8192 256) 0 4 = g.bytes.length ∧
      8192 + 256 ≤ 2048 * (g.nh + g.nlist + g.ndata) ∧ 8192 + 256 < 2048 * (g.have_ + 1)) ∧
    (∀ g ∈ [({ wStg with have_ := 4, bytes := zeros 9984 } : Stage)], octLe (ask12 9984 256) 0 4 = g.bytes.length ∧
      g.have_ < g.nh + g.nlist + g.ndata ∧ 2048 * g.have_ ≤ 9984 ∧ 9984 + 256 = 2048 * (g.have_ + 1)) := by decide +kernel
theorem test_HostOperations_window : ((wHif 0).hifOn 0 = true ∧ (wHif 0).flag UPD_BOOT_RECOV = false ∧ 63 < 64 ∧
      61 ∉ [0x00, 0x01, 0x10, 0x11, 0x12, 0x20, 0x21, 0x22, 0x23, 0x24, 0x3e, 0x3f] ∧ (wHif 0).hif.g1tx.length < 512 ∧
      512 ≤ (wHif 0 (fun h => { h with g1tx := List.replicate 512 0 })).hif.g1tx.length ∧ 65535 < 65536) ∧
    (bitsOf 0x8040 14 6 ≠ 0 ∧ bitAt 0x8040 15 = true ∧ 0x8040 < 65536) ∧
    ((wHif 0).hif.g1len = 0 ∧ (wHif 0 (fun h => { h with g1len := 256, g1tx := List.replicate 128 0 })).hif.g1len = 256 ∧
      (256 + 1) / 2 ≤ (wHif 0 (fun h => { h with g1len := 256, g1tx := List.replicate 128 0 })).hif.g1tx.length ∧ (wHif 0).updRefused = true) ∧
    (((wHif 0).set1 SYS_COMPAT_PENDING).clocked = true ∧ ((wHif 0).set1 SYS_COMPAT_PENDING).flag SYS_COMPAT_PENDING = true ∧
      bitAt ((wHif 0).set1 SYS_COMPAT_PENDING).icu.pins 23 = true ∧ (wHif 0).hif.g1rx = [] ∧ (wHif 0).hif.g1tx = [] ∧ (wHif 1).hif.slots = []) := by decide
theorem test_HostOperations_activate : (wAsk 0x13 [] (fun u => { u with stage := some wStg })).fld SYS_COMPAT_GEN = 1 ∧
    ((wUpd (some wStg)).updRefused = false ∧ (wUpd (some wStg)).upd.stage.any Stage.complete = true) := by decide

end Sys2Proof.Tests
end

section
/-! PROOFS. Register writes (R5–R12): the error bookkeeping of a block, plain writes bit by bit, and the registers whose writes
trigger nothing. -/

namespace Sys2Proof.Machine
open Sys2Proof

/-! ### What changes the listed registers and nothing else -/

theorem OnlyRegs.refl (s : State) (l : List Nat) : OnlyRegs s s l :=
  ⟨fun _ _ => rfl, fun _ => rfl, rfl, rfl, rfl, rfl⟩

theorem OnlyRegs.trans {s t u : State} {l : List Nat} (h : OnlyRegs s t l) (h' : OnlyRegs t u l) : OnlyRegs s u l := by
  obtain ⟨hr, hm, h0, h1, h2, h3⟩ := h
  obtain ⟨hr', hm', h0', h1', h2', h3'⟩ := h'
  exact ⟨fun a ha => (hr' a ha).trans (hr a ha), fun a => (hm' a).trans (hm a), h0'.trans h0, h1'.trans h1, h2'.trans h2,
    h3'.trans h3⟩

theorem State.onlyRegs_wr (s : State) (a : Nat) (v : Word) : OnlyRegs s (s.wr a v) [a] :=
  ⟨fun _ hb => s.rd_wr_other (fun e => hb (by simp [e])) v, fun _ => rfl, rfl, rfl, rfl, rfl⟩

theorem State.onlyRegs_setFld (s : State) (f : Fld) (v : Nat) : OnlyRegs s (s.setFld f v) [f.addr] := s.onlyRegs_wr _ _

/-! ### Fields under the shared updates -/

section
variable (s : State) {f g : Fld} (h : f.ok = true)
include h

theorem State.fld_clr_same : (s.clr f).fld f = 0 := by simp [State.clr, s.fld_setFld_same f 0 h]

theorem State.fld_set1_same : (s.set1 f).fld f = 1 := by
  have hlt : 1 < 2 ^ (f.hi + 1 - f.lo) := by
    simp only [Fld.ok, Bool.and_eq_true, decide_eq_true_eq] at h
    exact Nat.one_lt_two_pow (by omega)
  rw [State.set1, s.fld_setFld_same f 1 h, Nat.mod_eq_of_lt hlt]

theorem State.fld_inc_same : (s.inc f).fld f = min (s.fld f + 1) (ones (f.hi + 1 - f.lo)) := by
  have hlt : ones (f.hi + 1 - f.lo) < 2 ^ (f.hi + 1 - f.lo) := Nat.sub_lt (Nat.two_pow_pos _) Nat.one_pos
  rw [State.inc, State.incBy, s.fld_setFld_same f _ h, Nat.mod_eq_of_lt (Nat.lt_of_le_of_lt (Nat.min_le_right _ _) hlt)]

theorem State.fld_clr_apart (ha : f.apart g = true) : (s.clr f).fld g = s.fld g := s.fld_setFld_apart f g _ h ha
theorem State.fld_set1_apart (ha : f.apart g = true) : (s.set1 f).fld g = s.fld g := s.fld_setFld_apart f g _ h ha
theorem State.fld_inc_apart (ha : f.apart g = true) : (s.inc f).fld g = s.fld g := s.fld_setFld_apart f g _ h ha

end

/-! ### BLOCK_CFGSTAT (R8, R9, R10) -/

section
variable (s : State) (b : Nat)

theorem rsvd_ok : (CFGSTAT_RSVD_WR b).ok = true := rfl
theorem unmap_ok : (CFGSTAT_UNMAP_WR b).ok = true := rfl
theorem cfgErr_ok : (CFGSTAT_CFG_ERR b).ok = true := rfl

theorem rsvd_apart_unmap : (CFGSTAT_RSVD_WR b).apart (CFGSTAT_UNMAP_WR b) = true := by simp [Fld.apart]
theorem rsvd_apart_cfgErr : (CFGSTAT_RSVD_WR b).apart (CFGSTAT_CFG_ERR b) = true := by simp [Fld.apart]
theorem unmap_apart_rsvd : (CFGSTAT_UNMAP_WR b).apart (CFGSTAT_RSVD_WR b) = true := by simp [Fld.apart]
theorem unmap_apart_cfgErr : (CFGSTAT_UNMAP_WR b).apart (CFGSTAT_CFG_ERR b) = true := by simp [Fld.apart]
theorem cfgErr_apart_rsvd : (CFGSTAT_CFG_ERR b).apart (CFGSTAT_RSVD_WR b) = true := by simp [Fld.apart]
theorem cfgErr_apart_unmap : (CFGSTAT_CFG_ERR b).apart (CFGSTAT_UNMAP_WR b) = true := by simp [Fld.apart]

/-- A write discarded under R8 is recorded. -/
theorem State.recorded_discard : Recorded s (s.discard b) b false := by
  have h1 := s.fld_set1_same (rsvd_ok b)
  have h2 := s.fld_set1_apart (rsvd_ok b) (rsvd_apart_unmap b)
  have h3 := s.fld_set1_apart (rsvd_ok b) (rsvd_apart_cfgErr b)
  unfold State.discard
  refine ⟨?_, ?_, ?_, (s.onlyRegs_setFld (CFGSTAT_RSVD_WR b) 1).trans (State.onlyRegs_setFld _ (CFGSTAT_CFG_ERR b) _)⟩
  · simp [State.flag, State.fld_inc_apart _ (cfgErr_ok b) (cfgErr_apart_rsvd b), h1]
  · simp [State.flag, State.fld_inc_apart _ (cfgErr_ok b) (cfgErr_apart_unmap b), h2]
  · rw [State.fld_inc_same _ (cfgErr_ok b), h3]; rfl

/-- A write that meets no register is recorded under R10. -/
theorem State.recorded_unmapped : Recorded s (s.unmapped b) b true := by
  have h1 := s.fld_set1_same (unmap_ok b)
  have h2 := s.fld_set1_apart (unmap_ok b) (unmap_apart_rsvd b)
  have h3 := s.fld_set1_apart (unmap_ok b) (unmap_apart_cfgErr b)
  unfold State.unmapped
  refine ⟨?_, ?_, ?_, (s.onlyRegs_setFld (CFGSTAT_UNMAP_WR b) 1).trans (State.onlyRegs_setFld _ (CFGSTAT_CFG_ERR b) _)⟩
  · simp [State.flag, State.fld_inc_apart _ (cfgErr_ok b) (cfgErr_apart_rsvd b), h2]
  · simp [State.flag, State.fld_inc_apart _ (cfgErr_ok b) (cfgErr_apart_unmap b), h1]
  · rw [State.fld_inc_same _ (cfgErr_ok b), h3]; rfl

/-- `t` is `s` with RSVD_WR and CFG_ERR cleared where `rsvd` holds, and UNMAP_WR where `unmap` holds (R9). -/
def CfgstatCleared (s t : State) (b : Nat) (rsvd unmap : Bool) : Prop :=
  t.flag (CFGSTAT_RSVD_WR b) = (s.flag (CFGSTAT_RSVD_WR b) && !rsvd) ∧
    t.flag (CFGSTAT_UNMAP_WR b) = (s.flag (CFGSTAT_UNMAP_WR b) && !unmap) ∧
    t.fld (CFGSTAT_CFG_ERR b) = (if rsvd then 0 else s.fld (CFGSTAT_CFG_ERR b)) ∧ OnlyRegs s t [CFGSTAT b]

theorem CfgstatCleared.refl : CfgstatCleared s s b false false := by simp [CfgstatCleared, OnlyRegs.refl]

theorem State.cfgstatCleared_rsvd :
    CfgstatCleared s ((s.clr (CFGSTAT_RSVD_WR b)).clr (CFGSTAT_CFG_ERR b)) b true false := by
  refine ⟨?_, ?_, ?_, (s.onlyRegs_setFld (CFGSTAT_RSVD_WR b) 0).trans (State.onlyRegs_setFld _ (CFGSTAT_CFG_ERR b) 0)⟩
  · simp [State.flag, State.fld_clr_apart _ (cfgErr_ok b) (cfgErr_apart_rsvd b), s.fld_clr_same (rsvd_ok b)]
  · simp [State.flag, State.fld_clr_apart _ (cfgErr_ok b) (cfgErr_apart_unmap b),
      s.fld_clr_apart (rsvd_ok b) (rsvd_apart_unmap b)]
  · exact State.fld_clr_same _ (cfgErr_ok b)

theorem CfgstatCleared.clr_unmap {s t : State} {b : Nat} {rsvd : Bool} (h : CfgstatCleared s t b rsvd false) :
    CfgstatCleared s (t.clr (CFGSTAT_UNMAP_WR b)) b rsvd true := by
  obtain ⟨hrsvd, -, herr, honly⟩ := h
  refine ⟨?_, ?_, ?_, honly.trans (t.onlyRegs_setFld (CFGSTAT_UNMAP_WR b) 0)⟩
  · rw [← hrsvd, State.flag, State.flag, t.fld_clr_apart (unmap_ok b) (unmap_apart_rsvd b)]
  · simp [State.flag, t.fld_clr_same (unmap_ok b)]
  · rw [t.fld_clr_apart (unmap_ok b) (unmap_apart_cfgErr b), herr]

/-- R9: bit 0 of a W1C write clears RSVD_WR and CFG_ERR, bit 1 clears UNMAP_WR. -/
theorem State.cfgstatCleared_cfgstatW1c (v : Nat) : CfgstatCleared s (s.cfgstatW1c b v) b (bitAt v 0) (bitAt v 1) := by
  have h0 : CfgstatCleared s (if bitAt v 0 then (s.clr (CFGSTAT_RSVD_WR b)).clr (CFGSTAT_CFG_ERR b) else s) b
      (bitAt v 0) false := by
    cases bitAt v 0 with
    | false => exact .refl s b
    | true => exact s.cfgstatCleared_rsvd b
  unfold State.cfgstatW1c
  cases bitAt v 1 with
  | false => exact h0
  | true => exact h0.clr_unmap

end

/-! ### A plain write bit by bit (R5, R7) -/

theorem testBit_sub_and (w c i : Nat) : (w - (w &&& c)).testBit i = (w.testBit i && !c.testBit i) := by
  have hle : w &&& c ≤ w := Nat.and_le_left
  induction i generalizing w c with
  | zero =>
    have hmod := @Nat.and_mod_two_eq_one w c
    rw [Bool.eq_iff_iff]
    simp only [Nat.testBit_zero, Bool.and_eq_true, Bool.not_eq_true', decide_eq_true_eq, decide_eq_false_iff_not]
    omega
  | succ i ih =>
    have hhalf : (w - (w &&& c)) / 2 = w / 2 - (w / 2 &&& c / 2) := by
      have hdiv := @Nat.and_div_two w c
      have hmod := @Nat.and_mod_two_eq_one w c
      omega
    rw [Nat.testBit_succ, hhalf, ih _ _ Nat.and_le_left, Nat.testBit_succ, Nat.testBit_succ]

theorem testBit_ones_sub (m i : Nat) : (ones 32 - m % 2 ^ 32).testBit i = (decide (i < 32) && !m.testBit i) := by
  have h : ones 32 - m % 2 ^ 32 = 2 ^ 32 - (m % 2 ^ 32 + 1) := by rw [Nat.add_comm, Nat.sub_add_eq]; rfl
  rw [h, Nat.testBit_two_pow_sub_succ (Nat.mod_lt _ (Nat.two_pow_pos _)), Nat.testBit_mod_two_pow]
  cases hi : decide (i < 32) <;> rfl

/-- No bit of the row has two of the types RW, W1C and W1S. -/
def RegRow.oneType (r : RegRow) : Bool := r.rw &&& r.w1c == 0 && (r.rw ||| r.w1c) &&& r.w1s == 0

theorem RegRow.bits_of_oneType {r : RegRow} (h : r.oneType = true) (i : Nat) : (r.rw.testBit i && r.w1c.testBit i) = false ∧
    ((r.rw.testBit i || r.w1c.testBit i) && r.w1s.testBit i) = false := by
  simp only [RegRow.oneType, Bool.and_eq_true, beq_iff_eq] at h
  obtain ⟨hrw, hw1s⟩ := h
  rw [← Nat.testBit_or, ← Nat.testBit_and, ← Nat.testBit_and, hrw, hw1s]
  exact ⟨Nat.zero_testBit i, Nat.zero_testBit i⟩

theorem rowsOf_oneType : ∀ k < 23, ∀ r ∈ rowsOf k, r.oneType = true := by decide

theorem findRow_oneType {a : Nat} {r : RegRow} (h : findRow a = some r) : r.oneType = true := by
  unfold findRow at h
  split at h
  · cases h
  simp only [rowAt] at h
  split at h
  · cases h
  split at h
  · cases h
  next hk =>
    split at h
    · cases h; rfl
    · exact rowsOf_oneType _ (Nat.lt_of_not_le hk) r (List.mem_of_find?_eq_some h)

section
variable (s : State) {a : Nat} {r : RegRow} (v : Word) (h : findRow a = some r)
include h

theorem State.onlyRegs_plainWrite : OnlyRegs s (s.plainWrite a v) [a] := by
  simp only [State.plainWrite, h]
  exact s.onlyRegs_wr a _

theorem State.getLsbD_rd_plainWrite (i : Nat) : ((s.plainWrite a v).rd a).getLsbD i =
    (((s.rd a).getLsbD i && !(r.rw.testBit i) || v.getLsbD i && r.rw.testBit i || v.getLsbD i && r.w1s.testBit i) &&
      !(v.getLsbD i && r.w1c.testBit i)) := by
  simp only [State.plainWrite, h, State.rd_wr_same, BitVec.getLsbD_ofNat, testBit_sub_and, Nat.testBit_or, Nat.testBit_and,
    testBit_ones_sub, BitVec.testBit_toNat]
  by_cases hi : i < 32
  · simp [hi]
  · simp [hi, BitVec.getLsbD_of_ge _ _ (Nat.le_of_not_lt hi)]

/-- R5: a 1 clears a W1C bit, and a 0 leaves it. -/
theorem State.getLsbD_plainWrite_w1c {i : Nat} (hi : r.w1c.testBit i = true) :
    ((s.plainWrite a v).rd a).getLsbD i = ((s.rd a).getLsbD i && !(v.getLsbD i)) := by
  obtain ⟨hrw, hw1s⟩ := RegRow.bits_of_oneType (findRow_oneType h) i
  simp only [hi, Bool.and_true, Bool.or_true, Bool.true_and] at hrw hw1s
  simp [s.getLsbD_rd_plainWrite v h, hi, hrw, hw1s]

/-- R5: a RW bit takes what is written. -/
theorem State.getLsbD_plainWrite_rw {i : Nat} (hi : r.rw.testBit i = true) :
    ((s.plainWrite a v).rd a).getLsbD i = v.getLsbD i := by
  obtain ⟨hw1c, hw1s⟩ := RegRow.bits_of_oneType (findRow_oneType h) i
  simp only [hi, Bool.true_or, Bool.true_and] at hw1c hw1s
  simp [s.getLsbD_rd_plainWrite v h, hi, hw1c, hw1s]

end

/-! ### Writes on the bus (R6, R8, R10) -/

theorem exec_registerWrite (r : Requester) (a : Nat) (w : Width) (v : Word) (s : State) :
    exec (.registerWrite r a w v) s = execRegisterWrite r a w v s := rfl

theorem exec_unmappedWrite (a : Nat) (s : State) : exec (.unmappedWrite a) s = execUnmappedWrite a s := rfl

theorem exec_cfgstatClear (a : Nat) (v : Word) (rsvd unmap : Bool) (s : State) :
    exec (.cfgstatClear a v rsvd unmap) s = execCfgstatClear a v rsvd unmap s := rfl

theorem exec_unmappedWrite_gap (s : State) {a : Nat} (hw : inWindows a = true) (h : findRow (a / 4 * 4) = none) :
    exec (.unmappedWrite a) s = .next (s.unmapped (blockBase a)) := by
  simp [exec_unmappedWrite, execUnmappedWrite, hw, h]

section
variable (s : State) (r : Requester) {a : Nat} {row : RegRow} (v : Word) (hw : inWindows a = true)
  (h : findRow (a / 4 * 4) = some row)
include hw h

theorem exec_registerWrite_narrow {w : Width} (hn : w ≠ .word) :
    exec (.registerWrite r a w v) s = .next (s.discard (blockBase a)) := by
  cases w with
  | word => exact absurd rfl hn
  | byte | half => simp [exec_registerWrite, execRegisterWrite, State.busWrite, hw, h]

theorem exec_registerWrite_word (ha : a % 4 = 0) : exec (.registerWrite r a .word v) s = .next (s.regWrite r a v) := by
  have he : a / 4 * 4 = a := Nat.div_mul_cancel (Nat.dvd_of_mod_eq_zero ha)
  rw [he] at h
  simp [exec_registerWrite, execRegisterWrite, State.busWrite, hw, h, he]

theorem exec_registerWrite_bad (ha : a % 4 = 0) (hc : a % 0x10000 ≠ 0xffc) (hb : s.badWrite r a v.toNat = true) :
    exec (.registerWrite r a .word v) s = .next (s.discard (blockBase a)) := by
  rw [exec_registerWrite_word s r v hw h ha, State.regWrite, if_neg hc, if_pos hb]

end

/-! ### The interrupt registers and their enables -/

theorem irqs_aligned : ∀ a ∈ irqRegs ++ irqEnables, a % 4 = 0 := by decide

/-- None is a register of KC's, has reserved encodings or triggers anything: at each of these addresses every test on the way of a
write fails, whatever the state, requester and value. -/
theorem State.regWrite_irqs (s : State) (r : Requester) (v : Word) :
    ∀ a ∈ irqRegs ++ irqEnables, s.regWrite r a v = s.plainWrite a v := by
  intro a ha
  simp only [irqRegs, irqEnables, List.cons_append, List.nil_append] at ha
  repeat
    rcases List.mem_cons.1 ha with rfl | ha
    · rfl
  exact absurd ha List.not_mem_nil

theorem exec_registerWrite_irqs (s : State) (r : Requester) {a : Nat} {row : RegRow} (v : Word) (hw : inWindows a = true)
    (h : findRow (a / 4 * 4) = some row) (ha : a ∈ irqRegs ++ irqEnables) :
    findRow a = some row ∧ exec (.registerWrite r a .word v) s = .next (s.plainWrite a v) := by
  have h4 := irqs_aligned a ha
  rw [exec_registerWrite_word s r v hw h h4, s.regWrite_irqs r v a ha]
  rw [Nat.div_mul_cancel (Nat.dvd_of_mod_eq_zero h4)] at h
  exact ⟨h, rfl⟩

/-! ### BLOCK_CFGSTAT cleared as discards of the same cycle are recorded (R12) -/

/-- What a discard leaves in BLOCK_CFGSTAT where it happens only if `on` holds. -/
theorem Recorded.ite {s t : State} {b : Nat} {gap : Bool} (h : Recorded s t b gap) (on : Bool) :
    (if on then t else s).flag (CFGSTAT_RSVD_WR b) = (s.flag (CFGSTAT_RSVD_WR b) || (on && !gap)) ∧
      (if on then t else s).flag (CFGSTAT_UNMAP_WR b) = (s.flag (CFGSTAT_UNMAP_WR b) || (on && gap)) ∧
      (if on then t else s).fld (CFGSTAT_CFG_ERR b) = min (s.fld (CFGSTAT_CFG_ERR b) + (if on then 1 else 0)) 0xffff ∧
      OnlyRegs s (if on then t else s) [CFGSTAT b] := by
  cases on with
  | true => exact h
  | false =>
    have hlt : s.fld (CFGSTAT_CFG_ERR b) < 0xffff + 1 := s.fld_lt _
    exact ⟨by simp, by simp, by simp; omega, .refl s _⟩

theorem gives_cfgstatClear (s : State) {a : Nat} (v : Word) (rsvd unmap : Bool) (hw : inWindows a = true) :
    Gives (exec (.cfgstatClear a v rsvd unmap) s) (fun t =>
      t.flag (CFGSTAT_RSVD_WR (blockBase a)) = (rsvd || (s.flag (CFGSTAT_RSVD_WR (blockBase a)) && !(v.getLsbD 0))) ∧
      t.flag (CFGSTAT_UNMAP_WR (blockBase a)) = (unmap || (s.flag (CFGSTAT_UNMAP_WR (blockBase a)) && !(v.getLsbD 1))) ∧
      t.fld (CFGSTAT_CFG_ERR (blockBase a)) = min ((if v.getLsbD 0 then 0 else s.fld (CFGSTAT_CFG_ERR (blockBase a))) +
        (if rsvd then 1 else 0) + (if unmap then 1 else 0)) 0xffff ∧ OnlyRegs s t [CFGSTAT (blockBase a)]) := by
  have hcleared : CfgstatCleared s (s.cfgstatW1c (blockBase a) v.toNat) (blockBase a) (v.getLsbD 0) (v.getLsbD 1) :=
    s.cfgstatCleared_cfgstatW1c (blockBase a) v.toNat
  generalize hc : s.cfgstatW1c (blockBase a) v.toNat = c at hcleared
  obtain ⟨hr, hu, he, ho⟩ := hcleared
  obtain ⟨hr', hu', he', ho'⟩ := (c.recorded_discard (blockBase a)).ite rsvd
  generalize hd : (if rsvd then c.discard (blockBase a) else c) = d at hr' hu' he' ho'
  obtain ⟨hr'', hu'', he'', ho''⟩ := (d.recorded_unmapped (blockBase a)).ite unmap
  refine ⟨_, ?_, ?_, ?_, ?_, (ho.trans ho').trans ho''⟩
  · simp [exec_cfgstatClear, execCfgstatClear, hw, hc, hd]
  · simp [hr'', hr', hr, Bool.or_comm]
  · simp [hu'', hu', hu, Bool.or_comm]
  · rw [he'', he', he]
    omega

/-- Settles O27: a discard is recorded (`State.recorded_discard`, `State.recorded_unmapped`), the interrupt registers and their
enables take plain writes (`State.regWrite_irqs`), whose bits follow their field types (R5). -/
theorem registerWrites : Obligations.RegisterWrites := by
  intro s a v hw b
  refine ⟨fun r row hrow => ⟨fun w hn => ?_, fun ha hc hb => ?_, fun hi => ?_, fun hi => ?_⟩, fun hnone => ?_,
    fun rsvd unmap => gives_cfgstatClear s v rsvd unmap hw⟩
  · exact ⟨_, exec_registerWrite_narrow s r v hw hrow hn, s.recorded_discard b⟩
  · exact ⟨_, exec_registerWrite_bad s r v hw hrow ha hc hb, s.recorded_discard b⟩
  · obtain ⟨h, he⟩ := exec_registerWrite_irqs s r v hw hrow (List.mem_append_left _ hi)
    exact ⟨_, he, s.onlyRegs_plainWrite v h, fun i => s.getLsbD_plainWrite_w1c v h⟩
  · obtain ⟨h, he⟩ := exec_registerWrite_irqs s r v hw hrow (List.mem_append_right _ hi)
    exact ⟨_, he, s.onlyRegs_plainWrite v h, fun i _ => s.getLsbD_plainWrite_rw v h⟩
  · exact ⟨_, exec_unmappedWrite_gap s hw hnone, s.recorded_unmapped b⟩

end Sys2Proof.Machine
end

section
/-! PROOFS. Captures, the PPS capture and the SLOWCNT compares (chapter 12), and what the passage of time leaves alone. -/

namespace Sys2Proof.Machine
open Sys2Proof

/-! ### Frames of a chain of updates -/

section
variable {s t : State} {l : List Nat} (h : OnlyRegs s t l)
include h

theorem OnlyRegs.mono {l' : List Nat} (hl : l ⊆ l') : OnlyRegs s t l' := by
  obtain ⟨hr, hm, hc⟩ := h
  exact ⟨fun a ha => hr a (fun hi => ha (hl hi)), hm, hc⟩

theorem OnlyRegs.wr {a : Nat} (v : Word) (ha : a ∈ l) : OnlyRegs s (t.wr a v) l :=
  h.trans ((t.onlyRegs_wr a v).mono (by simpa using ha))

theorem OnlyRegs.setFld {f : Fld} (v : Nat) (hf : f.addr ∈ l) : OnlyRegs s (t.setFld f v) l := h.wr _ hf
theorem OnlyRegs.set1 {f : Fld} (hf : f.addr ∈ l) : OnlyRegs s (t.set1 f) l := h.setFld 1 hf
theorem OnlyRegs.clr {f : Fld} (hf : f.addr ∈ l) : OnlyRegs s (t.clr f) l := h.setFld 0 hf
theorem OnlyRegs.setBool {f : Fld} (b : Bool) (hf : f.addr ∈ l) : OnlyRegs s (t.setBool f b) l := h.setFld _ hf
theorem OnlyRegs.inc {f : Fld} (hf : f.addr ∈ l) : OnlyRegs s (t.inc f) l := h.setFld _ hf

theorem OnlyRegs.withTmr (x : TmrState) : OnlyRegs s { t with tmr := x } l := h
theorem OnlyRegs.withRdata (x : Word) : OnlyRegs s { t with rdata := x } l := h

theorem OnlyRegs.fld {f : Fld} (hf : f.addr ∉ l) : t.fld f = s.fld f := by rw [State.fld, h.1 _ hf, State.fld]
theorem OnlyRegs.flag {f : Fld} (hf : f.addr ∉ l) : t.flag f = s.flag f := by rw [State.flag, h.fld hf, State.flag]

theorem OnlyRegs.onlyBlocks {bs : List Nat} (hl : ∀ a ∈ l, blockBase a ∈ bs) : OnlyBlocks s t bs := by
  obtain ⟨hr, hm, hc⟩ := h
  exact ⟨⟨fun a ha => hr a (fun hi => ha (hl a hi)), hc⟩, hm⟩

end

theorem OnlyBlocks.trans {s t u : State} {bs : List Nat} (h : OnlyBlocks s t bs) (h' : OnlyBlocks t u bs) :
    OnlyBlocks s u bs := by
  obtain ⟨⟨hr, h0, h1, h2, h3⟩, hm⟩ := h
  obtain ⟨⟨hr', h0', h1', h2', h3'⟩, hm'⟩ := h'
  exact ⟨⟨fun a ha => (hr' a ha).trans (hr a ha), h0'.trans h0, h1'.trans h1, h2'.trans h2, h3'.trans h3⟩,
    fun a => (hm' a).trans (hm a)⟩

theorem OnlyBlocks.mono {s t : State} {bs bs' : List Nat} (h : OnlyBlocks s t bs) (hl : bs ⊆ bs') : OnlyBlocks s t bs' := by
  obtain ⟨⟨hr, hc⟩, hm⟩ := h
  exact ⟨⟨fun a ha => hr a (fun hi => ha (hl hi)), hc⟩, hm⟩

/-! ### Registers and flags under the shared updates -/

section
variable (s : State) {f : Fld}

theorem State.rd_set1_other {b : Nat} (h : f.addr ≠ b) : (s.set1 f).rd b = s.rd b := s.rd_setFld_other h 1
theorem State.rd_clr_other {b : Nat} (h : f.addr ≠ b) : (s.clr f).rd b = s.rd b := s.rd_setFld_other h 0
theorem State.rd_inc_other {b : Nat} (h : f.addr ≠ b) : (s.inc f).rd b = s.rd b := s.rd_setFld_other h _
theorem State.rd_setBool_other {b : Nat} (h : f.addr ≠ b) (x : Bool) : (s.setBool f x).rd b = s.rd b :=
  s.rd_setFld_other h _

theorem State.flag_set1_same (h : f.ok = true) : (s.set1 f).flag f = true := by simp [State.flag, s.fld_set1_same h]
theorem State.flag_clr_same (h : f.ok = true) : (s.clr f).flag f = false := by simp [State.flag, s.fld_clr_same h]

theorem State.flag_setBool_same (h : f.ok = true) (x : Bool) : (s.setBool f x).flag f = x := by
  cases x with
  | true => exact s.flag_set1_same h
  | false => exact s.flag_clr_same h

variable {g : Fld} (h : f.ok = true) (ha : f.apart g = true)
include h ha

theorem State.flag_set1_apart : (s.set1 f).flag g = s.flag g := by rw [State.flag, s.fld_set1_apart h ha, State.flag]
theorem State.flag_clr_apart : (s.clr f).flag g = s.flag g := by rw [State.flag, s.fld_clr_apart h ha, State.flag]
theorem State.flag_inc_apart : (s.inc f).flag g = s.flag g := by rw [State.flag, s.fld_inc_apart h ha, State.flag]

end

theorem State.flag_wr_other (s : State) {f : Fld} {a : Nat} (v : Word) (h : a ≠ f.addr) : (s.wr a v).flag f = s.flag f := by
  rw [State.flag, s.fld_wr_other f v h, State.flag]

theorem bitsOf_self (x n : Nat) : decide (bitsOf x n n = 1) = x.testBit n := by
  simp [bitsOf, Nat.testBit_eq_decide_div_mod_eq, Nat.shiftRight_eq_div_pow]

theorem Fld.bit_ok {f : Fld} {n : Nat} (h : f.lo + n < 32) : (f.bit n).ok = true := by simp [Fld.ok, Fld.bit, h]

/-- A bit of a field of flags, read on its own. -/
theorem State.flag_bit (s : State) {f : Fld} {n : Nat} (h : f.lo + n ≤ f.hi) : s.flag (f.bit n) = bitAt (s.fld f) n := by
  have hw : n < f.hi + 1 - f.lo := by omega
  rw [bitAt, State.fld, bitsOf_testBit, decide_eq_true hw, Bool.true_and]
  exact bitsOf_self _ _

/-! The records beside the registers are no registers. -/

section
variable (s : State) (a : Nat)

theorem State.rd_withTmr (x : TmrState) : ({ s with tmr := x } : State).rd a = s.rd a := rfl
theorem State.rd_withSeq (x : SeqState) : ({ s with seq := x } : State).rd a = s.rd a := rfl
theorem State.rd_withRdata (x : Word) : ({ s with rdata := x } : State).rd a = s.rd a := rfl

end

/-! ### The registers of chapter 12 lie apart -/

theorem irq0_ne_unitVal (u : Nat) : TMR_IRQ0 ≠ TMR_UuVAL u := by unfold TMR_IRQ0 TMR_UuVAL baseTMR; omega
theorem irq0_ne_unitStat (u : Nat) : TMR_IRQ0 ≠ TMR_UuSTAT u := by unfold TMR_IRQ0 TMR_UuSTAT baseTMR; omega
theorem irq1_ne_unitVal (u : Nat) : TMR_IRQ1 ≠ TMR_UuVAL u := by unfold TMR_IRQ1 TMR_UuVAL baseTMR; omega
theorem irq1_ne_unitStat (u : Nat) : TMR_IRQ1 ≠ TMR_UuSTAT u := by unfold TMR_IRQ1 TMR_UuSTAT baseTMR; omega

/-! ### Captures (R384, R385, R387) -/

theorem exec_compareArm (u : Nat) (v : Word) (s : State) : exec (.compareArm u v) s = execCompareArm u v s := rfl
theorem exec_capture (u : Nat) (s : State) : exec (.capture u) s = execCapture u s := rfl
theorem exec_captureRead (u : Nat) (s : State) : exec (.captureRead u) s = execCaptureRead u s := rfl

/-- A capture is stored, and OVR and CAPOVR tell whether the one before it was lost; CAPNEW and the interrupt bit are still to
rise. -/
def State.captureTaken (s : State) (u v : Nat) : State :=
  let t := (s.wr (TMR_UuVAL u) (BitVec.ofNat 32 v)).clr (TMR_UuSTAT_PRECNT u)
  if s.flag (TMR_UuSTAT_CAPNEW u) then (t.inc (TMR_UuSTAT_OVR u)).set1 TMR_IRQ1_CAPOVR else t

theorem State.unitCapture_eq (s : State) (u v : Nat) : s.unitCapture u v =
    ((s.captureTaken u v).set1 (TMR_UuSTAT_CAPNEW u)).set1 (TMR_IRQ0_U.bit u) := by
  simp [State.unitCapture, State.captureTaken, State.flag_clr_apart, State.flag_wr_other, Fld.ok, Fld.apart]

section
variable (s : State) {u : Nat} (hu : u < 32) (v : Nat)

theorem State.onlyRegs_unitCapture : OnlyRegs s (s.unitCapture u v) [TMR_UuVAL u, TMR_UuSTAT u, TMR_IRQ0, TMR_IRQ1] := by
  have h : OnlyRegs s ((s.wr (TMR_UuVAL u) (BitVec.ofNat 32 v)).clr (TMR_UuSTAT_PRECNT u))
      [TMR_UuVAL u, TMR_UuSTAT u, TMR_IRQ0, TMR_IRQ1] := ((OnlyRegs.refl s _).wr _ (by simp)).clr (by simp)
  rw [State.unitCapture_eq, State.captureTaken]
  split
  · exact (((h.inc (by simp)).set1 (by simp)).set1 (by simp)).set1 (by simp [Fld.bit])
  · exact (h.set1 (by simp)).set1 (by simp [Fld.bit])

theorem State.rd_val_unitCapture : (s.unitCapture u v).rd (TMR_UuVAL u) = BitVec.ofNat 32 v := by
  rw [State.unitCapture_eq, State.captureTaken]
  split <;> simp [State.rd_set1_other, State.rd_inc_other, State.rd_clr_other, Fld.bit, irq0_ne_unitVal, irq1_ne_unitVal]

include hu

theorem irq0_unit_ok : (TMR_IRQ0_U.bit u).ok = true := Fld.bit_ok (show 0 + u < 32 by omega)

/-- Every field of the unit's status but CAPNEW, and CAPOVR, is as it was before CAPNEW and the interrupt bit rose. -/
theorem State.fld_unitCapture {f : Fld} (h0 : TMR_IRQ0 ≠ f.addr) (hf : (TMR_UuSTAT_CAPNEW u).apart f = true) :
    (s.unitCapture u v).fld f = (s.captureTaken u v).fld f := by
  rw [State.unitCapture_eq, State.fld_set1_apart _ (irq0_unit_ok hu) (by simp [Fld.apart, Fld.bit, h0]),
    State.fld_set1_apart _ rfl hf]

theorem State.precnt_unitCapture : (s.unitCapture u v).fld (TMR_UuSTAT_PRECNT u) = 0 := by
  rw [s.fld_unitCapture hu v (irq0_ne_unitStat u) (by simp [Fld.apart]), State.captureTaken]
  split <;> simp [State.fld_set1_apart, State.fld_inc_apart, State.fld_clr_same, Fld.ok, Fld.apart]

theorem State.capnew_unitCapture : (s.unitCapture u v).flag (TMR_UuSTAT_CAPNEW u) = true := by
  rw [State.unitCapture_eq, State.flag_set1_apart _ (irq0_unit_ok hu) (by simp [Fld.apart, Fld.bit, irq0_ne_unitStat])]
  exact State.flag_set1_same _ rfl

theorem State.irq0_unitCapture : (s.unitCapture u v).flag (TMR_IRQ0_U.bit u) = true := by
  rw [State.unitCapture_eq]
  exact State.flag_set1_same _ (irq0_unit_ok hu)

/-- A capture that stood in VAL unread is lost and counted (R385). -/
theorem State.unitCapture_overrun (h : s.flag (TMR_UuSTAT_CAPNEW u) = true) :
    (s.unitCapture u v).flag TMR_IRQ1_CAPOVR = true ∧
      (s.unitCapture u v).fld (TMR_UuSTAT_OVR u) = min (s.fld (TMR_UuSTAT_OVR u) + 1) 255 := by
  constructor
  · rw [State.flag, s.fld_unitCapture hu v (by simp) (by simp [Fld.apart]), State.captureTaken,
      if_pos h]
    simp [State.fld_set1_same, Fld.ok]
  · rw [s.fld_unitCapture hu v (irq0_ne_unitStat u) (by simp [Fld.apart]), State.captureTaken, if_pos h]
    simp [State.fld_set1_apart, State.fld_inc_same, State.fld_clr_apart, State.fld_wr_other, Fld.ok, Fld.apart, irq1_ne_unitStat,
      ones]

theorem State.unitCapture_noOverrun (h : s.flag (TMR_UuSTAT_CAPNEW u) = false) :
    (s.unitCapture u v).rd TMR_IRQ1 = s.rd TMR_IRQ1 ∧
      (s.unitCapture u v).fld (TMR_UuSTAT_OVR u) = s.fld (TMR_UuSTAT_OVR u) := by
  constructor
  · simp [State.unitCapture_eq, State.captureTaken, h, State.rd_set1_other, State.rd_clr_other, State.rd_wr_other, Fld.bit,
      (irq1_ne_unitStat u).symm, (irq1_ne_unitVal u).symm]
  · rw [s.fld_unitCapture hu v (irq0_ne_unitStat u) (by simp [Fld.apart]), State.captureTaken, h]
    simp [State.fld_clr_apart, State.fld_wr_other, Fld.ok, Fld.apart]

end

/-! The count that a capture stores -/

theorem filterDelay_le (s : State) {f : Fld} (hf : f.hi = f.lo + 3) : filterDelay (s.fld f) ≤ 2 ^ 32 := by
  have hlt : s.fld f < 16 := by simpa [hf, Nat.add_sub_cancel_left, Nat.add_assoc] using s.fld_lt f
  have hpow : 2 ^ s.fld f ≤ 2 ^ 15 := Nat.pow_le_pow_right (by omega) (by omega)
  unfold filterDelay
  split <;> omega

theorem State.railOn_of_clocked {s : State} (h : s.clocked = true) : s.railOn = true := by
  simp only [State.clocked, beq_iff_eq] at h
  simp [State.railOn, h]

/-- A counter that ticks every cycle of the core clock read `d` less `d` cycles ago (R384). -/
theorem State.ofNat_countAgo (s : State) {n d : Nat} (hd : d ≤ 2 ^ 32) (hclk : s.fld (TMR_CFGn_CLK n) = 0)
    (hdiv : s.fld (TMR_CFGn_DIV n) = 0) (hrun : s.tmrRuns n = true) (hpll : s.clk.pll = true) (hrail : s.railOn = true)
    (hphase : s.tmrPhase n < s.tmrPeriod n) (hstart : tblGet 0 s.tmr.started n + d ≤ s.clk.now) :
    BitVec.ofNat 32 (s.countAgo n d) = s.rd (TMR_CNTn n) - BitVec.ofNat 32 d := by
  have hper : s.tmrPeriod n = 1 := by simp [State.tmrPeriod, hclk, hdiv]
  have hzero : s.tmrPhase n = 0 := by omega
  have hmin : min d (s.clk.now - tblGet 0 s.tmr.started n) = d := by omega
  have hcnt : s.fld (TMR_CNTn_COUNT n) = (s.rd (TMR_CNTn n)).toNat := by
    simp [State.fld, bitsOf, Nat.mod_eq_of_lt (s.rd (TMR_CNTn n)).isLt]
  simp only [State.countAgo, hclk, hrun, hper, hzero, hmin, hcnt, State.tmrUnits, hpll, hrail]
  apply BitVec.eq_of_toNat_eq
  simp
  omega

theorem State.gives_capture_counts (s : State) {u : Nat} (hu : u < 32) (hmode : s.fld (TMR_UuCFG_MODE u) = 2)
    (hclk : s.clocked = true) (hseen : s.fld (TMR_UuSTAT_PRECNT u) + 1 < 2 ^ s.fld (TMR_UuCFG_PRE u)) :
    Gives (exec (.capture u) s) (fun t => t.fld (TMR_UuSTAT_PRECNT u) = s.fld (TMR_UuSTAT_PRECNT u) + 1 ∧
      t.rd (TMR_UuVAL u) = s.rd (TMR_UuVAL u) ∧ OnlyRegs s t [TMR_UuSTAT u]) := by
  have hpre : s.fld (TMR_UuCFG_PRE u) < 8 := s.fld_lt _
  have hpow : 2 ^ s.fld (TMR_UuCFG_PRE u) ≤ 2 ^ 7 := Nat.pow_le_pow_right (by omega) (by omega)
  refine ⟨s.setFld (TMR_UuSTAT_PRECNT u) (s.fld (TMR_UuSTAT_PRECNT u) + 1), ?_, ?_, s.rd_setFld_other (by simp) _,
    s.onlyRegs_setFld _ _⟩
  · simp [exec_capture, execCapture, Nat.not_le.2 hu, hmode, hclk, hseen]
  · rw [s.fld_setFld_same _ _ rfl]
    exact Nat.mod_eq_of_lt (Nat.lt_of_lt_of_le hseen hpow)

theorem exec_capture_stores (s : State) {u : Nat} (hu : u < 32) (hmode : s.fld (TMR_UuCFG_MODE u) = 2)
    (hclk : s.clocked = true) (hseen : 2 ^ s.fld (TMR_UuCFG_PRE u) ≤ s.fld (TMR_UuSTAT_PRECNT u) + 1) :
    exec (.capture u) s = .next (s.unitCapture u (s.countAgo (s.unitCnt u)
      (if s.fld (TMR_UuCFG_INSEL u) > 22 then 0 else filterDelay (s.fld (TMR_UuCFG_FILT u))))) := by
  simp [exec_capture, execCapture, Nat.not_le.2 hu, hmode, hclk, Nat.not_lt.2 hseen]

theorem State.gives_captureRead (s : State) {u : Nat} (hu : u < 32) (hmode : s.fld (TMR_UuCFG_MODE u) = 2) :
    Gives (exec (.captureRead u) s) (fun t => t.rdata = s.rd (TMR_UuVAL u) ∧ t.rd (TMR_UuVAL u) = s.rd (TMR_UuVAL u) ∧
      t.flag (TMR_UuSTAT_CAPNEW u) = false ∧ OnlyRegs s t [TMR_UuSTAT u]) := by
  refine ⟨{ s.clr (TMR_UuSTAT_CAPNEW u) with rdata := s.rd (TMR_UuVAL u) }, ?_, rfl, s.rd_clr_other (by simp),
    s.flag_clr_same rfl, (s.onlyRegs_setFld _ _).withRdata _⟩
  simp [exec_captureRead, execCaptureRead, State.valRead, Nat.not_le.2 hu, hmode]

theorem exec_compareArm_capture (s : State) {u : Nat} (hu : u < 32) (hmode : s.fld (TMR_UuCFG_MODE u) = 2) (v : Word) :
    exec (.compareArm u v) s = .next (s.discard baseTMR) := by
  simp [exec_compareArm, execCompareArm, State.valWrite, Nat.not_le.2 hu, hmode]

/-! ### PPS (R388, R389) -/

/-- An edge now falls within GUARD of the last one taken (R389). -/
def State.ppsGuarded (s : State) : Bool :=
  decide (s.fld TMR_PPSCFG_GUARD ≠ 0) && match s.tmr.ppsLast with
    | none => false
    | some t => decide (s.clk.now < t + s.fld TMR_PPSCFG_GUARD * 200000)

theorem State.ppsGuarded_iff (s : State) : s.ppsGuarded = true ↔ s.fld TMR_PPSCFG_GUARD ≠ 0 ∧
    ∃ t0, s.tmr.ppsLast = some t0 ∧ s.clk.now < t0 + s.fld TMR_PPSCFG_GUARD * 200000 := by
  unfold State.ppsGuarded
  cases s.tmr.ppsLast <;> simp

/-- The NETTIME of the edge: back by the filter's delay while NETTIME counts. -/
def State.ppsNt (s : State) : Nat :=
  let back := if s.flag SEQ_STAT_NTVALID then
    ((filterDelay (s.fld TMR_PPSCFG_FILT) : Int) * ((2 ^ 32 : Nat) + s.rate)).toNat else 0
  (s.clk.nt - back) / 2 ^ 32 % 2 ^ 64

/-- The registers that show the edge's time. -/
def State.ppsShown (s : State) : State :=
  let t : State := if s.flag TMR_PPSSTAT_CAPNEW then (s.inc TMR_PPSSTAT_OVR).set1 TMR_IRQ1_CAPOVR else s
  (t.wr TMR_PPSNTLO (BitVec.ofNat 32 s.ppsNt)).set1 TMR_PPSSTAT_CAPNEW

/-- The edge's time is stored. -/
def State.ppsStored (s : State) : State :=
  { s.ppsShown with tmr := { s.ppsShown.tmr with ppsLast := some s.ppsShown.clk.now, ppsHi := s.ppsNt / 2 ^ 32 } }

/-- An edge that comes while NETTIME is not valid is counted as dropped. -/
def State.ppsDropped (s : State) : State := (s.ppsStored.inc TMR_PPSSTAT_DROP).set1 TMR_IRQ1_PPSDROP

/-- An edge taken while NETTIME is valid. -/
def State.ppsGood (s : State) : State := s.ppsStored.set1 TMR_IRQ1_PPS

/-- In GNSS mode a taken edge moves GNSSSEC on to the next second. -/
def State.ppsSecond (s : State) : State :=
  s.ppsGood.setFld SEQ_GNSSSEC_SEC ((s.ppsGood.fld SEQ_GNSSSEC_SEC + 1) % 2 ^ 32)

/-- How far the captured time lies after the second that GNSSSEC names. -/
def State.ppsSample (s : State) : Int :=
  (s.ppsNt : Int) - ((s.ppsGood.fld SEQ_GNSSSEC_SEC : Int) * 200000000 + s.ppsGood.sfld SEQ_TSRC_OFS)

/-- An edge taken in GNSS mode hands that difference to the clock discipline. -/
def State.ppsSampled (s : State) : State :=
  { s.ppsSecond with seq := { s.ppsSecond.seq with sample := some s.ppsSample } }

theorem exec_ppsEdge_eq (s : State) : exec .ppsEdge s =
    if !(s.flag TMR_PPSCFG_EN && s.clocked) then .next s
    else if s.ppsGuarded then .next ((s.inc TMR_PPSSTAT_GLITCH).set1 TMR_IRQ1_PPSGLITCH)
    else if !s.flag SEQ_STAT_NTVALID then .next s.ppsDropped
    else if s.ppsGood.fld SEQ_TSRC_MODE = 1 then .next s.ppsSampled
    else .next s.ppsGood := rfl

section
variable (s : State)

/-! What the storing of the edge's time leaves -/

theorem State.onlyRegs_ppsStored : OnlyRegs s s.ppsStored [TMR_PPSNTLO, TMR_PPSSTAT, TMR_IRQ1, SEQ_GNSSSEC] := by
  have h : OnlyRegs s s [TMR_PPSNTLO, TMR_PPSSTAT, TMR_IRQ1, SEQ_GNSSSEC] := .refl s _
  refine OnlyRegs.withTmr ?_ _
  unfold State.ppsShown
  split
  · exact (((h.inc (by simp)).set1 (by simp)).wr _ (by simp)).set1 (by simp)
  · exact (h.wr _ (by simp)).set1 (by simp)

theorem State.rd_ppsStored (a : Nat) : s.ppsStored.rd a = s.ppsShown.rd a := State.rd_withTmr _ _ _
theorem State.fld_ppsStored (f : Fld) : s.ppsStored.fld f = s.ppsShown.fld f := by
  rw [State.fld, State.rd_ppsStored, State.fld]
theorem State.flag_ppsStored (f : Fld) : s.ppsStored.flag f = s.ppsShown.flag f := by
  rw [State.flag, State.fld_ppsStored, State.flag]

/-- Fields apart from CAPNEW, OVR, CAPOVR and PPSNTLO are as they were. -/
theorem State.fld_ppsStored_apart {f : Fld} (hlo : TMR_PPSNTLO ≠ f.addr) (hnew : TMR_PPSSTAT_CAPNEW.apart f = true)
    (hovr : TMR_PPSSTAT_OVR.apart f = true) (hirq : TMR_IRQ1_CAPOVR.apart f = true) : s.ppsStored.fld f = s.fld f := by
  rw [State.fld_ppsStored, State.ppsShown, State.fld_set1_apart _ rfl hnew, State.fld_wr_other _ f _ hlo]
  split
  · rw [State.fld_set1_apart _ rfl hirq, State.fld_inc_apart _ rfl hovr]
  · rfl

theorem State.capnew_ppsStored : s.ppsStored.flag TMR_PPSSTAT_CAPNEW = true := by
  rw [State.flag_ppsStored, State.ppsShown, State.flag_set1_same _ rfl]

theorem State.rd_ppsStored_lo : s.ppsStored.rd TMR_PPSNTLO = BitVec.ofNat 32 s.ppsNt := by
  rw [State.rd_ppsStored, State.ppsShown, State.rd_set1_other _ (by decide), State.rd_wr_same]

theorem State.ppsStored_overrun (h : s.flag TMR_PPSSTAT_CAPNEW = true) : s.ppsStored.flag TMR_IRQ1_CAPOVR = true ∧
    s.ppsStored.fld TMR_PPSSTAT_OVR = min (s.fld TMR_PPSSTAT_OVR + 1) 255 := by
  have hshown : s.ppsShown = ((((s.inc TMR_PPSSTAT_OVR).set1 TMR_IRQ1_CAPOVR).wr TMR_PPSNTLO
      (BitVec.ofNat 32 s.ppsNt)).set1 TMR_PPSSTAT_CAPNEW) := by rw [State.ppsShown, if_pos h]
  constructor
  · rw [State.flag_ppsStored, hshown, State.flag_set1_apart _ rfl rfl, State.flag_wr_other _ _ (by decide),
      State.flag_set1_same _ rfl]
  · rw [State.fld_ppsStored, hshown, State.fld_set1_apart _ rfl rfl, State.fld_wr_other _ _ _ (by decide),
      State.fld_set1_apart _ rfl rfl, State.fld_inc_same _ rfl]
    simp [ones]

/-- What every edge that is taken leaves behind (R388): its time, CAPNEW, and the overrun of the one before. -/
def PpsTaken (s t : State) : Prop :=
  t.tmr.ppsLast = some s.clk.now ∧ t.flag TMR_PPSSTAT_CAPNEW = true ∧
    (s.flag TMR_PPSSTAT_CAPNEW = true → t.flag TMR_IRQ1_CAPOVR = true ∧
      t.fld TMR_PPSSTAT_OVR = min (s.fld TMR_PPSSTAT_OVR + 1) 255) ∧
    t.rd TMR_PPSNTLO = BitVec.ofNat 32 s.ppsNt ∧ OnlyRegs s t [TMR_PPSNTLO, TMR_PPSSTAT, TMR_IRQ1, SEQ_GNSSSEC]

theorem State.clk_ppsShown : s.ppsShown.clk = s.clk := by
  rw [State.ppsShown, State.set1_clk, State.wr_clk]
  split
  · rw [State.set1_clk, State.inc_clk]
  · rfl

theorem State.seq_ppsStored : s.ppsStored.seq = s.seq := by
  have h : s.ppsShown.seq = s.seq := by
    rw [State.ppsShown, State.set1_seq, State.wr_seq]
    split
    · rw [State.set1_seq, State.inc_seq]
    · rfl
  rw [State.ppsStored, h]

theorem State.ppsTaken_ppsStored : PpsTaken s s.ppsStored := by
  refine ⟨?_, s.capnew_ppsStored, s.ppsStored_overrun, s.rd_ppsStored_lo, s.onlyRegs_ppsStored⟩
  rw [State.ppsStored, s.clk_ppsShown]

/-- A field written afterwards that is none of these leaves all of that. -/
theorem PpsTaken.setFld {t : State} (h : PpsTaken s t) {f : Fld} (v : Nat) (hok : f.ok = true)
    (hf : f.addr ∈ [TMR_PPSSTAT, TMR_IRQ1, SEQ_GNSSSEC]) (hnew : f.apart TMR_PPSSTAT_CAPNEW = true)
    (hovr : f.apart TMR_PPSSTAT_OVR = true) (hirq : f.apart TMR_IRQ1_CAPOVR = true) : PpsTaken s (t.setFld f v) := by
  obtain ⟨hlast, hcap, hover, hlo, honly⟩ := h
  have hne : f.addr ≠ TMR_PPSNTLO := fun e => absurd (e ▸ hf) (by decide)
  refine ⟨hlast, ?_, fun h => ?_, (t.rd_setFld_other hne v).trans hlo, honly.setFld v (List.mem_cons_of_mem _ hf)⟩
  · rw [State.flag, t.fld_setFld_apart f _ v hok hnew]
    exact hcap
  · rw [State.flag, t.fld_setFld_apart f _ v hok hirq, t.fld_setFld_apart f _ v hok hovr]
    exact hover h

theorem PpsTaken.withSeq {t : State} (h : PpsTaken s t) (x : SeqState) : PpsTaken s { t with seq := x } := h

theorem State.ppsTaken_ppsGood : PpsTaken s s.ppsGood := by
  rw [State.ppsGood, State.set1]
  exact s.ppsTaken_ppsStored.setFld s 1 rfl (by decide) rfl rfl rfl

theorem State.ppsTaken_ppsSecond : PpsTaken s s.ppsSecond := by
  rw [State.ppsSecond]
  exact s.ppsTaken_ppsGood.setFld s _ rfl (by decide) rfl rfl rfl

theorem State.ppsTaken_ppsSampled : PpsTaken s s.ppsSampled := s.ppsTaken_ppsSecond.withSeq s _

theorem State.ppsTaken_ppsDropped : PpsTaken s s.ppsDropped := by
  rw [State.ppsDropped, State.set1, State.inc, State.incBy]
  exact (s.ppsTaken_ppsStored.setFld s _ rfl (by decide) rfl rfl rfl).setFld s 1 rfl (by decide) rfl rfl rfl

theorem State.ppsDropped_spec : s.ppsDropped.flag TMR_IRQ1_PPSDROP = true ∧ s.ppsDropped.seq = s.seq ∧
    s.ppsDropped.fld TMR_PPSSTAT_DROP = min (s.fld TMR_PPSSTAT_DROP + 1) 255 ∧
    s.ppsDropped.flag TMR_IRQ1_PPS = s.flag TMR_IRQ1_PPS := by
  refine ⟨?_, ?_, ?_, ?_⟩
  · rw [State.ppsDropped, State.flag_set1_same _ rfl]
  · rw [State.ppsDropped, State.set1_seq, State.inc_seq, s.seq_ppsStored]
  · rw [State.ppsDropped, State.fld_set1_apart _ rfl rfl, State.fld_inc_same _ rfl,
      s.fld_ppsStored_apart (by decide) rfl rfl rfl]
    simp [ones]
  · rw [State.ppsDropped, State.flag_set1_apart _ rfl rfl, State.flag_inc_apart _ rfl rfl, State.flag,
      s.fld_ppsStored_apart (by decide) rfl rfl rfl, State.flag]

theorem State.ppsGood_spec : s.ppsGood.flag TMR_IRQ1_PPS = true ∧ s.ppsGood.seq = s.seq ∧
    s.ppsGood.fld SEQ_TSRC_MODE = s.fld SEQ_TSRC_MODE ∧ s.ppsGood.fld SEQ_GNSSSEC_SEC = s.fld SEQ_GNSSSEC_SEC := by
  refine ⟨?_, ?_, ?_, ?_⟩
  · rw [State.ppsGood, State.flag_set1_same _ rfl]
  · rw [State.ppsGood, State.set1_seq, s.seq_ppsStored]
  all_goals rw [State.ppsGood, State.fld_set1_apart _ rfl rfl, s.fld_ppsStored_apart (by decide) rfl rfl rfl]

theorem State.rd_gnssSec_ppsGood : s.ppsGood.rd SEQ_GNSSSEC = s.rd SEQ_GNSSSEC := by
  rw [State.ppsGood, State.rd_set1_other _ (by decide), State.rd_ppsStored, State.ppsShown, State.rd_set1_other _ (by decide),
    State.rd_wr_other _ (by decide)]
  split
  · rw [State.rd_set1_other _ (by decide), State.rd_inc_other _ (by decide)]
  · rfl

theorem State.rd_ppsSampled (a : Nat) : s.ppsSampled.rd a = s.ppsSecond.rd a := State.rd_withSeq _ _ _

theorem State.ppsSampled_spec : s.ppsSampled.flag TMR_IRQ1_PPS = true ∧ s.ppsSampled.seq.sample ≠ none ∧
    s.ppsSampled.fld SEQ_GNSSSEC_SEC = (s.fld SEQ_GNSSSEC_SEC + 1) % 2 ^ 32 := by
  obtain ⟨hpps, -, -, hsec⟩ := s.ppsGood_spec
  refine ⟨?_, by simp [State.ppsSampled], ?_⟩
  · rw [State.flag, State.fld, s.rd_ppsSampled, ← State.fld, State.ppsSecond, State.fld_setFld_apart _ _ _ _ rfl rfl]
    exact hpps
  · rw [State.fld, s.rd_ppsSampled, ← State.fld, State.ppsSecond, State.fld_setFld_same _ _ _ rfl, hsec]
    simp

theorem State.ofNat_ppsNt_invalid (h : s.flag SEQ_STAT_NTVALID = false) :
    BitVec.ofNat 32 s.ppsNt = BitVec.ofNat 32 (s.clk.nt / 2 ^ 32) := by
  apply BitVec.eq_of_toNat_eq
  simp [State.ppsNt, h]

/-- While NETTIME counts at its nominal rate, the captured time is that of the edge. -/
theorem State.ofNat_ppsNt_valid (h : s.flag SEQ_STAT_NTVALID = true) (hrate : s.rate = 0) :
    BitVec.ofNat 32 s.ppsNt = BitVec.ofNat 32 (s.clk.nt / 2 ^ 32 - filterDelay (s.fld TMR_PPSCFG_FILT)) := by
  apply BitVec.eq_of_toNat_eq
  simp [State.ppsNt, h, hrate]
  omega

theorem State.gives_ppsRead : Gives (exec .ppsRead s) (fun t => t.rdata = s.rd TMR_PPSNTLO ∧
    t.rd TMR_PPSNTHI = BitVec.ofNat 32 s.tmr.ppsHi ∧ t.flag TMR_PPSSTAT_CAPNEW = false ∧
    OnlyRegs s t [TMR_PPSNTHI, TMR_PPSSTAT]) := by
  have honly : OnlyRegs s s.ppsRead.2 [TMR_PPSNTHI, TMR_PPSSTAT] := ((OnlyRegs.refl s _).wr _ (by simp)).clr (by simp)
  refine ⟨{ s.ppsRead.2 with rdata := s.ppsRead.1 }, rfl, rfl, ?_, ?_, honly.withRdata _⟩
  · rw [State.rd_withRdata, State.ppsRead, State.rd_clr_other _ (by decide), State.rd_wr_same]
  · rw [State.flag, State.fld, State.rd_withRdata, ← State.fld, ← State.flag, State.ppsRead, State.flag_clr_same _ rfl]

section
variable (hen : s.flag TMR_PPSCFG_EN = true) (hclk : s.clocked = true)
include hen hclk

/-- An edge within GUARD is a glitch. -/
theorem State.gives_ppsEdge_glitch (hg : s.ppsGuarded = true) : Gives (exec .ppsEdge s) (fun t => t.tmr = s.tmr ∧
    t.flag TMR_IRQ1_PPSGLITCH = true ∧ t.fld TMR_PPSSTAT_GLITCH = min (s.fld TMR_PPSSTAT_GLITCH + 1) 255 ∧
    OnlyRegs s t [TMR_PPSSTAT, TMR_IRQ1]) := by
  refine ⟨(s.inc TMR_PPSSTAT_GLITCH).set1 TMR_IRQ1_PPSGLITCH, ?_, ?_, State.flag_set1_same _ rfl, ?_,
    ((OnlyRegs.refl s _).inc (by simp)).set1 (by simp)⟩
  · rw [exec_ppsEdge_eq, hen, hclk, hg]
    rfl
  · rw [State.set1_tmr, State.inc_tmr]
  · rw [State.fld_set1_apart _ rfl rfl, s.fld_inc_same rfl]
    simp [ones]

variable (hg : s.ppsGuarded = false)
include hg

theorem exec_ppsEdge_dropped (hv : s.flag SEQ_STAT_NTVALID = false) : exec .ppsEdge s = .next s.ppsDropped := by
  simp [exec_ppsEdge_eq, hen, hclk, hg, hv]

theorem exec_ppsEdge_sampled (hv : s.flag SEQ_STAT_NTVALID = true) (hm : s.fld SEQ_TSRC_MODE = 1) :
    exec .ppsEdge s = .next s.ppsSampled := by
  obtain ⟨-, -, hmode, -⟩ := s.ppsGood_spec
  simp [exec_ppsEdge_eq, hen, hclk, hg, hv, hmode, hm]

theorem exec_ppsEdge_good (hv : s.flag SEQ_STAT_NTVALID = true) (hm : s.fld SEQ_TSRC_MODE ≠ 1) :
    exec .ppsEdge s = .next s.ppsGood := by
  obtain ⟨-, -, hmode, -⟩ := s.ppsGood_spec
  simp [exec_ppsEdge_eq, hen, hclk, hg, hv, hmode, hm]

/-- An edge that is no glitch is stored; without a valid NETTIME it is dropped, and in GNSS mode it is a sample. -/
theorem State.gives_ppsEdge_taken : Gives (exec .ppsEdge s) (fun t => t.tmr.ppsLast = some s.clk.now ∧
    t.flag TMR_PPSSTAT_CAPNEW = true ∧
    (s.flag TMR_PPSSTAT_CAPNEW = true → t.flag TMR_IRQ1_CAPOVR = true ∧
      t.fld TMR_PPSSTAT_OVR = min (s.fld TMR_PPSSTAT_OVR + 1) 255) ∧
    (s.flag SEQ_STAT_NTVALID = false → t.flag TMR_IRQ1_PPSDROP = true ∧ t.seq = s.seq ∧
      t.fld TMR_PPSSTAT_DROP = min (s.fld TMR_PPSSTAT_DROP + 1) 255 ∧ t.flag TMR_IRQ1_PPS = s.flag TMR_IRQ1_PPS ∧
      t.rd TMR_PPSNTLO = BitVec.ofNat 32 (s.clk.nt / 2 ^ 32)) ∧
    (s.flag SEQ_STAT_NTVALID = true → t.flag TMR_IRQ1_PPS = true ∧
      (s.rate = 0 → filterDelay (s.fld TMR_PPSCFG_FILT) ≤ s.clk.nt / 2 ^ 32 →
        t.rd TMR_PPSNTLO = BitVec.ofNat 32 (s.clk.nt / 2 ^ 32 - filterDelay (s.fld TMR_PPSCFG_FILT))) ∧
      (s.fld SEQ_TSRC_MODE = 1 → t.seq.sample ≠ none ∧ t.fld SEQ_GNSSSEC_SEC = (s.fld SEQ_GNSSSEC_SEC + 1) % 2 ^ 32) ∧
      (s.fld SEQ_TSRC_MODE ≠ 1 → t.seq = s.seq ∧ t.rd SEQ_GNSSSEC = s.rd SEQ_GNSSSEC)) ∧
    OnlyRegs s t [TMR_PPSNTLO, TMR_PPSSTAT, TMR_IRQ1, SEQ_GNSSSEC]) := by
  cases hv : s.flag SEQ_STAT_NTVALID with
  | false =>
    obtain ⟨hlast, hcap, hover, hlo, honly⟩ := s.ppsTaken_ppsDropped
    obtain ⟨hdrop, hseq, hcount, hpps⟩ := s.ppsDropped_spec
    exact ⟨_, exec_ppsEdge_dropped s hen hclk hg hv, hlast, hcap, hover,
      fun _ => ⟨hdrop, hseq, hcount, hpps, hlo.trans (s.ofNat_ppsNt_invalid hv)⟩, nofun, honly⟩
  | true =>
    by_cases hm : s.fld SEQ_TSRC_MODE = 1
    · obtain ⟨hlast, hcap, hover, hlo, honly⟩ := s.ppsTaken_ppsSampled
      obtain ⟨hpps, hsample, hsec⟩ := s.ppsSampled_spec
      exact ⟨_, exec_ppsEdge_sampled s hen hclk hg hv hm, hlast, hcap, hover, nofun,
        fun _ => ⟨hpps, fun hr _ => hlo.trans (s.ofNat_ppsNt_valid hv hr), fun _ => ⟨hsample, hsec⟩,
          fun h => absurd hm h⟩, honly⟩
    · obtain ⟨hlast, hcap, hover, hlo, honly⟩ := s.ppsTaken_ppsGood
      obtain ⟨hpps, hseq, -, -⟩ := s.ppsGood_spec
      exact ⟨_, exec_ppsEdge_good s hen hclk hg hv hm, hlast, hcap, hover, nofun,
        fun _ => ⟨hpps, fun hr _ => hlo.trans (s.ofNat_ppsNt_valid hv hr), fun h => absurd h hm,
          fun _ => ⟨hseq, s.rd_gnssSec_ppsGood⟩⟩, honly⟩

end

end

/-! ### SLOWCNT and its compares (R391–R393) -/

theorem exec_slowCompareArm (n : Nat) (v : Word) (s : State) : exec (.slowCompareArm n v) s = execSlowCompareArm n v s := rfl
theorem exec_slowCompareFire (n : Nat) (s : State) : exec (.slowCompareFire n) s = execSlowCompareFire n s := rfl

theorem State.gives_slowcntRead (s : State) : Gives (exec .slowcntRead s) (fun t =>
    t.rdata = BitVec.ofNat 32 s.clk.slowcnt ∧ t.rd TMR_SLOWHI = BitVec.ofNat 32 (s.clk.slowcnt / 2 ^ 32) ∧ t.clk = s.clk ∧
    OnlyRegs s t [TMR_SLOWHI]) :=
  ⟨{ s.slowRead.2 with rdata := s.slowRead.1 }, rfl, rfl,
    (State.rd_withRdata _ _ _).trans (s.rd_wr_same _ _), rfl, (s.onlyRegs_wr _ _).withRdata _⟩

theorem exec_slowCompareArm_zero (s : State) (v : Word) : exec (.slowCompareArm 0 v) s = .next (s.discard baseTMR) := rfl

theorem State.scmp_setScmp (s : State) (n : Nat) (c : SlowCmp) : (s.setScmp n c).scmp n = c := by
  show tblGet _ (tblPut _ s.tmr.scmp n c) n = c
  rw [tblGet_tblPut, if_pos rfl]

theorem State.clk_setScmp (s : State) (n : Nat) (c : SlowCmp) : (s.setScmp n c).clk = s.clk := by
  rw [State.setScmp, State.setBool_clk]

theorem OnlyRegs.setScmp {s t : State} {l : List Nat} (h : OnlyRegs s t l) (n : Nat) (c : SlowCmp) (ha : TMR_SCMPCTL ∈ l) :
    OnlyRegs s (t.setScmp n c) l := (h.withTmr _).setBool _ ha

theorem State.armed_setScmp (s : State) {n : Nat} (hn : n < 4) (c : SlowCmp) :
    bitAt ((s.setScmp n c).fld TMR_SCMPCTL_ARMED) n = c.armed := by
  rw [← State.flag_bit _ (show 16 + n ≤ 19 by omega)]
  exact State.flag_setBool_same _ (Fld.bit_ok (show 16 + n < 32 by omega)) _

theorem State.gives_slowCompareArm (s : State) {n : Nat} (h0 : 0 < n) (hn : n < 4) (v : Word) :
    Gives (exec (.slowCompareArm n v) s) (fun t => (t.scmp n).armed = true ∧
      (t.scmp n).v = (s.rd (TMR_SCMPnHI n)).toNat % 2 ^ 16 * 2 ^ 32 + v.toNat ∧ bitAt (t.fld TMR_SCMPCTL_ARMED) n = true ∧
      t.rd (TMR_SCMPnLO n) = v ∧ OnlyRegs s t [TMR_SCMPnLO n, TMR_SCMPCTL]) := by
  have hne : TMR_SCMPCTL ≠ TMR_SCMPnLO n := by unfold TMR_SCMPCTL TMR_SCMPnLO baseTMR; omega
  refine ⟨s.scmpArm n ((s.rd (TMR_SCMPnHI n)).toNat % 2 ^ 16 * 2 ^ 32 + v.toNat), ?_, ?_, ?_, ?_, ?_, ?_⟩
  · simp [exec_slowCompareArm, execSlowCompareArm, State.scmpLoWrite, Nat.not_le.2 hn, Nat.ne_of_gt h0]
  · rw [State.scmpArm, State.scmp_setScmp]
  · rw [State.scmpArm, State.scmp_setScmp]
  · rw [State.scmpArm, State.armed_setScmp _ hn]
  · rw [State.scmpArm, State.setScmp, State.rd_setBool_other _ hne]
    refine (State.rd_withTmr _ _ _).trans ((s.rd_wr_same _ _).trans (BitVec.eq_of_toNat_eq ?_))
    have hv := v.isLt
    simp
    omega
  · exact ((OnlyRegs.refl s _).wr _ (by simp)).setScmp n _ (by simp)

/-! ### The passage of time (R376, R391) -/

/-- What the counting of the timers and the idle timer leave alone: the clocks, the SLOWCNT compares, and all but TMR. -/
def Ticked (s t : State) : Prop := t.clk = s.clk ∧ t.tmr.scmp = s.tmr.scmp ∧ OnlyBlocks s t [baseTMR]

theorem Ticked.refl (s : State) : Ticked s s := ⟨rfl, rfl, ⟨⟨fun _ _ => rfl, rfl, rfl, rfl, rfl⟩, fun _ => rfl⟩⟩

theorem Ticked.trans {s t u : State} (h : Ticked s t) (h' : Ticked t u) : Ticked s u := by
  obtain ⟨hc, hs, ho⟩ := h
  obtain ⟨hc', hs', ho'⟩ := h'
  exact ⟨hc'.trans hc, hs'.trans hs, ho.trans ho'⟩

theorem Ticked.foldl {α : Type} (f : State → α → State) (l : List α) (h : ∀ t, ∀ a ∈ l, Ticked t (f t a)) (s : State) :
    Ticked s (l.foldl f s) :=
  List.foldlRecOn l f (Ticked.refl s) (fun t ht a ha => ht.trans (h t a ha))

theorem Ticked.setFld {s t : State} (h : Ticked s t) {f : Fld} (v : Nat) (hf : blockBase f.addr = baseTMR) :
    Ticked s (t.setFld f v) :=
  h.trans ⟨rfl, rfl, (t.onlyRegs_setFld f v).onlyBlocks (by simp [hf])⟩

theorem Ticked.setTmrPhase {s t : State} (h : Ticked s t) (n v : Nat) : Ticked s (t.setTmrPhase n v) := h

theorem blockBase_irq1 : blockBase TMR_IRQ1 = baseTMR := by decide

theorem blockBase_cnt {n : Nat} (hn : n < 8) : blockBase (TMR_CNTn n) = baseTMR := by
  show 0x40020000 + 0xa0 + 0x4 * n - (0x40020000 + 0xa0 + 0x4 * n) % 0x10000 = 0x40020000
  omega

theorem State.ticked_tmrCount (s : State) {n : Nat} (hn : n < 8) (u : Nat) : Ticked s (s.tmrCount n u) := by
  have h := (((Ticked.refl s).setFld (f := TMR_CNTn_COUNT n) ((s.fld (TMR_CNTn_COUNT n) +
    (s.tmrPhase n + u) / s.tmrPeriod n) % 2 ^ 32) (blockBase_cnt hn)).setTmrPhase n ((s.tmrPhase n + u) % s.tmrPeriod n))
  unfold State.tmrCount
  dsimp only
  split
  · exact h.setFld 1 blockBase_irq1
  · exact h

theorem lt_of_mem_setBits {i n x : Nat} (h : i ∈ setBits n x) : i < n := List.mem_range.1 (List.mem_filter.1 h).1

theorem State.ticked_tmrAdvance (s : State) (d e : Nat) : Ticked s (s.tmrAdvance d e) :=
  Ticked.foldl _ _ (fun t _ hn => t.ticked_tmrCount (lt_of_mem_setBits hn) _) s

theorem State.ticked_sqtWraps (s : State) (a b : Nat) : Ticked s (s.sqtWraps a b) := by
  unfold State.sqtWraps
  split
  · exact .refl s
  · refine Ticked.foldl _ _ (fun t n _ => ?_) s
    split
    · exact (Ticked.refl t).setFld 1 blockBase_irq1
    · exact .refl t

theorem State.ticked_idleTo (s : State) (k : Nat) : Ticked s (s.idleTo k) := by
  unfold State.idleTo
  split
  · exact .refl s
  · exact Ticked.refl s

/-- The clocks move on between the counting of the timers and the wraps of those that count SQT. -/
theorem Ticked.moveClk {s t u : State} {c : Clk} (h : Ticked s t) (h' : Ticked { t with clk := c } u) :
    u.clk = c ∧ u.tmr.scmp = s.tmr.scmp ∧ OnlyBlocks s u [baseTMR] := by
  obtain ⟨-, hs, ho⟩ := h
  obtain ⟨hc', hs', ho'⟩ := h'
  have hclk : OnlyBlocks t { t with clk := c } [baseTMR] := (Ticked.refl t).2.2
  exact ⟨hc', hs'.trans hs, (ho.trans hclk).trans ho'⟩

/-- The count of ST edges once `d` cycles have passed. -/
theorem State.advance_spec (s : State) (d : Nat) (hon : s.clk.slowOn = true) :
    (s.advance d).clk.slowcnt = (s.clk.slowcnt + (stEdges (s.clk.now + d) - stEdges s.clk.now)) % 2 ^ 48 ∧
      (s.advance d).tmr.scmp = s.tmr.scmp ∧ OnlyBlocks s (s.advance d) [baseTMR] := by
  simp only [State.advance, hon, if_true]
  generalize stEdges (s.clk.now + d) - stEdges s.clk.now = e
  have hidle : Ticked s (if e = 0 then s else s.idleTo (stEdges (s.clk.now + d))) := by
    split
    · exact .refl s
    · exact s.ticked_idleTo _
  have hcount := hidle.trans (State.ticked_tmrAdvance _ d e)
  obtain ⟨hclk, hscmp, honly⟩ := hcount.moveClk (State.ticked_sqtWraps _ _ _)
  refine ⟨?_, hscmp, honly⟩
  rw [hclk]
  simp [hcount.1, hon]

/-- The first cycle by which `k` edges have passed is one by which no more have. -/
theorem stEdges_stEdgeAt (k : Nat) : stEdges (stEdgeAt k) = k := by
  have hp : Config.stPhase % 390625 < 390625 := Nat.mod_lt _ (by decide)
  simp only [stEdges, stEdgeAt, ceilDiv]
  omega

theorem lt_stEdgeAt {t k : Nat} (h : stEdges t < k) : t < stEdgeAt k := by
  simp only [stEdges, stEdgeAt, ceilDiv] at *
  omega

theorem State.advanceEdges_spec (s : State) {k : Nat} (hk : 0 < k) (hon : s.clk.slowOn = true) :
    (s.advanceEdges k).clk.slowcnt = (s.clk.slowcnt + k) % 2 ^ 48 ∧ (s.advanceEdges k).tmr.scmp = s.tmr.scmp ∧
      OnlyBlocks s (s.advanceEdges k) [baseTMR] := by
  have hlt : s.clk.now < stEdgeAt (stEdges s.clk.now + k) := lt_stEdgeAt (by omega)
  have h := s.advance_spec (stEdgeAt (stEdges s.clk.now + k) - s.clk.now) hon
  rw [Nat.add_sub_cancel' (Nat.le_of_lt hlt), stEdges_stEdgeAt, Nat.add_sub_cancel_left] at h
  rwa [State.advanceEdges, State.advanceTo, if_pos hlt]

/-! ### A SLOWCNT compare fires (R392, R393) -/

section
variable (s : State) {n : Nat} (hn : n < 28)
include hn

theorem State.latchSet_spec : bitAt ((s.latchSet n).fld ICU_ALSTAT_LATCH) n = true ∧ (s.latchSet n).tmr = s.tmr ∧
    (s.latchSet n).clk = s.clk ∧ OnlyRegs s (s.latchSet n) [ICU_ALSTAT, ICU_ALOVR] := by
  unfold State.latchSet
  split
  next h =>
    have honly : OnlyRegs s (s.set1 (ICU_ALOVR_LATCH.bit n)) [ICU_ALOVR] := s.onlyRegs_setFld _ _
    refine ⟨?_, by rw [State.set1_tmr], by rw [State.set1_clk], honly.mono (by simp)⟩
    rwa [honly.fld (f := ICU_ALSTAT_LATCH) (by decide)]
  next =>
    have honly : OnlyRegs s (s.set1 (ICU_ALSTAT_LATCH.bit n)) [ICU_ALSTAT] := s.onlyRegs_setFld _ _
    refine ⟨?_, by rw [State.set1_tmr], by rw [State.set1_clk], honly.mono (by simp)⟩
    rw [← State.flag_bit _ (show 0 + n ≤ 27 by omega)]
    exact s.flag_set1_same (Fld.bit_ok (show 0 + n < 32 by omega))

end

/-- The compare's own registers after it fired; the latch of the always-on domain is still to come. -/
def State.scmpFired (s : State) (n : Nat) : State :=
  let t := (s.set1 (TMR_SCMPCTL_FIRED.bit n)).set1 (TMR_IRQ1_SCMP.bit n)
  t.setScmp n { t.scmp n with armed := false }

theorem State.scmpFire_eq (s : State) (n : Nat) : s.scmpFire n =
    if (s.scmpFired n).flag ICU_ALEN_SLOWCMP then (s.scmpFired n).latchSet 27 else s.scmpFired n := rfl

theorem State.flag_setScmp_apart (s : State) {n : Nat} (hn : n < 4) (c : SlowCmp) {g : Fld}
    (ha : (TMR_SCMPCTL_ARMED.bit n).apart g = true) : (s.setScmp n c).flag g = s.flag g := by
  rw [State.flag, State.setScmp, State.setBool, State.fld_setFld_apart _ _ _ _ (Fld.bit_ok (show 16 + n < 32 by omega)) ha,
    State.fld, State.rd_withTmr, State.flag, State.fld]

section
variable (s : State) {n : Nat} (hn : n < 4)
include hn

theorem State.scmpFired_spec : ((s.scmpFired n).scmp n).armed = false ∧ bitAt ((s.scmpFired n).fld TMR_SCMPCTL_FIRED) n = true ∧
    bitAt ((s.scmpFired n).fld TMR_IRQ1_SCMP) n = true ∧ (s.scmpFired n).clk = s.clk ∧
    OnlyRegs s (s.scmpFired n) [TMR_SCMPCTL, TMR_IRQ1] := by
  have hirq : (TMR_IRQ1_SCMP.bit n).ok = true := Fld.bit_ok (show 8 + n < 32 by omega)
  refine ⟨?_, ?_, ?_, ?_, ?_⟩
  · rw [State.scmpFired, State.scmp_setScmp]
  · rw [← State.flag_bit _ (show 8 + n ≤ 11 by omega), State.scmpFired,
      State.flag_setScmp_apart _ hn _ (by simp [Fld.apart, Fld.bit]),
      State.flag_set1_apart _ hirq (by simp [Fld.apart, Fld.bit]), State.flag_set1_same _ (Fld.bit_ok (show 8 + n < 32 by omega))]
  · rw [← State.flag_bit _ (show 8 + n ≤ 11 by omega), State.scmpFired,
      State.flag_setScmp_apart _ hn _ (by simp [Fld.apart, Fld.bit]), State.flag_set1_same _ hirq]
  · rw [State.scmpFired, State.clk_setScmp, State.set1_clk, State.set1_clk]
  · exact (((OnlyRegs.refl s _).set1 (by simp [Fld.bit])).set1 (by simp [Fld.bit])).setScmp n _ (by simp)

theorem State.scmpFire_spec : ((s.scmpFire n).scmp n).armed = false ∧ bitAt ((s.scmpFire n).fld TMR_SCMPCTL_FIRED) n = true ∧
    bitAt ((s.scmpFire n).fld TMR_IRQ1_SCMP) n = true ∧
    (s.flag ICU_ALEN_SLOWCMP = true → bitAt ((s.scmpFire n).fld ICU_ALSTAT_LATCH) 27 = true) ∧
    (s.flag ICU_ALEN_SLOWCMP = false → (s.scmpFire n).rd ICU_ALSTAT = s.rd ICU_ALSTAT) ∧ (s.scmpFire n).clk = s.clk ∧
    OnlyBlocks s (s.scmpFire n) [baseTMR, baseICU] := by
  obtain ⟨harmed, hfired, hirq, hclk, honly⟩ := s.scmpFired_spec hn
  have hen : (s.scmpFired n).flag ICU_ALEN_SLOWCMP = s.flag ICU_ALEN_SLOWCMP := honly.flag (by decide)
  have hblocks : OnlyBlocks s (s.scmpFired n) [baseTMR, baseICU] := honly.onlyBlocks (by decide)
  cases h : s.flag ICU_ALEN_SLOWCMP with
  | false =>
    rw [State.scmpFire_eq, hen, h, if_neg Bool.false_ne_true]
    exact ⟨harmed, hfired, hirq, nofun, fun _ => honly.1 _ (by decide), hclk, hblocks⟩
  | true =>
    obtain ⟨hlatch, htmr, hclk', honly'⟩ := (s.scmpFired n).latchSet_spec (n := 27) (by decide)
    rw [State.scmpFire_eq, hen, h, if_pos rfl]
    refine ⟨?_, ?_, ?_, fun _ => hlatch, nofun, hclk'.trans hclk, hblocks.trans (honly'.onlyBlocks (by decide))⟩
    · rw [State.scmp, htmr]
      exact harmed
    · rw [honly'.fld (by decide)]
      exact hfired
    · rw [honly'.fld (by decide)]
      exact hirq

end

/-- A count that has not reached `v` reaches it after as many edges as it lies behind (R373). -/
theorem edges_to_compare {cnt v : Nat} (hcnt : cnt < 2 ^ 48) (hv : v < 2 ^ 48) (h : reached 48 cnt v = false) :
    0 < (v + 2 ^ 48 - cnt) % 2 ^ 48 ∧ (cnt + (v + 2 ^ 48 - cnt) % 2 ^ 48) % 2 ^ 48 = v := by
  simp only [reached, decide_eq_false_iff_not] at h
  omega

section
variable (s : State) {n : Nat} (hn : n < 4) (harmed : (s.scmp n).armed = true) (hon : s.scmpOn n = true)
include hn harmed hon

theorem exec_slowCompareFire_now (h : reached 48 s.clk.slowcnt (s.scmp n).v = true) :
    exec (.slowCompareFire n) s = .next (s.scmpFire n) := by
  simp [exec_slowCompareFire, execSlowCompareFire, Nat.not_le.2 hn, harmed, hon, h]

theorem exec_slowCompareFire_later (h : reached 48 s.clk.slowcnt (s.scmp n).v = false) (hslow : s.clk.slowOn = true) :
    exec (.slowCompareFire n) s =
      .next ((s.advanceEdges (((s.scmp n).v + 2 ^ 48 - s.clk.slowcnt) % 2 ^ 48)).scmpFire n) := by
  simp [exec_slowCompareFire, execSlowCompareFire, Nat.not_le.2 hn, harmed, hon, h, hslow]

/-- The compare fires in a state that has at most let edges pass until SLOWCNT stood at its value. -/
theorem State.exec_slowCompareFire_from (h : reached 48 s.clk.slowcnt (s.scmp n).v = true ∨
    (s.clk.slowOn = true ∧ (s.scmp n).v < 2 ^ 48 ∧ s.clk.slowcnt < 2 ^ 48)) :
    ∃ u : State, exec (.slowCompareFire n) s = .next (u.scmpFire n) ∧ OnlyBlocks s u [baseTMR] ∧
      (reached 48 s.clk.slowcnt (s.scmp n).v = false → u.clk.slowcnt = (s.scmp n).v) := by
  cases hr : reached 48 s.clk.slowcnt (s.scmp n).v with
  | true => exact ⟨s, exec_slowCompareFire_now s hn harmed hon hr, (Ticked.refl s).2.2, nofun⟩
  | false =>
    obtain ⟨hslow, hv, hcnt⟩ := h.resolve_left (by simp [hr])
    obtain ⟨hpos, hat⟩ := edges_to_compare hcnt hv hr
    obtain ⟨hsteps, -, honly⟩ := s.advanceEdges_spec hpos hslow
    exact ⟨_, exec_slowCompareFire_later s hn harmed hon hr hslow, honly, fun _ => hsteps.trans hat⟩

theorem State.gives_slowCompareFire (h : reached 48 s.clk.slowcnt (s.scmp n).v = true ∨
    (s.clk.slowOn = true ∧ (s.scmp n).v < 2 ^ 48 ∧ s.clk.slowcnt < 2 ^ 48)) :
    Gives (exec (.slowCompareFire n) s) (fun t => (t.scmp n).armed = false ∧ bitAt (t.fld TMR_SCMPCTL_FIRED) n = true ∧
      bitAt (t.fld TMR_IRQ1_SCMP) n = true ∧ (s.flag ICU_ALEN_SLOWCMP = true → bitAt (t.fld ICU_ALSTAT_LATCH) 27 = true) ∧
      (s.flag ICU_ALEN_SLOWCMP = false → t.rd ICU_ALSTAT = s.rd ICU_ALSTAT) ∧
      (reached 48 s.clk.slowcnt (s.scmp n).v = false → t.clk.slowcnt = (s.scmp n).v) ∧
      OnlyBlocks s t [baseTMR, baseICU]) := by
  obtain ⟨u, hexec, honly, hcnt⟩ := s.exec_slowCompareFire_from hn harmed hon h
  obtain ⟨hoff, hfired, hirq, hlatch, hstat, hclk, hblocks⟩ := u.scmpFire_spec hn
  have hrd : ∀ a, blockBase a ∉ [baseTMR] → u.rd a = s.rd a := honly.1.1
  have hen : u.flag ICU_ALEN_SLOWCMP = s.flag ICU_ALEN_SLOWCMP := by
    rw [State.flag, State.fld, hrd _ (by decide), ← State.fld, ← State.flag]
  rw [hen] at hlatch hstat
  exact ⟨_, hexec, hoff, hfired, hirq, hlatch, fun h => (hstat h).trans (hrd _ (by decide)),
    fun h => (congrArg Clk.slowcnt hclk).trans (hcnt h), (honly.mono (by simp)).trans hblocks⟩

end

/-- Settles O43: a capture stores the count of its edge (`State.ofNat_countAgo`), a PPS edge its time (`PpsTaken`), and a SLOWCNT
compare fires once the edges to its value have passed (`State.advanceEdges_spec`). -/
theorem captureAndSlowTime : Obligations.CaptureAndSlowTime := by
  intro s v
  refine ⟨fun u hu hmode => ⟨exec_compareArm_capture s hu hmode v, s.gives_capture_counts hu hmode, fun hclk hseen => ?_,
    s.gives_captureRead hu hmode⟩, fun hen hclk => ⟨fun hg => ?_, fun hg => ?_⟩, s.gives_ppsRead, s.gives_slowcntRead,
    exec_slowCompareArm_zero s v, fun n h0 hn => s.gives_slowCompareArm h0 hn v,
    fun n hn harmed hon h => s.gives_slowCompareFire hn harmed hon h⟩
  · refine ⟨_, exec_capture_stores s hu hmode hclk hseen, s.precnt_unitCapture hu _, s.capnew_unitCapture hu _,
      s.irq0_unitCapture hu _, s.unitCapture_overrun hu _, s.unitCapture_noOverrun hu _, fun h0 hd hrun hpll hph hst => ?_,
      s.onlyRegs_unitCapture _⟩
    rw [s.rd_val_unitCapture]
    refine s.ofNat_countAgo ?_ h0 hd hrun hpll (State.railOn_of_clocked hclk) hph hst
    split
    · exact Nat.zero_le _
    · exact filterDelay_le s rfl
  · exact s.gives_ppsEdge_glitch hen hclk (s.ppsGuarded_iff.2 hg)
  · have hfree : s.ppsGuarded = false := by rwa [← Bool.not_eq_true, s.ppsGuarded_iff]
    exact s.gives_ppsEdge_taken hen hclk hfree

end Sys2Proof.Machine
end

section
/-! PROOFS. Firmware jobs of the cipher engine (R446–R451, R453): a post, a start, what a job's end writes, and the done queue. -/

namespace Sys2Proof.Machine
open Sys2Proof

/-! ### Memory read as bytes -/

theorem SameMem.memBytes {s t : State} (h : SameMem s t) (a n : Nat) : t.memBytes a n = s.memBytes a n := by
  induction n generalizing a with
  | zero => rfl
  | succ n ih => rw [State.memBytes, State.memBytes, h, ih]

theorem SameMem.memPut {s t : State} (h : SameMem s t) (a : Nat) (l : List Byte) : SameMem (s.memPut a l) (t.memPut a l) :=
  fun x => by rw [State.memRd_memPut, State.memRd_memPut, h]

/-- Bytes stored leave everything but memory. -/
theorem State.memPut_eq (s : State) (a : Nat) (l : List Byte) : s.memPut a l = { s with mem := (s.memPut a l).mem } := by
  induction l generalizing s a with
  | nil => rfl
  | cons b l ih => rw [State.memPut, ih]; rfl

section
variable (s : State) (a : Nat) (l : List Byte)

@[simp] theorem State.memPut_cipher : (s.memPut a l).cipher = s.cipher := by rw [State.memPut_eq]
@[simp] theorem State.memPut_clk : (s.memPut a l).clk = s.clk := by rw [State.memPut_eq]

theorem State.rd_memPut (b : Nat) : (s.memPut a l).rd b = s.rd b := by
  rw [State.memPut_eq]
  rfl

theorem State.sameCores_memPut : SameCores s (s.memPut a l) := by
  rw [State.memPut_eq]
  exact ⟨rfl, rfl, rfl, rfl⟩

end

/-! ### Time passes while a job runs -/

section
variable (s : State)

@[simp] theorem State.tmrCount_cipher (n u : Nat) : (s.tmrCount n u).cipher = s.cipher := by
  unfold State.tmrCount
  dsimp only
  split <;> rfl

@[simp] theorem State.tmrAdvance_cipher (d e : Nat) : (s.tmrAdvance d e).cipher = s.cipher :=
  List.foldlRecOn (motive := fun t : State => t.cipher = s.cipher) _ _ rfl
    (fun t ht n _ => (t.tmrCount_cipher n _).trans ht)

@[simp] theorem State.sqtWraps_cipher (a b : Nat) : (s.sqtWraps a b).cipher = s.cipher := by
  unfold State.sqtWraps
  split
  · rfl
  · refine List.foldlRecOn (motive := fun t : State => t.cipher = s.cipher) _ _ rfl (fun t ht n _ => ?_)
    split
    · exact (t.set1_cipher _).trans ht
    · exact ht

@[simp] theorem State.idleTo_cipher (k : Nat) : (s.idleTo k).cipher = s.cipher := by
  unfold State.idleTo
  split <;> rfl

/-- Cycles that pass move the cycle count on and leave the cipher engine, memory, the cores and all but TMR. -/
theorem State.advance_passes (d : Nat) : (s.advance d).cipher = s.cipher ∧ (s.advance d).clk.now = s.clk.now + d ∧
    OnlyBlocks s (s.advance d) [baseTMR] := by
  simp only [State.advance]
  generalize (if s.clk.slowOn then stEdges (s.clk.now + d) - stEdges s.clk.now else 0) = e
  have hidle : Ticked s (if e = 0 then s else s.idleTo (stEdges (s.clk.now + d))) := by
    split
    · exact .refl s
    · exact s.ticked_idleTo _
  have hcount := hidle.trans (State.ticked_tmrAdvance _ d e)
  obtain ⟨hclk, -, honly⟩ := hcount.moveClk (State.ticked_sqtWraps _ _ _)
  refine ⟨?_, ?_, honly⟩
  · simp only [State.sqtWraps_cipher, State.tmrAdvance_cipher]
    split
    · rfl
    · exact s.idleTo_cipher _
  · rw [hclk, hcount.1]

theorem State.le_advanceTo (c : Nat) : c ≤ (s.advanceTo c).clk.now := by
  unfold State.advanceTo
  split
  next h =>
    have hnow : (s.advance (c - s.clk.now)).clk.now = c := by
      rw [(s.advance_passes _).2.1, Nat.add_sub_cancel' (Nat.le_of_lt h)]
    exact Nat.le_of_eq hnow.symm
  next h => exact Nat.le_of_not_lt h

end

/-! ### The work of a job, its end still to come -/

/-- From `s`, time has passed and a job has done its work: memory reads as `u`'s and the key slots are `ks`. -/
structure JobWork (s u : State) (ks : List (Nat × KeySlot)) (x : State) : Prop where
  cipher : x.cipher = { s.cipher with keys := ks }
  mem : SameMem u x
  regs : ∀ a, a ≠ CIPHER_KEYSTAT → blockBase a ≠ baseTMR → x.rd a = s.rd a
  cores : SameCores s x

theorem JobWork.refl (s : State) : JobWork s s s.cipher.keys s :=
  ⟨rfl, fun _ => rfl, fun _ _ _ => rfl, rfl, rfl, rfl, rfl⟩

theorem State.jobWork_advanceTo (s : State) (c : Nat) : JobWork s s s.cipher.keys (s.advanceTo c) := by
  unfold State.advanceTo
  split
  · obtain ⟨hcipher, -, ⟨hregs, hcores⟩, hmem⟩ := s.advance_passes (c - s.clk.now)
    exact ⟨hcipher, hmem, fun a _ ha => hregs a (by simpa using ha), hcores⟩
  · exact .refl s

section
variable {s u x : State} {ks : List (Nat × KeySlot)} (h : JobWork s u ks x)
include h

theorem JobWork.memPut (a : Nat) (l : List Byte) : JobWork s (u.memPut a l) ks (x.memPut a l) := by
  obtain ⟨h0, h1, h2, h3⟩ := h.cores
  obtain ⟨h0', h1', h2', h3'⟩ := x.sameCores_memPut a l
  exact ⟨(x.memPut_cipher a l).trans h.cipher, h.mem.memPut a l, fun b hb hb' => (x.rd_memPut a l b).trans (h.regs b hb hb'),
    h0'.trans h0, h1'.trans h1, h2'.trans h2, h3'.trans h3⟩

theorem JobWork.setKey (n : Nat) (k : KeySlot) : JobWork s u (tblPut {} ks n k) (x.setKey n k) where
  cipher := by simp [State.setKey, h.cipher]
  mem := h.mem
  regs a ha ha' := (State.rd_setBool_other _ (Ne.symm ha) _).trans (h.regs a ha ha')
  cores := h.cores

end

section
variable {s x : State} (h : JobWork s s s.cipher.keys x)
include h

/-- The engine reads its operands as they stood when the time began to pass. -/
theorem JobWork.memBytes (a n : Nat) : x.memBytes a n = s.memBytes a n := h.mem.memBytes a n
theorem JobWork.keySlot (n : Nat) : x.keySlot n = s.keySlot n := by rw [State.keySlot, h.cipher, State.keySlot]
theorem JobWork.alarmed : x.alarmed = decide (s.rd CIPHER_ALARM ≠ 0) := by
  have hrd : x.rd CIPHER_ALARM = s.rd CIPHER_ALARM := h.regs _ (by decide) (by decide)
  simp [State.alarmed, hrd, BitVec.toNat_eq]

end

/-! ### The end of a job (R451) -/

theorem State.onlyRegs_showCipher (s : State) : OnlyRegs s s.showCipher [CIPHER_STAT] :=
  (((OnlyRegs.refl s _).setFld _ (by simp)).setFld _ (by simp)).setFld _ (by simp)

@[simp] theorem State.showCipher_cipher (s : State) : s.showCipher.cipher = s.cipher := rfl

theorem State.queued_showCipher (s : State) (h : s.cipher.jobs.length < 32) :
    s.showCipher.fld CIPHER_STAT_QUEUED = s.cipher.jobs.length := by
  rw [State.showCipher, State.fld_setFld_apart _ _ _ _ rfl rfl, State.fld_setFld_apart _ _ _ _ rfl rfl,
    State.fld_setFld_same _ _ _ rfl]
  exact Nat.mod_eq_of_lt h

/-- STATUS is written and the job goes from the outstanding ones to CIPHER_DONEQ. -/
def State.jobRetired (s : State) (j : CipherJob) (st : Nat) : State :=
  let t := s.memPutLe j.addr 1 st
  { t with cipher := { t.cipher with jobs := t.cipher.jobs.erase j, doneq := t.cipher.doneq ++ [j.addr] } }

/-- A failed tag is counted. -/
def State.tagCounted (s : State) (st : Nat) : State :=
  if st = Code.TAG_FAIL then (s.set1 CIPHER_IRQ_TAGFAIL).inc CIPHER_CNT_TAGFAIL else s

theorem State.jobEnd_eq (s : State) (j : CipherJob) (st : Nat) :
    s.jobEnd j st = (((s.jobRetired j st).tagCounted st).set1 CIPHER_IRQ_DONE).showCipher := rfl

section
variable (s : State) (st : Nat)

theorem State.onlyRegs_tagCounted : OnlyRegs s (s.tagCounted st) [CIPHER_STAT, CIPHER_IRQ, CIPHER_CNT] := by
  unfold State.tagCounted
  split
  · exact ((OnlyRegs.refl s _).set1 (by simp)).inc (by simp)
  · exact .refl s _

@[simp] theorem State.tagCounted_cipher : (s.tagCounted st).cipher = s.cipher := by
  unfold State.tagCounted
  split <;> rfl

@[simp] theorem State.tagCounted_clk : (s.tagCounted st).clk = s.clk := by
  unfold State.tagCounted
  split <;> rfl

theorem State.tagCounted_fail : (s.tagCounted Code.TAG_FAIL).flag CIPHER_IRQ_TAGFAIL = true ∧
    (s.tagCounted Code.TAG_FAIL).fld CIPHER_CNT_TAGFAIL = min (s.fld CIPHER_CNT_TAGFAIL + 1) 65535 := by
  constructor
  · rw [State.tagCounted, if_pos rfl, State.flag_inc_apart _ rfl rfl, State.flag_set1_same _ rfl]
  · rw [State.tagCounted, if_pos rfl, State.fld_inc_same _ rfl, State.fld_set1_apart _ rfl rfl]
    rfl

end

section
variable (s : State) (j : CipherJob) (st : Nat)

/-- What the end of a job shows in the registers and the lists of jobs. -/
theorem State.onlyRegs_jobEnd : OnlyRegs (s.jobRetired j st) (s.jobEnd j st) [CIPHER_STAT, CIPHER_IRQ, CIPHER_CNT] := by
  rw [State.jobEnd_eq]
  exact ((State.onlyRegs_tagCounted _ st).set1 (by simp)).trans ((State.onlyRegs_showCipher _).mono (by simp))

theorem State.jobEnd_cipher : (s.jobEnd j st).cipher =
    { s.cipher with jobs := s.cipher.jobs.erase j, doneq := s.cipher.doneq ++ [j.addr] } := by
  rw [State.jobEnd_eq, State.showCipher_cipher, State.set1_cipher, State.tagCounted_cipher]
  simp [State.jobRetired, State.memPutLe]

theorem State.jobEnd_clk : (s.jobEnd j st).clk = s.clk := by
  rw [State.jobEnd_eq]
  refine (State.tagCounted_clk _ st).trans ?_
  simp [State.jobRetired, State.memPutLe]

theorem State.memRd_jobEnd (a : Nat) : (s.jobEnd j st).memRd a = if a = j.addr then BitVec.ofNat 8 st else s.memRd a := by
  rw [(s.onlyRegs_jobEnd j st).2.1]
  refine (State.memRd_memWr _ _ _ _).trans ?_
  simp only [eq_comm]
  congr 1
  exact BitVec.eq_of_toNat_eq (by simp)

theorem State.rd_jobRetired (a : Nat) : (s.jobRetired j st).rd a = s.rd a := s.rd_memPut _ _ a

theorem State.rd_jobEnd_other {a : Nat} (ha : a ∉ [CIPHER_STAT, CIPHER_IRQ, CIPHER_CNT]) :
    (s.jobEnd j st).rd a = s.rd a := by
  rw [(s.onlyRegs_jobEnd j st).1 a ha, s.rd_jobRetired]

theorem State.sameCores_jobEnd : SameCores s (s.jobEnd j st) := by
  obtain ⟨-, -, h0, h1, h2, h3⟩ := s.onlyRegs_jobEnd j st
  obtain ⟨h0', h1', h2', h3'⟩ := s.sameCores_memPut j.addr (leBytes 1 st)
  exact ⟨h0.trans h0', h1.trans h1', h2.trans h2', h3.trans h3'⟩

theorem State.done_jobEnd : (s.jobEnd j st).flag CIPHER_IRQ_DONE = true := by
  rw [State.jobEnd_eq, (State.onlyRegs_showCipher _).flag (by decide), State.flag_set1_same _ rfl]

theorem State.jobEnd_tagFail : (s.jobEnd j Code.TAG_FAIL).flag CIPHER_IRQ_TAGFAIL = true ∧
    (s.jobEnd j Code.TAG_FAIL).fld CIPHER_CNT_TAGFAIL = min (s.fld CIPHER_CNT_TAGFAIL + 1) 65535 := by
  obtain ⟨hirq, hcnt⟩ := State.tagCounted_fail (s.jobRetired j Code.TAG_FAIL)
  rw [State.jobEnd_eq, (State.onlyRegs_showCipher _).flag (by decide), (State.onlyRegs_showCipher _).fld (by decide),
    State.flag_set1_apart _ rfl rfl, State.fld_set1_apart _ rfl rfl, hirq, hcnt, State.fld, s.rd_jobRetired, ← State.fld]
  exact ⟨rfl, rfl⟩

theorem State.rd_cnt_jobEnd (h : st ≠ Code.TAG_FAIL) : (s.jobEnd j st).rd CIPHER_CNT = s.rd CIPHER_CNT := by
  rw [State.jobEnd_eq, (State.onlyRegs_showCipher _).1 _ (by decide), State.rd_set1_other _ (by decide), State.tagCounted,
    if_neg h, s.rd_jobRetired]

end

/-- A job whose work is done ends. -/
theorem JobWork.jobEnds {s u x : State} {ks : List (Nat × KeySlot)} (h : JobWork s u ks x) (j : CipherJob) (st : Nat) :
    JobEnds s (x.jobEnd j st) u j st ∧ (x.jobEnd j st).cipher.keys = ks := by
  have hcipher := x.jobEnd_cipher j st
  rw [h.cipher] at hcipher
  have hcnt : x.rd CIPHER_CNT = s.rd CIPHER_CNT := h.regs _ (by decide) (by decide)
  obtain ⟨h0, h1, h2, h3⟩ := h.cores
  obtain ⟨h0', h1', h2', h3'⟩ := x.sameCores_jobEnd j st
  refine ⟨⟨congrArg CipherState.jobs hcipher, congrArg CipherState.doneq hcipher, ?_, fun a ha => ?_, x.done_jobEnd j st, ?_,
    fun hst => (x.rd_cnt_jobEnd j st hst).trans hcnt, fun a ha htmr => ?_,
    h0'.trans h0, h1'.trans h1, h2'.trans h2, h3'.trans h3⟩, congrArg CipherState.keys hcipher⟩
  · rw [x.memRd_jobEnd, if_pos rfl]
  · rw [x.memRd_jobEnd, if_neg ha, h.mem]
  · rintro rfl
    rw [← show x.fld CIPHER_CNT_TAGFAIL = s.fld CIPHER_CNT_TAGFAIL by rw [State.fld, hcnt, State.fld]]
    exact x.jobEnd_tagFail j
  · simp only [List.mem_cons, List.not_mem_nil, or_false, not_or] at ha
    obtain ⟨hstat, hirq, hcnt', hkey⟩ := ha
    exact (x.rd_jobEnd_other j st (by simp [hstat, hirq, hcnt'])).trans (h.regs a hkey htmr)

/-! ### What each mode writes (R447, R450, R453) -/

/-- The key of a job and the bytes its descriptor points to. -/
abbrev State.jobKey (s : State) (d : JobDesc) : List Byte := (s.keySlot d.slot).key.getD []
abbrev State.jobSrc (s : State) (d : JobDesc) : List Byte := s.memBytes d.src d.len
abbrev State.jobIv (s : State) (d : JobDesc) : List Byte := s.memBytes d.iv d.ivlen
abbrev State.jobAad (s : State) (d : JobDesc) : List Byte := s.memBytes d.aad d.aadlen
abbrev State.jobTag (s : State) (d : JobDesc) : List Byte := s.memBytes d.tag d.taglen

section
variable {s x : State} (h : JobWork s s s.cipher.keys x) (d : JobDesc)
include h

/-- CTR, the two directions of CBC, and a key wrapped: the result goes to DST. -/
theorem JobWork.jobRun_out {out : List Byte}
    (hout : (d.mode = 1 ∧ out = ctrMode (s.jobKey d) (s.jobIv d) (s.jobSrc d)) ∨
      (d.mode = 2 ∧ out = cbcEnc (s.jobKey d) (s.jobIv d) (s.jobSrc d)) ∨
      (d.mode = 3 ∧ out = cbcDec (s.jobKey d) (s.jobIv d) (s.jobSrc d)) ∨
      (d.mode = 9 ∧ out = kwWrap (s.jobKey d) ((s.keySlot d.kslot).key.getD []))) :
    x.jobRun d = (x.memPut d.dst out, Code.OK) := by
  obtain ⟨hm, rfl⟩ | ⟨hm, rfl⟩ | ⟨hm, rfl⟩ | ⟨hm, rfl⟩ := hout <;> simp only [State.jobRun, hm, h.memBytes, h.keySlot]

/-- CMAC: the tag goes to TAG. -/
theorem JobWork.jobRun_cmac (hm : d.mode = 4) : x.jobRun d = (x.memPut d.tag
    ((cmac ((s.jobKey d).take 32) (s.jobSrc d)).take d.taglen), Code.OK) := by
  simp only [State.jobRun, hm, h.memBytes, h.keySlot]

/-- CCM and GCM sealing: the ciphertext goes to DST and its tag to TAG. -/
theorem JobWork.jobRun_seal {out g : List Byte}
    (hout : (d.mode = 5 ∧ ccmSeal (s.jobKey d) (s.jobIv d) (s.jobAad d) (s.jobSrc d) d.taglen = (out, g)) ∨
      (d.mode = 7 ∧ out = gcmStream (s.jobKey d) (s.jobIv d) (s.jobSrc d) ∧
        g = (gcmTag (s.jobKey d) (s.jobIv d) (s.jobAad d) out).take d.taglen)) :
    x.jobRun d = ((x.memPut d.dst out).memPut d.tag g, Code.OK) := by
  obtain ⟨hm, hout⟩ | ⟨hm, rfl, rfl⟩ := hout
  · simp only [State.jobRun, hm, h.memBytes, h.keySlot, hout]
  · simp only [State.jobRun, hm, h.memBytes, h.keySlot]

/-- CCM and GCM opening: the payload goes to DST, or zeros where the tag does not verify. -/
theorem JobWork.jobRun_open {opened : Option (List Byte)}
    (hout : (d.mode = 6 ∧ opened = ccmOpen (s.jobKey d) (s.jobIv d) (s.jobAad d) (s.jobSrc d) (s.jobTag d)) ∨
      (d.mode = 8 ∧ opened = if (gcmTag (s.jobKey d) (s.jobIv d) (s.jobAad d) (s.jobSrc d)).take d.taglen = s.jobTag d
        then some (gcmStream (s.jobKey d) (s.jobIv d) (s.jobSrc d)) else none)) :
    x.jobRun d = (x.memPut d.dst (opened.getD (zeros d.len)), if opened.isSome then Code.OK else Code.TAG_FAIL) := by
  obtain ⟨hm, rfl⟩ | ⟨hm, rfl⟩ := hout
  · simp only [State.jobRun, hm, h.memBytes, h.keySlot]
    cases ccmOpen _ _ _ _ _ <;> rfl
  · simp only [State.jobRun, hm, h.memBytes, h.keySlot]
    split <;> rfl

section
variable (hm : d.mode = 10)
include hm

/-- KUNWRAP under an alarm, into a slot filled meanwhile, of a blob that verifies, and of one that does not. -/
theorem JobWork.jobRun_unwrap_alarm (ha : s.rd CIPHER_ALARM ≠ 0) : x.jobRun d = (x, Code.ZEROISED) := by
  have halarm : x.alarmed = true := h.alarmed.trans (decide_eq_true ha)
  simp [State.jobRun, hm, halarm]

variable (ha : s.rd CIPHER_ALARM = 0)
include ha

theorem JobWork.jobRun_unwrap_filled (hk : (s.keySlot d.kslot).key ≠ none) : x.jobRun d = (x, Code.KEY_USAGE) := by
  simp [State.jobRun, hm, h.alarmed, ha, h.keySlot, Option.isSome_iff_ne_none.2 hk]

variable (hk : (s.keySlot d.kslot).key = none)
include hk

theorem JobWork.jobRun_unwrap_some {k : List Byte} (hb : kwUnwrap (s.jobKey d) (s.jobSrc d) = some k) :
    x.jobRun d = (x.setKey d.kslot ⟨some k, blobType d.len, d.iv⟩, Code.OK) := by
  simp [State.jobRun, hm, h.alarmed, ha, h.keySlot, h.memBytes, hk, hb]

theorem JobWork.jobRun_unwrap_none (hb : kwUnwrap (s.jobKey d) (s.jobSrc d) = none) :
    x.jobRun d = (x, Code.TAG_FAIL) := by
  simp [State.jobRun, hm, h.alarmed, ha, h.keySlot, h.memBytes, hk, hb]

end
end

/-- The work itself takes no time; its time has passed before. -/
theorem State.jobRun_clk (s : State) (d : JobDesc) : (s.jobRun d).1.clk = s.clk := by
  unfold State.jobRun
  dsimp only
  repeat' split
  all_goals simp [State.setKey]

/-! ### The commands -/

theorem exec_jobPost (c : CoreId) (v : Word) (s : State) : exec (.jobPost c v) s = execJobPost c v s := rfl
theorem exec_jobStart (s : State) : exec .jobStart s = execJobStart s := rfl
theorem exec_jobComplete (n : Nat) (s : State) : exec (.jobComplete n) s = execJobComplete n s := rfl
theorem exec_cipherDoneqRead (s : State) : exec .cipherDoneqRead s = execCipherDoneqRead s := rfl

/-! A post and the done queue (R451) -/

theorem exec_jobPost_full (s : State) (c : CoreId) (v : Word) (h : 16 ≤ s.cipher.jobs.length) :
    exec (.jobPost c v) s = .next (s.discard baseCIPHER) := by
  rw [exec_jobPost, execJobPost, if_pos h]

/-- The job joins the outstanding ones. -/
def State.jobPosted (s : State) (c : CoreId) (v : Word) : State :=
  { s with cipher := { s.cipher with jobs := s.cipher.jobs ++ [{ addr := v.toNat / 32 * 32, core := c }] } }

theorem State.gives_jobPost (s : State) (c : CoreId) (v : Word) (h : s.cipher.jobs.length < 16) :
    Gives (exec (.jobPost c v) s) (fun t => t.cipher.jobs = s.cipher.jobs ++ [{ addr := v.toNat / 32 * 32, core := c }] ∧
      t.fld CIPHER_STAT_QUEUED = s.cipher.jobs.length + 1 ∧ OnlyRegs s t [CIPHER_STAT]) := by
  have hlen : (s.jobPosted c v).cipher.jobs.length = s.cipher.jobs.length + 1 := List.length_append
  refine ⟨(s.jobPosted c v).showCipher, ?_, rfl, ?_, (s.jobPosted c v).onlyRegs_showCipher⟩
  · rw [exec_jobPost, execJobPost, if_neg (Nat.not_le.2 h), State.jobPosted]
  · rw [State.queued_showCipher _ (by omega), hlen]

theorem exec_cipherDoneqRead_empty (s : State) (h : s.cipher.doneq = []) :
    exec .cipherDoneqRead s = .next { s with rdata := 0 } := by
  simp only [exec_cipherDoneqRead, execCipherDoneqRead, h]

theorem State.gives_cipherDoneqRead (s : State) {a : Nat} {l : List Nat} (h : s.cipher.doneq = a :: l) :
    Gives (exec .cipherDoneqRead s) (fun t => t.rdata = BitVec.ofNat 32 (a + 1) ∧ t.cipher.doneq = l ∧
      OnlyRegs s t [CIPHER_STAT]) := by
  simp only [exec_cipherDoneqRead, execCipherDoneqRead, h]
  exact ⟨_, rfl, rfl, rfl, State.onlyRegs_showCipher _⟩

theorem State.gives_cipherCntclr (s : State) :
    Gives (exec .cipherCntclr s) (fun t => t.rd CIPHER_CNT = 0 ∧ t.cipher = s.cipher ∧ OnlyRegs s t [CIPHER_CNT]) :=
  ⟨_, rfl, s.rd_wr_same _ _, rfl, s.onlyRegs_wr _ _⟩

/-! A start (R449) -/

/-- The attributes of its keys allow what the job does. -/
def State.jobAllowed (s : State) (d : JobDesc) : Bool :=
  if d.mode = 4 then bitAt (s.keySlot d.slot).attr 1
  else if d.mode = 9 then bitAt (s.keySlot d.slot).attr 3 && bitAt (s.keySlot d.kslot).attr 4
  else if d.mode = 10 then bitAt (s.keySlot d.slot).attr 3 && (s.keySlot d.kslot).key.isNone
  else bitAt (s.keySlot d.slot).attr 0

theorem State.jobCheck_eq (s : State) (j : CipherJob) (d : JobDesc) : s.jobCheck j d =
    if d.fieldsOk = false ∨ s.jobAddrOk j.core j.addr d = false then Code.BAD_DESC
    else if (s.keySlot d.slot).key = none ∨ (d.mode = 9 ∧ (s.keySlot d.kslot).key = none) then Code.KEY_EMPTY
    else if s.jobAllowed d = false ∨ bitAt (s.keySlot d.slot).attr (11 + coreNum j.core) = false then Code.KEY_USAGE
    else Code.OK := by
  obtain hm | hm | hm | ⟨h4, h9, h10⟩ : d.mode = 4 ∨ d.mode = 9 ∨ d.mode = 10 ∨ d.mode ≠ 4 ∧ d.mode ≠ 9 ∧ d.mode ≠ 10 := by
    omega
  · simp [State.jobCheck, State.jobAllowed, coreAttr, hm]
  · simp [State.jobCheck, State.jobAllowed, coreAttr, hm, -Bool.and_eq_false_imp, Bool.and_eq_false_iff]
  · simp [State.jobCheck, State.jobAllowed, coreAttr, hm, -Bool.and_eq_false_imp, Bool.and_eq_false_iff]
  · simp [State.jobCheck, State.jobAllowed, coreAttr, h4, h9, h10]

theorem startFirst_append (now : Nat) (d : JobDesc) {l1 : List CipherJob} {j : CipherJob} (l2 : List CipherJob)
    (h1 : ∀ k ∈ l1, k.run.isSome = true) (hj : j.run = none) :
    startFirst now d (l1 ++ j :: l2) = l1 ++ { j with run := some d, startAt := now } :: l2 := by
  induction l1 with
  | nil => simp [startFirst, hj]
  | cons k l1 ih =>
    have hk : k.run ≠ none := Option.isSome_iff_ne_none.1 (h1 k List.mem_cons_self)
    simp [startFirst, hk, ih (fun i hi => h1 i (List.mem_cons_of_mem _ hi))]

section
variable (s : State) {l1 l2 : List CipherJob} {j : CipherJob} (hjobs : s.cipher.jobs = l1 ++ j :: l2)
  (h1 : ∀ k ∈ l1, k.run.isSome = true) (hj : j.run = none)
include hjobs h1 hj

/-- The job that starts is the first that has not. -/
theorem State.find_jobs : s.cipher.jobs.find? (fun i => i.run.isNone) = some j := by
  rw [List.find?_eq_some_iff_append]
  exact ⟨by simp [hj], l1, l2, hjobs, fun k hk => by simp [h1 k hk]⟩

theorem exec_jobStart_waits (h : s.aesRuns = false) : exec .jobStart s = .next s := by
  simp [exec_jobStart, execJobStart, s.find_jobs hjobs h1 hj, h]

theorem State.gives_jobStart_starts (h : s.aesRuns = true) (hok : s.jobCheck j (s.jobDesc j.addr) = Code.OK) :
    Gives (exec .jobStart s) (fun t => t.cipher.jobs =
      l1 ++ { j with run := some (s.jobDesc j.addr), startAt := s.clk.now } :: l2 ∧ OnlyRegs s t []) := by
  refine ⟨{ s with cipher := { s.cipher with jobs := startFirst s.clk.now (s.jobDesc j.addr) s.cipher.jobs } }, ?_, ?_,
    .refl s []⟩
  · simp [exec_jobStart, execJobStart, s.find_jobs hjobs h1 hj, h, hok]
  · rw [hjobs]
    exact startFirst_append _ _ _ h1 hj

theorem State.gives_jobStart_fails (h : s.aesRuns = true) (hbad : s.jobCheck j (s.jobDesc j.addr) ≠ Code.OK) :
    Gives (exec .jobStart s) (fun t => JobEnds s t s j (s.jobCheck j (s.jobDesc j.addr)) ∧ t.cipher.keys = s.cipher.keys) := by
  refine ⟨s.jobEnd j (s.jobCheck j (s.jobDesc j.addr)), ?_, (JobWork.refl s).jobEnds j _⟩
  simp [exec_jobStart, execJobStart, s.find_jobs hjobs h1 hj, h, hbad]

end

/-! A completion (R446, R450, R453) -/

section
variable (s : State) {n : Nat} {j : CipherJob} {d : JobDesc} (hn : s.cipher.jobs[n]? = some j) (hrun : j.run = some d)
  (haes : s.aesRuns = true)
include hn hrun haes

theorem exec_jobComplete_runs : exec (.jobComplete n) s =
    .next (((s.advanceTo (j.startAt + s.jobCycles d)).jobRun d).1.jobEnd j
      ((s.advanceTo (j.startAt + s.jobCycles d)).jobRun d).2) := by
  simp [exec_jobComplete, execJobComplete, hn, hrun, haes]

theorem State.gives_jobComplete_time (hm : d.mode ≠ 9) : Gives (exec (.jobComplete n) s) (fun t =>
    j.startAt + 40 + jobBlocks d * aesCycles (s.jobKey d) ≤ t.clk.now) := by
  refine ⟨_, exec_jobComplete_runs s hn hrun haes, ?_⟩
  calc j.startAt + 40 + jobBlocks d * aesCycles (s.jobKey d)
      = j.startAt + s.jobCycles d := by rw [State.jobCycles, if_neg hm, Nat.add_assoc]
    _ ≤ (s.advanceTo (j.startAt + s.jobCycles d)).clk.now := s.le_advanceTo _
    _ = _ := by rw [State.jobEnd_clk, State.jobRun_clk]

/-- A job whose work is known, whatever time has passed, ends with that work. -/
theorem State.gives_jobComplete {u : State} {st : Nat} {ks : List (Nat × KeySlot)}
    (hwork : ∀ x, JobWork s s s.cipher.keys x → ∃ y, x.jobRun d = (y, st) ∧ JobWork s u ks y) :
    Gives (exec (.jobComplete n) s) (fun t => JobEnds s t u j st ∧ t.cipher.keys = ks) := by
  obtain ⟨y, hy, hends⟩ := hwork _ (s.jobWork_advanceTo (j.startAt + s.jobCycles d))
  refine ⟨y.jobEnd j st, ?_, hends.jobEnds j st⟩
  rw [exec_jobComplete_runs s hn hrun haes, hy]

/-- KUNWRAP fills its slot with the key where the blob verifies (R453). -/
theorem State.gives_jobComplete_unwrap (hm : d.mode = 10) (ha : s.rd CIPHER_ALARM = 0)
    (hk : (s.keySlot d.kslot).key = none) : Gives (exec (.jobComplete n) s) (fun t =>
      match kwUnwrap (s.jobKey d) (s.jobSrc d) with
      | some k => JobEnds s t s j Code.OK ∧ t.keySlot d.kslot = ⟨some k, blobType d.len, d.iv⟩ ∧
          ∀ m, m ≠ d.kslot → t.keySlot m = s.keySlot m
      | none => JobEnds s t s j Code.TAG_FAIL ∧ t.cipher.keys = s.cipher.keys) := by
  cases hb : kwUnwrap (s.jobKey d) (s.jobSrc d) with
  | some k =>
    obtain ⟨t, hexec, hends, hkeys⟩ := s.gives_jobComplete hn hrun haes
      (fun x hx => ⟨_, hx.jobRun_unwrap_some d hm ha hk hb, hx.setKey d.kslot ⟨some k, blobType d.len, d.iv⟩⟩)
    refine ⟨t, hexec, hends, ?_, fun m hne => ?_⟩
    · rw [State.keySlot, hkeys, tblGet_tblPut, if_pos rfl]
    · rw [State.keySlot, hkeys, tblGet_tblPut, if_neg (Ne.symm hne), State.keySlot]
  | none => exact s.gives_jobComplete hn hrun haes (fun x hx => ⟨x, hx.jobRun_unwrap_none d hm ha hk hb, hx⟩)

end

/-- Settles O48: the checks of a start are those of `State.jobCheck_eq`, and a job that completes ends (`JobWork.jobEnds`) with the
work of its mode (`State.gives_jobComplete`), read from the state in which the command finds it. -/
theorem cipherJobs : Obligations.CipherJobs := by
  intro s
  refine ⟨fun c v => ⟨s.gives_jobPost c v, exec_jobPost_full s c v⟩,
    fun l1 j l2 hjobs h1 hj => ⟨exec_jobStart_waits s hjobs h1 hj, fun haes => ?_⟩,
    fun n j d hn hrun haes => ⟨s.gives_jobComplete_time hn hrun haes, fun out hout => ?_, fun hm => ?_, fun out g hout => ?_,
      fun opened hout => ?_, fun hm => ⟨s.gives_jobComplete_unwrap hn hrun haes hm, fun ha hk => ?_, fun ha => ?_⟩⟩,
    exec_cipherDoneqRead_empty s, fun a l h => s.gives_cipherDoneqRead h, s.gives_cipherCntclr⟩
  · intro d k w modeOk st
    have hst : s.jobCheck j d = st := s.jobCheck_eq j d
    rw [← hst]
    exact ⟨s.gives_jobStart_starts hjobs h1 hj haes, s.gives_jobStart_fails hjobs h1 hj haes⟩
  · exact s.gives_jobComplete hn hrun haes (fun x hx => ⟨_, hx.jobRun_out d hout, hx.memPut _ _⟩)
  · exact s.gives_jobComplete hn hrun haes (fun x hx => ⟨_, hx.jobRun_cmac d hm, hx.memPut _ _⟩)
  · exact s.gives_jobComplete hn hrun haes (fun x hx => ⟨_, hx.jobRun_seal d hout, (hx.memPut _ _).memPut _ _⟩)
  · obtain ⟨t, hexec, hends, hkeys⟩ := s.gives_jobComplete hn hrun haes
      (fun x hx => ⟨_, hx.jobRun_open d hout, hx.memPut _ _⟩)
    refine ⟨t, hexec, hkeys, ?_⟩
    cases opened <;> exact hends
  · exact s.gives_jobComplete hn hrun haes (fun x hx => ⟨x, hx.jobRun_unwrap_filled d hm ha hk, hx⟩)
  · exact s.gives_jobComplete hn hrun haes (fun x hx => ⟨x, hx.jobRun_unwrap_alarm d hm ha, hx⟩)

end Sys2Proof.Machine
end
